-- ==== Sys2Proof/Word.lean ====
section
/-!
DEFINITION. The word types of the module: registers are 32 bits (R5, R9), stamps 64 bits (R346),
writer identifiers, tags and frame fields 16 bits, structures in host memory are bytes (R10).
-/
namespace Sys2Proof

/-- A byte of a structure, a frame or a buffer. -/
abbrev Byte := BitVec 8

/-- A 16-bit field: a transaction tag, a writer, an opcode. -/
abbrev Half := BitVec 16

/-- A register (R5), a point value (R147), a ladle word. -/
abbrev Word := BitVec 32

/-- A stamp (R346) or a bus address (R76). -/
abbrev Dword := BitVec 64

end Sys2Proof
end

