-- ==== Sys2Proof/Syntax.lean ====
section
/-!
DEFINITION. The commands that reach the block from outside: one constructor per row of the opcode table, with its operands. A host
command carries its ring entry as the runner read it (R90, R91) with the bytes of its buffer; a protocol frame carries its
bytes; an event on a pin or of a clock carries what it measured.
-/
set_option linter.unusedVariables false
namespace Sys2Proof

/-- A command entry of rings 0, 8, 10, 11, 12, 14 and 15 as the runner read it (R90), with its input buffer. The opcode is the
row's own. -/
structure CmdEntry where
  ring : Nat
  flags : Byte
  resv3 : Byte
  cmdId : Word
  txn : Half
  resv10 : Half
  bufLen : Word
  bufAddr : Dword
  params : List Byte
  buf : List Byte
  deriving DecidableEq, Repr

/-- A point write entry of ring 2 (R91). -/
structure PwrEntry where
  cmdId : Word
  op : Byte
  flags : Byte
  txn : Half
  address : Word
  value : Word
  typeQuality : Byte
  resv : List Byte
  deriving DecidableEq, Repr

/-- The frozen register groups of R479. -/
inductive RfGroup where
  | pnt | rtc | mono | wall | stamp
  deriving DecidableEq, Repr

/-- The bytes of a register that a read addresses (R9): the first and their count; a whole word by default. No command carries it: a read of any size has the same effect. -/
structure Lane where
  byte : Nat := 0
  size : Nat := 4
  deriving DecidableEq, Repr

/-- What a PTP message on a gigabit port says (R351). Port 0 is the peer port, 1 the site port. The offset of a Sync is what the port has
measured against the master, path delay removed, in ns. -/
inductive PtpMsg where
  /-- An Announce: grandmaster identity, the rank that the default best master clock algorithm compares (smaller is better), clockClass,
  currentUtcOffset with its valid flag, leap61, leap59, and whether the timescale is ARB. -/
  | announce (identity rank clockClass : Nat) (utcOffset : Half) (utcValid leap61 leap59 arb : Bool)
  /-- A Sync (with its Follow_Up in two-step form) of a master: identity, measured offset in ns, Sync interval in ns. -/
  | sync (identity : Nat) (offset : Int) (interval : Nat)
  /-- A Delay_Req to a port in the master role, with its receive time. -/
  | delayReq (rx : Nat)
  /-- A Pdelay_Req, with its receive time. -/
  | pdelayReq (rx : Nat)
  /-- The master has fallen silent for announceReceiptTimeout intervals. -/
  | announceTimeout
  /-- Any other message: responses that end a delay measurement, and what R351 does not support. -/
  | other
  deriving DecidableEq, Repr

/-- A frame as a gigabit port hears it: how many bytes wait in its receive buffer as it comes, whether its FCS is right, and its bytes from the destination address to the
FCS. -/
structure EthFrame where
  level : Nat
  fcsOk : Bool
  bytes : List Byte
  deriving DecidableEq, Repr

/-- A PTP message as a gigabit port takes it: the frame that carried it and what it says; a master's silence comes in no frame. -/
structure PtpIn where
  frame : EthFrame
  msg : PtpMsg
  deriving DecidableEq, Repr

/-- What goes wrong in memory at a burst (R126, R135, R136, R138): nothing, with the input buffer (address, length; length 0 for none) named by the entry whose last bytes the
burst reads, if it does (R117); the pointer copies of a tundish disagree; an uncorrectable error of a bank at an address
in the data of the burst, with the entry being read if it is whole; a corrected error of a bank; an error of the DRAM at an address, corrected or not. -/
inductive BurstErr where
  | none (buf : Nat × Nat := (0, 0))
  | pointer (n : Nat)
  | uncorrectable (bank addr : Nat) (entry : Option (Half × CmdEntry))
  | corrected (bank : Nat)
  | dram (addr : Nat) (corrected : Bool)
  deriving DecidableEq, Repr

/-- How the test of a region ended (R133 to R135): passed, aborted by a write into the region, or a fault at a word offset with the word expected
and the word read. -/
inductive FettleEnd where
  | passed
  | aborted
  | faulted (off : Nat) (expected got : Word)
  deriving DecidableEq, Repr

/-- A frame as a trunk port hears it: port, the node ID of the transmit opportunity it came in (0xFF without PLCA), whether the receive buffer has room for it,
whether its FCS is right, and its bytes from the destination address to the FCS. -/
structure TrunkFrame where
  port : Nat
  plcaId : Nat
  room : Bool
  fcsOk : Bool
  bytes : List Byte
  deriving DecidableEq, Repr

/-- A PSDU as a radio receives it, at its end: channel, whether its PHR and FCS are right, its level in 0.5 dBm as a 16-bit two's-complement code, and its bytes
with FCS. -/
structure RadioFrame where
  chan : Nat
  ok : Bool
  rssi : Nat
  psdu : List Byte
  deriving DecidableEq, Repr

/-- The commands of the block: one constructor per row of the opcode table. -/
inductive Instr where
  /-- POWER_GOOD (R68): VIN rises through 10.5 V with the on-module rails in regulation, which ends module reset if PERST_N is released and starts the start-up sequence. -/
  | powerGood (vin : Half)
  /-- VCORE_READY (R54): VCORE is in regulation and the first PACE sample is valid; start-up waits here while the die is at 110 °C or more. -/
  | vcoreReady (pace die : Half)
  /-- POWER_FAIL_WARNING (R69): VIN stays below 10.2 V for 10 µs: the riser is connected, metering closes, open transactions abort and rings pause. -/
  | powerFailWarning (vin riser : Half)
  /-- VIN_RESTORED (R68): VIN returns to 10.5 V or more and the converters return to VIN. -/
  | vinRestored (vin : Half)
  /-- RISER_EXHAUSTED (R68): The riser falls below 5.0 V and the module is reset. -/
  | riserExhausted (written : Nat)
  /-- UNIT_SEL_CHANGE (R31): UNIT_SEL changes after reset; the change is recorded and takes effect at the next module reset. -/
  | unitSelChange (level : Bool)
  /-- MAINT_N_CHANGE (R30): MAINT_N is taken as asserted or released after 20 ms at a steady level. -/
  | maintNChange (asserted : Bool)
  /-- EMERG_N_CHANGE (R30): EMERG_N is taken as asserted or released after 10 ms at a steady level, which sets HIF_CAUSE.EMERG and an emergency source. -/
  | emergNChange (asserted : Bool)
  /-- THERMAL_EBB (R47): The die reaches 110 °C, the fabric is forced to EBB and an event is recorded. -/
  | thermalEbb (temp : Half)
  /-- THERMAL_EBB_RELEASE (R47): The die falls below 100 °C after a forced EBB and the configured core-voltage state returns. -/
  | thermalEbbRelease (temp : Half)
  /-- THERMAL_HOLD (R47): The die reaches 125 °C, the flush runs and every output is held in its reset state. -/
  | thermalHold (temp : Half)
  /-- THERMAL_RESTART (R47): The die falls below 100 °C after a thermal hold and the module restarts as after module reset. -/
  | thermalRestart (temp : Half)
  /-- PACE_SAMPLE (R59): Every 1 ms the fabric replica path is timed against the time base and PACE is updated. -/
  | paceSample (pace die vin riser vbak : Half)
  /-- GLB_VSTATE_WRITE (R60): A write of GLB_VSTATE.EBB starts a core-voltage ramp of at most 0.1 V/ms. -/
  | glbVstateWrite (v : Word)
  /-- BUS_MASTER_ENABLE_CHANGE (R78): Bus Master Enable or the D0/D3hot state changes, pausing or resuming every ring and sending pending MSI-X messages. -/
  | busMasterEnableChange (bme d3hot : Bool)
  /-- FUNC_RESET (R78): A Function Level Reset or link down disables every ring, resets ring and MSI-X state and aborts open host transactions. -/
  | funcReset (linkDown : Bool)
  /-- MSIX_UNMASK (R82): A vector is unmasked or MSI-X enabled and a pending message for it is sent. -/
  | msixUnmask (enable : Bool) (vector : Nat)
  /-- REGISTER_WRITE (R5): A host write to a register with no row of its own is applied, discarded or clears WC bits as its access codes define. -/
  | registerWrite (addr size : Nat) (v : Word)
  /-- RF_GROUP_FREEZE (R5): A read of the first register of a frozen group copies the whole group into shadows. -/
  | rfGroupFreeze (g : RfGroup)
  /-- RF_GROUP_END (R5): A read of the last register of a frozen group ends the group. -/
  | rfGroupEnd (g : RfGroup)
  /-- LDL_MAXNS_READ (R479): A read of LDL[n]_MAXNS returns the largest LASTNS and reloads it with 0. -/
  | ldlMaxnsRead (n : Nat)
  /-- HIF_VERSION_SELECT_WRITE (R79): A write of HIF_VERSION.SELECT chooses the host interface format, or is ignored while a ring is enabled. -/
  | hifVersionSelectWrite (v : Word)
  /-- RING_CFG_WRITE (R85): A write of RNG[n]_CFG enables or disables a ring and changes its vector, interrupt enable and, while disabled, its geometry. -/
  | ringCfgWrite (n : Nat) (v : Word)
  /-- DOORBELL_WRITE (R86): A write of DBL[n]_INDEX announces new host entries or returns slots of a module-to-host ring. -/
  | doorbellWrite (n : Nat) (index : Word)
  /-- RUNNER_BURST (R118): At a burst boundary the runner engine starts the next burst of the highest-priority ready runner allowed by its rate limiter. -/
  | runnerBurst (err : BurstErr)
  /-- RUNNER_READ_FAIL (R122): A runner read ends in abort, unsupported request, timeout or poisoned data and the descriptor is slagged. -/
  | runnerReadFail (n cause offset : Nat) (entry : Option (Half × CmdEntry))
  /-- DMA_CTL_RESUME (R123): A write of 1 to DMA[n]_CTL.RESUME clears HALTED and the count of a halted runner. -/
  | dmaCtlResume (n : Nat)
  /-- TUN_CTL_FLUSH (R127): A write of 1 to TUN[n]_CTL.FLUSH requests a tundish flush at the next packet boundary. -/
  | tunCtlFlush (n : Nat)
  /-- TUNDISH_FLUSH_APPLY (R127): At the next packet boundary every packet left in the tundish is discarded, commands completing with ABORTED. -/
  | tundishFlushApply (n : Nat)
  /-- WRITEBACK_TIMER (R89): TIME µs after the first uncovered entry, the ring's writeback is written. -/
  | writebackTimer (n : Nat)
  /-- UNKNOWN_OPCODE (R95): A command entry whose opcode does not exist completes with UNKNOWN_OPCODE and has no effect. -/
  | unknownOpcode (op : Half) (e : CmdEntry)
  /-- NOP (R96): The host interface NOP command completes OK. -/
  | nop (e : CmdEntry)
  /-- ECHO (R96): ECHO returns its parameter bytes 0–7 in result0 and result1. -/
  | echo (e : CmdEntry)
  /-- CANCEL (R97): CANCEL aborts a target command that has not started or is waiting, or reports BUSY or NOT_FOUND. -/
  | cancel (e : CmdEntry)
  /-- SYNC (R96): SYNC completes once every command taken before it from any host-to-module ring has completed. -/
  | sync (e : CmdEntry)
  /-- TXN_OPEN (R105): TXN_OPEN takes a free slot and assigns a tag, subject to role, ONLINE and LOCAL checks. -/
  | txnOpen (e : CmdEntry)
  /-- TXN_COMMIT (R112): TXN_COMMIT binds a transaction to an IMMEDIATE, CYCLE or STAMP commit point and completes when it is applied. -/
  | txnCommit (e : CmdEntry)
  /-- TXN_ABORT (R107): TXN_ABORT discards every staged change, releases targets and frees the slot. -/
  | txnAbort (e : CmdEntry)
  /-- TXN_REGWR (R106): TXN_REGWR stages a buffer of masked register writes in stageable blocks. -/
  | txnRegwr (e : CmdEntry)
  /-- TXN_QUERY (R104): TXN_QUERY returns the state and use of the tag's slot. -/
  | txnQuery (e : CmdEntry)
  /-- TXN_APPLY (R113): A transaction whose STAMP or IMMEDIATE commit point has come is applied as one indivisible step. -/
  | txnApply (slot : Nat)
  /-- TXN_IDLE_TIMEOUT (R107): An open transaction not named by a staging command for TXN_CFG.IDLE seconds is aborted. -/
  | txnIdleTimeout (slot : Nat)
  /-- TXN_WAIT_TIMEOUT (R112): A CYCLE commit that has waited TXN_CFG.WAIT ms for a committing cycle completes with TIMEOUT and closes its transaction. -/
  | txnWaitTimeout (slot : Nat)
  /-- TUN_FLUSH (R139): TUN_FLUSH flushes a tundish at its next packet boundary. -/
  | tunFlush (e : CmdEntry)
  /-- RUNNER_RESUME (R139): RUNNER_RESUME resumes a halted runner, or completes with NOT_HALTED. -/
  | runnerResume (e : CmdEntry)
  /-- WRITE (R155): A ring 2 WRITE entry writes a point's value with quality GOOD, untagged at once or staged. -/
  | write (e : PwrEntry)
  /-- WRITE_QUALITY (R155): A ring 2 WRITE_QUALITY entry writes a point's value and the given quality. -/
  | writeQuality (e : PwrEntry)
  /-- PNT_READ (R153): PNT_READ returns records of a consecutive range as they stood after one application. -/
  | pntRead (e : CmdEntry)
  /-- PNT_READ_LIST (R153): PNT_READ_LIST returns records for a list of addresses as they stood after one application. -/
  | pntReadList (e : CmdEntry)
  /-- PNT_FORCE (R162): PNT_FORCE holds a point at a host-chosen value and quality. -/
  | pntForce (e : CmdEntry)
  /-- PNT_UNFORCE (R164): PNT_UNFORCE removes a force and restores the underlying record if a write was absorbed. -/
  | pntUnforce (e : CmdEntry)
  /-- PNT_FORCE_LIST (R166): PNT_FORCE_LIST returns force entries in ascending address order. -/
  | pntForceList (e : CmdEntry)
  /-- PNT_SUBSCRIBE (R157): PNT_SUBSCRIBE creates or replaces a subscription over a point range. -/
  | pntSubscribe (e : CmdEntry)
  /-- PNT_UNSUBSCRIBE (R153): PNT_UNSUBSCRIBE removes a subscription. -/
  | pntUnsubscribe (e : CmdEntry)
  /-- NODE_HOLD_EXPIRY (R160): A row node sends no authenticated frame for its hold time, its inputs go ABSENT and it becomes ABSENT. -/
  | nodeHoldExpiry (n : Nat)
  /-- LDL_LOAD (R200): LDL_LOAD stages a piece of a ladle program image into an ONLINE transaction and checks the image when complete. -/
  | ldlLoad (e : CmdEntry)
  /-- LDL_UNLOAD (R200): LDL_UNLOAD stages removal of a ladle program into an ONLINE transaction. -/
  | ldlUnload (e : CmdEntry)
  /-- LDL_TABLE (R200): LDL_TABLE loads ladle table words, untagged in the next idle interval or as a staged table load. -/
  | ldlTable (e : CmdEntry)
  /-- LDL_TABLE_IDLE_APPLY (R131): An untagged table load held in its tundish is written to the ladle's banks in its idle interval. -/
  | ldlTableIdleApply (n : Nat)
  /-- LDL_STATE (R200): LDL_STATE returns committed timer, counter, edge or memory-word state of a ladle. -/
  | ldlState (e : CmdEntry)
  /-- LD (R178): LD loads a bit of a point into LA, optionally inverted. -/
  | liLd (n b off m : Nat)
  /-- AND (R178): AND combines LA with a bit of a point. -/
  | liAnd (n b off m : Nat)
  /-- OR (R178): OR combines LA with a bit of a point. -/
  | liOr (n b off m : Nat)
  /-- XOR (R178): XOR combines LA with a bit of a point. -/
  | liXor (n b off m : Nat)
  /-- ST (R178): ST stores LA, optionally inverted, into a bit of a slot and marks it dirty. -/
  | liSt (n b off m : Nat)
  /-- SET (R178): SET stores 1 into a bit of a slot when LA is 1. -/
  | liSet (n b off m : Nat)
  /-- RST (R178): RST stores 0 into a bit of a slot when LA is 1. -/
  | liRst (n b off m : Nat)
  /-- LDQ (R177): LDQ sets LA to whether a point's quality is at or below a threshold. -/
  | liLdq (n b off m : Nat)
  /-- LAOP (R194): LAOP clears, sets or inverts LA. -/
  | liLaop (n k : Nat)
  /-- BOPEN (R179): BOPEN pushes LA and LQ and sets LA to 1 and LQ to GOOD. -/
  | liBopen (n : Nat)
  /-- BAND (R179): BAND pops an entry and ANDs it into LA. -/
  | liBand (n : Nat)
  /-- BOR (R179): BOR pops an entry and ORs it into LA. -/
  | liBor (n : Nat)
  /-- BPEEK (R179): BPEEK copies the top branch stack entry into LA and LQ. -/
  | liBpeek (n : Nat)
  /-- BDROP (R179): BDROP pops and discards the top branch stack entry. -/
  | liBdrop (n : Nat)
  /-- EDGE (R188): EDGE detects a rising, falling or either edge of LA against the stored previous value. -/
  | liEdge (n k b m : Nat)
  /-- TMR (R186): TMR evaluates one TON, TOF, TP or TONR timer at the cycle instant. -/
  | liTmr (n k b m : Nat)
  /-- CTU (R187): CTU counts a rising edge of LA up and sets LA to value at or above preset. -/
  | liCtu (n k b m : Nat)
  /-- CTD (R187): CTD counts a rising edge of LA down and sets LA to value at or below 0. -/
  | liCtd (n k b m : Nat)
  /-- TCR (R187): TCR with LA 1 clears a timer or a counter. -/
  | liTcr (n k b m : Nat)
  /-- TCLD (R187): TCLD reads a timer's elapsed time or a counter's value into WA, or loads a counter from WA. -/
  | liTcld (n k b m : Nat)
  /-- LDM (R188): LDM loads a memory word with its quality into WA. -/
  | liLdm (n k b m : Nat)
  /-- STM (R188): STM stores WA with its quality into a memory word, optionally only when LA is 1. -/
  | liStm (n k b m : Nat)
  /-- LDW (R177): LDW loads a point's value into WA under an optional quality gate. -/
  | liLdw (n b off m : Nat)
  /-- STW (R182): STW converts WA to the point's type, saturating, and stores it into a slot. -/
  | liStw (n b off m : Nat)
  /-- QLD (R177): QLD loads a point's quality code into WA. -/
  | liQld (n b off m : Nat)
  /-- WBIT (R194): WBIT moves a bit between WA and LA. -/
  | liWbit (n dir k : Nat)
  /-- LDI (R194): LDI loads a sign-extended immediate into WA with quality GOOD. -/
  | liLdi (n imm : Nat)
  /-- LDIH (R194): LDIH loads an immediate into WA bits 31:16. -/
  | liLdih (n imm : Nat)
  /-- MOV (R194): MOV copies or swaps WA and a scratch word. -/
  | liMov (n dir w : Nat)
  /-- SEL (R194): SEL copies a scratch word into WA when LA is 1. -/
  | liSel (n w : Nat)
  /-- ALU (R180): ALU applies an integer function to WA and a scratch word. -/
  | liAlu (n fn w : Nat)
  /-- ALUI (R180): ALUI applies an integer function to WA and an immediate. -/
  | liAlui (n fn imm : Nat)
  /-- FPU (R181): FPU applies a binary32 function to WA and a scratch word. -/
  | liFpu (n fn w : Nat)
  /-- CMP (R195): CMP compares WA with a scratch word and combines the result into LA. -/
  | liCmp (n cond comb w : Nat)
  /-- CMPI (R195): CMPI compares WA with an immediate and combines the result into LA. -/
  | liCmpi (n cond comb imm : Nat)
  /-- TBL (R183): TBL reads a table word or interpolates a curve from the ladle's table into WA. -/
  | liTbl (n mode base : Nat)
  /-- JMP (R184): JMP transfers forward, always or on LA. -/
  | liJmp (n cond target : Nat)
  /-- CALL (R185): CALL pushes the return index and goes to a subroutine. -/
  | liCall (n cond target : Nat)
  /-- RET (R185): RET returns from a subroutine. -/
  | liRet (n : Nat)
  /-- LOOP (R184): LOOP opens a bounded loop, optionally binding a base to window 0. -/
  | liLoop (n b w count : Nat)
  /-- ENDL (R184): ENDL returns to the loop start and advances its base, or ends the loop. -/
  | liEndl (n : Nat)
  /-- BRK (R184): BRK with LA 1 leaves the innermost loop. -/
  | liBrk (n : Nat)
  /-- SETB (R175): SETB binds a base register to a range and window. -/
  | liSetb (n b range window : Nat)
  /-- BIDX (R175): BIDX sets a base's window from WA or adds an immediate to it. -/
  | liBidx (n b mode imm : Nat)
  /-- BLD (R194): BLD loads a base's window into WA. -/
  | liBld (n b : Nat)
  /-- LCALL (R191): LCALL queues a zone lamp call in the ladle's staging. -/
  | liLcall (n fn wt wf : Nat)
  /-- LADLE_NOP (R194): The ladle NOP instruction does nothing. -/
  | liNop (n : Nat)
  /-- END (R185): END completes the ladle's work for the cycle. -/
  | liEnd (n : Nat)
  /-- CHARGE_END (R208): The charge ends, ladles begin execution and applications held during the charge are applied. -/
  | chargeEnd (n : Nat)
  /-- CYC_SETUP (R224): CYC_SETUP sets period, margin, offset and EBB budgeting after a budget check. -/
  | cycSetup (e : CmdEntry)
  /-- CYC_SCHED (R224): CYC_SCHED sets one ladle's schedule entry. -/
  | cycSched (e : CmdEntry)
  /-- CYC_HOLD (R224): CYC_HOLD makes a number of cycles, or all until release, planned skips. -/
  | cycHold (e : CmdEntry)
  /-- CYC_RELEASE (R224): CYC_RELEASE removes a hold, or completes with NOT_HELD. -/
  | cycRelease (e : CmdEntry)
  /-- LAMP_EVALUATION_END (R243): Evaluation of all configured channels ends and their moulds are ready. -/
  | lampEvaluationEnd (us : Nat)
  /-- LMP_EMERG (R255): LMP_EMERG requests or releases the host emergency source. -/
  | lmpEmerg (e : CmdEntry)
  /-- LMP_PROBE (R255): LMP_PROBE makes a probe due at once for the masked channels. -/
  | lmpProbe (e : CmdEntry)
  /-- LMP_RECORD (R255): LMP_RECORD replaces luminaire records of configured luminaires as a table load. -/
  | lmpRecord (e : CmdEntry)
  /-- LMP_CHSTATE (R255): LMP_CHSTATE returns channel state entries for a range of luminaires. -/
  | lmpChstate (e : CmdEntry)
  /-- LMP_CTL_EMERG_SW (R249): A write of LMP_CTL.EMERG_SW asserts or releases the switch emergency source. -/
  | lmpCtlEmergSw (on : Bool)
  /-- LMP_TICK_WRITE (R229): A write of LMP_TICK sets a new tick, clamped, taking effect at the next tick boundary. -/
  | lmpTickWrite (v : Word)
  /-- GATE_ENTRY_START (R269): A gate list entry opens and frames of its open classes that fit before it closes are started. -/
  | gateEntryStart (p : Nat)
  /-- TRUNK_FRAME_RECEIVED (R264): A received trunk frame passes buffer, FCS, length, address and EtherType checks and goes to the Carzon engine or ring 9. -/
  | trunkFrameReceived (f : TrunkFrame)
  /-- FOREIGN_BEACON (R261): A coordinator port hears a beacon it did not send, counts it and a SEEDING port yields. -/
  | foreignBeacon (p : Nat)
  /-- COORDINATOR_LISTEN_END (R261): A port taking the coordinator role has heard no beacon for the listen time and sends its first beacon. -/
  | coordinatorListenEnd (p : Nat)
  /-- SEEDING_LISTEN_END (R259): A SEEDING port that has heard no beacon for LISTEN ms becomes coordinator. -/
  | seedingListenEnd (p : Nat)
  /-- ROLL_CALL_CYCLE_END (R263): A roll-call PLCA cycle ends and missed cycles are counted per node, making nodes STALE at 3. -/
  | rollCallCycleEnd (p : Nat)
  /-- TRK_SEND (R275): TRK_SEND sends a host frame in class MGMT and returns its transmit stamp. -/
  | trkSend (e : CmdEntry)
  /-- TRK_SEND_TIMEOUT (R275): A TRK_SEND frame not admitted by a MGMT entry within 1 s completes with TIMEOUT. -/
  | trkSendTimeout (p : Nat)
  /-- TRK_PORT (R275): TRK_PORT enables or disables a trunk port. -/
  | trkPort (e : CmdEntry)
  /-- TRK_GATES (R275): TRK_GATES loads a port's gate list and MULT after validity checks. -/
  | trkGates (e : CmdEntry)
  /-- GATECTL_WRITE (R268): A direct write of TRK[p]_GATECTL or a gate entry is checked with the list, running the factory list if invalid. -/
  | gatectlWrite (p : Nat) (entry : Option Nat) (v : Word)
  /-- PAUSE_FRAME_RECEIVED (R273): A received PAUSE frame stops gigabit transmission for its quanta, capped at CAP_US. -/
  | pauseFrameReceived (g quanta : Nat)
  /-- LINK_CHANGE (R277): A gigabit port's link goes up or down and LINK is recorded. -/
  | linkChange (g : Nat) (up : Bool)
  /-- HELLO (R291): A HELLO from a node is checked against the node table and the node is admitted or refused. -/
  | hello (f : TrunkFrame)
  /-- ACK (R288): An ACK from a node ends the repeats of the acknowledged frame and advances admission, rekey or delivery. -/
  | ack (f : TrunkFrame)
  /-- REPORT (R299): A node REPORT delivers items, measurements and mould flags to the crucible and lamp status. -/
  | report (f : TrunkFrame)
  /-- DELAY_REQ (R302): A node's DELAY_REQ is answered with its corrected receive stamp. -/
  | delayReq (f : TrunkFrame)
  /-- RETRANSMIT_TIMEOUT (R288): An unacknowledged module frame is sent again after 3 ticks, up to 5 times. -/
  | retransmitTimeout (n : Nat)
  /-- CZN_NODE (R310): CZN_NODE returns a node's state, version, generation and highest counter. -/
  | cznNode (e : CmdEntry)
  /-- CZN_RESEAT (R310): CZN_RESEAT reseats a node and completes when the reseat is applied. -/
  | cznReseat (e : CmdEntry)
  /-- CZN_RESEAT_TIMEOUT (R310): A CZN_RESEAT not applied within 10 s completes with TIMEOUT while the reseat continues. -/
  | cznReseatTimeout (n : Nat)
  /-- CZN_REKEY (R310): CZN_REKEY starts a key generation change and completes at the switch. -/
  | cznRekey (e : CmdEntry)
  /-- CZN_NODETABLE (R310): CZN_NODETABLE replaces node table entries as a table load. -/
  | cznNodetable (e : CmdEntry)
  /-- RADIO_FRAME_RECEIVED (R317): A received radio PSDU is checked and its Carzon frame handled, with post-uplink frames sent after it. -/
  | radioFrameReceived (f : RadioFrame)
  /-- RADIO_ADMISSION_TIMEOUT (R319): A radio node whose WELCOME or RSETUP is unacknowledged 5 s after HELLO returns to UNKNOWN. -/
  | radioAdmissionTimeout (n : Nat)
  /-- BEACON_INSTANT (R329): At a wall-time multiple of the beacon period an ACTIVE or ALONE module sends a BEACON on each enabled channel. -/
  | beaconInstant (receiving : Nat)
  /-- LISTEN_WINDOW (R322): At a node's listen window instant W_k the module sends its first pending frame. -/
  | listenWindow (n : Nat)
  /-- STANDBY_BEACON_MISS (R330): A standby accepts no active BEACON around a beacon instant and counts a miss. -/
  | standbyBeaconMiss (r : Nat)
  /-- RADIO_NODE_STALE (R335): A radio node sends no authenticated frame for 2 × H + 30 s and its inputs go STALE. -/
  | radioNodeStale (n : Nat)
  /-- RADIO_NODE_ABSENT (R335): A radio node sends no authenticated frame for 6 × H, its inputs go ABSENT and NODE_LOST is recorded. -/
  | radioNodeAbsent (n : Nat)
  /-- RAD_NODE (R339): RAD_NODE returns a radio node's state, listen state, generation and highest counter. -/
  | radNode (e : CmdEntry)
  /-- RAD_WAKE (R339): RAD_WAKE sends a wake-up call to a radio node within its wake_max. -/
  | radWake (e : CmdEntry)
  /-- RAD_WAKE_TIMEOUT (R339): A node that has not answered a wake-up call within 1 s makes RAD_WAKE complete with TIMEOUT. -/
  | radWakeTimeout (n : Nat)
  /-- RAD_NODETABLE (R339): RAD_NODETABLE replaces radio node table entries as a table load. -/
  | radNodetable (e : CmdEntry)
  /-- RAD_CHANNEL (R339): RAD_CHANNEL enables or disables a radio channel. -/
  | radChannel (e : CmdEntry)
  /-- RAD_DUTY_WRITE (R332): A write of RAD[r]_DUTY.LIMIT not above the beacon reserve loads the reserve plus 1 unit. -/
  | radDutyWrite (r limit : Nat)
  /-- TIM_INCRLO_WRITE (R343): A write of TIM_INCRLO is held until the next TIM_INCRHI write. -/
  | timIncrloWrite (v : Word)
  /-- TIM_INCRHI_WRITE (R343): A write of TIM_INCRHI sets the increment, clamped to ±1,000 ppm, at the next tick. -/
  | timIncrhiWrite (v : Word)
  /-- TIM_STEP (R368): The TIM_STEP command steps the wall base and returns the stamp just after. -/
  | timStep (e : CmdEntry)
  /-- TIM_SETINCR (R368): TIM_SETINCR sets the increment. -/
  | timSetincr (e : CmdEntry)
  /-- TIM_LEAP (R368): TIM_LEAP sets TAI − UTC and a pending leap second. -/
  | timLeap (e : CmdEntry)
  /-- PTP_MESSAGE (R351): A PTP message on a gigabit port is handled by the clock and servo. -/
  | ptpMessage (port : Nat) (m : PtpIn)
  /-- PERIODIC_FIRE (R360): A periodic generator reaches its phase and fires. -/
  | periodicFire (k : Nat)
  /-- TRIM_MEASUREMENT_END (R357): A NETWORK or MAINS trim measurement ends and TRIM is adjusted and recorded. -/
  | trimMeasurementEnd (x : Int)
  /-- RTC_STG_WRITE (R356): A write of RTC_STG_UTC or RTC_STG_SUBSEC stages a calendar time and sets STAGED. -/
  | rtcStgWrite (subsec : Bool) (v : Word)
  /-- RTC_SET (R368): RTC_SET sets the calendar time and completes at the commit. -/
  | rtcSet (e : CmdEntry)
  /-- RTC_FROM_WALL (R368): RTC_FROM_WALL sets the calendar from the wall base, or completes with WALL_UNSET. -/
  | rtcFromWall (e : CmdEntry)
  /-- RTC_ALARM (R368): RTC_ALARM defines an alarm and sets its NEXT. -/
  | rtcAlarm (e : CmdEntry)
  /-- RTC_PERIODIC (R368): RTC_PERIODIC defines a periodic generator. -/
  | rtcPeriodic (e : CmdEntry)
  /-- RTC_CHARGER (R365): RTC_CHARGER sets the trickle charger's enable, voltage and current while MAINT_N is asserted. -/
  | rtcCharger (e : CmdEntry)
  /-- RTC_SETTRIM (R368): RTC_SETTRIM sets the calendar trim when TRIMSRC is MANUAL. -/
  | rtcSettrim (e : CmdEntry)
  /-- METER_SAMPLE (R379): Every 125 µs all modulators deliver a sample whose energy is added to accumulators, intervals and pulse outputs. -/
  | meterSample (c f : List Int) (clip : Nat) (u : List Int)
  /-- PULSE_END (R391): A pulse's width expires and the output goes off. -/
  | pulseEnd (j : Nat)
  /-- WINDOW_END (R377): A measurement window ends and the instantaneous values and qualities are computed and written. -/
  | windowEnd (v dur : Nat)
  /-- MTR_ARCHIVE (R396): MTR_ARCHIVE reads interval records back from the flash archive. -/
  | mtrArchive (e : CmdEntry)
  /-- MTR_CLOSE (R396): MTR_CLOSE closes every open interval with cause COMMAND. -/
  | mtrClose (e : CmdEntry)
  /-- MTR_CALDATA (R396): MTR_CALDATA loads current-channel calibration as a table load. -/
  | mtrCaldata (e : CmdEntry)
  /-- MTR_PRESET (R396): MTR_PRESET sets an accumulator total at the next sample while MAINT_N is asserted. -/
  | mtrPreset (e : CmdEntry)
  /-- EVR_FLASH_WRITE (R402): On count, severity, elapsed time or sync, buffered event records are written to the flash ring in sequence order. -/
  | evrFlashWrite (ok : Bool)
  /-- EVR_CURSOR_WRITE (R404): A write of EVR_CURSOR starts a window copy from the requested sequence. -/
  | evrCursorWrite (v : Word)
  /-- EVR_SYNC (R408): EVR_SYNC completes once every earlier record is in flash. -/
  | evrSync (e : CmdEntry)
  /-- EVR_CLEAR (R407): EVR_CLEAR removes every record from flash and buffer under MAINT_N and its confirmation word. -/
  | evrClear (e : CmdEntry)
  /-- EVR_READ (R408): EVR_READ copies up to 1,024 held records to a host buffer. -/
  | evrRead (e : CmdEntry)
  /-- PEER_BEACON (R414): A peer BEACON is received and can demote an ACTIVE unit with a lower claim. -/
  | peerBeacon (f : EthFrame)
  /-- DELTA (R419): The standby applies a complete DELTA whole and acknowledges it. -/
  | delta (f : EthFrame)
  /-- DELTA_ACK (R420): A DELTA_ACK updates the unacknowledged count on the active. -/
  | deltaAck (f : EthFrame)
  /-- SEED_REQ (R418): On SEED_REQ the active sends an image taken at one application followed by queued deltas. -/
  | seedReq (f : EthFrame)
  /-- SEED (R418): A seeding unit applies a part of the seed image. -/
  | seed (f : EthFrame)
  /-- HANDOVER (R425): On HANDOVER naming T the standby requests ROTATE from the witness. -/
  | handover (f : EthFrame)
  /-- READY (R426): The old active receives READY with the granted epoch before T. -/
  | ready (f : EthFrame)
  /-- CONFIRM (R427): The old active receives CONFIRM that the new active has committed. -/
  | confirm (f : EthFrame)
  /-- YIELD (R422): A standby receiving YIELD sends REQUEST with reason TAKEOVER. -/
  | yield_ (f : EthFrame)
  /-- HEALTH (R429): The active receives a HEALTH frame under protocol 3. -/
  | health (f : EthFrame)
  /-- GRANT (R423): A unit receiving GRANT for its nonce becomes ACTIVE under the granted epoch. -/
  | grant (f : EthFrame)
  /-- DENY (R423): On DENY the unit stays in its role, records PEER_LOST and repeats its request while the trigger holds. -/
  | deny (f : EthFrame)
  /-- STATUS (R414): A witness STATUS updates the epoch seen and can demote an ACTIVE unit. -/
  | status (f : EthFrame)
  /-- NOTICE (R428): The active receives a NOTICE of radio-silence votes and hands over or records it. -/
  | notice (f : EthFrame)
  /-- REVOKE (R414): A REVOKE naming a higher epoch demotes an ACTIVE unit. -/
  | revoke (f : EthFrame)
  /-- HEARTBEAT (R435): A witness records a unit's HEARTBEAT and revokes a unit reporting ACTIVE under a stale epoch. -/
  | heartbeat (f : EthFrame)
  /-- REQUEST (R435): A witness answers a unit's REQUEST with GRANT or DENY, or holds a START. -/
  | request (f : EthFrame)
  /-- VOTE (R436): A witness passes a VOTE to the active as NOTICE within 10 ms. -/
  | vote (f : EthFrame)
  /-- WITNESS_START_HOLD_END (R436): A held START is decided for the unit with the higher last_active_epoch after 100 ms or the other START. -/
  | witnessStartHoldEnd (pair : Nat)
  /-- WITNESS_STATUS_DUE (R434): Every 50 ms the witness sends STATUS to both units. -/
  | witnessStatusDue (pair : Nat)
  /-- RDN_ROTATE (R439): RDN_ROTATE hands over at once under the conditions of R425. -/
  | rdnRotate (e : CmdEntry)
  /-- RDN_YIELD (R439): RDN_YIELD sends YIELD to the standby while MAINT_N is asserted. -/
  | rdnYield (e : CmdEntry)
  /-- RDN_RESEED (R439): RDN_RESEED makes a standby seed again. -/
  | rdnReseed (e : CmdEntry)
  /-- KEY_SLOT_SET (R459): KEY_SLOT_SET writes a key or TREE path into a slot, at once or staged. -/
  | keySlotSet (e : CmdEntry)
  /-- KEY_SLOT_CLEAR (R459): KEY_SLOT_CLEAR clears a slot without grace. -/
  | keySlotClear (e : CmdEntry)
  /-- KEY_ROOT_SET (R459): KEY_ROOT_SET writes a tree root and removes cache entries derived from it. -/
  | keyRootSet (e : CmdEntry)
  /-- KEY_ATTEST (R456): KEY_ATTEST requests a signed COSE_Sign1 statement of the module's measurements. -/
  | keyAttest (e : CmdEntry)
  /-- KEY_IDCERT (R459): KEY_IDCERT returns the device and intermediate certificates. -/
  | keyIdcert (e : CmdEntry)
  /-- KEY_NODEKEY (R451): KEY_NODEKEY returns a node root key under MAINT_N. -/
  | keyNodekey (e : CmdEntry)
  /-- KEY_WRGO (R446): A write of 1 to KEY_WRGO.GO applies a key write through BAR2 whole, or refuses it. -/
  | keyWrgo (value : Word)
  /-- KEY_MODE_WRITE (R442): A write of KEY_MODE changes the key mode unless a valid slot is of a forbidden kind. -/
  | keyModeWrite (value : Word)
  /-- KEY_CZNSRC_WRITE (R450): A write of KEY_CZNSRC names the slot of the Carzon master, checked under R447. -/
  | keyCznsrcWrite (value : Word)
  /-- KEY_SEND_DELAY_END (R449): After send_delay_ms the module sends under the replaced slot's new key. -/
  | keySendDelayEnd (slot : Nat)
  /-- OLD_KEY_GRACE_END (R449): After send_delay_ms + KEY_GRACE the previous key no longer checks received traffic. -/
  | oldKeyGraceEnd (slot : Nat)
  /-- KEY_LCREQ_WRITE (R453): A write of KEY_LCREQ requests a life-cycle transition, writing the intent or setting LC_REJ. -/
  | keyLcreqWrite (value : Word)
  /-- OWNER_LOCK_WRITE (R455): A write of KEY_LC.OWNER_LOCK changes the owner lock while MAINT_N is asserted. -/
  | ownerLockWrite (value : Word)
  /-- PAT_BEGIN (R466): PAT_BEGIN opens a pattern or configuration load of a given length. -/
  | patBegin (e : CmdEntry)
  /-- PAT_BLOCK (R466): PAT_BLOCK writes a block of an open load at an offset. -/
  | patBlock (e : CmdEntry)
  /-- PAT_QUERY (R466): PAT_QUERY returns the bytes missing and the first missing offset. -/
  | patQuery (e : CmdEntry)
  /-- PAT_VERIFY (R463): PAT_VERIFY checks the loaded slot and marks it VERIFIED. -/
  | patVerify (e : CmdEntry)
  /-- PAT_ACTIVATE (R470): PAT_ACTIVATE checks conditions and schedules the verified or rollback slot to run after a pause. -/
  | patActivate (e : CmdEntry)
  /-- PAT_CONFIRM (R468): PAT_CONFIRM ends the trial, makes the slot RUNNING and raises the security floor. -/
  | patConfirm (e : CmdEntry)
  /-- PAT_HALTGO (R473): A write of 1 to PAT_HALTGO.GO in HALT starts the boot ROM's recovery load from host memory. -/
  | patHaltgo (value : Word)
  /-- HALT_RECOVERY_DONE (R473): The recovery image is checked and written to slot A and the module restarts, or RESULT shows failure. -/
  | haltRecoveryDone (image : Option (List Byte))
  /-- FETTLE_REGION_END (R133): A region's test ends and the region is restored. -/
  | fettleRegionEnd (r : FettleEnd)
  /-- BANK_REMAP_DONE (R135): A bank copy to a spare completes and the mapping switches. -/
  | bankRemapDone (b cause : Nat)
  /-- MEM_BANK_CHILL_WRITE (R132): A write of MEM_BANK[b].CHILL requests chill or wakes the bank. -/
  | memBankChillWrite (b : Nat) (on : Bool)
  /-- MEM_FETTLE_WRITE (R215): A write of MEM_FETTLE.PERIOD updates the budget registers and may clear the budget flags. -/
  | memFettleWrite (v : Word)
  /-- PAUSE_QUANTA_END (R273): The stop time of a received PAUSE frame (its quanta, or CAP_US) runs out, ETH[g]_STATUS.PAUSED clears and gigabit transmission resumes. -/
  | pauseQuantaEnd (g : Nat)
  /-- PTP_SYNC_INTERVAL (R352): At each logSyncInterval (and Announce and delay-request intervals) a port in the master or slave role sends its PTP Sync, Announce or delay messages, with one-step stamp insertion. -/
  | ptpSyncInterval (port : Nat)
  /-- PCIE_LINK_TRAINED (R121): The PCIe link trains up, HIF_LINK and DMA_LINKRATE take the trained width and speed, and the runners' rate limiters use the new link rate. -/
  | pcieLinkTrained (width speed : Nat)
  /-- PERST_N_ASSERT (R72): PERST_N is asserted: every output goes to its reset state, the flush runs from VIN and the module is reset. -/
  | perstAssert
  /-- PERST_N_RELEASE (R72): PERST_N is released; module reset ends at the later of this and power good, and a release during a flush takes effect when the flush ends. -/
  | perstRelease
  /-- STAGE_PATTERN (R54): The pattern in the boot slot is verified and started on all four management cores, or the module falls back or halts. -/
  | stagePattern
  /-- STAGE_MEMORY (R54): DRAM is trained and the crucible region is initialised with ECC. -/
  | stageMemory
  /-- STAGE_CONFIG (R65): Both configuration copies are checked and one is selected, or factory defaults are taken. -/
  | stageConfig
  /-- STAGE_RESTORE (R58): Retentive points and metering accumulators are restored from the newest complete flush slot and a new heat is taken. -/
  | stageRestore
  /-- STAGE_ROLE (R54): Trunk and radio receivers are enabled receive-only and role determination starts. -/
  | stageRole
  /-- ROLE_SETTLED (R54): The role is settled and an ACTIVE or ALONE module starts PLCA coordination, TIME frames, discovery and beacons. -/
  | roleSettled
  /-- STAGE_RUN (R54): Stage 0x7 is reached and the module waits for the next cycle boundary to charge its first cycle. -/
  | stageRun
  /-- CFG_COPY_REWRITE (R65): After stage 0x7 the failed configuration copy is rewritten from the valid one and CFG_ONE_COPY clears. -/
  | cfgCopyRewrite
  /-- FLUSH_BEGIN (R69): One millisecond after the warning the lamp engine stops, transmitters and pulse outputs go off, and the power-fail flush begins. -/
  | flushBegin
  /-- FLUSH_DONE (R69): The power-fail flush completes, FLUSH_DONE is set and the stage becomes FLUSH_HOLD. -/
  | flushDone
  /-- SERVICE_RESUME (R73): After 100 ms of restored VIN and a completed flush, service resumes without reset under the same heat. -/
  | serviceResume
  /-- BACKUP_LOST (R44): VBAK falls below 1.8 V while main power is absent and the backup domain loses its contents. -/
  | backupLost
  /-- EBB_RAMP_END (R60): The core-voltage ramp ends and GLB_STATUS.EBB changes. -/
  | ebbRampEnd
  /-- PNT_RDREC0_READ (R154): A read of PNT_RDREC0 copies the selected point's record into the PNT_RDREC shadows between two applications. -/
  | pntRdrec0Read
  /-- RTC_SUBSEC_READ (R355): A read of RTC_SUBSEC freezes the calendar read group and sets RTC_STATUS.FROZEN. -/
  | rtcSubsecRead
  /-- GLB_PACE_READ (R479): A read of GLB_PACE returns PACE_MIN and reloads it with the current PACE. -/
  | glbPaceRead
  /-- LMP_EVAL_READ (R479): A read of LMP_EVAL returns MAX_US and reloads it with 0. -/
  | lmpEvalRead
  /-- CHANGE_NOTICE_POST (R159): The change notices of an application are posted on ring 3 in address order once ring 3 has room. -/
  | changeNoticePost
  /-- CYCLE_BOUNDARY (R202): At a cycle boundary the cycle number advances, schedules are decided and the charge of running ladles starts. -/
  | cycleBoundary
  /-- COMMIT_DEADLINE (R212): At the commit deadline the cycle commits if every running ladle has reached END, and otherwise overruns. -/
  | commitDeadline
  /-- TICK_BOUNDARY (R227): At a tick boundary the lamp engine latches targets and evaluates every configured channel into the moulds. -/
  | tickBoundary
  /-- POUR (R242): At the pour stamp the lamp engine writes CH_LEVEL and CH_WORD of poured channels as one application. -/
  | pour
  /-- LUM_RUN_WRITE (R237): Every 3,600 s of run time LUM_RUN is written and the maintenance factor recomputed. -/
  | lumRunWrite
  /-- TIME_FRAME_DUE (R301): Every TIME_MS a TIME frame is queued for the next TIME entry on every trunk. -/
  | timeFrameDue
  /-- KEY_ANNOUNCE (R285): After every node has acknowledged or 10 s have passed, the generation change is announced in POUR frames. -/
  | keyAnnounce
  /-- GENERATION_GRACE_END (R285): Ten seconds after the switch, frames of the old generation are discarded. -/
  | generationGraceEnd
  /-- TIM_STEP_GO (R344): A write of 1 to TIM_STEP.GO steps the wall base by the programmed amount, or is ignored with STEP_REJ. -/
  | timStepGo
  /-- HOLDOVER_ENTRY (R350): No Sync is accepted for 8 Sync intervals from LOCKED and the servo enters HOLDOVER. -/
  | holdoverEntry
  /-- CALENDAR_SECOND (R362): Each calendar second the alarms are evaluated and the time points written as one application. -/
  | calendarSecond
  /-- CALENDAR_FOLLOW (R357): Every 64 s the calendar is compared with the wall base and a difference above 2 ms is stepped out. -/
  | calendarFollow
  /-- LEAP_SECOND (R358): At the end of the UTC day a leap second is inserted or deleted and TAI − UTC changes. -/
  | leapSecond
  /-- RTC_COMMIT_GO (R356): A write of 1 to RTC_COMMIT.GO requests the staged time at the next crystal tick. -/
  | rtcCommitGo
  /-- RTC_COMMIT_FROM_WALL (R356): A write of 1 to RTC_COMMIT.FROM_WALL requests the calendar from the next whole wall second, or is ignored with CMT_REJ. -/
  | rtcCommitFromWall
  /-- CALENDAR_STEP (R356): A staged or wall-derived time is loaded into the calendar and periodic events and alarms are re-evaluated. -/
  | calendarStep
  /-- CHARGER_FAULT (R365): VBAK stays below 1.0 V after 60 s of charging and the charger switches off with CHG_FAULT. -/
  | chargerFault
  /-- ACCUMULATOR_WRITE (R381): Once per second the accumulator integer parts are written to the crucible. -/
  | accumulatorWrite
  /-- INTERVAL_BOUNDARY (R382): At an interval boundary every channel's interval closes and the next opens. -/
  | intervalBoundary
  /-- INTERVAL_RECORD (R384): An interval record is formed, archived, posted on ring 5 and written to the crucible history. -/
  | intervalRecord
  /-- EVR_WINCTL_NEXT (R404): A write of 1 to EVR_WINCTL.NEXT starts a copy of the records after the current copy. -/
  | evrWinctlNext
  /-- EVR_WINDOW_READY (R404): The window copy completes and READY, COUNT and WINFIRST are set. -/
  | evrWindowReady
  /-- EVS_DELIVERY (R406): Event records at or above RING_MIN are delivered on ring 4 in sequence as room allows. -/
  | evsDelivery
  /-- PEER_BEACON_DUE (R431): Every BEACON_MS a unit sends a peer BEACON and a witness HEARTBEAT. -/
  | peerBeaconDue
  /-- HEALTH_DUE (R429): Under protocol 3 the standby sends HEALTH and a ring 13 health entry every 1 s. -/
  | healthDue
  /-- WITNESS_HOLDING_END (R436): Two loss times after a witness restart, HOLDING ends and grants resume. -/
  | witnessHoldingEnd
  /-- PEER_LOSS (R422): A standby with no valid peer BEACON for LOSS_MS sends REQUEST with reason TAKEOVER. -/
  | peerLoss
  /-- ISOLATED (R415): An ACTIVE unit with neither peer BEACON nor witness STATUS for ISOLATE_MS sets ISOLATED and runs on. -/
  | isolated
  /-- SEEDING_PEER_LISTEN_END (R416): After 100 ms of peer listening a SEEDING unit sends SEED_REQ or REQUEST START. -/
  | seedingPeerListenEnd
  /-- WITNESS_NO_ANSWER (R416): No witness answer within 200 ms leads to a self-grant or to repeated requests. -/
  | witnessNoAnswer
  /-- REQUEST_REPEAT (R416): An unanswered REQUEST is repeated with the same nonce. -/
  | requestRepeat
  /-- ROTATION_DUE (R425): The rotation interval expires and the active hands over if the standby is ready. -/
  | rotationDue
  /-- HANDOVER_TICK (R426): At tick T the old active stops and becomes STANDBY if READY arrived by T − 1 ms, and the new active begins. -/
  | handoverTick
  /-- HANDOVER_DELTA_TIMEOUT (R426): If the old active's last DELTA has not arrived by T + 15 ms the new active evaluates from the state it holds. -/
  | handoverDeltaTimeout
  /-- CONFIRM_TIMEOUT (R427): Without CONFIRM by T + tick + P + 20 ms the old active sends REQUEST with reason REVERT. -/
  | confirmTimeout
  /-- STATEMENT_SIGNED (R458): A statement is signed and placed whole in the buffer and the BAR4 window. -/
  | statementSigned
  /-- LC_ZEROISE (R453): One millisecond after an accepted transition every slot, root, cache and derived key is cleared. -/
  | lcZeroise
  /-- LC_TRANSITION_END (R453): The key store flash is erased and verified and the new life-cycle state written. -/
  | lcTransitionEnd
  /-- ACTIVATE_PAUSE_START (R469): At the tick boundary the pause begins, rings pause and the management cores restart in the new pattern. -/
  | activatePauseStart
  /-- ACTIVATE_PAUSE_END (R469): The new pattern accepts the running configuration and rings resume, or it rolls back or flushes. -/
  | activatePauseEnd
  /-- TRIAL_TIMEOUT (R468): TRIAL_S seconds of running with AUTOCONFIRM set confirm the trial pattern. -/
  | trialTimeout
  /-- FETTLE_REGION_START (R133): Every PERIOD ms fettling saves the next region and starts its March C− test. -/
  | fettleRegionStart
  /-- RISER_OK (R42): The charging riser's voltage crosses GLB_RISERREADY, so GLB_STATUS.RISER_OK changes, which decides whether PAT_ACTIVATE is refused with LOW_ENERGY. -/
  | riserOk
  /-- WALL_CLOCK_HOUR (R328): A new wall-clock hour begins, the per-node wake_max counts reset, and wake-up calls held for the next hour are sent. -/
  | wallClockHour
  deriving DecidableEq, Repr

end Sys2Proof
end

