-- ==== Sys2Proof/Decode.lean ====
section
/-!
DEFINITION. The commands that a word spells: none. The opcode table gives no row any bits: a command reaches the module as a ring entry, a register
access, a frame or an event, whose fields the constructors of `Instr` carry. (The 32-bit words of the ladle instructions are decoded by `LIns.decode`
when a program is loaded, R193.)
-/
set_option linter.unusedVariables false
namespace Sys2Proof

/-- The command that a word of `nbits` bits spells by the table's bits: the table gives bits to no row. -/
def decodeTableWord (nbits w : Nat) : Option Instr := none

end Sys2Proof
end

