-- ==== Sys2Proof/Machine/Bits.lean ====
section
/-!
DEFINITION. Bit fields, byte order, sign extension and the two cyclic redundancy checks. Layouts in host memory and in
configuration images are little-endian, frames are big-endian (R10); bit 0 is the least significant bit (R11).
-/
set_option linter.unusedVariables false
namespace Sys2Proof.Machine

/-- Bits `lo` to `lo + w - 1` of a number (R11). -/
def bitsOf (x lo w : Nat) : Nat := x / 2 ^ lo % 2 ^ w

/-- `x` with its bits `lo` to `lo + w - 1` replaced by `v`. -/
def putBits (x lo w v : Nat) : Nat := x - bitsOf x lo w * 2 ^ lo + v % 2 ^ w * 2 ^ lo

/-- Bit `k` of a number. -/
def bitOf (x k : Nat) : Bool := x / 2 ^ k % 2 == 1

/-- A Boolean as a bit. -/
def bit (b : Bool) : Nat := if b then 1 else 0

/-- `n` bytes of `v`, least significant first (R10). -/
def le : Nat → Nat → List Byte
  | 0, _ => []
  | n + 1, v => BitVec.ofNat 8 v :: le n (v / 256)

/-- `n` bytes of `v`, most significant first: the order of frames (R10). -/
def be (n v : Nat) : List Byte := (le n v).reverse

/-- The number that bytes spell, least significant first. -/
def ofLe : List Byte → Nat
  | [] => 0
  | b :: bs => b.toNat + 256 * ofLe bs

/-- The number that bytes spell, most significant first. -/
def ofBe (bs : List Byte) : Nat := ofLe bs.reverse

/-- Bytes `off` to `off + n - 1`; bytes beyond the end are missing. -/
def slice (bs : List Byte) (off n : Nat) : List Byte := (bs.drop off).take n

/-- The little-endian field of `n` bytes at `off`; bytes beyond the end read 0. -/
def fieldLe (bs : List Byte) (off n : Nat) : Nat := ofLe (slice bs off n)

/-- The big-endian field of `n` bytes at `off`. -/
def fieldBe (bs : List Byte) (off n : Nat) : Nat := ofBe (slice bs off n)

/-- Bytes padded with zeros, or cut, to `n`. -/
def padTo (n : Nat) (bs : List Byte) : List Byte := (bs ++ List.replicate (n - bs.length) 0).take n

/-- Are all bytes zero? -/
def allZero (bs : List Byte) : Bool := bs.all (· == 0)

/-- The signed value of a `w`-bit field (two's complement). -/
def sext (w x : Nat) : Int := if x % 2 ^ w < 2 ^ (w - 1) then (x % 2 ^ w : Nat) else (x % 2 ^ w : Nat) - (2 ^ w : Nat)

/-- The two's complement `w`-bit code of an integer. -/
def ofInt (w : Nat) (x : Int) : Nat := (x % (2 ^ w : Nat)).toNat

/-- An integer held between two bounds. -/
def clampInt (lo hi x : Int) : Int := if x < lo then lo else if hi < x then hi else x

/-- A number held between two bounds. -/
def clampNat (lo hi x : Nat) : Nat := if x < lo then lo else if hi < x then hi else x

/-- `a + n` on a counter of 32 bits: counts run modulo 2^32. -/
def addMod32 (a n : Nat) : Nat := (a + n) % 2 ^ 32

/-- The difference modulo 2^32. -/
def subMod32 (a n : Nat) : Nat := (a + 2 ^ 32 - n % 2 ^ 32) % 2 ^ 32

/-- The signed difference of two 32-bit sequence numbers, (int32)(a - b) (R65, R400). -/
def seqDiff (a b : Nat) : Int := sext 32 (a + 2 ^ 32 - b % 2 ^ 32)

/-- One bit of CRC-32C, reflected (polynomial 0x1EDC6F41, PRESUMED: the Castagnoli CRC as it is generally defined). -/
def crcBit (c : Nat) : Nat := if c % 2 = 1 then (c / 2) ^^^ 0x82F63B78 else c / 2

/-- One byte of CRC-32C. -/
def crcByte (c : Nat) (b : Byte) : Nat :=
  crcBit (crcBit (crcBit (crcBit (crcBit (crcBit (crcBit (crcBit (c ^^^ b.toNat))))))))

/-- CRC-32C of a list of bytes (R62, R399). -/
def crc32c (bs : List Byte) : Nat := (bs.foldl crcByte 0xFFFFFFFF) ^^^ 0xFFFFFFFF

end Sys2Proof.Machine
end

