-- ==== Sys2Proof/Machine/StHost.lean ====
section
/-!
DEFINITION. The state of the host interface: PCIe, the rings with their runners and tundishes, commands in progress, and the
four transaction slots. Registers stand in the register map of State; what is here is what the spec gives these units beyond them.
-/
set_option linter.unusedVariables false
namespace Sys2Proof.Machine

/-! ### The host interface: PCIe, rings, tundishes (R75 to R103, R117 to R139) -/

/-- The PCIe function as the module sees it (R75, R78, R82). -/
structure Pcie where
  /-- Bus Master Enable; 0 after module reset (R78). -/
  bme : Bool := false
  /-- The function is in D3hot (R78). -/
  d3hot : Bool := false
  /-- MSI-X Enable of configuration space; disabled after module reset (R82). -/
  msixEnable : Bool := false
  /-- Max Payload Size and Max Read Request Size in bytes (R75); 128 and 512 at reset (PRESUMED, PCIe Base 3.0). -/
  mps : Nat := 128
  mrrs : Nat := 512
  /-- Enable Relaxed Ordering of Device Control (R76); 1 at reset (PRESUMED, PCIe Base 3.0). -/
  ro : Bool := true
  /-- Function Mask of the MSI-X capability (R82, PCIe Base 3.0 MSI-X layout). -/
  fmask : Bool := false
  deriving DecidableEq, Repr

/-- A packet on its way to the host: payload written into command buffers, then the ring entry, if one is posted (R92, R125). -/
structure OutPkt where
  payload : List (Nat × List Byte)
  entry : Option (List Byte)
  /-- A burst of the packet has left: the packet is being read from the tundish (R127). -/
  started : Bool := false
  deriving DecidableEq, Repr

/-- One completed command in a ring's command-ID record (R98). -/
structure CmdRec where
  cmdId : Word
  status : Nat
  result0 : Word
  result1 : Word
  deriving DecidableEq, Repr

/-- What a ring, its runner and its tundish hold beyond their registers (R85 to R98, R118 to R127). -/
structure RingSt where
  /-- Entries taken or produced since the last writeback (R89). -/
  uncovered : Nat := 0
  /-- Monotonic ns of the first entry not yet covered by a writeback (R89). -/
  firstAt : Nat := 0
  /-- Entries discarded since the ring was enabled, modulo 65,536 (R88). -/
  lost : Nat := 0
  /-- The next entry posted carries the loss flag (R103); it stands through disable, enable and Function Level Reset. -/
  loss : Bool := false
  /-- Packets in the tundish of a module-to-host ring, oldest first (R124, R125). -/
  outq : List OutPkt := []
  /-- Bytes of the front entry that earlier bursts have moved (R117). -/
  sent : Nat := 0
  /-- Bytes of the next descriptor that read bursts have fetched: its entry, then its input buffer (R117). -/
  rd : Nat := 0
  /-- The input buffer of that descriptor, known once its entry is read: address and length, 0 where the module reads none. -/
  rdBuf : Option (Nat × Nat) := none
  /-- Monotonic ns before which the rate limiter holds the runner (R121). -/
  nextOk : Nat := 0
  /-- A tundish flush waits for the next packet boundary (R127). -/
  flushReq : Bool := false
  /-- A doorbell written before READY and held until then (R87). -/
  dbHeld : Option Word := none
  /-- The 1,024 most recently completed commands with an ID, newest first (R98). -/
  done : List CmdRec := []
  /-- Commands with an ID taken and not yet completed (R98). -/
  openIds : List Word := []
  /-- Sequence of ring 13 entries produced (R138); used on ring 13 only. -/
  diaSeq : Nat := 0
  /-- A writeback is owed and waits for Bus Master Enable in D0 (R78, R85). -/
  wbOwed : Bool := false
  /-- Repeats answered from the record (R98). -/
  repeats : Nat := 0
  deriving DecidableEq, Repr

/-- The identity of a command in progress: where its completion goes and what it echoes (R100). -/
structure CmdTag where
  ring : Nat
  sq : Nat
  cmdId : Word
  op : Nat
  txn : Nat
  cplReq : Bool
  /-- A Function Level Reset or link down has come since: the completion is not posted (R78). -/
  mute : Bool := false
  deriving DecidableEq, Repr

/-- A packet held in the tundish of a host-to-module ring, waiting for earlier commands of its ring (FENCE, R90, R92). -/
structure Held where
  ring : Nat
  sq : Nat
  /-- The packet carries FENCE. -/
  fence : Bool
  /-- Bytes of its command buffer that the tundish holds (R120). -/
  bytes : Nat
  /-- What its completion echoes. -/
  tag : CmdTag
  cmd : Instr
  /-- For SYNC: the commands taken before it that have not completed (R96). -/
  before : List CmdTag := []
  deriving DecidableEq, Repr

/-! ### Transactions (R104 to R116) -/

/-- A range of a loadable table (R108): ladle tables, lamp records, gate lists, metering calibration, node tables. -/
inductive TableId where
  | ladle (n : Nat)
  | lampRecord
  | gates (p : Nat)
  | calibration
  | cznNodes
  | radioNodes
  deriving DecidableEq, Repr

/-- A change of a key slot (R108, R459): the attribute word and the key or path written, or the slot cleared. -/
inductive KeyChange where
  | set (attr : Word) (sendDelay : Nat) (data : List Byte)
  | clear
  deriving DecidableEq, Repr

/-- One staged change of a transaction (R108). -/
inductive Change where
  /-- A point write with its quality (R155). -/
  | point (addr : Nat) (value : Word) (quality : Nat)
  /-- A force set (R162). -/
  | force (addr : Nat) (value : Word) (quality : Nat)
  /-- A force removed (R164). -/
  | unforce (addr : Nat)
  /-- A masked register write (R106). -/
  | reg (off : Nat) (value mask : Word)
  /-- A table load: bytes at an offset of a table (R108). -/
  | table (t : TableId) (off : Nat) (bytes : List Byte)
  /-- A key slot change (R459). -/
  | key (slot : Nat) (k : KeyChange)
  /-- A ladle program, complete, from pieces (R200); `none` unloads the ladle. -/
  | program (n : Nat) (image : Option (List Byte))
  /-- Control-cycle settings (R224): P, M, O and EBB_BUDGET, or the schedule entry of a ladle (R205). -/
  | cycSetup (period margin offset : Nat) (budget : Bool)
  | cycSched (n : Nat) (entry : List Byte)
  /-- A complete configuration image (R67, R217). -/
  | image (bytes : List Byte)
  deriving DecidableEq, Repr

/-- States of a transaction slot (TXN[s]_STATE). -/
inductive TxnPhase where
  | free | opened | waiting | applying
  deriving DecidableEq, Repr

/-- A block transfer (R466): the total length and the blocks taken, the latest first. -/
structure PatLoad where
  total : Nat
  blocks : List (Nat × List Byte)
  deriving DecidableEq, Repr

/-- One transaction slot (R104 to R113). -/
structure TxnSlot where
  phase : TxnPhase := .free
  tag : Nat := 0
  online : Bool := false
  /-- Opened with LOCAL (R105). -/
  isLocal : Bool := false
  doomed : Bool := false
  /-- Commit point requested: 0 none, 1 IMMEDIATE, 2 CYCLE, 3 STAMP. -/
  point : Nat := 0
  stamp : Nat := 0
  /-- Pieces of ladle programs not yet complete: ladle, total length, offset, bytes (R200). -/
  pieces : List (Nat × Nat × Nat × List Byte) := []
  /-- The configuration load of the transaction (R467). -/
  load : Option PatLoad := none
  /-- Staged changes in the order of their acceptance, replacements made (R105). -/
  changes : List Change := []
  /-- Monotonic ns at which a staging command last named the transaction (R107). -/
  named : Nat := 0
  /-- Rank of the TXN_COMMIT among those taken (R113). -/
  rank : Nat := 0
  /-- Monotonic ns of the commit deadline from which the CYCLE wait counts (R112). -/
  waitFrom : Option Nat := none
  deriving DecidableEq, Repr

/-! ### Commands that wait (R92, R97) -/

/-- Why a command that has been taken has not yet completed. -/
inductive WaitKind where
  /-- TXN_COMMIT waits for its commit point (R112). -/
  | txnCommit (slot : Nat)
  /-- An untagged host write or force waits for the end of the charge (R207). -/
  | charge
  /-- SYNC waits for the commands taken before it (R96). -/
  | sync (before : List CmdTag)
  /-- TUN_FLUSH waits for the packet boundary of a tundish (R139). -/
  | tunFlush (n : Nat)
  /-- An untagged LDL_TABLE waits for the idle interval of its ladle, since a monotonic ns (R131, R200). -/
  | ldlTable (n first : Nat) (words : List Byte) (since : Nat)
  /-- An untagged CYC_SETUP waits for the next boundary (R224). -/
  | cycSetup (period margin offset : Nat) (budget : Bool)
  /-- An untagged CYC_SCHED waits for the next boundary (R224). -/
  | cycSched (n : Nat) (entry : List Byte)
  /-- CYC_HOLD waits for the first held boundary (R224). -/
  | cycHold
  /-- CZN_RESEAT waits for the reseat of node N, until a monotonic ns (R310). -/
  | cznReseat (node : Nat) (until_ : Nat)
  /-- CZN_REKEY waits for the switch (R310). -/
  | cznRekey
  /-- RAD_WAKE waits for the node's answer (R339). -/
  | radWake (node : Nat) (until_ : Nat)
  /-- TRK_SEND waits for a gate window, until a monotonic ns. -/
  | trkSend (port : Nat) (until_ : Nat)
  /-- TRK_GATES waits for the next gate cycle (R268, R275). -/
  | trkGates (port : Nat)
  /-- TIM_SETINCR waits for the next tick (R343). -/
  | setIncr
  /-- RTC_SET waits for the crystal tick of its commit (R356). -/
  | rtcSet
  /-- RTC_FROM_WALL waits for the next whole wall second (R356). -/
  | rtcFromWall
  /-- MTR_PRESET waits for the next sample (R396). -/
  | mtrPreset (channel reg : Nat) (value : Nat)
  /-- MTR_CLOSE waits for the interval records. -/
  | mtrClose
  /-- EVR_SYNC waits for a sequence number to reach flash (R408), since a monotonic ns. -/
  | evrSync (seq : Nat) (since : Nat)
  /-- RDN_ROTATE waits for the handover (R439). -/
  | rdnRotate
  /-- RDN_RESEED or RDN_YIELD waits for its answer. -/
  | rdnOther
  /-- KEY_ATTEST waits for the signature (R456). -/
  | keyAttest (nonce : List Byte) (addr len : Nat)
  /-- PAT_ACTIVATE waits for the pause (R469). -/
  | patActivate (pauseOk rollback : Bool)
  /-- PAT_VERIFY waits for the check (R463). -/
  | patVerify
  deriving DecidableEq, Repr

/-- A command that has been taken and waits (R92). -/
structure Wait where
  tag : CmdTag
  kind : WaitKind
  deriving DecidableEq, Repr

end Sys2Proof.Machine
end

