-- ==== Sys2Proof/Machine/StPoint.lean ====
section
/-!
DEFINITION. The crucible: point records, forces, subscriptions and change notices (R140 to R168).
-/
set_option linter.unusedVariables false
namespace Sys2Proof.Machine

/-- The stored part of a point record (R146): value, quality, writer and stamp, and the PENDING flag (R161). The type and the
configuration's flags come from the running configuration, FORCED, ORPHAN and SUBSCRIBED from the forces and subscriptions. -/
structure PtRec where
  value : Word := 0
  quality : Nat := 4
  pending : Bool := false
  writer : Nat := 0
  stamp : Nat := 0
  deriving DecidableEq, Repr

/-- A force (R162 to R166): the underlying record is the latest absorbed write. -/
structure Force where
  value : Word
  quality : Nat
  orphan : Bool
  under : Option PtRec
  absorbed : Nat
  setStamp : Nat
  deriving DecidableEq, Repr

/-- A subscription (R157). `refs` holds, for a point that an application has touched, the value last notified or else the value
at the moment of the subscription; a point without an entry still has that value. -/
structure Sub where
  mode : Nat
  first : Nat
  count : Nat
  deadband : Word
  refs : List (Nat × Word)
  deriving DecidableEq, Repr

/-- A change notice not yet posted (R158): its subscription, address, flags beyond LOSS, batch and the 16-byte record. -/
structure Notice where
  sub : Nat
  addr : Nat
  flags : Nat
  batch : Nat
  record : List Byte
  deriving DecidableEq, Repr

/-- A point write on its way into an application: address, value, quality, writer, stamp. `keepStamp` marks a change of quality
alone (R151, R160). -/
structure PtWrite where
  addr : Nat
  value : Word
  quality : Nat
  writer : Nat
  stamp : Nat
  deriving DecidableEq, Repr

/-- A point type with its coding (R147) and what may write the point. -/
structure PtInfo where
  /-- Type code of R147, 0 for NONE. -/
  typ : Nat
  /-- Maximum of an ENUM point. -/
  enumMax : Nat
  input : Bool
  output : Bool
  /-- Written by the module alone (R142, R143, R144). -/
  modOnly : Bool
  dflt : Word
  deriving DecidableEq, Repr

/-- One range entry of the point defaults section (R485). -/
structure PtRange where
  first : Nat
  count : Nat
  typ : Nat
  input : Bool
  output : Bool
  enumMax : Nat
  dflt : Word
  deriving DecidableEq, Repr

/-- One operation of an application. -/
inductive PtOp where
  /-- A write of value, quality, writer and stamp (R151). -/
  | write (w : PtWrite)
  /-- A change of quality alone: the stamp stays (R151, R160). -/
  | quality (a q : Nat)
  /-- PENDING set or cleared (R161). -/
  | pending (a : Nat) (p : Bool)
  /-- A force set at a stamp (R162). -/
  | force (a : Nat) (value : Word) (q : Nat) (stamp : Nat)
  /-- A force removed (R164). -/
  | unforce (a : Nat)
  /-- ORPHAN set or cleared (R165). -/
  | orphan (a : Nat) (o : Bool)
  deriving DecidableEq, Repr

end Sys2Proof.Machine
end

