-- ==== Sys2Proof/Machine/StTrunk.lean ====
section
/-!
DEFINITION. The trunk and gigabit ports (R258 to R277) and the Carzon engine (R278 to R312): what they hold beyond their registers.
-/
set_option linter.unusedVariables false
namespace Sys2Proof.Machine

/-- What the module emits. -/
inductive Out where
  /-- An MSI-X message: vector, address, data (R82). -/
  | msix (vector addr : Nat) (data : Word)
  /-- A memory write request to the host: address, bytes, its Relaxed Ordering and No Snoop attributes (R76). -/
  | memWrite (addr len : Nat) (relaxed noSnoop : Bool)
  /-- A frame on a trunk: port, gate class, its bytes from the destination address on, without FCS. -/
  | trunk (port cls : Nat) (frame : List Byte)
  /-- A frame on a gigabit port: 0 peer, 1 site. -/
  | eth (port : Nat) (frame : List Byte)
  /-- A radio PSDU: channel and its bytes, without FCS. -/
  | radio (chan : Nat) (psdu : List Byte)
  /-- A wake-up call: channel and bytes (R325). -/
  | wake (chan : Nat) (call : List Byte)
  /-- A PTP message: port, kind (0 Sync, 1 Follow_Up, 2 Announce, 3 Delay_Req, 4 Delay_Resp, 5 Pdelay_Req, 6 Pdelay_Resp, 7
  Pdelay_Resp_Follow_Up), the time it carries in units of 2^-32 ns. -/
  | ptp (port kind time : Nat)
  /-- The leading edge of a pulse on a driven output (R391). -/
  | pulse (output : Nat)
  /-- A PLCA beacon sequence starts on a trunk as coordinator. -/
  | plca (port : Nat)
  deriving DecidableEq, Repr

/-- A node entry of the node table (R309). -/
structure CznEntry where
  n : Nat
  profile : Nat
  minVersion : Nat
  uid : Nat
  hold : Nat
  fallback : Nat
  reportLen : Nat
  deriving DecidableEq, Repr

/-- The node table section (R309). A profile is one type code per offset +0x100 to +0x4FF, then +0x500 to +0x6FF. -/
structure CznCfg where
  v2 : Bool := false
  timeMs : Nat := 1000
  profiles : List (List Nat) := []
  nodes : List CznEntry := []
  deriving DecidableEq, Repr

/-- Settings of one trunk port in the configuration (R486). -/
structure TrunkPortCfg where
  enable : Bool
  mult : Nat
  len : Nat
  gates : List Nat
  deriving DecidableEq, Repr

/-- A module frame with ACK_REQ that has not been acknowledged (R288). -/
structure CznUnacked where
  counter : Nat
  typ : Nat
  cls : Nat
  frame : List Byte
  sentAt : Nat
  tries : Nat
  /-- OUTPUT: the offsets it carries. RESEAT: the pour it names. KEYS: the generation. -/
  carries : List Nat
  deriving DecidableEq, Repr

/-- A receive window (R287): discovery or the rest, generation, highest counter accepted, its 32 bits. -/
structure CznWindow where
  disc : Bool
  gen : Nat
  hi : Nat
  win : Nat
  deriving DecidableEq, Repr

/-- A row node as the module holds it (R307). -/
structure CznNode where
  /-- NODE_STATE. -/
  state : Nat := 0
  version : Nat := 0
  width : Nat := 0
  maxWidth : Nat := 0
  tMeas : Nat := 0
  pwm : Nat := 0
  lums : Nat := 0
  /-- K_nr, kept from admission (R451). -/
  key : List Byte := []
  windows : List CznWindow := []
  /-- Highest counter received under any key (R310). -/
  hiCounter : Nat := 0
  lastHeard : Nat := 0
  lastStamp : Nat := 0
  unacked : List CznUnacked := []
  /-- Cause of the reseat in progress (R312), and the pour its image names; 0 cause means none. -/
  cause : Nat := 0
  reseatSeq : Option Nat := none
  /-- The node has acknowledged KEYS of the generation being distributed (R285). -/
  keysAcked : Bool := false
  /-- Committed outputs not yet carried by an OUTPUT frame (R300), as block offsets. -/
  outputs : List Nat := []
  /-- Entries were sent to it for the pour ordered last (R296 node_mask). -/
  sentSeq : Option Nat := none
  /-- The roll-call REPORT of the pour ordered last has come (R299). -/
  reported : Bool := false
  flags : Nat := 0
  repeats : Nat := 0
  authFail : Nat := 0
  /-- Learnt MAC address. -/
  mac : List Byte := []
  /-- What its reseat image holds: channel, word and level (R242). -/
  image : List (Nat × Nat × Nat) := []
  /-- Bodies of the RESEAT frames of its image that are still to be sent (R306). -/
  parts : List (List Byte) := []
  deriving DecidableEq, Repr

/-- What waits for a gate entry (R269). A Carzon frame is numbered and sealed when it starts. -/
inductive TxKind where
  /-- A host frame from its destination address, without FCS, with the command that waits (R275). -/
  | host (bytes : List Byte) (tag : CmdTag)
  /-- A frame sent again unchanged (R288). -/
  | again (bytes : List Byte)
  /-- A Carzon frame to node `n`: type, key class, a generation where it is fixed, flags, body, what it carries. -/
  | node (n typ kcls : Nat) (gen : Option Nat) (flags : Nat) (body : List Byte) (carries : List Nat)
  /-- A TIME frame (R301). -/
  | time
  deriving DecidableEq, Repr

/-- A frame that waits for a gate entry, with its class (R269). -/
structure TxFrame where
  cls : Nat
  kind : TxKind
  deriving DecidableEq, Repr

/-- A gate list as it runs (R267): MULT and the entries' durations in µs and masks. -/
structure GateList where
  mult : Nat := 1
  entries : List (Nat × Nat) := []
  deriving DecidableEq, Repr

/-- A trunk port. -/
structure TrunkPort where
  /-- The port beacons as coordinator. -/
  beacons : Bool := false
  /-- Monotonic ns at which it began to listen before beaconing (R259, R261); none while it does not listen. -/
  listen : Option Nat := none
  /-- Monotonic ns of the beacons heard in the last 1 ms. -/
  heardAt : List Nat := []
  /-- The gate list that runs, whether it is the factory list, and the next cycle's list and mark if one waits (R268). -/
  gates : GateList := {}
  fallback : Bool := false
  fresh : Option (GateList × Bool) := none
  /-- The entry that runs, its mask, and the monotonic ns at which it closes; the entry that opens next and when. None while no gate cycle runs. -/
  entry : Nat := 0
  mask : Nat := 0
  close : Nat := 0
  nextE : Nat := 0
  nextAt : Option Nat := none
  /-- Monotonic ns until which the port is sending. -/
  busyTo : Nat := 0
  queue : List TxFrame := []
  /-- Group keys by generation (R282). -/
  groupKeys : List (Nat × List Byte) := []
  /-- TIME frames sent, the corrected transmit stamp of the last one with its extension, and when the next is due (R301). -/
  timeSeq : Nat := 0
  prevTx : Option (Nat × Nat) := none
  timeAt : Nat := 0
  /-- Node IDs heard in the roll-call cycle in progress as a mask by i - 2, and whether one is in progress (R263). -/
  heard : Nat := 0
  rollCall : Bool := false
  /-- Instants of the authentication failures of the last second, and that of the last AUTH_FAIL event (R312). -/
  auth : List Nat := []
  authAt : Option Nat := none
  /-- Instants of the foreign beacons of the last second, and that of the last DUAL_COORD event (R261, R277). -/
  foreign : List Nat := []
  foreignAt : Option Nat := none
  /-- The pour whose POUR frame the open POUR entry is to carry and has not carried yet: its instant and sequence (R269). -/
  pourDue : Option (Nat × Nat) := none
  /-- Pour sequence of the last POUR frame sent. -/
  pourFor : Option Nat := none
  /-- It still sends under the generation before the switch, until its own POUR frame of the switch (R285). -/
  lags : Bool := false
  /-- Node IDs sent a section or image for the pour of a sequence (R296). -/
  nodeMask : Nat := 0
  maskSeq : Nat := 0
  deriving DecidableEq, Repr

/-- A gigabit port. -/
structure EthPort where
  /-- Transmission is stopped until this monotonic ns by a received PAUSE (R273). -/
  pausedTo : Option Nat := none
  cappedAt : Option Nat := none
  /-- What waits for the end of the stop. -/
  queue : List Out := []
  deriving DecidableEq, Repr

/-- The Carzon engine as a whole. -/
structure Czn where
  nodes : List (Nat × CznNode) := []
  ports : List (Nat × TrunkPort) := []
  eths : List (Nat × EthPort) := []
  /-- Monotonic ns at which the distribution of a new generation began, and at which its grace ends (R285). -/
  rekeyAt : Nat := 0
  graceAt : Nat := 0
  /-- Sequence of ring 9 entries (R274). -/
  seq9 : Nat := 0
  /-- Receive windows of the UIDs that no node table holds, for trunks and radio (R287). -/
  strangers : List (Nat × List CznWindow) := []
  deriving DecidableEq, Repr

end Sys2Proof.Machine
end

