-- ==== Sys2Proof/Machine/Gate.lean ====
section
/-!
DEFINITION. Gate lists (R266 to R268): their form, their validity at a tick, and the factory list.
-/
set_option linter.unusedVariables false
namespace Sys2Proof.Machine

/-- Class bits of a gate mask (R266): POUR, MOULD, TIME, CTRL, MGMT. -/
def Gate.pour : Nat := 0
def Gate.mould : Nat := 1
def Gate.time : Nat := 2
def Gate.ctrl : Nat := 3
def Gate.mgmt : Nat := 4

/-- Starts and ends of the entries of a cycle, from durations. -/
def gateSpans : Nat → List (Nat × Nat) → List (Nat × Nat × Nat)
  | _, [] => []
  | at_, (d, m) :: es => (at_, at_ + d, m) :: gateSpans (at_ + d) es

/-- The fill of a list in µs (R267). -/
def GateList.fill (g : GateList) (tickMs : Nat) : Int :=
  (g.mult * tickMs * 1000 : Nat) - (((g.entries.drop 1).map (·.1)).sum : Nat)

/-- The entries with the fill in place. -/
def GateList.spans (g : GateList) (tickMs : Nat) : List (Nat × Nat × Nat) :=
  match g.entries with
  | [] => []
  | (_, m) :: es => gateSpans 0 (((g.fill tickMs).toNat, m) :: es)

/-- An entry that is a POUR entry: its mask is POUR alone. -/
def pourEntry (e : Nat × Nat × Nat) : Bool := e.2.2 == 1

/-- Length, MULT and fill are in range (R267). -/
def GateList.fillRule (g : GateList) (tickMs : Nat) : Bool :=
  decide (1 ≤ g.entries.length ∧ g.entries.length ≤ 64) && decide (1 ≤ g.mult) && decide (g.mult * tickMs ≤ 1000) && decide (1000 ≤ g.fill tickMs)

/-- The POUR entries that touch tick `i` of a cycle. -/
def poursIn (sp : List (Nat × Nat × Nat)) (tick i : Nat) : List (Nat × Nat × Nat) :=
  sp.filter fun e => pourEntry e && decide (e.1 < (i + 1) * tick ∧ i * tick < e.2.1)

/-- Each tick holds exactly one POUR entry, long enough, wholly in it and well before its end, and no other entry has the POUR bit (R267). -/
def GateList.pourRule (g : GateList) (tickMs : Nat) : Bool :=
  let tick := tickMs * 1000
  let sp := g.spans tickMs
  sp.all (fun e => pourEntry e || e.2.2 % 2 == 0)
    && (List.range g.mult).all fun i =>
      match poursIn sp tick i with
      | [e] => decide (i * tick ≤ e.1) && decide (e.1 + 500 ≤ e.2.1) && decide (e.2.1 + 1000 ≤ (i + 1) * tick)
      | _ => false

/-- Each tick holds an entry with the MOULD bit before its POUR entry (R267). -/
def GateList.mouldRule (g : GateList) (tickMs : Nat) : Bool :=
  let tick := tickMs * 1000
  let sp := g.spans tickMs
  (List.range g.mult).all fun i =>
    match poursIn sp tick i with
    | e :: _ => sp.any fun m => m.2.2 / 2 % 2 == 1 && decide (i * tick < m.2.1 ∧ m.1 < e.1 ∧ m.2.1 ≤ e.1)
    | [] => false

/-- The rule that the list breaks at a tick: 1 fill, 2 POUR entry, 3 MOULD entry; 0 for a valid list (R267, R277). -/
def GateList.failing (g : GateList) (tickMs : Nat) : Nat :=
  if !g.fillRule tickMs then 1 else if !g.pourRule tickMs then 2 else if !g.mouldRule tickMs then 3 else 0

/-- Is the list valid at a tick (R267)? -/
def GateList.ok (g : GateList) (tickMs : Nat) : Bool := g.failing tickMs == 0

/-- The factory list for a tick in ms (R268). -/
def factoryGates (tickMs : Nat) : GateList :=
  let fill := min (tickMs * 2 / 5) (tickMs - 7)
  { mult := 1
    entries := [(fill * 1000, 2 ^ 2 + 2 ^ 3 + 2 ^ 4), ((tickMs - fill - 6) * 1000, 2 + 2 ^ 3), (1000, 2 ^ 2 + 2 ^ 3 + 2 ^ 4), (2000, 1),
                (3000, 2 ^ 2 + 2 ^ 3 + 2 ^ 4)] }

end Sys2Proof.Machine
end

