-- ==== Sys2Proof/Machine/StLadle.lean ====
section
/-!
DEFINITION. Ladle programs, their private state and their execution (R170 to R200), and the control cycle's own state (R202 to R226).
-/
set_option linter.unusedVariables false
namespace Sys2Proof.Machine

/-- Instructions of format P: LD, AND, OR, XOR, ST, SET, RST, LDQ, LDW, STW, QLD (R193). -/
inductive PIns where
  | ld | and_ | or_ | xor_ | st | set | rst | ldq | ldw | stw | qld
  deriving DecidableEq, Repr

/-- Instructions of format T (R193). -/
inductive TIns where
  | edge | tmr | ctu | ctd | tcr | tcld | ldm | stm
  deriving DecidableEq, Repr

/-- Instructions of format Z without a field (R193). -/
inductive ZIns where
  | bopen | band | bor | bpeek | bdrop | ret | endl | brk | nop | fin
  deriving DecidableEq, Repr

/-- A ladle instruction (R193, R194). Fields are raw: immediates are sign-extended where they are used. -/
inductive LIns where
  | pt (op : PIns) (b off md : Nat)
  | inst (op : TIns) (k b md : Nat)
  | z (op : ZIns)
  | laop (k : Nat)
  | wbit (dir k : Nat)
  | ldi (imm : Nat)
  | ldih (imm : Nat)
  | mov (dir w : Nat)
  | sel (w : Nat)
  | alu (fn w : Nat)
  | alui (fn imm : Nat)
  | fpu (fn w : Nat)
  | cmp (cond comb w : Nat)
  | cmpi (cond comb imm : Nat)
  | tbl (mode base : Nat)
  | jmp (cond target : Nat)
  | call (cond target : Nat)
  /-- `count` is the count less 1. -/
  | loop (b wmode count : Nat)
  | setb (b range window : Nat)
  | bidx (b mode imm : Nat)
  | bld (b : Nat)
  | lcall (fn wt wf : Nat)
  deriving DecidableEq, Repr

/-- A footprint range (R173): `count` windows of `width` points; `start` is its first slot. -/
structure FRange where
  first : Nat
  count : Nat
  width : Nat
  stride : Nat
  w : Bool
  start : Nat
  deriving DecidableEq, Repr

/-- A program as its image gives it (R198). -/
structure Prog where
  image : List Byte
  ins : List LIns
  ranges : List FRange
  /-- Kind and preset in ms. -/
  timers : List (Nat × Nat)
  counters : List Int
  edges : Nat
  mems : Nat
  tableWords : Nat
  wcu : Nat
  wcCalls : Nat
  deriving DecidableEq, Repr

/-- A timer (R186): running, Q, previous IN, start instant in ns, 0 where it has never run (R200), accumulated ms. A start taken over from the other unit can lie before this
unit's monotonic base began (R172). -/
structure Tmr where
  run : Bool := false
  q : Bool := false
  prev : Bool := false
  start : Int := 0
  acc : Nat := 0
  deriving DecidableEq, Repr

/-- A counter (R187): value, previous inputs, Q. -/
structure Ctr where
  value : Int := 0
  up : Bool := false
  down : Bool := false
  q : Bool := false
  deriving DecidableEq, Repr

/-- The private state of a ladle (R171). -/
structure Priv where
  timers : List Tmr := []
  counters : List Ctr := []
  edges : List Bool := []
  mems : List (Word × Nat) := []
  deriving DecidableEq, Repr

/-- A slot of the charge buffer (R173, R209). -/
structure Slot where
  addr : Nat
  value : Word
  quality : Nat
  dirty : Bool := false
  deriving DecidableEq, Repr

/-- A base register that is bound: range, window, valid (R175). -/
structure Base where
  range : Nat
  window : Int
  valid : Bool
  deriving DecidableEq, Repr

/-- An open loop (R184): index of LOOP, iterations left with the current one, base. -/
structure LoopFrame where
  at_ : Nat
  left : Nat
  base : Nat
  deriving DecidableEq, Repr

/-- A queued lamp call (R191). -/
structure LampCall where
  fn : Nat
  zone : Nat
  value : Nat
  fade : Nat
  deriving DecidableEq, Repr

/-- The cycle state of a ladle with its working copies (R170, R171). -/
structure LRun where
  pc : Nat := 0
  la : Bool := false
  lq : Nat := 0
  wa : Word := 0
  wq : Nat := 0
  /-- W0 to W15. -/
  ws : List (Word × Nat) := List.replicate 16 (0, 0)
  /-- B0 to B7; B0 is never bound. -/
  bases : List (Option Base) := List.replicate 8 none
  branch : List (Bool × Nat) := []
  loops : List LoopFrame := []
  rets : List Nat := []
  slots : List Slot := []
  priv : Priv := {}
  units : Nat := 0
  calls : List LampCall := []
  idxFault : Nat := 0
  arith : Nat := 0
  lcDiscard : Nat := 0
  deriving DecidableEq, Repr

/-- LDL[n]_STATUS.STATE. -/
inductive LPhase where
  | noProgram | idle | charging | executing | done | cut
  deriving DecidableEq, Repr

/-- A ladle. -/
structure Ladle where
  prog : Option Prog := none
  /-- The table, unlisted words 0 (R199). -/
  table : List (Nat × Word) := []
  /-- The table as loads have left it since the cycle in progress was charged: the next charge takes it, so that no cycle mixes old and new rows (R114). -/
  tableNext : Option (List (Nat × Word)) := none
  /-- The committed private state (R171). -/
  priv : Priv := {}
  phase : LPhase := .noProgram
  run : LRun := {}
  /-- The footprint as the ladle's last charge saw it, empty before its first run: a trigger point is compared with it (R205). -/
  seen : List Slot := []
  /-- Monotonic ns at which its charge ended. -/
  chargeEnd : Nat := 0
  /-- Monotonic ns at which END was reached. -/
  endAt : Nat := 0
  deriving DecidableEq, Repr

/-- Where the cycle in progress stands. -/
inductive CycPhase where
  /-- No cycle in progress: before the first boundary, or past the deadline. -/
  | between
  | charging
  | executing
  /-- The cycle in progress is skipped, its deadline still to come. -/
  | skipping
  deriving DecidableEq, Repr

/-- A run of consecutive planned skips (R213): kind 1 activate, 2 program change, 3 online cut, 4 hold. -/
structure PlannedRun where
  kind : Nat
  first : Nat
  count : Nat
  deriving DecidableEq, Repr


/-- A ladle's schedule (R205). -/
structure Sched where
  mode : Nat := 0
  div : Nat := 0
  phase : Nat := 0
  ivl : Nat := 0
  trig : Nat := 0
  deriving DecidableEq, Repr

/-- The cycle settings (R204), in µs. -/
structure CycCfg where
  period : Nat := 50000
  margin : Nat := 2000
  offset : Nat := 0
  ebb : Bool := false
  ebbBudget : Bool := false
  ovrLimit : Nat := 0
  scheds : List Sched := []
  deriving DecidableEq, Repr

/-- The control cycle (R202 to R224). -/
structure Cyc where
  /-- Monotonic ns of the next boundary; none while no cycle is due. -/
  next : Option Nat := none
  /-- Boundary of the cycle in progress, end of its charge, its period and margin in ns. -/
  boundary : Nat := 0
  chargedAt : Nat := 0
  period : Nat := 0
  margin : Nat := 0
  phase : CycPhase := .between
  /-- The next cycle is a planned skip after a program change (R219). -/
  skipNext : Bool := false
  planned : Option PlannedRun := none
  /-- Holds asked for: cycles left, none inside for until CYC_RELEASE (R224). -/
  hold : Option (Option Nat) := none
  /-- The hold has begun. -/
  held : Bool := false
  /-- EBB_BUDGET of the running configuration. -/
  ebbBudget : Bool := false
  /-- Lowest PACE of the samples that have ended since the boundary of the cycle in progress, 0x10000 while none has (R216). -/
  minPace : Nat := 0x10000
  deriving DecidableEq, Repr

end Sys2Proof.Machine
end

