-- ==== Sys2Proof/Machine/LadleCode.lean ====
section
/-!
DEFINITION. The encoding of ladle instructions and their costs (R193 to R195).
-/
set_option linter.unusedVariables false
namespace Sys2Proof.Machine

/-- Opcodes of format P (R194). -/
def PIns.code : PIns → Nat
  | .ld => 0x01 | .and_ => 0x02 | .or_ => 0x03 | .xor_ => 0x04 | .st => 0x05 | .set => 0x06 | .rst => 0x07 | .ldq => 0x08
  | .ldw => 0x18 | .stw => 0x19 | .qld => 0x1A

/-- Opcodes of format T (R194). -/
def TIns.code : TIns → Nat
  | .edge => 0x0F | .tmr => 0x10 | .ctu => 0x11 | .ctd => 0x12 | .tcr => 0x13 | .tcld => 0x14 | .ldm => 0x15 | .stm => 0x16

/-- Opcodes of format Z without a field (R194). -/
def ZIns.code : ZIns → Nat
  | .bopen => 0x0A | .band => 0x0B | .bor => 0x0C | .bpeek => 0x0D | .bdrop => 0x0E | .ret => 0x2A | .endl => 0x2C | .brk => 0x2D
  | .nop => 0x3E | .fin => 0x3F

/-- The mod field of a P instruction is one it admits: bits it does not use are 0, thresholds in range (R177, R193). -/
def PIns.modOk (op : PIns) (m : Nat) : Bool :=
  match op with
  | .ld => bitsOf m 5 2 == 0 | .and_ => bitsOf m 5 2 == 0 | .or_ => bitsOf m 5 2 == 0 | .xor_ => bitsOf m 5 2 == 0
  | .st => bitsOf m 5 1 == 0
  | .set => bitsOf m 7 1 == 0 && bitsOf m 5 1 == 0
  | .rst => bitsOf m 7 1 == 0 && bitsOf m 5 1 == 0
  | .ldq => bitsOf m 4 3 == 0 && decide (bitsOf m 0 4 ≤ 5)
  | .ldw => decide (bitsOf m 4 4 ≤ 5) || bitsOf m 4 4 == 15
  | .stw => bitsOf m 7 1 == 0 && bitsOf m 0 5 == 0
  | .qld => m == 0

/-- The mod field of a T instruction is one it admits; bits no action is given for are 0 (R194). -/
def TIns.modOk (op : TIns) (m : Nat) : Bool :=
  match op with
  | .edge => decide (m ≤ 2) | .tmr => decide (m ≤ 1) | .ctu => m == 0 | .ctd => m == 0 | .tcr => decide (m ≤ 1)
  | .tcld => decide (m ≤ 2) | .ldm => m == 0 | .stm => decide (m ≤ 1)

/-- Is the function code of ALU and ALUI listed (R195)? -/
def aluFn (fn : Nat) : Bool := decide (fn ≤ 0x16)

/-- Is the function code of FPU listed (R195)? -/
def fpuFn (fn : Nat) : Bool := decide (fn ≤ 0x0A)

/-- Fields within their widths and admitted by R177, R191, R193 to R195. -/
def LIns.wf : LIns → Bool
  | .pt op b off m => decide (b < 8) && decide (off < 2 ^ 15) && decide (m < 2 ^ 8) && op.modOk m
  | .inst op k b m => decide (k < 2 ^ 12) && decide (b < 8) && decide (m < 2 ^ 9) && op.modOk m
  | .z _ => true
  | .laop k => decide (k ≤ 2)
  | .wbit d k => decide (d ≤ 1) && decide (k < 32)
  | .ldi i => decide (i < 2 ^ 24)
  | .ldih i => decide (i < 2 ^ 16)
  | .mov d w => decide (d ≤ 2) && decide (w < 16)
  | .sel w => decide (w < 16)
  | .alu fn w => aluFn fn && decide (w < 16)
  | .alui fn i => aluFn fn && decide (i < 2 ^ 21)
  | .fpu fn w => fpuFn fn && decide (w < 16)
  | .cmp c k w => decide (c ≤ 0xE) && decide (k ≤ 2) && decide (w < 16)
  | .cmpi c k i => decide (c ≤ 9) && decide (k ≤ 2) && decide (i < 2 ^ 16)
  | .tbl m b => decide (m ≤ 1) && decide (b < 2 ^ 15)
  | .jmp c t => decide (c ≤ 2) && decide (t < 2 ^ 16)
  | .call c t => decide (c ≤ 2) && decide (t < 2 ^ 16)
  | .loop b m c => decide (b < 8) && decide (m ≤ 1) && decide (c < 2 ^ 16)
  | .setb b r w => decide (1 ≤ b) && decide (b < 8) && decide (r < 2 ^ 9) && decide (w < 2 ^ 14)
  | .bidx b m i => decide (1 ≤ b) && decide (b < 8) && decide (m ≤ 1) && decide (i < 2 ^ 16) && (m == 1 || i == 0)
  | .bld b => decide (1 ≤ b) && decide (b < 8)
  | .lcall f t w => decide (f ≤ 3) && decide (t < 16) && decide (w < 16)

/-- The word of an instruction (R193, R194). -/
def LIns.encode : LIns → Nat
  | .pt op b off m => op.code * 2 ^ 26 + b * 2 ^ 23 + off * 2 ^ 8 + m
  | .inst op k b m => op.code * 2 ^ 26 + k * 2 ^ 12 + b * 2 ^ 9 + m
  | .z op => op.code * 2 ^ 26
  | .laop k => 0x09 * 2 ^ 26 + k
  | .wbit d k => 0x1B * 2 ^ 26 + d * 2 ^ 24 + k
  | .ldi i => 0x1C * 2 ^ 26 + i
  | .ldih i => 0x1D * 2 ^ 26 + i
  | .mov d w => 0x1E * 2 ^ 26 + d * 2 ^ 24 + w * 2 ^ 20
  | .sel w => 0x1F * 2 ^ 26 + w * 2 ^ 20
  | .alu fn w => 0x20 * 2 ^ 26 + fn * 2 ^ 21 + w * 2 ^ 17
  | .alui fn i => 0x21 * 2 ^ 26 + fn * 2 ^ 21 + i
  | .fpu fn w => 0x22 * 2 ^ 26 + fn * 2 ^ 21 + w * 2 ^ 17
  | .cmp c k w => 0x23 * 2 ^ 26 + c * 2 ^ 22 + k * 2 ^ 20 + w * 2 ^ 16
  | .cmpi c k i => 0x24 * 2 ^ 26 + c * 2 ^ 22 + k * 2 ^ 20 + i
  | .tbl m b => 0x25 * 2 ^ 26 + m * 2 ^ 24 + b
  | .jmp c t => 0x28 * 2 ^ 26 + c * 2 ^ 24 + t
  | .call c t => 0x29 * 2 ^ 26 + c * 2 ^ 24 + t
  | .loop b m c => 0x2B * 2 ^ 26 + b * 2 ^ 23 + m * 2 ^ 22 + c
  | .setb b r w => 0x30 * 2 ^ 26 + b * 2 ^ 23 + r * 2 ^ 14 + w
  | .bidx b m i => 0x31 * 2 ^ 26 + b * 2 ^ 23 + m * 2 ^ 22 + i
  | .bld b => 0x32 * 2 ^ 26 + b * 2 ^ 23
  | .lcall f t w => 0x38 * 2 ^ 26 + f * 2 ^ 22 + t * 2 ^ 18 + w * 2 ^ 14

/-- The fields of a word under its opcode, before the checks; the fields shown as 0 are checked by `decode`. -/
def LIns.fields (x : Nat) : Option LIns :=
  let p (op : PIns) : Option LIns := some (.pt op (bitsOf x 23 3) (bitsOf x 8 15) (bitsOf x 0 8))
  let t (op : TIns) : Option LIns := some (.inst op (bitsOf x 12 12) (bitsOf x 9 3) (bitsOf x 0 9))
  match x / 2 ^ 26 with
  | 0x01 => p .ld | 0x02 => p .and_ | 0x03 => p .or_ | 0x04 => p .xor_ | 0x05 => p .st | 0x06 => p .set | 0x07 => p .rst
  | 0x08 => p .ldq | 0x18 => p .ldw | 0x19 => p .stw | 0x1A => p .qld
  | 0x0F => t .edge | 0x10 => t .tmr | 0x11 => t .ctu | 0x12 => t .ctd | 0x13 => t .tcr | 0x14 => t .tcld | 0x15 => t .ldm | 0x16 => t .stm
  | 0x0A => some (.z .bopen) | 0x0B => some (.z .band) | 0x0C => some (.z .bor) | 0x0D => some (.z .bpeek) | 0x0E => some (.z .bdrop)
  | 0x2A => some (.z .ret) | 0x2C => some (.z .endl) | 0x2D => some (.z .brk) | 0x3E => some (.z .nop) | 0x3F => some (.z .fin)
  | 0x09 => some (.laop (bitsOf x 0 2))
  | 0x1B => some (.wbit (bitsOf x 24 2) (bitsOf x 0 5))
  | 0x1C => some (.ldi (bitsOf x 0 24))
  | 0x1D => some (.ldih (bitsOf x 0 16))
  | 0x1E => some (.mov (bitsOf x 24 2) (bitsOf x 20 4))
  | 0x1F => some (.sel (bitsOf x 20 4))
  | 0x20 => some (.alu (bitsOf x 21 5) (bitsOf x 17 4))
  | 0x21 => some (.alui (bitsOf x 21 5) (bitsOf x 0 21))
  | 0x22 => some (.fpu (bitsOf x 21 5) (bitsOf x 17 4))
  | 0x23 => some (.cmp (bitsOf x 22 4) (bitsOf x 20 2) (bitsOf x 16 4))
  | 0x24 => some (.cmpi (bitsOf x 22 4) (bitsOf x 20 2) (bitsOf x 0 16))
  | 0x25 => some (.tbl (bitsOf x 24 2) (bitsOf x 0 15))
  | 0x28 => some (.jmp (bitsOf x 24 2) (bitsOf x 0 16))
  | 0x29 => some (.call (bitsOf x 24 2) (bitsOf x 0 16))
  | 0x2B => some (.loop (bitsOf x 23 3) (bitsOf x 22 1) (bitsOf x 0 16))
  | 0x30 => some (.setb (bitsOf x 23 3) (bitsOf x 14 9) (bitsOf x 0 14))
  | 0x31 => some (.bidx (bitsOf x 23 3) (bitsOf x 22 1) (bitsOf x 0 16))
  | 0x32 => some (.bld (bitsOf x 23 3))
  | 0x38 => some (.lcall (bitsOf x 22 4) (bitsOf x 18 4) (bitsOf x 14 4))
  | _ => none

/-- The instruction of a word; none for a reserved opcode, a field outside what R193 to R195 admit, or a reserved field that is not 0. -/
def LIns.decode (x : Nat) : Option LIns :=
  match LIns.fields x with
  | some i => if i.wf && i.encode == x then some i else none
  | none => none

/-- Costs of ALU and ALUI (R195). -/
def aluCost (fn : Nat) : Nat := if 4 ≤ fn ∧ fn ≤ 6 then 2 else if 7 ≤ fn ∧ fn ≤ 10 then 12 else 1

/-- Costs of FPU (R195). -/
def fpuCost (fn : Nat) : Nat :=
  if fn ≤ 2 then 3 else if fn = 3 || fn = 0x0A then 14 else if fn = 6 || fn = 7 then 1 else 2

/-- The cost of an instruction in units (R194). -/
def LIns.cost : LIns → Nat
  | .pt _ _ _ _ => 1
  | .inst op _ _ _ => match op with
    | .edge => 2 | .tmr => 4 | .ctu => 3 | .ctd => 3 | .tcr => 2 | .tcld => 2 | .ldm => 1 | .stm => 1
  | .z op => match op with
    | .bopen => 1 | .band => 1 | .bor => 1 | .bpeek => 1 | .bdrop => 1 | .ret => 2 | .endl => 2 | .brk => 2 | .nop => 1 | .fin => 1
  | .laop _ => 1 | .wbit _ _ => 1 | .ldi _ => 1 | .ldih _ => 1 | .mov _ _ => 1 | .sel _ => 1
  | .alu fn _ => aluCost fn | .alui fn _ => aluCost fn | .fpu fn _ => fpuCost fn
  | .cmp _ _ _ => 1 | .cmpi _ _ _ => 1
  | .tbl m _ => if m = 0 then 2 else 26
  | .jmp _ _ => 2 | .call _ _ => 3 | .loop _ _ _ => 2
  | .setb _ _ _ => 1 | .bidx _ _ _ => 2 | .bld _ => 1 | .lcall _ _ _ => 4

end Sys2Proof.Machine
end

