-- ==== Sys2Proof/Machine/OpTable.lean ====
section
/-!
DEFINITION. The opcodes (R95): what R484 checks of each before its own rules, in one table. A subsystem's chapter gives each row: urgent or not, the parameter bits it
defines, its limit on the buffer, and whether it may be staged.
-/
set_option linter.unusedVariables false
namespace Sys2Proof.Machine

/-- What R484 checks of an opcode before its own rules. -/
structure OpSpec where
  op : Nat
  /-- Accepted on ring 15 (R83). -/
  urgent : Bool := false
  /-- Parameter bits the opcode defines, byte by byte; bytes beyond the list are reserved (R90). -/
  mask : List Byte := []
  /-- The opcode's limit on buf_len (R484 step 5). -/
  bufMax : Nat := 65536
  /-- The command may be staged into a transaction (R93). -/
  stages : Bool := false
  deriving DecidableEq, Repr

/-- A whole parameter byte is defined. -/
def allBits : Byte := 0xFF

/-- `n` whole parameter bytes are defined. -/
def maskBytes (n : Nat) : List Byte := List.replicate n allBits

/-- NOP. -/
def Op.nop : OpSpec := { op := 0x0000, urgent := true }
/-- ECHO. -/
def Op.echo : OpSpec := { op := 0x0001, urgent := true, mask := maskBytes 8 }
/-- CANCEL. -/
def Op.cancel : OpSpec := { op := 0x0002, urgent := true, mask := maskBytes 1 ++ [0, 0, 0] ++ maskBytes 4 }
/-- SYNC. -/
def Op.sync : OpSpec := { op := 0x0004 }
/-- TXN_OPEN. -/
def Op.txnOpen : OpSpec := { op := 0x0100, mask := [3] }
/-- TXN_COMMIT. -/
def Op.txnCommit : OpSpec := { op := 0x0101, mask := maskBytes 1 ++ List.replicate 7 0 ++ maskBytes 8 }
/-- TXN_ABORT. -/
def Op.txnAbort : OpSpec := { op := 0x0102, urgent := true }
/-- TXN_REGWR. -/
def Op.txnRegwr : OpSpec := { op := 0x0103, stages := true }
/-- TXN_QUERY. -/
def Op.txnQuery : OpSpec := { op := 0x0104, urgent := true }
/-- TUN_FLUSH. -/
def Op.tunFlush : OpSpec := { op := 0x0210, urgent := true, mask := maskBytes 1 }
/-- RUNNER_RESUME. -/
def Op.runnerResume : OpSpec := { op := 0x0211, urgent := true, mask := maskBytes 1 }
/-- PNT_READ. -/
def Op.pntRead : OpSpec := { op := 0x0300, mask := maskBytes 8 }
/-- PNT_READ_LIST. -/
def Op.pntReadList : OpSpec := { op := 0x0301, mask := maskBytes 4 ++ [0, 0, 0, 0] ++ maskBytes 8 }
/-- PNT_FORCE. -/
def Op.pntForce : OpSpec := { op := 0x0302, urgent := true, mask := maskBytes 9, stages := true }
/-- PNT_UNFORCE. -/
def Op.pntUnforce : OpSpec := { op := 0x0303, urgent := true, mask := maskBytes 4, stages := true }
/-- PNT_FORCE_LIST. -/
def Op.pntForceList : OpSpec := { op := 0x0304, mask := maskBytes 4 }
/-- PNT_SUBSCRIBE. -/
def Op.pntSubscribe : OpSpec := { op := 0x0305, mask := maskBytes 3 ++ [0] ++ maskBytes 12 }
/-- PNT_UNSUBSCRIBE. -/
def Op.pntUnsubscribe : OpSpec := { op := 0x0306, mask := maskBytes 2 }
/-- LDL_LOAD. -/
def Op.ldlLoad : OpSpec := { op := 0x0400, mask := maskBytes 1 ++ [0, 0, 0] ++ maskBytes 8, stages := true }
/-- LDL_UNLOAD. -/
def Op.ldlUnload : OpSpec := { op := 0x0401, mask := maskBytes 1, stages := true }
/-- LDL_TABLE. -/
def Op.ldlTable : OpSpec := { op := 0x0403, mask := maskBytes 1 ++ [0, 0, 0] ++ maskBytes 4, stages := true }
/-- LDL_STATE. -/
def Op.ldlState : OpSpec := { op := 0x0404, mask := maskBytes 2 ++ [0, 0] ++ maskBytes 4 }
/-- CYC_SETUP. -/
def Op.cycSetup : OpSpec := { op := 0x0500, mask := maskBytes 12 ++ [1], stages := true }
/-- CYC_SCHED. -/
def Op.cycSched : OpSpec := { op := 0x0501, mask := maskBytes 1 ++ [0, 0, 0] ++ maskBytes 12, stages := true }
/-- CYC_HOLD. -/
def Op.cycHold : OpSpec := { op := 0x0502, urgent := true, mask := maskBytes 4 }
/-- CYC_RELEASE. -/
def Op.cycRelease : OpSpec := { op := 0x0503, urgent := true }
/-- LMP_EMERG. -/
def Op.lmpEmerg : OpSpec := { op := 0x0600, urgent := true, mask := [1] }
/-- LMP_PROBE. -/
def Op.lmpProbe : OpSpec := { op := 0x0601, mask := maskBytes 2 ++ [15] }
/-- LMP_RECORD. -/
def Op.lmpRecord : OpSpec := { op := 0x0602, stages := true }
/-- LMP_CHSTATE. -/
def Op.lmpChstate : OpSpec := { op := 0x0603, mask := maskBytes 4 }
/-- TRK_SEND. -/
def Op.trkSend : OpSpec := { op := 0x0700, mask := maskBytes 1 }
/-- TRK_PORT. -/
def Op.trkPort : OpSpec := { op := 0x0701, urgent := true, mask := maskBytes 1 ++ [1] }
/-- TRK_GATES. -/
def Op.trkGates : OpSpec := { op := 0x0702, mask := maskBytes 2, bufMax := 256, stages := true }
/-- CZN_NODE. -/
def Op.cznNode : OpSpec := { op := 0x0800, mask := maskBytes 2 }
/-- CZN_RESEAT. -/
def Op.cznReseat : OpSpec := { op := 0x0801, mask := maskBytes 2 }
/-- CZN_REKEY. -/
def Op.cznRekey : OpSpec := { op := 0x0802 }
/-- CZN_NODETABLE. -/
def Op.cznNodetable : OpSpec := { op := 0x0803, stages := true }
/-- RAD_NODE. -/
def Op.radNode : OpSpec := { op := 0x0900, mask := maskBytes 2 }
/-- RAD_WAKE. -/
def Op.radWake : OpSpec := { op := 0x0901, urgent := true, mask := maskBytes 3 }
/-- RAD_NODETABLE. -/
def Op.radNodetable : OpSpec := { op := 0x0902, stages := true }
/-- RAD_CHANNEL. -/
def Op.radChannel : OpSpec := { op := 0x0903, urgent := true, mask := maskBytes 2 }
/-- TIM_STEP. -/
def Op.timStep : OpSpec := { op := 0x0A00, mask := maskBytes 8 }
/-- TIM_SETINCR. -/
def Op.timSetincr : OpSpec := { op := 0x0A01, mask := maskBytes 8 }
/-- TIM_LEAP. -/
def Op.timLeap : OpSpec := { op := 0x0A02, mask := maskBytes 3 }
/-- RTC_SET. -/
def Op.rtcSet : OpSpec := { op := 0x0B00, mask := maskBytes 6 }
/-- RTC_FROM_WALL. -/
def Op.rtcFromWall : OpSpec := { op := 0x0B01 }
/-- RTC_ALARM. -/
def Op.rtcAlarm : OpSpec := { op := 0x0B02, mask := maskBytes 12 }
/-- RTC_PERIODIC. -/
def Op.rtcPeriodic : OpSpec := { op := 0x0B03, mask := maskBytes 2 ++ [0, 0] ++ maskBytes 8 }
/-- RTC_CHARGER. -/
def Op.rtcCharger : OpSpec := { op := 0x0B04, mask := maskBytes 3 }
/-- RTC_SETTRIM. -/
def Op.rtcSettrim : OpSpec := { op := 0x0B05, mask := maskBytes 2 }
/-- MTR_ARCHIVE. -/
def Op.mtrArchive : OpSpec := { op := 0x0C00, mask := maskBytes 12 }
/-- MTR_CLOSE. -/
def Op.mtrClose : OpSpec := { op := 0x0C01 }
/-- MTR_CALDATA. -/
def Op.mtrCaldata : OpSpec := { op := 0x0C02, stages := true }
/-- MTR_PRESET. -/
def Op.mtrPreset : OpSpec := { op := 0x0C03, mask := maskBytes 2 ++ List.replicate 6 0 ++ maskBytes 8 }
/-- EVR_SYNC. -/
def Op.evrSync : OpSpec := { op := 0x0D00 }
/-- EVR_CLEAR. -/
def Op.evrClear : OpSpec := { op := 0x0D01, mask := maskBytes 4 }
/-- EVR_READ. -/
def Op.evrRead : OpSpec := { op := 0x0D02, mask := maskBytes 8 }
/-- RDN_ROTATE. -/
def Op.rdnRotate : OpSpec := { op := 0x0E00 }
/-- RDN_YIELD. -/
def Op.rdnYield : OpSpec := { op := 0x0E01, urgent := true }
/-- RDN_RESEED. -/
def Op.rdnReseed : OpSpec := { op := 0x0E02 }
/-- KEY_SLOT_SET. -/
def Op.keySlotSet : OpSpec := { op := 0x0F00, mask := [0xFF, 0, 0xFF, 0xFF, 0x07, 0xF0, 0x0F, 0xF0], bufMax := 520, stages := true }
/-- KEY_SLOT_CLEAR. -/
def Op.keySlotClear : OpSpec := { op := 0x0F01, urgent := true, mask := [0xFF], stages := true }
/-- KEY_ROOT_SET. -/
def Op.keyRootSet : OpSpec := { op := 0x0F02, mask := [0xFF, 0, 0, 0, 1] }
/-- KEY_ATTEST. -/
def Op.keyAttest : OpSpec := { op := 0x0F03, mask := maskBytes 33 }
/-- KEY_IDCERT. -/
def Op.keyIdcert : OpSpec := { op := 0x0F04 }
/-- KEY_NODEKEY. -/
def Op.keyNodekey : OpSpec := { op := 0x0F05, mask := maskBytes 8 }
/-- PAT_BEGIN. -/
def Op.patBegin : OpSpec := { op := 0x1000, mask := [0xFF, 0, 0, 0] ++ maskBytes 4, stages := true }
/-- PAT_BLOCK. -/
def Op.patBlock : OpSpec := { op := 0x1001, mask := [0xFF, 0, 0, 0] ++ maskBytes 4, bufMax := 4096, stages := true }
/-- PAT_QUERY. -/
def Op.patQuery : OpSpec := { op := 0x1002, mask := [0xFF] }
/-- PAT_VERIFY. -/
def Op.patVerify : OpSpec := { op := 0x1003 }
/-- PAT_ACTIVATE. -/
def Op.patActivate : OpSpec := { op := 0x1004, mask := [3] }
/-- PAT_CONFIRM. -/
def Op.patConfirm : OpSpec := { op := 0x1005 }

/-- The opcodes that exist (R95 and the subsystems' chapters). -/
def opTable : List OpSpec :=
  [Op.nop, Op.echo, Op.cancel, Op.sync]
    ++ [Op.txnOpen, Op.txnCommit, Op.txnAbort, Op.txnRegwr, Op.txnQuery]
    ++ [Op.tunFlush, Op.runnerResume]
    ++ [Op.pntRead, Op.pntReadList, Op.pntForce, Op.pntUnforce, Op.pntForceList, Op.pntSubscribe, Op.pntUnsubscribe]
    ++ [Op.ldlLoad, Op.ldlUnload, Op.ldlTable, Op.ldlState]
    ++ [Op.cycSetup, Op.cycSched, Op.cycHold, Op.cycRelease]
    ++ [Op.lmpEmerg, Op.lmpProbe, Op.lmpRecord, Op.lmpChstate]
    ++ [Op.trkSend, Op.trkPort, Op.trkGates]
    ++ [Op.cznNode, Op.cznReseat, Op.cznRekey, Op.cznNodetable]
    ++ [Op.radNode, Op.radWake, Op.radNodetable, Op.radChannel]
    ++ [Op.timStep, Op.timSetincr, Op.timLeap]
    ++ [Op.rtcSet, Op.rtcFromWall, Op.rtcAlarm, Op.rtcPeriodic, Op.rtcCharger, Op.rtcSettrim]
    ++ [Op.mtrArchive, Op.mtrClose, Op.mtrCaldata, Op.mtrPreset]
    ++ [Op.evrSync, Op.evrClear, Op.evrRead]
    ++ [Op.rdnRotate, Op.rdnYield, Op.rdnReseed]
    ++ [Op.keySlotSet, Op.keySlotClear, Op.keyRootSet, Op.keyAttest, Op.keyIdcert, Op.keyNodekey]
    ++ [Op.patBegin, Op.patBlock, Op.patQuery, Op.patVerify, Op.patActivate, Op.patConfirm]

/-- What R484 checks of an opcode; none for an opcode that does not exist. -/
def opSpecOf (op : Nat) : Option OpSpec := opTable.find? (·.op == op)

end Sys2Proof.Machine
end

