-- ==== Sys2Proof/Config.lean ====
section
/-!
DEFINITION. What the spec leaves to the implementation and the free values: constants without a body, so that no proof can see
what they are. A free value is applied to a plain counter of State (`State.free`) or to the operands it depends on.
-/
namespace Sys2Proof.Config

/-- Does the 32.768 kHz crystal tick within this tick of the 25 MHz reference? The phase between the two oscillators is not
stated (R354). -/
opaque crystalTick : Nat → Bool

/-- A random number of the module: nonces, lots, random delays (R416, R423). -/
opaque random : Nat → BitVec 64

/-- ECDSA P-256 signature of the identity key over a message (R457). -/
opaque sign : List Byte → List Byte → List Byte

/-- Does a pattern signature verify (R463)? -/
opaque patternSigned : List Byte → Bool

/-- The increment the internal servo writes, as a free choice within the bounds of R350. -/
opaque servoIncr : Nat → Nat

/-- A value that the spec leaves open, 32 bits. -/
opaque freeWord : Nat → Word

/-- A choice that the spec leaves open. -/
opaque freeBit : Nat → Bool

/-- What a point of the module status or of the aggregates shows (R144). -/
inductive StatusItem where
  | role | heat | pace | dieTemp | vin | riser | vbak | aggregate
  deriving DecidableEq, Repr

/-- The assigned points of the module status (0x1E0_0000 on) and of the aggregates (0x1F0_0000 on): address, type code and content. R144 gives their places and their
content; no rule gives their addresses and types. -/
opaque statusPoints : List (Nat × Nat × StatusItem)

/-- The value of an aggregate point: address and free counter. -/
opaque aggregate : Nat → Nat → Int

/-- Does a change from one value to another exceed a deadband that is a NaN (R157)? -/
opaque nanDeadband : Word → Word → Word → Bool

/-- What FMIN and FMAX make of a NaN beside a number, and of zeros of unlike sign: IEEE 754 leaves it open (R181, R195). -/
opaque minMaxChoice : Bool → Word → Word → Bool

/-- The contents of the boot ROM (R457). -/
opaque bootRom : List Byte

/-- The identity key pair of the module, made at manufacture (R450, R452): the private key and word i of the public key (KEY_IDPUB). -/
opaque identityKey : List Byte
opaque idPub : Nat → Word

/-- The device certificate followed by the intermediate certificate (R459). -/
opaque idCert : List Byte

/-- The pattern image the module was shipped with (R457). -/
opaque shippedPattern : List Byte

/-- Nanoseconds from the instant a frame may start to the instant its start-of-frame delimiter passes: the wait for the medium, which no rule states. -/
opaque mediumDelay : Nat → Nat

/-- What a metering sample becomes once it has passed the high-pass filter, its compensation, its fractional delay and, for an air-cored coil,
the integrator (R372, R374, R375), in nV at the input: free counter, channel (0 to 31 current, 32 to 35 voltage, 36 to 39 the voltage a quarter
of a period earlier) and the raw sample. The rules give the filters' purpose and tolerances, not their arithmetic. -/
opaque meterFilter : Nat → Nat → Int → Rat

/-- The nominal mains voltage in V, which R392 takes and no rule states. -/
opaque nominalVolts : Rat

/-- The angle that the one-bin Fourier transform of a window gives (R377), in degrees. -/
opaque phasor : Nat → Rat

/-- Does a configuration of so many luminaires leave a lamp bank unused (R132)? The division of banks 64 to 127 is not stated. -/
opaque lampBankUnused : Nat → Nat → Bool

/-- Nanoseconds from the tick boundary to the end of the evaluation of a luminaire's channels (R243): free counter, luminaire. -/
opaque evalPos : Nat → Nat → Nat

/-- What the division by n - 1, or by n, gives in R240 for a segment of one period, or of less than one. -/
opaque probeRest : Int → Int

/-- Is an inexact quantity rounded up where the spec names its unit and no rounding? -/
opaque roundUp : Rat → Bool

/-- Does a pattern accept the content of a configuration image that passes the checks of R64 (R469)? -/
opaque patternAccepts : List Byte → List Byte → Bool

end Sys2Proof.Config
end

