-- ==== Sys2Proof/Machine/Maps.lean ====
section
/-!
DEFINITION. Sparse maps: a list of (key, value) pairs, keys strictly rising, no entry equal to what an unlisted key reads
as. Registers, points, nodes, channels, ports and every other replicated piece of state are held so, so that equal contents are equal data.
-/
set_option linter.unusedVariables false
namespace Sys2Proof.Machine

/-- What key `k` holds; `d k` where the list has no entry. -/
def mapGet {α : Type} (d : Nat → α) : List (Nat × α) → Nat → α
  | [], k => d k
  | (k', v) :: m, k => if k' = k then v else mapGet d m k

/-- The list without an entry for `k`. -/
def mapDel {α : Type} : List (Nat × α) → Nat → List (Nat × α)
  | [], _ => []
  | (k', v) :: m, k => if k' = k then mapDel m k else (k', v) :: mapDel m k

/-- The list with `v` at `k`, in its place. -/
def mapPut {α : Type} : List (Nat × α) → Nat → α → List (Nat × α)
  | [], k, v => [(k, v)]
  | (k', v') :: m, k, v =>
    if k < k' then (k, v) :: (k', v') :: m else if k' = k then (k, v) :: m else (k', v') :: mapPut m k v

/-- Write `v` at `k`, keeping the canonical form: the value an unlisted key reads as removes the entry. -/
def mapSet {α : Type} [DecidableEq α] (d : Nat → α) (m : List (Nat × α)) (k : Nat) (v : α) : List (Nat × α) :=
  if v = d k then mapDel m k else mapPut m k v

/-- Are the keys of the list strictly rising, all of them above `lo`? -/
def mapSorted {α : Type} : Nat → List (Nat × α) → Bool
  | _, [] => true
  | lo, (k, _) :: m => decide (lo ≤ k) && mapSorted (k + 1) m

/-- The canonical form: keys strictly rising, no entry equal to what an unlisted key reads as. -/
def mapWf {α : Type} [DecidableEq α] (d : Nat → α) (m : List (Nat × α)) : Bool :=
  mapSorted 0 m && m.all (fun e => decide (e.2 ≠ d e.1))

/-- The value at key `k` of a list without a default. -/
def mapFind {α : Type} : List (Nat × α) → Nat → Option α
  | [], _ => none
  | (k', v) :: m, k => if k' = k then some v else mapFind m k

end Sys2Proof.Machine
end

