-- ==== Sys2Proof/Machine/Regs.lean ====
section
/-!
DEFINITION. The registers of the module (R5 to R9, R475 to R482): the offset of every register, the place of every field, and
one table that gives each register its writable bits, its write-one-to-clear bits, the bits that outlive a module reset
(kept, or held in flash) and its value after module reset. Offsets are BAR0 offsets; the registers of BAR2 stand at
0x40000 + offset and the windows of BAR4 at 0x50000 + offset.
-/
set_option linter.unusedVariables false
namespace Sys2Proof.Machine

/-- A bit field: its lowest bit and its width. -/
structure Fld where
  lo : Nat
  width : Nat
  deriving DecidableEq, Repr

/-- The value of a field of a register word. -/
def Fld.get (f : Fld) (w : Word) : Nat := bitsOf w.toNat f.lo f.width

/-- The word with one field replaced; a value too wide for the field is cut to it. -/
def Fld.set (f : Fld) (w : Word) (v : Nat) : Word := BitVec.ofNat 32 (putBits w.toNat f.lo f.width v)

/-- One register of the register tables, with its replication (two strides at most). `rw` are the bits a write stores, `wc` the
bits a written 1 clears (R5), `keep` the bits that are kept or held in flash (R7, R481), `reset` the value after module reset. -/
structure RegRow where
  base : Nat
  s1 : Nat
  n1 : Nat
  s2 : Nat
  n2 : Nat
  rw : Nat
  wc : Nat
  keep : Nat
  reset : Nat
  deriving DecidableEq, Repr

/-- BAR2 registers stand at this offset. -/
def bar2 : Nat := 0x40000

/-- BAR4 windows stand at this offset. -/
def bar4 : Nat := 0x50000

namespace Reg

/-- Offset of GLB_IDENT. -/
def GLB_IDENT : Nat := 0x0
/-- Offset of GLB_ORDER. -/
def GLB_ORDER : Nat := 0x4
/-- Offset of GLB_HWREV. -/
def GLB_HWREV : Nat := 0x8
/-- Offset of GLB_PATVER. -/
def GLB_PATVER : Nat := 0xC
/-- Offset of GLB_SERIAL0. -/
def GLB_SERIAL0 : Nat := 0x10
/-- Offset of GLB_SERIAL1. -/
def GLB_SERIAL1 : Nat := 0x14
/-- Offset of GLB_STATUS. -/
def GLB_STATUS : Nat := 0x20
/-- Offset of GLB_BOOTSTAGE. -/
def GLB_BOOTSTAGE : Nat := 0x24
/-- Offset of GLB_FLAGS. -/
def GLB_FLAGS : Nat := 0x28
/-- Offset of GLB_VSTATE. -/
def GLB_VSTATE : Nat := 0x30
/-- Offset of GLB_PACE. -/
def GLB_PACE : Nat := 0x34
/-- Offset of GLB_DIETEMP. -/
def GLB_DIETEMP : Nat := 0x38
/-- Offset of GLB_SUPPLY. -/
def GLB_SUPPLY : Nat := 0x40
/-- Offset of GLB_SUPPLY2. -/
def GLB_SUPPLY2 : Nat := 0x44
/-- Offset of GLB_RISERREADY. -/
def GLB_RISERREADY : Nat := 0x48
/-- Offset of GLB_CFGGEN. -/
def GLB_CFGGEN : Nat := 0x4C
/-- Offset of HIF_VERSION. -/
def HIF_VERSION : Nat := 0x1000
/-- Offset of HIF_STATUS. -/
def HIF_STATUS : Nat := 0x1004
/-- Offset of HIF_PCIID. -/
def HIF_PCIID : Nat := 0x1008
/-- Offset of HIF_ERR. -/
def HIF_ERR : Nat := 0x100C
/-- Offset of HIF_LINK. -/
def HIF_LINK : Nat := 0x1010
/-- Offset of HIF_CAUSE. -/
def HIF_CAUSE : Nat := 0x1014
/-- Offset of HIF_CAUSEEN. -/
def HIF_CAUSEEN : Nat := 0x1018
/-- Offset of HIF_CAUSEVEC. -/
def HIF_CAUSEVEC : Nat := 0x101C
/-- Offset of RNG_BASELO. -/
def RNG_BASELO (n : Nat) : Nat := 0x3000 + 0x40 * n
/-- Offset of RNG_BASEHI. -/
def RNG_BASEHI (n : Nat) : Nat := 0x3004 + 0x40 * n
/-- Offset of RNG_WBLO. -/
def RNG_WBLO (n : Nat) : Nat := 0x3008 + 0x40 * n
/-- Offset of RNG_WBHI. -/
def RNG_WBHI (n : Nat) : Nat := 0x300C + 0x40 * n
/-- Offset of RNG_CFG. -/
def RNG_CFG (n : Nat) : Nat := 0x3010 + 0x40 * n
/-- Offset of RNG_HOSTIDX. -/
def RNG_HOSTIDX (n : Nat) : Nat := 0x3014 + 0x40 * n
/-- Offset of RNG_MODIDX. -/
def RNG_MODIDX (n : Nat) : Nat := 0x3018 + 0x40 * n
/-- Offset of RNG_COAL. -/
def RNG_COAL (n : Nat) : Nat := 0x301C + 0x40 * n
/-- Offset of RNG_STATUS. -/
def RNG_STATUS (n : Nat) : Nat := 0x3020 + 0x40 * n
/-- Offset of DBL_INDEX. -/
def DBL_INDEX (n : Nat) : Nat := 0x2000 + 0x100 * n
/-- Offset of TXN_CFG. -/
def TXN_CFG : Nat := 0x6000
/-- Offset of TXN_SUMMARY. -/
def TXN_SUMMARY : Nat := 0x6004
/-- Offset of TXN_CNT_COMMIT. -/
def TXN_CNT_COMMIT : Nat := 0x6008
/-- Offset of TXN_CNT_ABORT. -/
def TXN_CNT_ABORT : Nat := 0x600C
/-- Offset of TXN_CNT_CONFLICT. -/
def TXN_CNT_CONFLICT : Nat := 0x6010
/-- Offset of TXN_CNT_OVERRIDE. -/
def TXN_CNT_OVERRIDE : Nat := 0x6014
/-- Offset of TXN_STATE. -/
def TXN_STATE (s : Nat) : Nat := 0x6040 + 0x20 * s
/-- Offset of TXN_USE. -/
def TXN_USE (s : Nat) : Nat := 0x6044 + 0x20 * s
/-- Offset of TXN_POINTS. -/
def TXN_POINTS (s : Nat) : Nat := 0x6048 + 0x20 * s
/-- Offset of TXN_STAMPLO. -/
def TXN_STAMPLO (s : Nat) : Nat := 0x604C + 0x20 * s
/-- Offset of TXN_STAMPHI. -/
def TXN_STAMPHI (s : Nat) : Nat := 0x6050 + 0x20 * s
/-- Offset of DMA_LINKRATE. -/
def DMA_LINKRATE : Nat := 0x4000
/-- Offset of DMA_CFG. -/
def DMA_CFG (n : Nat) : Nat := 0x4100 + 0x20 * n
/-- Offset of DMA_CTL. -/
def DMA_CTL (n : Nat) : Nat := 0x4104 + 0x20 * n
/-- Offset of DMA_STATUS. -/
def DMA_STATUS (n : Nat) : Nat := 0x4108 + 0x20 * n
/-- Offset of DMA_SLAGGED. -/
def DMA_SLAGGED (n : Nat) : Nat := 0x410C + 0x20 * n
/-- Offset of TUN_LEVEL. -/
def TUN_LEVEL (n : Nat) : Nat := 0x5000 + 0x10 * n
/-- Offset of TUN_CTL. -/
def TUN_CTL (n : Nat) : Nat := 0x5004 + 0x10 * n
/-- Offset of TUN_RESETS. -/
def TUN_RESETS (n : Nat) : Nat := 0x5008 + 0x10 * n
/-- Offset of MEM_STATUS. -/
def MEM_STATUS : Nat := 0x7000
/-- Offset of MEM_FETTLE. -/
def MEM_FETTLE : Nat := 0x7004
/-- Offset of MEM_FETTLEPOS. -/
def MEM_FETTLEPOS : Nat := 0x7008
/-- Offset of MEM_FETTLE_ABORTS. -/
def MEM_FETTLE_ABORTS : Nat := 0x700C
/-- Offset of MEM_CETHR. -/
def MEM_CETHR : Nat := 0x7010
/-- Offset of MEM_ECC. -/
def MEM_ECC : Nat := 0x7014
/-- Offset of MEM_BANK. -/
def MEM_BANK (b : Nat) : Nat := 0x7100 + 0x4 * b
/-- Offset of PNT_RDADDR. -/
def PNT_RDADDR : Nat := 0x8000
/-- Offset of PNT_RDREC0. -/
def PNT_RDREC0 : Nat := 0x8004
/-- Offset of PNT_RDREC1. -/
def PNT_RDREC1 : Nat := 0x8008
/-- Offset of PNT_RDREC2. -/
def PNT_RDREC2 : Nat := 0x800C
/-- Offset of PNT_RDREC3. -/
def PNT_RDREC3 : Nat := 0x8010
/-- Offset of PNT_CFG. -/
def PNT_CFG : Nat := 0x801C
/-- Offset of PNT_FORCES. -/
def PNT_FORCES : Nat := 0x8020
/-- Offset of PNT_SUBS. -/
def PNT_SUBS : Nat := 0x8024
/-- Offset of PNT_SUBPTS. -/
def PNT_SUBPTS : Nat := 0x8028
/-- Offset of PNT_RETAIN. -/
def PNT_RETAIN : Nat := 0x802C
/-- Offset of PNT_QSTALE. -/
def PNT_QSTALE : Nat := 0x8030
/-- Offset of PNT_QABSENT. -/
def PNT_QABSENT : Nat := 0x8034
/-- Offset of PNT_BATCH. -/
def PNT_BATCH : Nat := 0x8038
/-- Offset of PNT_CNT_ABSORBED. -/
def PNT_CNT_ABSORBED : Nat := 0x8040
/-- Offset of PNT_CNT_NOTICE. -/
def PNT_CNT_NOTICE : Nat := 0x8044
/-- Offset of PNT_CNT_REFUSED. -/
def PNT_CNT_REFUSED : Nat := 0x8048
/-- Offset of LDL_STATUS. -/
def LDL_STATUS (n : Nat) : Nat := 0xA000 + 0x200 * n
/-- Offset of LDL_PROG. -/
def LDL_PROG (n : Nat) : Nat := 0xA004 + 0x200 * n
/-- Offset of LDL_FOOT. -/
def LDL_FOOT (n : Nat) : Nat := 0xA008 + 0x200 * n
/-- Offset of LDL_WFOOT. -/
def LDL_WFOOT (n : Nat) : Nat := 0xA00C + 0x200 * n
/-- Offset of LDL_WCU. -/
def LDL_WCU (n : Nat) : Nat := 0xA010 + 0x200 * n
/-- Offset of LDL_LASTU. -/
def LDL_LASTU (n : Nat) : Nat := 0xA014 + 0x200 * n
/-- Offset of LDL_LASTNS. -/
def LDL_LASTNS (n : Nat) : Nat := 0xA018 + 0x200 * n
/-- Offset of LDL_MAXNS. -/
def LDL_MAXNS (n : Nat) : Nat := 0xA01C + 0x200 * n
/-- Offset of LDL_CALLS. -/
def LDL_CALLS (n : Nat) : Nat := 0xA020 + 0x200 * n
/-- Offset of LDL_IDXFAULT. -/
def LDL_IDXFAULT (n : Nat) : Nat := 0xA024 + 0x200 * n
/-- Offset of LDL_ARITH. -/
def LDL_ARITH (n : Nat) : Nat := 0xA028 + 0x200 * n
/-- Offset of LDL_LCDISCARD. -/
def LDL_LCDISCARD (n : Nat) : Nat := 0xA02C + 0x200 * n
/-- Offset of LDL_TCUSE. -/
def LDL_TCUSE (n : Nat) : Nat := 0xA030 + 0x200 * n
/-- Offset of LDL_EMUSE. -/
def LDL_EMUSE (n : Nat) : Nat := 0xA034 + 0x200 * n
/-- Offset of LDL_PROGID. -/
def LDL_PROGID (n : Nat) : Nat := 0xA038 + 0x200 * n
/-- Offset of CYC_STATUS. -/
def CYC_STATUS : Nat := 0xC000
/-- Offset of CYC_PERIOD. -/
def CYC_PERIOD : Nat := 0xC004
/-- Offset of CYC_MARGIN. -/
def CYC_MARGIN : Nat := 0xC008
/-- Offset of CYC_OFFSET. -/
def CYC_OFFSET : Nat := 0xC00C
/-- Offset of CYC_COUNT. -/
def CYC_COUNT : Nat := 0xC010
/-- Offset of CYC_CNT_COMMIT. -/
def CYC_CNT_COMMIT : Nat := 0xC014
/-- Offset of CYC_CNT_OVERRUN. -/
def CYC_CNT_OVERRUN : Nat := 0xC018
/-- Offset of CYC_CNT_PLANNED. -/
def CYC_CNT_PLANNED : Nat := 0xC01C
/-- Offset of CYC_CNT_SUPPLY. -/
def CYC_CNT_SUPPLY : Nat := 0xC020
/-- Offset of CYC_OVR. -/
def CYC_OVR : Nat := 0xC024
/-- Offset of CYC_BUD_FULL. -/
def CYC_BUD_FULL : Nat := 0xC028
/-- Offset of CYC_BUD_EBB. -/
def CYC_BUD_EBB : Nat := 0xC02C
/-- Offset of CYC_BUD_COMMIT. -/
def CYC_BUD_COMMIT : Nat := 0xC030
/-- Offset of CYC_LASTCHG. -/
def CYC_LASTCHG : Nat := 0xC034
/-- Offset of CYC_CHGBATCH. -/
def CYC_CHGBATCH : Nat := 0xC038
/-- Offset of CYC_CMTBATCH. -/
def CYC_CMTBATCH : Nat := 0xC03C
/-- Offset of CYC_RAN. -/
def CYC_RAN : Nat := 0xC040
/-- Offset of CYC_HOLDLEFT. -/
def CYC_HOLDLEFT : Nat := 0xC044
/-- Offset of CYC_SCHED_MODE. -/
def CYC_SCHED_MODE (n : Nat) : Nat := 0xC100 + 0x10 * n
/-- Offset of CYC_SCHED_PHASE. -/
def CYC_SCHED_PHASE (n : Nat) : Nat := 0xC104 + 0x10 * n
/-- Offset of CYC_SCHED_TRIG. -/
def CYC_SCHED_TRIG (n : Nat) : Nat := 0xC108 + 0x10 * n
/-- Offset of CYC_SCHED_LASTRUN. -/
def CYC_SCHED_LASTRUN (n : Nat) : Nat := 0xC10C + 0x10 * n
/-- Offset of LMP_TICK. -/
def LMP_TICK : Nat := 0xD000
/-- Offset of LMP_CTL. -/
def LMP_CTL : Nat := 0xD004
/-- Offset of LMP_STATUS. -/
def LMP_STATUS : Nat := 0xD008
/-- Offset of LMP_CHANNELS. -/
def LMP_CHANNELS : Nat := 0xD00C
/-- Offset of LMP_EVAL. -/
def LMP_EVAL : Nat := 0xD010
/-- Offset of LMP_POURLO. -/
def LMP_POURLO : Nat := 0xD014
/-- Offset of LMP_POURHI. -/
def LMP_POURHI : Nat := 0xD018
/-- Offset of LMP_POURSEQ. -/
def LMP_POURSEQ : Nat := 0xD01C
/-- Offset of LMP_EMFADE. -/
def LMP_EMFADE : Nat := 0xD020
/-- Offset of LMP_CNT_MOVING. -/
def LMP_CNT_MOVING : Nat := 0xD024
/-- Offset of LMP_CNT_LATE. -/
def LMP_CNT_LATE : Nat := 0xD028
/-- Offset of LMP_CNT_SAT. -/
def LMP_CNT_SAT : Nat := 0xD02C
/-- Offset of LMP_CNT_PROBE. -/
def LMP_CNT_PROBE : Nat := 0xD030
/-- Offset of LMP_CNT_NOZONE. -/
def LMP_CNT_NOZONE : Nat := 0xD034
/-- Offset of LMP_FAULTS. -/
def LMP_FAULTS : Nat := 0xD038
/-- Offset of LMP_UNVER. -/
def LMP_UNVER : Nat := 0xD03C
/-- Offset of TRK_ETYPE. -/
def TRK_ETYPE : Nat := 0x103F0
/-- Offset of TRK_CTL. -/
def TRK_CTL (p : Nat) : Nat := 0x10000 + 0x400 * p
/-- Offset of TRK_STATUS. -/
def TRK_STATUS (p : Nat) : Nat := 0x10004 + 0x400 * p
/-- Offset of TRK_PLCA. -/
def TRK_PLCA (p : Nat) : Nat := 0x10008 + 0x400 * p
/-- Offset of TRK_PLCA2. -/
def TRK_PLCA2 (p : Nat) : Nat := 0x1000C + 0x400 * p
/-- Offset of TRK_GATECTL. -/
def TRK_GATECTL (p : Nat) : Nat := 0x10010 + 0x400 * p
/-- Offset of TRK_GATESTAT. -/
def TRK_GATESTAT (p : Nat) : Nat := 0x10014 + 0x400 * p
/-- Offset of TRK_POURWIN. -/
def TRK_POURWIN (p : Nat) : Nat := 0x10018 + 0x400 * p
/-- Offset of TRK_TSADJ. -/
def TRK_TSADJ (p : Nat) : Nat := 0x1001C + 0x400 * p
/-- Offset of TRK_TXFRAMES. -/
def TRK_TXFRAMES (p : Nat) : Nat := 0x10040 + 0x400 * p
/-- Offset of TRK_RXFRAMES. -/
def TRK_RXFRAMES (p : Nat) : Nat := 0x10044 + 0x400 * p
/-- Offset of TRK_RXDROP. -/
def TRK_RXDROP (p : Nat) : Nat := 0x10048 + 0x400 * p
/-- Offset of TRK_RXTRUNC. -/
def TRK_RXTRUNC (p : Nat) : Nat := 0x1004C + 0x400 * p
/-- Offset of TRK_RXFCS. -/
def TRK_RXFCS (p : Nat) : Nat := 0x10050 + 0x400 * p
/-- Offset of TRK_RXFILTER. -/
def TRK_RXFILTER (p : Nat) : Nat := 0x10054 + 0x400 * p
/-- Offset of TRK_COLL. -/
def TRK_COLL (p : Nat) : Nat := 0x10058 + 0x400 * p
/-- Offset of TRK_TXLATE. -/
def TRK_TXLATE (p : Nat) : Nat := 0x1005C + 0x400 * p
/-- Offset of TRK_POURMISS. -/
def TRK_POURMISS (p : Nat) : Nat := 0x10060 + 0x400 * p
/-- Offset of TRK_NODEMAP. -/
def TRK_NODEMAP (p : Nat) : Nat := 0x10064 + 0x400 * p
/-- Offset of TRK_STALEMAP. -/
def TRK_STALEMAP (p : Nat) : Nat := 0x10068 + 0x400 * p
/-- Offset of TRK_NODEMISS. -/
def TRK_NODEMISS (p i : Nat) : Nat := 0x10080 + 0x400 * p + 0x4 * i
/-- Offset of TRK_GATE. -/
def TRK_GATE (p e : Nat) : Nat := 0x10100 + 0x400 * p + 0x4 * e
/-- Offset of TRK_ADDRLO. -/
def TRK_ADDRLO (p i : Nat) : Nat := 0x10200 + 0x400 * p + 0x8 * i
/-- Offset of TRK_ADDRHI. -/
def TRK_ADDRHI (p i : Nat) : Nat := 0x10204 + 0x400 * p + 0x8 * i
/-- Offset of ETH_CTL. -/
def ETH_CTL (g : Nat) : Nat := 0x20000 + 0x800 * g
/-- Offset of ETH_STATUS. -/
def ETH_STATUS (g : Nat) : Nat := 0x20004 + 0x800 * g
/-- Offset of ETH_PAUSE. -/
def ETH_PAUSE (g : Nat) : Nat := 0x20008 + 0x800 * g
/-- Offset of ETH_TSADJ. -/
def ETH_TSADJ (g : Nat) : Nat := 0x2000C + 0x800 * g
/-- Offset of ETH_ADDRLO. -/
def ETH_ADDRLO (g i : Nat) : Nat := 0x20100 + 0x800 * g + 0x8 * i
/-- Offset of ETH_ADDRHI. -/
def ETH_ADDRHI (g i : Nat) : Nat := 0x20104 + 0x800 * g + 0x8 * i
/-- Offset of ETH_TXFRAMES. -/
def ETH_TXFRAMES (g : Nat) : Nat := 0x20040 + 0x800 * g
/-- Offset of ETH_RXFRAMES. -/
def ETH_RXFRAMES (g : Nat) : Nat := 0x20044 + 0x800 * g
/-- Offset of ETH_RXDROP. -/
def ETH_RXDROP (g : Nat) : Nat := 0x20048 + 0x800 * g
/-- Offset of ETH_RXTRUNC. -/
def ETH_RXTRUNC (g : Nat) : Nat := 0x2004C + 0x800 * g
/-- Offset of ETH_RXFCS. -/
def ETH_RXFCS (g : Nat) : Nat := 0x20050 + 0x800 * g
/-- Offset of ETH_RXFILTER. -/
def ETH_RXFILTER (g : Nat) : Nat := 0x20054 + 0x800 * g
/-- Offset of ETH_PAUSECAPPED. -/
def ETH_PAUSECAPPED (g : Nat) : Nat := 0x20058 + 0x800 * g
/-- Offset of TRK_CZNCFG. -/
def TRK_CZNCFG : Nat := 0x103F4
/-- Offset of TRK_CZNKEY. -/
def TRK_CZNKEY : Nat := 0x103F8
/-- Offset of TRK_CZNSWITCH. -/
def TRK_CZNSWITCH : Nat := 0x103FC
/-- Offset of TRK_CZNTXCTR. -/
def TRK_CZNTXCTR (p : Nat) : Nat := 0x10300 + 0x400 * p
/-- Offset of TRK_CZNAUTH. -/
def TRK_CZNAUTH (p : Nat) : Nat := 0x10304 + 0x400 * p
/-- Offset of TRK_CZNREPEAT. -/
def TRK_CZNREPEAT (p : Nat) : Nat := 0x10308 + 0x400 * p
/-- Offset of TRK_CZNOLD. -/
def TRK_CZNOLD (p : Nat) : Nat := 0x1030C + 0x400 * p
/-- Offset of TRK_CZNREJ. -/
def TRK_CZNREJ (p : Nat) : Nat := 0x10310 + 0x400 * p
/-- Offset of TRK_CZNITEM. -/
def TRK_CZNITEM (p : Nat) : Nat := 0x10324 + 0x400 * p
/-- Offset of TRK_CZNV2MAP. -/
def TRK_CZNV2MAP (p : Nat) : Nat := 0x10314 + 0x400 * p
/-- Offset of TRK_CZNLOCKMAP. -/
def TRK_CZNLOCKMAP (p : Nat) : Nat := 0x10318 + 0x400 * p
/-- Offset of TRK_CZNFALLMAP. -/
def TRK_CZNFALLMAP (p : Nat) : Nat := 0x1031C + 0x400 * p
/-- Offset of TRK_CZNSERVMAP. -/
def TRK_CZNSERVMAP (p : Nat) : Nat := 0x10320 + 0x400 * p
/-- Offset of RAD_CTL. -/
def RAD_CTL (r : Nat) : Nat := 0x21000 + 0x400 * r
/-- Offset of RAD_TXPWR. -/
def RAD_TXPWR (r : Nat) : Nat := 0x21004 + 0x400 * r
/-- Offset of RAD_PHY. -/
def RAD_PHY (r : Nat) : Nat := 0x21008 + 0x400 * r
/-- Offset of RAD_BEACON. -/
def RAD_BEACON (r : Nat) : Nat := 0x2100C + 0x400 * r
/-- Offset of RAD_DUTY. -/
def RAD_DUTY (r : Nat) : Nat := 0x21010 + 0x400 * r
/-- Offset of RAD_STATUS. -/
def RAD_STATUS (r : Nat) : Nat := 0x21014 + 0x400 * r
/-- Offset of RAD_LOAD. -/
def RAD_LOAD (r : Nat) : Nat := 0x21018 + 0x400 * r
/-- Offset of RAD_BCNSEQ. -/
def RAD_BCNSEQ (r : Nat) : Nat := 0x2101C + 0x400 * r
/-- Offset of RAD_TSADJ. -/
def RAD_TSADJ (r : Nat) : Nat := 0x21020 + 0x400 * r
/-- Offset of RAD_NODES. -/
def RAD_NODES (r : Nat) : Nat := 0x21024 + 0x400 * r
/-- Offset of RAD_TXFRAMES. -/
def RAD_TXFRAMES (r : Nat) : Nat := 0x21040 + 0x400 * r
/-- Offset of RAD_RXFRAMES. -/
def RAD_RXFRAMES (r : Nat) : Nat := 0x21044 + 0x400 * r
/-- Offset of RAD_RXFCS. -/
def RAD_RXFCS (r : Nat) : Nat := 0x21048 + 0x400 * r
/-- Offset of RAD_RXSEGID. -/
def RAD_RXSEGID (r : Nat) : Nat := 0x2104C + 0x400 * r
/-- Offset of RAD_WAKES. -/
def RAD_WAKES (r : Nat) : Nat := 0x21050 + 0x400 * r
/-- Offset of RAD_DEFERRED. -/
def RAD_DEFERRED (r : Nat) : Nat := 0x21054 + 0x400 * r
/-- Offset of RAD_CZNAUTH. -/
def RAD_CZNAUTH (r : Nat) : Nat := 0x21058 + 0x400 * r
/-- Offset of RAD_CZNREPEAT. -/
def RAD_CZNREPEAT (r : Nat) : Nat := 0x2105C + 0x400 * r
/-- Offset of RAD_CZNOLD. -/
def RAD_CZNOLD (r : Nat) : Nat := 0x21060 + 0x400 * r
/-- Offset of RAD_CZNREJ. -/
def RAD_CZNREJ (r : Nat) : Nat := 0x21064 + 0x400 * r
/-- Offset of RAD_CZNITEM. -/
def RAD_CZNITEM (r : Nat) : Nat := 0x21068 + 0x400 * r
/-- Offset of RAD_CUT. -/
def RAD_CUT (r : Nat) : Nat := 0x2106C + 0x400 * r
/-- Offset of RAD_CZNTXCTR. -/
def RAD_CZNTXCTR (r : Nat) : Nat := 0x21070 + 0x400 * r
/-- Offset of TIM_CTL. -/
def TIM_CTL : Nat := 0x22000
/-- Offset of TIM_STATUS. -/
def TIM_STATUS : Nat := 0x22004
/-- Offset of TIM_INCRLO. -/
def TIM_INCRLO : Nat := 0x22008
/-- Offset of TIM_INCRHI. -/
def TIM_INCRHI : Nat := 0x2200C
/-- Offset of TIM_MONOLO. -/
def TIM_MONOLO : Nat := 0x22010
/-- Offset of TIM_MONOHI. -/
def TIM_MONOHI : Nat := 0x22014
/-- Offset of TIM_WALLNS. -/
def TIM_WALLNS : Nat := 0x22018
/-- Offset of TIM_WALLSECLO. -/
def TIM_WALLSECLO : Nat := 0x2201C
/-- Offset of TIM_WALLSECHI. -/
def TIM_WALLSECHI : Nat := 0x22020
/-- Offset of TIM_STAMPLO. -/
def TIM_STAMPLO : Nat := 0x22024
/-- Offset of TIM_STAMPHI. -/
def TIM_STAMPHI : Nat := 0x22028
/-- Offset of TIM_STEPSEC. -/
def TIM_STEPSEC : Nat := 0x22030
/-- Offset of TIM_STEPNS. -/
def TIM_STEPNS : Nat := 0x22034
/-- Offset of TIM_STEP. -/
def TIM_STEP : Nat := 0x22038
/-- Offset of TIM_OFFSET. -/
def TIM_OFFSET : Nat := 0x2203C
/-- Offset of TIM_SERVO. -/
def TIM_SERVO : Nat := 0x22040
/-- Offset of TIM_UTCOFF. -/
def TIM_UTCOFF : Nat := 0x22044
/-- Offset of TIM_PTPCFG. -/
def TIM_PTPCFG : Nat := 0x22048
/-- Offset of TIM_PTPSTAT. -/
def TIM_PTPSTAT : Nat := 0x2204C
/-- Offset of TIM_STEPCNT. -/
def TIM_STEPCNT : Nat := 0x22050
/-- Offset of RTC_CTL. -/
def RTC_CTL : Nat := 0x23000
/-- Offset of RTC_STATUS. -/
def RTC_STATUS : Nat := 0x23004
/-- Offset of RTC_SUBSEC. -/
def RTC_SUBSEC : Nat := 0x23008
/-- Offset of RTC_UTC. -/
def RTC_UTC : Nat := 0x2300C
/-- Offset of RTC_DATE. -/
def RTC_DATE : Nat := 0x23010
/-- Offset of RTC_CLOCK. -/
def RTC_CLOCK : Nat := 0x23014
/-- Offset of RTC_STG_UTC. -/
def RTC_STG_UTC : Nat := 0x23018
/-- Offset of RTC_STG_SUBSEC. -/
def RTC_STG_SUBSEC : Nat := 0x2301C
/-- Offset of RTC_COMMIT. -/
def RTC_COMMIT : Nat := 0x23020
/-- Offset of RTC_TRIM. -/
def RTC_TRIM : Nat := 0x23024
/-- Offset of RTC_CAUSE. -/
def RTC_CAUSE : Nat := 0x23028
/-- Offset of RTC_PER_CFG. -/
def RTC_PER_CFG (k : Nat) : Nat := 0x23040 + 0x8 * k
/-- Offset of RTC_PER_PHASE. -/
def RTC_PER_PHASE (k : Nat) : Nat := 0x23044 + 0x8 * k
/-- Offset of RTC_ALM_CFG. -/
def RTC_ALM_CFG (a : Nat) : Nat := 0x23080 + 0x20 * a
/-- Offset of RTC_ALM_AT. -/
def RTC_ALM_AT (a : Nat) : Nat := 0x23084 + 0x20 * a
/-- Offset of RTC_ALM_IVL. -/
def RTC_ALM_IVL (a : Nat) : Nat := 0x23088 + 0x20 * a
/-- Offset of RTC_ALM_NEXT. -/
def RTC_ALM_NEXT (a : Nat) : Nat := 0x2308C + 0x20 * a
/-- Offset of RTC_ALM_LAST. -/
def RTC_ALM_LAST (a : Nat) : Nat := 0x23090 + 0x20 * a
/-- Offset of RTC_ALM_SKIP. -/
def RTC_ALM_SKIP (a : Nat) : Nat := 0x23094 + 0x20 * a
/-- Offset of MTR_CTL. -/
def MTR_CTL : Nat := 0x24000
/-- Offset of MTR_STATUS. -/
def MTR_STATUS : Nat := 0x24004
/-- Offset of MTR_INTERVAL. -/
def MTR_INTERVAL : Nat := 0x24008
/-- Offset of MTR_SEQ. -/
def MTR_SEQ : Nat := 0x2400C
/-- Offset of MTR_UNMEAS. -/
def MTR_UNMEAS : Nat := 0x24010
/-- Offset of MTR_OPENLO. -/
def MTR_OPENLO : Nat := 0x24014
/-- Offset of MTR_OPENHI. -/
def MTR_OPENHI : Nat := 0x24018
/-- Offset of MTR_CH_STATUS. -/
def MTR_CH_STATUS (k : Nat) : Nat := 0x24100 + 0x10 * k
/-- Offset of MTR_CH_CLIP. -/
def MTR_CH_CLIP (k : Nat) : Nat := 0x24104 + 0x10 * k
/-- Offset of MTR_CH_SWITCH. -/
def MTR_CH_SWITCH (k : Nat) : Nat := 0x24108 + 0x10 * k
/-- Offset of MTR_V_STATUS. -/
def MTR_V_STATUS (v : Nat) : Nat := 0x24300 + 0x10 * v
/-- Offset of MTR_PULSE_STATUS. -/
def MTR_PULSE_STATUS (j : Nat) : Nat := 0x24400 + 0x10 * j
/-- Offset of MTR_PULSE_COUNT. -/
def MTR_PULSE_COUNT (j : Nat) : Nat := 0x24404 + 0x10 * j
/-- Offset of MTR_PULSE_RES. -/
def MTR_PULSE_RES (j : Nat) : Nat := 0x24408 + 0x10 * j
/-- Offset of EVR_CFG. -/
def EVR_CFG : Nat := 0x28000
/-- Offset of EVR_STATUS. -/
def EVR_STATUS : Nat := 0x28004
/-- Offset of EVR_NEWEST. -/
def EVR_NEWEST : Nat := 0x28008
/-- Offset of EVR_OLDEST. -/
def EVR_OLDEST : Nat := 0x2800C
/-- Offset of EVR_FLASHED. -/
def EVR_FLASHED : Nat := 0x28010
/-- Offset of EVR_BUFLEVEL. -/
def EVR_BUFLEVEL : Nat := 0x28014
/-- Offset of EVR_CURSOR. -/
def EVR_CURSOR : Nat := 0x28018
/-- Offset of EVR_WINSTAT. -/
def EVR_WINSTAT : Nat := 0x2801C
/-- Offset of EVR_WINFIRST. -/
def EVR_WINFIRST : Nat := 0x28020
/-- Offset of EVR_WINCTL. -/
def EVR_WINCTL : Nat := 0x28024
/-- Offset of EVR_STREAM. -/
def EVR_STREAM : Nat := 0x28028
/-- Offset of EVR_DROPPED. -/
def EVR_DROPPED : Nat := 0x2802C
/-- Offset of EVR_CLEARS. -/
def EVR_CLEARS : Nat := 0x28030
/-- Offset of RDN_CFG. -/
def RDN_CFG : Nat := 0x29000
/-- Offset of RDN_STATUS. -/
def RDN_STATUS : Nat := 0x29004
/-- Offset of RDN_CLAIM. -/
def RDN_CLAIM : Nat := 0x29008
/-- Offset of RDN_PEERCLAIM. -/
def RDN_PEERCLAIM : Nat := 0x2900C
/-- Offset of RDN_WEPOCH. -/
def RDN_WEPOCH : Nat := 0x29010
/-- Offset of RDN_ROTATE. -/
def RDN_ROTATE : Nat := 0x29014
/-- Offset of RDN_ROTLEFT. -/
def RDN_ROTLEFT : Nat := 0x29018
/-- Offset of RDN_DELTASENT. -/
def RDN_DELTASENT : Nat := 0x2901C
/-- Offset of RDN_DELTAACK. -/
def RDN_DELTAACK : Nat := 0x29020
/-- Offset of RDN_SEED. -/
def RDN_SEED : Nat := 0x29024
/-- Offset of RDN_HEALTH. -/
def RDN_HEALTH : Nat := 0x29028
/-- Offset of RDN_TIMING. -/
def RDN_TIMING : Nat := 0x2902C
/-- Offset of RDN_ETYPE. -/
def RDN_ETYPE : Nat := 0x29030
/-- Offset of RDN_CNT_TAKEOVER. -/
def RDN_CNT_TAKEOVER : Nat := 0x29040
/-- Offset of RDN_CNT_HANDOVER. -/
def RDN_CNT_HANDOVER : Nat := 0x29044
/-- Offset of RDN_CNT_REVERT. -/
def RDN_CNT_REVERT : Nat := 0x29048
/-- Offset of RDN_CNT_DEMOTE. -/
def RDN_CNT_DEMOTE : Nat := 0x2904C
/-- Offset of KEY_MODE. -/
def KEY_MODE : Nat := 0x40000
/-- Offset of KEY_LC. -/
def KEY_LC : Nat := 0x40004
/-- Offset of KEY_LCREQ. -/
def KEY_LCREQ : Nat := 0x40008
/-- Offset of KEY_STATUS. -/
def KEY_STATUS : Nat := 0x4000C
/-- Offset of KEY_WRSEL. -/
def KEY_WRSEL : Nat := 0x40010
/-- Offset of KEY_WRATTR. -/
def KEY_WRATTR : Nat := 0x40014
/-- Offset of KEY_WRGO. -/
def KEY_WRGO : Nat := 0x40018
/-- Offset of KEY_CZNSRC. -/
def KEY_CZNSRC : Nat := 0x4001C
/-- Offset of KEY_GRACE. -/
def KEY_GRACE : Nat := 0x40020
/-- Offset of KEY_CACHE. -/
def KEY_CACHE : Nat := 0x40024
/-- Offset of KEY_WRDATA. -/
def KEY_WRDATA (i : Nat) : Nat := 0x40040 + 0x4 * i
/-- Offset of KEY_IDPUB. -/
def KEY_IDPUB (i : Nat) : Nat := 0x40100 + 0x4 * i
/-- Offset of KEY_SLOT_ATTR. -/
def KEY_SLOT_ATTR (s : Nat) : Nat := 0x40400 + 0x4 * s
/-- Offset of KEY_ROOT_ATTR. -/
def KEY_ROOT_ATTR (r : Nat) : Nat := 0x40800 + 0x4 * r
/-- Offset of PAT_STATUS. -/
def PAT_STATUS : Nat := 0x2A000
/-- Offset of PAT_VERA. -/
def PAT_VERA : Nat := 0x2A004
/-- Offset of PAT_VERB. -/
def PAT_VERB : Nat := 0x2A008
/-- Offset of PAT_FLOOR. -/
def PAT_FLOOR : Nat := 0x2A00C
/-- Offset of PAT_CFG. -/
def PAT_CFG : Nat := 0x2A010
/-- Offset of PAT_LASTPAUSE. -/
def PAT_LASTPAUSE : Nat := 0x2A014
/-- Offset of PAT_HALTADDRLO. -/
def PAT_HALTADDRLO : Nat := 0x2A020
/-- Offset of PAT_HALTADDRHI. -/
def PAT_HALTADDRHI : Nat := 0x2A024
/-- Offset of PAT_HALTLEN. -/
def PAT_HALTLEN : Nat := 0x2A028
/-- Offset of PAT_HALTGO. -/
def PAT_HALTGO : Nat := 0x2A02C

end Reg

namespace F

def GLB_IDENT_PRODUCT : Fld := ⟨16, 16⟩
def GLB_ORDER_TRUNKS : Fld := ⟨8, 8⟩
def GLB_ORDER_BAND : Fld := ⟨4, 4⟩
def GLB_ORDER_RADIOS : Fld := ⟨0, 4⟩
def GLB_HWREV_CHIP_STEP : Fld := ⟨8, 8⟩
def GLB_HWREV_BOARD_REV : Fld := ⟨0, 8⟩
def GLB_PATVER_MAJOR : Fld := ⟨24, 8⟩
def GLB_PATVER_MINOR : Fld := ⟨16, 8⟩
def GLB_PATVER_BUILD : Fld := ⟨0, 16⟩
def GLB_STATUS_UNIT : Fld := ⟨12, 1⟩
def GLB_STATUS_MAINT : Fld := ⟨11, 1⟩
def GLB_STATUS_EMERG : Fld := ⟨10, 1⟩
def GLB_STATUS_PAT_SLOT : Fld := ⟨9, 1⟩
def GLB_STATUS_FLUSH_DONE : Fld := ⟨8, 1⟩
def GLB_STATUS_FLUSHING : Fld := ⟨7, 1⟩
def GLB_STATUS_PFW : Fld := ⟨6, 1⟩
def GLB_STATUS_FORCED_EBB : Fld := ⟨5, 1⟩
def GLB_STATUS_EBB : Fld := ⟨4, 1⟩
def GLB_STATUS_RISER_OK : Fld := ⟨3, 1⟩
def GLB_STATUS_CFG_ONE_COPY : Fld := ⟨2, 1⟩
def GLB_STATUS_DEFAULTED : Fld := ⟨1, 1⟩
def GLB_STATUS_RUN : Fld := ⟨0, 1⟩
def GLB_BOOTSTAGE_STAGE : Fld := ⟨0, 4⟩
def GLB_FLAGS_RETAIN_MISMATCH : Fld := ⟨6, 1⟩
def GLB_FLAGS_FLUSH_INCOMPLETE : Fld := ⟨5, 1⟩
def GLB_FLAGS_DIP_RECOVERED : Fld := ⟨4, 1⟩
def GLB_FLAGS_CFG_COPY_BAD : Fld := ⟨3, 1⟩
def GLB_FLAGS_SLOW : Fld := ⟨2, 1⟩
def GLB_FLAGS_THERMAL : Fld := ⟨1, 1⟩
def GLB_FLAGS_PFW_SEEN : Fld := ⟨0, 1⟩
def GLB_VSTATE_EBB : Fld := ⟨0, 1⟩
def GLB_PACE_PACE_MIN : Fld := ⟨16, 16⟩
def GLB_PACE_PACE : Fld := ⟨0, 16⟩
def GLB_DIETEMP_TEMP : Fld := ⟨0, 16⟩
def GLB_SUPPLY_RISER : Fld := ⟨16, 16⟩
def GLB_SUPPLY_VIN : Fld := ⟨0, 16⟩
def GLB_SUPPLY2_VBAK : Fld := ⟨0, 16⟩
def GLB_RISERREADY_LEVEL : Fld := ⟨0, 16⟩
def HIF_VERSION_SUPPORTED : Fld := ⟨8, 8⟩
def HIF_VERSION_SELECT : Fld := ⟨0, 4⟩
def HIF_STATUS_HEAT : Fld := ⟨16, 12⟩
def HIF_STATUS_CPL_WAIT : Fld := ⟨1, 1⟩
def HIF_STATUS_READY : Fld := ⟨0, 1⟩
def HIF_PCIID_DEVICE : Fld := ⟨16, 16⟩
def HIF_PCIID_VENDOR : Fld := ⟨0, 16⟩
def HIF_ERR_FUNC_RESET : Fld := ⟨3, 1⟩
def HIF_ERR_RING_ERR : Fld := ⟨2, 1⟩
def HIF_ERR_VERSION_LOCK : Fld := ⟨1, 1⟩
def HIF_ERR_EARLY_DB : Fld := ⟨0, 1⟩
def HIF_LINK_WIDTH : Fld := ⟨4, 4⟩
def HIF_LINK_SPEED : Fld := ⟨0, 4⟩
def HIF_CAUSE_THERMAL : Fld := ⟨6, 1⟩
def HIF_CAUSE_EMERG : Fld := ⟨5, 1⟩
def HIF_CAUSE_ROLE : Fld := ⟨4, 1⟩
def HIF_CAUSE_RESUMED : Fld := ⟨3, 1⟩
def HIF_CAUSE_PFW : Fld := ⟨2, 1⟩
def HIF_CAUSE_RING_HALT : Fld := ⟨1, 1⟩
def HIF_CAUSE_HIF_ERR : Fld := ⟨0, 1⟩
def HIF_CAUSEEN_ENABLE : Fld := ⟨0, 7⟩
def HIF_CAUSEVEC_VECTOR : Fld := ⟨0, 5⟩
def RNG_CFG_ENABLE : Fld := ⟨31, 1⟩
def RNG_CFG_VECTOR : Fld := ⟨16, 5⟩
def RNG_CFG_IRQ_EN : Fld := ⟨15, 1⟩
def RNG_CFG_ESIZE : Fld := ⟨8, 4⟩
def RNG_CFG_SIZE : Fld := ⟨0, 5⟩
def RNG_COAL_TIME : Fld := ⟨16, 16⟩
def RNG_COAL_COUNT : Fld := ⟨0, 16⟩
def RNG_STATUS_LOST : Fld := ⟨16, 16⟩
def RNG_STATUS_PAUSED : Fld := ⟨7, 1⟩
def RNG_STATUS_BAD_SETUP : Fld := ⟨6, 1⟩
def RNG_STATUS_CFG_REFUSED : Fld := ⟨5, 1⟩
def RNG_STATUS_DB_DISABLED : Fld := ⟨4, 1⟩
def RNG_STATUS_DB_RANGE : Fld := ⟨3, 1⟩
def RNG_STATUS_HALTED : Fld := ⟨2, 1⟩
def RNG_STATUS_IDLE : Fld := ⟨1, 1⟩
def RNG_STATUS_ENABLED : Fld := ⟨0, 1⟩
def TXN_CFG_WAIT : Fld := ⟨16, 16⟩
def TXN_CFG_IDLE : Fld := ⟨0, 16⟩
def TXN_SUMMARY_ONLINE : Fld := ⟨4, 1⟩
def TXN_SUMMARY_OPEN : Fld := ⟨0, 4⟩
def TXN_STATE_TAG : Fld := ⟨16, 16⟩
def TXN_STATE_STATE : Fld := ⟨12, 4⟩
def TXN_STATE_POINT : Fld := ⟨10, 2⟩
def TXN_STATE_DOOMED : Fld := ⟨9, 1⟩
def TXN_STATE_ONLINE : Fld := ⟨8, 1⟩
def TXN_STATE_LOCAL : Fld := ⟨7, 1⟩
def TXN_USE_REGS : Fld := ⟨20, 12⟩
def TXN_USE_TABLE : Fld := ⟨0, 17⟩
def TXN_POINTS_KEYS : Fld := ⟨16, 5⟩
def TXN_POINTS_POINTS : Fld := ⟨0, 15⟩
def DMA_LINKRATE_RATE : Fld := ⟨0, 16⟩
def DMA_CFG_SHARE : Fld := ⟨8, 8⟩
def DMA_CFG_PRIO : Fld := ⟨0, 3⟩
def DMA_CTL_RESUME : Fld := ⟨0, 1⟩
def DMA_STATUS_HALTED : Fld := ⟨16, 1⟩
def DMA_STATUS_LASTCAUSE : Fld := ⟨8, 8⟩
def DMA_STATUS_CONSEC : Fld := ⟨0, 5⟩
def TUN_LEVEL_PACKETS : Fld := ⟨16, 9⟩
def TUN_LEVEL_BYTES : Fld := ⟨0, 16⟩
def TUN_CTL_FLUSH : Fld := ⟨0, 1⟩
def MEM_STATUS_NO_SPARE : Fld := ⟨4, 1⟩
def MEM_STATUS_SPARES_FREE : Fld := ⟨0, 4⟩
def MEM_FETTLE_ENABLE : Fld := ⟨31, 1⟩
def MEM_FETTLE_PERIOD : Fld := ⟨0, 10⟩
def MEM_FETTLEPOS_PASS : Fld := ⟨16, 16⟩
def MEM_FETTLEPOS_BANK : Fld := ⟨8, 8⟩
def MEM_FETTLEPOS_REGION : Fld := ⟨0, 8⟩
def MEM_FETTLE_ABORTS_SKIPS : Fld := ⟨16, 16⟩
def MEM_FETTLE_ABORTS_DEFERRED : Fld := ⟨0, 16⟩
def MEM_CETHR_LIMIT : Fld := ⟨0, 16⟩
def MEM_ECC_DRAM_UE : Fld := ⟨24, 8⟩
def MEM_ECC_SRAM_UE : Fld := ⟨16, 8⟩
def MEM_ECC_CE : Fld := ⟨0, 16⟩
def MEM_BANK_PHYS : Fld := ⟨24, 8⟩
def MEM_BANK_CE24 : Fld := ⟨16, 8⟩
def MEM_BANK_STATE : Fld := ⟨8, 4⟩
def MEM_BANK_CHILL_OK : Fld := ⟨2, 1⟩
def MEM_BANK_CHILL : Fld := ⟨0, 1⟩
def PNT_RDADDR_ADDR : Fld := ⟨0, 25⟩
def PNT_RDREC1_WRITER : Fld := ⟨16, 16⟩
def PNT_RDREC1_FLAGS : Fld := ⟨8, 8⟩
def PNT_RDREC1_QUALITY : Fld := ⟨4, 4⟩
def PNT_RDREC1_TYPE : Fld := ⟨0, 4⟩
def PNT_CFG_FORCE_LOCK : Fld := ⟨0, 1⟩
def PNT_FORCES_ORPHANS : Fld := ⟨16, 13⟩
def PNT_FORCES_FORCES : Fld := ⟨0, 13⟩
def PNT_SUBS_COUNT : Fld := ⟨0, 11⟩
def PNT_SUBPTS_POINTS : Fld := ⟨0, 23⟩
def PNT_RETAIN_COUNT : Fld := ⟨0, 21⟩
def PNT_QSTALE_COUNT : Fld := ⟨0, 26⟩
def PNT_QABSENT_COUNT : Fld := ⟨0, 26⟩
def LDL_STATUS_PC : Fld := ⟨16, 16⟩
def LDL_STATUS_STATE : Fld := ⟨8, 4⟩
def LDL_STATUS_TABLE_PENDING : Fld := ⟨1, 1⟩
def LDL_STATUS_LOADED : Fld := ⟨0, 1⟩
def LDL_PROG_INSTR : Fld := ⟨0, 17⟩
def LDL_FOOT_RANGES : Fld := ⟨16, 10⟩
def LDL_FOOT_SLOTS : Fld := ⟨0, 16⟩
def LDL_WFOOT_WSLOTS : Fld := ⟨0, 16⟩
def LDL_CALLS_WC : Fld := ⟨16, 16⟩
def LDL_CALLS_LAST : Fld := ⟨0, 16⟩
def LDL_TCUSE_COUNTERS : Fld := ⟨16, 10⟩
def LDL_TCUSE_TIMERS : Fld := ⟨0, 10⟩
def LDL_EMUSE_MEMWORDS : Fld := ⟨16, 13⟩
def LDL_EMUSE_EDGES : Fld := ⟨0, 13⟩
def CYC_STATUS_STUCK : Fld := ⟨7, 1⟩
def CYC_STATUS_UNALIGNED : Fld := ⟨6, 1⟩
def CYC_STATUS_BUDGET_EBB : Fld := ⟨5, 1⟩
def CYC_STATUS_BUDGET_FULL : Fld := ⟨4, 1⟩
def CYC_STATUS_LAST_COMMITTED : Fld := ⟨3, 1⟩
def CYC_STATUS_STATE : Fld := ⟨0, 3⟩
def CYC_OVR_LIMIT : Fld := ⟨16, 16⟩
def CYC_OVR_CONSEC : Fld := ⟨0, 16⟩
def CYC_RAN_CUT : Fld := ⟨16, 16⟩
def CYC_RAN_RAN : Fld := ⟨0, 16⟩
def CYC_SCHED_MODE_DIVISOR : Fld := ⟨16, 16⟩
def CYC_SCHED_MODE_MODE : Fld := ⟨0, 8⟩
def CYC_SCHED_PHASE_INTERVAL : Fld := ⟨16, 16⟩
def CYC_SCHED_PHASE_PHASE : Fld := ⟨0, 16⟩
def CYC_SCHED_TRIG_ADDR : Fld := ⟨0, 25⟩
def LMP_TICK_MS : Fld := ⟨0, 8⟩
def LMP_CTL_EMERG_SW : Fld := ⟨2, 1⟩
def LMP_CTL_DITHER_EN : Fld := ⟨1, 1⟩
def LMP_CTL_PROBE_EN : Fld := ⟨0, 1⟩
def LMP_STATUS_EVAL_LATE : Fld := ⟨7, 1⟩
def LMP_STATUS_EMERG_SRC : Fld := ⟨4, 3⟩
def LMP_STATUS_EMERG : Fld := ⟨3, 1⟩
def LMP_STATUS_STATE : Fld := ⟨0, 2⟩
def LMP_CHANNELS_COUNT : Fld := ⟨0, 18⟩
def LMP_EVAL_MAX_US : Fld := ⟨16, 16⟩
def LMP_EVAL_LAST_US : Fld := ⟨0, 16⟩
def LMP_FAULTS_COUNT : Fld := ⟨0, 18⟩
def LMP_UNVER_COUNT : Fld := ⟨0, 18⟩
def TRK_ETYPE_ETYPE : Fld := ⟨0, 16⟩
def TRK_CTL_ENABLE : Fld := ⟨31, 1⟩
def TRK_CTL_PLCA_EN : Fld := ⟨30, 1⟩
def TRK_CTL_CAP_FOREIGN : Fld := ⟨29, 1⟩
def TRK_CTL_CAP_ALL : Fld := ⟨28, 1⟩
def TRK_CTL_BCAST : Fld := ⟨27, 1⟩
def TRK_CTL_MAXLEN : Fld := ⟨0, 12⟩
def TRK_STATUS_DUALCOORD : Fld := ⟨16, 16⟩
def TRK_STATUS_BEACONS : Fld := ⟨4, 6⟩
def TRK_STATUS_HIZ : Fld := ⟨3, 1⟩
def TRK_STATUS_ROLE : Fld := ⟨0, 2⟩
def TRK_PLCA_NCNT : Fld := ⟨24, 8⟩
def TRK_PLCA_LOCAL_ID : Fld := ⟨16, 8⟩
def TRK_PLCA_TO_TIMER : Fld := ⟨8, 8⟩
def TRK_PLCA_BURST_CNT : Fld := ⟨0, 8⟩
def TRK_PLCA2_LISTEN : Fld := ⟨16, 16⟩
def TRK_PLCA2_BURST_TMR : Fld := ⟨0, 16⟩
def TRK_GATECTL_MULT : Fld := ⟨8, 7⟩
def TRK_GATECTL_LEN : Fld := ⟨0, 7⟩
def TRK_GATESTAT_FALLBACK : Fld := ⟨31, 1⟩
def TRK_GATESTAT_MULT_USED : Fld := ⟨16, 7⟩
def TRK_GATESTAT_ENTRY : Fld := ⟨8, 8⟩
def TRK_POURWIN_LEAD : Fld := ⟨0, 16⟩
def TRK_TSADJ_TX : Fld := ⟨16, 16⟩
def TRK_TSADJ_RX : Fld := ⟨0, 16⟩
def TRK_NODEMISS_TOTAL : Fld := ⟨16, 16⟩
def TRK_NODEMISS_CONSEC : Fld := ⟨0, 8⟩
def TRK_GATE_MASK : Fld := ⟨24, 5⟩
def TRK_GATE_DUR : Fld := ⟨0, 20⟩
def TRK_ADDRHI_VALID : Fld := ⟨31, 1⟩
def TRK_ADDRHI_ADDR : Fld := ⟨0, 16⟩
def ETH_CTL_ENABLE : Fld := ⟨31, 1⟩
def ETH_CTL_CAP_ALL : Fld := ⟨30, 1⟩
def ETH_CTL_MAXLEN : Fld := ⟨0, 14⟩
def ETH_STATUS_PAUSED : Fld := ⟨2, 1⟩
def ETH_STATUS_XOFF : Fld := ⟨1, 1⟩
def ETH_STATUS_LINK : Fld := ⟨0, 1⟩
def ETH_PAUSE_RX_EN : Fld := ⟨31, 1⟩
def ETH_PAUSE_TX_EN : Fld := ⟨30, 1⟩
def ETH_PAUSE_CAP_US : Fld := ⟨0, 16⟩
def ETH_TSADJ_TX : Fld := ⟨16, 16⟩
def ETH_TSADJ_RX : Fld := ⟨0, 16⟩
def ETH_ADDRHI_VALID : Fld := ⟨31, 1⟩
def ETH_ADDRHI_ADDR : Fld := ⟨0, 16⟩
def TRK_CZNCFG_V2_EN : Fld := ⟨31, 1⟩
def TRK_CZNCFG_CAP_REJ : Fld := ⟨30, 1⟩
def TRK_CZNCFG_TIME_MS : Fld := ⟨0, 16⟩
def TRK_CZNKEY_GEN : Fld := ⟨24, 8⟩
def TRK_CZNKEY_NEXT : Fld := ⟨16, 8⟩
def TRK_CZNKEY_PHASE : Fld := ⟨0, 2⟩
def RAD_CTL_ENABLE : Fld := ⟨31, 1⟩
def RAD_CTL_CAP_ALL : Fld := ⟨30, 1⟩
def RAD_CTL_CAP_REJ : Fld := ⟨29, 1⟩
def RAD_CTL_CHANNEL : Fld := ⟨8, 8⟩
def RAD_CTL_PHYMODE : Fld := ⟨0, 2⟩
def RAD_TXPWR_WAKE : Fld := ⟨8, 8⟩
def RAD_TXPWR_MAIN : Fld := ⟨0, 8⟩
def RAD_PHY_SEGID : Fld := ⟨16, 16⟩
def RAD_PHY_WAKECH : Fld := ⟨8, 8⟩
def RAD_PHY_PREAMBLE : Fld := ⟨0, 8⟩
def RAD_DUTY_USED : Fld := ⟨16, 16⟩
def RAD_DUTY_LIMIT : Fld := ⟨0, 16⟩
def RAD_STATUS_BCNMISS : Fld := ⟨8, 8⟩
def RAD_STATUS_DUTY_HOLD : Fld := ⟨7, 1⟩
def RAD_STATUS_LOAD_HIGH : Fld := ⟨6, 1⟩
def RAD_STATUS_STATE : Fld := ⟨0, 2⟩
def RAD_LOAD_AIR : Fld := ⟨16, 16⟩
def RAD_LOAD_FRAMES : Fld := ⟨0, 16⟩
def RAD_TSADJ_TX : Fld := ⟨16, 16⟩
def RAD_TSADJ_RX : Fld := ⟨0, 16⟩
def RAD_NODES_SERVING : Fld := ⟨16, 12⟩
def RAD_NODES_ADMITTED : Fld := ⟨0, 12⟩
def TIM_CTL_AUTOSTEP : Fld := ⟨8, 1⟩
def TIM_CTL_SRC : Fld := ⟨0, 3⟩
def TIM_STATUS_HEAT : Fld := ⟨16, 12⟩
def TIM_STATUS_ARB : Fld := ⟨7, 1⟩
def TIM_STATUS_STEP_REJ : Fld := ⟨6, 1⟩
def TIM_STATUS_HOSTWR_IGN : Fld := ⟨5, 1⟩
def TIM_STATUS_PEER_FORCED : Fld := ⟨4, 1⟩
def TIM_STATUS_STATE : Fld := ⟨0, 3⟩
def TIM_INCRHI_NS : Fld := ⟨0, 8⟩
def TIM_WALLNS_NS : Fld := ⟨0, 30⟩
def TIM_WALLSECHI_SEC : Fld := ⟨0, 16⟩
def TIM_STEP_GO : Fld := ⟨0, 1⟩
def TIM_SERVO_LOCK_NS : Fld := ⟨16, 16⟩
def TIM_SERVO_STEP_US : Fld := ⟨0, 16⟩
def TIM_UTCOFF_LEAP : Fld := ⟨16, 2⟩
def TIM_UTCOFF_OFFSET : Fld := ⟨0, 16⟩
def TIM_PTPCFG_DOMAIN : Fld := ⟨24, 8⟩
def TIM_PTPCFG_SITE : Fld := ⟨8, 8⟩
def TIM_PTPCFG_PEER : Fld := ⟨0, 8⟩
def TIM_PTPSTAT_SITE : Fld := ⟨8, 8⟩
def TIM_PTPSTAT_PEER : Fld := ⟨0, 8⟩
def RTC_CTL_CHG_EN : Fld := ⟨31, 1⟩
def RTC_CTL_CHG_V : Fld := ⟨29, 2⟩
def RTC_CTL_CHG_I : Fld := ⟨27, 2⟩
def RTC_CTL_FOLLOW : Fld := ⟨4, 1⟩
def RTC_CTL_TRIMSRC : Fld := ⟨2, 2⟩
def RTC_CTL_MAINS60 : Fld := ⟨1, 1⟩
def RTC_STATUS_CMT_REJ : Fld := ⟨6, 1⟩
def RTC_STATUS_CHG_FAULT : Fld := ⟨5, 1⟩
def RTC_STATUS_CHG_ACTIVE : Fld := ⟨4, 1⟩
def RTC_STATUS_LEAP_DUE : Fld := ⟨3, 1⟩
def RTC_STATUS_INVALID : Fld := ⟨2, 1⟩
def RTC_STATUS_STAGED : Fld := ⟨1, 1⟩
def RTC_STATUS_FROZEN : Fld := ⟨0, 1⟩
def RTC_SUBSEC_TICKS : Fld := ⟨0, 15⟩
def RTC_DATE_YEAR : Fld := ⟨16, 16⟩
def RTC_DATE_WDAY : Fld := ⟨12, 3⟩
def RTC_DATE_MONTH : Fld := ⟨8, 4⟩
def RTC_DATE_DAY : Fld := ⟨0, 5⟩
def RTC_CLOCK_HOUR : Fld := ⟨16, 5⟩
def RTC_CLOCK_MIN : Fld := ⟨8, 6⟩
def RTC_CLOCK_SEC : Fld := ⟨0, 6⟩
def RTC_STG_SUBSEC_TICKS : Fld := ⟨0, 15⟩
def RTC_COMMIT_FROM_WALL : Fld := ⟨1, 1⟩
def RTC_COMMIT_GO : Fld := ⟨0, 1⟩
def RTC_TRIM_MEAS : Fld := ⟨16, 16⟩
def RTC_TRIM_TRIM : Fld := ⟨0, 16⟩
def RTC_CAUSE_ALM : Fld := ⟨4, 8⟩
def RTC_CAUSE_PER : Fld := ⟨0, 4⟩
def RTC_PER_CFG_EN : Fld := ⟨31, 1⟩
def RTC_PER_CFG_LOG : Fld := ⟨30, 1⟩
def RTC_PER_CFG_PERIOD : Fld := ⟨0, 25⟩
def RTC_PER_PHASE_PHASE : Fld := ⟨0, 25⟩
def RTC_ALM_CFG_DAYMASK : Fld := ⟨24, 8⟩
def RTC_ALM_CFG_LOCAL : Fld := ⟨6, 1⟩
def RTC_ALM_CFG_MODE : Fld := ⟨0, 3⟩
def MTR_CTL_PULSE_EN : Fld := ⟨0, 1⟩
def MTR_STATUS_REBUILT : Fld := ⟨3, 1⟩
def MTR_STATUS_UNALIGNED : Fld := ⟨2, 1⟩
def MTR_STATUS_STATE : Fld := ⟨0, 2⟩
def MTR_INTERVAL_SECONDS : Fld := ⟨0, 16⟩
def MTR_CH_STATUS_CREEP : Fld := ⟨3, 1⟩
def MTR_CH_STATUS_OVERLOAD : Fld := ⟨2, 1⟩
def MTR_CH_STATUS_PATH : Fld := ⟨1, 1⟩
def MTR_CH_STATUS_ENABLED : Fld := ⟨0, 1⟩
def MTR_V_STATUS_QUALITY : Fld := ⟨4, 4⟩
def MTR_V_STATUS_ENABLED : Fld := ⟨0, 1⟩
def MTR_PULSE_STATUS_OWED : Fld := ⟨16, 16⟩
def MTR_PULSE_STATUS_DRIVEN : Fld := ⟨1, 1⟩
def MTR_PULSE_STATUS_ON : Fld := ⟨0, 1⟩
def EVR_CFG_FLUSH_SEV : Fld := ⟨18, 2⟩
def EVR_CFG_RING_MIN : Fld := ⟨16, 2⟩
def EVR_CFG_FLUSH_S : Fld := ⟨0, 16⟩
def EVR_STATUS_DROPPING : Fld := ⟨2, 1⟩
def EVR_STATUS_FLASH_FAULT : Fld := ⟨1, 1⟩
def EVR_STATUS_WRAPPED : Fld := ⟨0, 1⟩
def EVR_BUFLEVEL_RECORDS : Fld := ⟨0, 16⟩
def EVR_WINSTAT_READY : Fld := ⟨31, 1⟩
def EVR_WINSTAT_COUNT : Fld := ⟨0, 7⟩
def EVR_WINCTL_NEXT : Fld := ⟨0, 1⟩
def RDN_CFG_MODE : Fld := ⟨30, 2⟩
def RDN_CFG_PROTO : Fld := ⟨24, 4⟩
def RDN_CFG_SELF_GRANT : Fld := ⟨23, 1⟩
def RDN_CFG_RADIO_ROTATE : Fld := ⟨22, 1⟩
def RDN_CFG_YIELD_STUCK : Fld := ⟨21, 1⟩
def RDN_CFG_LAG : Fld := ⟨16, 5⟩
def RDN_CFG_LOSS_MS : Fld := ⟨8, 8⟩
def RDN_CFG_BEACON_MS : Fld := ⟨0, 8⟩
def RDN_STATUS_UNACKED : Fld := ⟨8, 5⟩
def RDN_STATUS_HEALTHY : Fld := ⟨7, 1⟩
def RDN_STATUS_SEEDING_ACT : Fld := ⟨6, 1⟩
def RDN_STATUS_SELF_GRANTED : Fld := ⟨5, 1⟩
def RDN_STATUS_WITNESS_SEEN : Fld := ⟨4, 1⟩
def RDN_STATUS_PEER_SEEN : Fld := ⟨3, 1⟩
def RDN_STATUS_ROLE : Fld := ⟨0, 3⟩
def RDN_SEED_PCT : Fld := ⟨0, 7⟩
def RDN_HEALTH_SPARES : Fld := ⟨5, 1⟩
def RDN_HEALTH_LAMP : Fld := ⟨4, 1⟩
def RDN_HEALTH_PEERLINK : Fld := ⟨3, 1⟩
def RDN_HEALTH_METER : Fld := ⟨2, 1⟩
def RDN_HEALTH_RADIO : Fld := ⟨1, 1⟩
def RDN_HEALTH_TRUNKS : Fld := ⟨0, 1⟩
def RDN_TIMING_ISOLATE_MS : Fld := ⟨0, 16⟩
def RDN_ETYPE_ETYPE : Fld := ⟨0, 16⟩
def KEY_MODE_MODE : Fld := ⟨0, 2⟩
def KEY_LC_OWNER_LOCK : Fld := ⟨17, 1⟩
def KEY_LC_PENDING : Fld := ⟨16, 1⟩
def KEY_LC_STATE : Fld := ⟨0, 2⟩
def KEY_LCREQ_CONFIRM : Fld := ⟨16, 16⟩
def KEY_LCREQ_TARGET : Fld := ⟨0, 2⟩
def KEY_STATUS_REJ_CAUSE : Fld := ⟨8, 8⟩
def KEY_STATUS_ZEROISING : Fld := ⟨4, 1⟩
def KEY_STATUS_ATTEST_BUSY : Fld := ⟨3, 1⟩
def KEY_STATUS_LC_REJ : Fld := ⟨2, 1⟩
def KEY_STATUS_WR_REJ : Fld := ⟨1, 1⟩
def KEY_STATUS_WR_DONE : Fld := ⟨0, 1⟩
def KEY_WRSEL_ROOT : Fld := ⟨31, 1⟩
def KEY_WRSEL_INDEX : Fld := ⟨0, 8⟩
def KEY_WRGO_GO : Fld := ⟨0, 1⟩
def KEY_CZNSRC_VALID : Fld := ⟨8, 1⟩
def KEY_CZNSRC_SLOT : Fld := ⟨0, 8⟩
def KEY_GRACE_MS : Fld := ⟨0, 16⟩
def KEY_CACHE_MISSES : Fld := ⟨16, 16⟩
def KEY_CACHE_HITS : Fld := ⟨0, 16⟩
def KEY_SLOT_ATTR_VALID : Fld := ⟨31, 1⟩
def KEY_SLOT_ATTR_LOCK : Fld := ⟨30, 1⟩
def KEY_SLOT_ATTR_KIND : Fld := ⟨28, 2⟩
def KEY_SLOT_ATTR_ROOT : Fld := ⟨16, 4⟩
def KEY_SLOT_ATTR_DEPTH : Fld := ⟨12, 4⟩
def KEY_SLOT_ATTR_KDF : Fld := ⟨2, 1⟩
def KEY_SLOT_ATTR_HMAC : Fld := ⟨1, 1⟩
def KEY_SLOT_ATTR_CCM : Fld := ⟨0, 1⟩
def KEY_ROOT_ATTR_VALID : Fld := ⟨31, 1⟩
def KEY_ROOT_ATTR_LOCK : Fld := ⟨30, 1⟩
def PAT_STATUS_BOOT_FALLBACK : Fld := ⟨11, 1⟩
def PAT_STATUS_SLOTB : Fld := ⟨8, 3⟩
def PAT_STATUS_SLOTA : Fld := ⟨4, 3⟩
def PAT_STATUS_PAUSING : Fld := ⟨1, 1⟩
def PAT_STATUS_BOOT : Fld := ⟨0, 1⟩
def PAT_CFG_TRIAL_S : Fld := ⟨16, 16⟩
def PAT_CFG_AUTOCONFIRM : Fld := ⟨15, 1⟩
def PAT_CFG_VBAK_MIN : Fld := ⟨0, 15⟩
def PAT_LASTPAUSE_MS : Fld := ⟨0, 16⟩
def PAT_HALTGO_RESULT : Fld := ⟨8, 2⟩
def PAT_HALTGO_GO : Fld := ⟨0, 1⟩

end F

/-- The register table of block GLB. -/
def rowsGLB : List RegRow := [
  ⟨0x0, 0x0, 1, 0x0, 1, 0x0, 0x0, 0x0, 0x70000⟩,
  ⟨0x4, 0x0, 1, 0x0, 1, 0x0, 0x0, 0x0, 0x4000⟩,
  ⟨0x8, 0x0, 1, 0x0, 1, 0x0, 0x0, 0x0, 0x0⟩,
  ⟨0xC, 0x0, 1, 0x0, 1, 0x0, 0x0, 0x0, 0x0⟩,
  ⟨0x10, 0x0, 1, 0x0, 1, 0x0, 0x0, 0x0, 0x0⟩,
  ⟨0x14, 0x0, 1, 0x0, 1, 0x0, 0x0, 0x0, 0x0⟩,
  ⟨0x20, 0x0, 1, 0x0, 1, 0x0, 0x0, 0x0, 0x0⟩,
  ⟨0x24, 0x0, 1, 0x0, 1, 0x0, 0x0, 0x0, 0x1⟩,
  ⟨0x28, 0x0, 1, 0x0, 1, 0x0, 0x7F, 0x0, 0x0⟩,
  ⟨0x30, 0x0, 1, 0x0, 1, 0x1, 0x0, 0x0, 0x0⟩,
  ⟨0x34, 0x0, 1, 0x0, 1, 0x0, 0x0, 0x0, 0xFFFF0000⟩,
  ⟨0x38, 0x0, 1, 0x0, 1, 0x0, 0x0, 0x0, 0x0⟩,
  ⟨0x40, 0x0, 1, 0x0, 1, 0x0, 0x0, 0x0, 0x0⟩,
  ⟨0x44, 0x0, 1, 0x0, 1, 0x0, 0x0, 0x0, 0x0⟩,
  ⟨0x48, 0x0, 1, 0x0, 1, 0xFFFF, 0x0, 0x0, 0x2710⟩,
  ⟨0x4C, 0x0, 1, 0x0, 1, 0x0, 0x0, 0x0, 0x0⟩]

/-- The register table of block HIF. -/
def rowsHIF : List RegRow := [
  ⟨0x1000, 0x0, 1, 0x0, 1, 0xF, 0x0, 0x0, 0x602⟩,
  ⟨0x1004, 0x0, 1, 0x0, 1, 0x0, 0x0, 0x0, 0x0⟩,
  ⟨0x1008, 0x0, 1, 0x0, 1, 0x0, 0x0, 0x0, 0xF70000⟩,
  ⟨0x100C, 0x0, 1, 0x0, 1, 0x0, 0xF, 0x0, 0x0⟩,
  ⟨0x1010, 0x0, 1, 0x0, 1, 0x0, 0x0, 0x0, 0x0⟩,
  ⟨0x1014, 0x0, 1, 0x0, 1, 0x0, 0x7F, 0x0, 0x0⟩,
  ⟨0x1018, 0x0, 1, 0x0, 1, 0x7F, 0x0, 0x0, 0x7F⟩,
  ⟨0x101C, 0x0, 1, 0x0, 1, 0x1F, 0x0, 0x0, 0x10⟩,
  ⟨0x1800, 0x10, 32, 0x0, 1, 0xFFFFFFFC, 0x0, 0x0, 0x0⟩,
  ⟨0x1804, 0x10, 32, 0x0, 1, 0xFFFFFFFF, 0x0, 0x0, 0x0⟩,
  ⟨0x1808, 0x10, 32, 0x0, 1, 0xFFFFFFFF, 0x0, 0x0, 0x0⟩,
  ⟨0x180C, 0x10, 32, 0x0, 1, 0x1, 0x0, 0x0, 0x1⟩,
  ⟨0x1C00, 0x4, 2, 0x0, 1, 0x0, 0x0, 0x0, 0x0⟩]

/-- The register table of block RNG. -/
def rowsRNG : List RegRow := [
  ⟨0x3000, 0x40, 16, 0x0, 1, 0xFFFFFFFF, 0x0, 0x0, 0x0⟩,
  ⟨0x3004, 0x40, 16, 0x0, 1, 0xFFFFFFFF, 0x0, 0x0, 0x0⟩,
  ⟨0x3008, 0x40, 16, 0x0, 1, 0xFFFFFFFF, 0x0, 0x0, 0x0⟩,
  ⟨0x300C, 0x40, 16, 0x0, 1, 0xFFFFFFFF, 0x0, 0x0, 0x0⟩,
  ⟨0x3010, 0x40, 16, 0x0, 1, 0x801F801F, 0x0, 0x0, 0x8004⟩,
  ⟨0x3014, 0x40, 16, 0x0, 1, 0x0, 0x0, 0x0, 0x0⟩,
  ⟨0x3018, 0x40, 16, 0x0, 1, 0x0, 0x0, 0x0, 0x0⟩,
  ⟨0x301C, 0x40, 16, 0x0, 1, 0xFFFFFFFF, 0x0, 0x0, 0x1⟩,
  ⟨0x3020, 0x40, 16, 0x0, 1, 0x0, 0x78, 0x0, 0x82⟩]

/-- The register table of block DBL. -/
def rowsDBL : List RegRow := [
  ⟨0x2000, 0x100, 16, 0x0, 1, 0xFFFFFFFF, 0x0, 0x0, 0x0⟩]

/-- The register table of block TXN. -/
def rowsTXN : List RegRow := [
  ⟨0x6000, 0x0, 1, 0x0, 1, 0xFFFFFFFF, 0x0, 0x0, 0x3E8000A⟩,
  ⟨0x6004, 0x0, 1, 0x0, 1, 0x0, 0x0, 0x0, 0x0⟩,
  ⟨0x6008, 0x0, 1, 0x0, 1, 0x0, 0x0, 0x0, 0x0⟩,
  ⟨0x600C, 0x0, 1, 0x0, 1, 0x0, 0x0, 0x0, 0x0⟩,
  ⟨0x6010, 0x0, 1, 0x0, 1, 0x0, 0x0, 0x0, 0x0⟩,
  ⟨0x6014, 0x0, 1, 0x0, 1, 0x0, 0x0, 0x0, 0x0⟩,
  ⟨0x6040, 0x20, 4, 0x0, 1, 0x0, 0x0, 0x0, 0x0⟩,
  ⟨0x6044, 0x20, 4, 0x0, 1, 0x0, 0x0, 0x0, 0x0⟩,
  ⟨0x6048, 0x20, 4, 0x0, 1, 0x0, 0x0, 0x0, 0x0⟩,
  ⟨0x604C, 0x20, 4, 0x0, 1, 0x0, 0x0, 0x0, 0x0⟩,
  ⟨0x6050, 0x20, 4, 0x0, 1, 0x0, 0x0, 0x0, 0x0⟩]

/-- The register table of block DMA. -/
def rowsDMA : List RegRow := [
  ⟨0x4000, 0x0, 1, 0x0, 1, 0x0, 0x0, 0x0, 0x0⟩,
  ⟨0x4100, 0x20, 16, 0x0, 1, 0xFF07, 0x0, 0x0, 0x0⟩,
  ⟨0x4104, 0x20, 16, 0x0, 1, 0x0, 0x0, 0x0, 0x0⟩,
  ⟨0x4108, 0x20, 16, 0x0, 1, 0x0, 0x0, 0x0, 0x0⟩,
  ⟨0x410C, 0x20, 16, 0x0, 1, 0x0, 0x0, 0x0, 0x0⟩]

/-- The register table of block TUN. -/
def rowsTUN : List RegRow := [
  ⟨0x5000, 0x10, 16, 0x0, 1, 0x0, 0x0, 0x0, 0x0⟩,
  ⟨0x5004, 0x10, 16, 0x0, 1, 0x0, 0x0, 0x0, 0x0⟩,
  ⟨0x5008, 0x10, 16, 0x0, 1, 0x0, 0x0, 0x0, 0x0⟩]

/-- The register table of block MEM. -/
def rowsMEM : List RegRow := [
  ⟨0x7000, 0x0, 1, 0x0, 1, 0x0, 0x0, 0x0, 0x8⟩,
  ⟨0x7004, 0x0, 1, 0x0, 1, 0x800003FF, 0x0, 0x0, 0x8000000A⟩,
  ⟨0x7008, 0x0, 1, 0x0, 1, 0x0, 0x0, 0x0, 0x0⟩,
  ⟨0x700C, 0x0, 1, 0x0, 1, 0x0, 0x0, 0x0, 0x0⟩,
  ⟨0x7010, 0x0, 1, 0x0, 1, 0xFFFF, 0x0, 0x0, 0x40⟩,
  ⟨0x7014, 0x0, 1, 0x0, 1, 0x0, 0x0, 0x0, 0x0⟩,
  ⟨0x7100, 0x4, 192, 0x0, 1, 0x1, 0x0, 0x0, 0x0⟩]

/-- The register table of block PNT. -/
def rowsPNT : List RegRow := [
  ⟨0x8000, 0x0, 1, 0x0, 1, 0x1FFFFFF, 0x0, 0x0, 0x0⟩,
  ⟨0x8004, 0x0, 1, 0x0, 1, 0x0, 0x0, 0x0, 0x0⟩,
  ⟨0x8008, 0x0, 1, 0x0, 1, 0x0, 0x0, 0x0, 0x0⟩,
  ⟨0x800C, 0x0, 1, 0x0, 1, 0x0, 0x0, 0x0, 0x0⟩,
  ⟨0x8010, 0x0, 1, 0x0, 1, 0x0, 0x0, 0x0, 0x0⟩,
  ⟨0x801C, 0x0, 1, 0x0, 1, 0x1, 0x0, 0x0, 0x0⟩,
  ⟨0x8020, 0x0, 1, 0x0, 1, 0x0, 0x0, 0x0, 0x0⟩,
  ⟨0x8024, 0x0, 1, 0x0, 1, 0x0, 0x0, 0x0, 0x0⟩,
  ⟨0x8028, 0x0, 1, 0x0, 1, 0x0, 0x0, 0x0, 0x0⟩,
  ⟨0x802C, 0x0, 1, 0x0, 1, 0x0, 0x0, 0x0, 0x0⟩,
  ⟨0x8030, 0x0, 1, 0x0, 1, 0x0, 0x0, 0x0, 0x0⟩,
  ⟨0x8034, 0x0, 1, 0x0, 1, 0x0, 0x0, 0x0, 0x0⟩,
  ⟨0x8038, 0x0, 1, 0x0, 1, 0x0, 0x0, 0x0, 0x0⟩,
  ⟨0x8040, 0x0, 1, 0x0, 1, 0x0, 0x0, 0x0, 0x0⟩,
  ⟨0x8044, 0x0, 1, 0x0, 1, 0x0, 0x0, 0x0, 0x0⟩,
  ⟨0x8048, 0x0, 1, 0x0, 1, 0x0, 0x0, 0x0, 0x0⟩]

/-- The register table of block LDL. -/
def rowsLDL : List RegRow := [
  ⟨0xA000, 0x200, 16, 0x0, 1, 0x0, 0x0, 0x0, 0x0⟩,
  ⟨0xA004, 0x200, 16, 0x0, 1, 0x0, 0x0, 0x0, 0x0⟩,
  ⟨0xA008, 0x200, 16, 0x0, 1, 0x0, 0x0, 0x0, 0x0⟩,
  ⟨0xA00C, 0x200, 16, 0x0, 1, 0x0, 0x0, 0x0, 0x0⟩,
  ⟨0xA010, 0x200, 16, 0x0, 1, 0x0, 0x0, 0x0, 0x0⟩,
  ⟨0xA014, 0x200, 16, 0x0, 1, 0x0, 0x0, 0x0, 0x0⟩,
  ⟨0xA018, 0x200, 16, 0x0, 1, 0x0, 0x0, 0x0, 0x0⟩,
  ⟨0xA01C, 0x200, 16, 0x0, 1, 0x0, 0x0, 0x0, 0x0⟩,
  ⟨0xA020, 0x200, 16, 0x0, 1, 0x0, 0x0, 0x0, 0x0⟩,
  ⟨0xA024, 0x200, 16, 0x0, 1, 0x0, 0x0, 0x0, 0x0⟩,
  ⟨0xA028, 0x200, 16, 0x0, 1, 0x0, 0x0, 0x0, 0x0⟩,
  ⟨0xA02C, 0x200, 16, 0x0, 1, 0x0, 0x0, 0x0, 0x0⟩,
  ⟨0xA030, 0x200, 16, 0x0, 1, 0x0, 0x0, 0x0, 0x0⟩,
  ⟨0xA034, 0x200, 16, 0x0, 1, 0x0, 0x0, 0x0, 0x0⟩,
  ⟨0xA038, 0x200, 16, 0x0, 1, 0x0, 0x0, 0x0, 0x0⟩]

/-- The register table of block CYC. -/
def rowsCYC : List RegRow := [
  ⟨0xC000, 0x0, 1, 0x0, 1, 0x0, 0x0, 0x0, 0x0⟩,
  ⟨0xC004, 0x0, 1, 0x0, 1, 0x0, 0x0, 0x0, 0x0⟩,
  ⟨0xC008, 0x0, 1, 0x0, 1, 0x0, 0x0, 0x0, 0x0⟩,
  ⟨0xC00C, 0x0, 1, 0x0, 1, 0x0, 0x0, 0x0, 0x0⟩,
  ⟨0xC010, 0x0, 1, 0x0, 1, 0x0, 0x0, 0x0, 0x0⟩,
  ⟨0xC014, 0x0, 1, 0x0, 1, 0x0, 0x0, 0x0, 0x0⟩,
  ⟨0xC018, 0x0, 1, 0x0, 1, 0x0, 0x0, 0x0, 0x0⟩,
  ⟨0xC01C, 0x0, 1, 0x0, 1, 0x0, 0x0, 0x0, 0x0⟩,
  ⟨0xC020, 0x0, 1, 0x0, 1, 0x0, 0x0, 0x0, 0x0⟩,
  ⟨0xC024, 0x0, 1, 0x0, 1, 0xFFFF0000, 0x0, 0x0, 0x0⟩,
  ⟨0xC028, 0x0, 1, 0x0, 1, 0x0, 0x0, 0x0, 0x0⟩,
  ⟨0xC02C, 0x0, 1, 0x0, 1, 0x0, 0x0, 0x0, 0x0⟩,
  ⟨0xC030, 0x0, 1, 0x0, 1, 0x0, 0x0, 0x0, 0x0⟩,
  ⟨0xC034, 0x0, 1, 0x0, 1, 0x0, 0x0, 0x0, 0x0⟩,
  ⟨0xC038, 0x0, 1, 0x0, 1, 0x0, 0x0, 0x0, 0x0⟩,
  ⟨0xC03C, 0x0, 1, 0x0, 1, 0x0, 0x0, 0x0, 0x0⟩,
  ⟨0xC040, 0x0, 1, 0x0, 1, 0x0, 0x0, 0x0, 0x0⟩,
  ⟨0xC044, 0x0, 1, 0x0, 1, 0x0, 0x0, 0x0, 0x0⟩,
  ⟨0xC100, 0x10, 16, 0x0, 1, 0x0, 0x0, 0x0, 0x0⟩,
  ⟨0xC104, 0x10, 16, 0x0, 1, 0x0, 0x0, 0x0, 0x0⟩,
  ⟨0xC108, 0x10, 16, 0x0, 1, 0x0, 0x0, 0x0, 0x0⟩,
  ⟨0xC10C, 0x10, 16, 0x0, 1, 0x0, 0x0, 0x0, 0x0⟩]

/-- The register table of block LMP. -/
def rowsLMP : List RegRow := [
  ⟨0xD000, 0x0, 1, 0x0, 1, 0xFF, 0x0, 0x0, 0x0⟩,
  ⟨0xD004, 0x0, 1, 0x0, 1, 0x7, 0x0, 0x0, 0x0⟩,
  ⟨0xD008, 0x0, 1, 0x0, 1, 0x0, 0x80, 0x0, 0x0⟩,
  ⟨0xD00C, 0x0, 1, 0x0, 1, 0x0, 0x0, 0x0, 0x0⟩,
  ⟨0xD010, 0x0, 1, 0x0, 1, 0x0, 0x0, 0x0, 0x0⟩,
  ⟨0xD014, 0x0, 1, 0x0, 1, 0x0, 0x0, 0x0, 0x0⟩,
  ⟨0xD018, 0x0, 1, 0x0, 1, 0x0, 0x0, 0x0, 0x0⟩,
  ⟨0xD01C, 0x0, 1, 0x0, 1, 0x0, 0x0, 0x0, 0x0⟩,
  ⟨0xD020, 0x0, 1, 0x0, 1, 0xFFFFFFFF, 0x0, 0x0, 0x0⟩,
  ⟨0xD024, 0x0, 1, 0x0, 1, 0x0, 0x0, 0x0, 0x0⟩,
  ⟨0xD028, 0x0, 1, 0x0, 1, 0x0, 0x0, 0x0, 0x0⟩,
  ⟨0xD02C, 0x0, 1, 0x0, 1, 0x0, 0x0, 0x0, 0x0⟩,
  ⟨0xD030, 0x0, 1, 0x0, 1, 0x0, 0x0, 0x0, 0x0⟩,
  ⟨0xD034, 0x0, 1, 0x0, 1, 0x0, 0x0, 0x0, 0x0⟩,
  ⟨0xD038, 0x0, 1, 0x0, 1, 0x0, 0x0, 0x0, 0x0⟩,
  ⟨0xD03C, 0x0, 1, 0x0, 1, 0x0, 0x0, 0x0, 0x0⟩]

/-- The register table of block TRK. -/
def rowsTRK : List RegRow := [
  ⟨0x103F0, 0x0, 1, 0x0, 1, 0xFFFF, 0x0, 0x0, 0x88B5⟩,
  ⟨0x10000, 0x400, 64, 0x0, 1, 0xF8000FFF, 0x0, 0x0, 0x480005F2⟩,
  ⟨0x10004, 0x400, 64, 0x0, 1, 0x0, 0x0, 0x0, 0x8⟩,
  ⟨0x10008, 0x400, 64, 0x0, 1, 0xFF00FFFF, 0x0, 0x0, 0x22FF2008⟩,
  ⟨0x1000C, 0x400, 64, 0x0, 1, 0xFFFFFFFF, 0x0, 0x0, 0x140080⟩,
  ⟨0x10010, 0x400, 64, 0x0, 1, 0x7F7F, 0x0, 0x0, 0x0⟩,
  ⟨0x10014, 0x400, 64, 0x0, 1, 0x0, 0x0, 0x0, 0x10000⟩,
  ⟨0x10018, 0x400, 64, 0x0, 1, 0xFFFF, 0x0, 0x0, 0x64⟩,
  ⟨0x1001C, 0x400, 64, 0x0, 1, 0xFFFFFFFF, 0x0, 0x0, 0x0⟩,
  ⟨0x10040, 0x400, 64, 0x0, 1, 0x0, 0x0, 0x0, 0x0⟩,
  ⟨0x10044, 0x400, 64, 0x0, 1, 0x0, 0x0, 0x0, 0x0⟩,
  ⟨0x10048, 0x400, 64, 0x0, 1, 0x0, 0x0, 0x0, 0x0⟩,
  ⟨0x1004C, 0x400, 64, 0x0, 1, 0x0, 0x0, 0x0, 0x0⟩,
  ⟨0x10050, 0x400, 64, 0x0, 1, 0x0, 0x0, 0x0, 0x0⟩,
  ⟨0x10054, 0x400, 64, 0x0, 1, 0x0, 0x0, 0x0, 0x0⟩,
  ⟨0x10058, 0x400, 64, 0x0, 1, 0x0, 0x0, 0x0, 0x0⟩,
  ⟨0x1005C, 0x400, 64, 0x0, 1, 0x0, 0x0, 0x0, 0x0⟩,
  ⟨0x10060, 0x400, 64, 0x0, 1, 0x0, 0x0, 0x0, 0x0⟩,
  ⟨0x10064, 0x400, 64, 0x0, 1, 0x0, 0x0, 0x0, 0x0⟩,
  ⟨0x10068, 0x400, 64, 0x0, 1, 0x0, 0x0, 0x0, 0x0⟩,
  ⟨0x10080, 0x400, 64, 0x4, 32, 0x0, 0x0, 0x0, 0x0⟩,
  ⟨0x10100, 0x400, 64, 0x4, 64, 0x1F0FFFFF, 0x0, 0x0, 0x0⟩,
  ⟨0x10200, 0x400, 64, 0x8, 8, 0xFFFFFFFF, 0x0, 0x0, 0x0⟩,
  ⟨0x10204, 0x400, 64, 0x8, 8, 0x8000FFFF, 0x0, 0x0, 0x0⟩,
  ⟨0x103F4, 0x0, 1, 0x0, 1, 0xC000FFFF, 0x0, 0x0, 0x0⟩,
  ⟨0x103F8, 0x0, 1, 0x0, 1, 0x0, 0x0, 0xFF000000, 0x0⟩,
  ⟨0x103FC, 0x0, 1, 0x0, 1, 0x0, 0x0, 0x0, 0x0⟩,
  ⟨0x10300, 0x400, 64, 0x0, 1, 0x0, 0x0, 0xFFFFFFFF, 0x0⟩,
  ⟨0x10304, 0x400, 64, 0x0, 1, 0x0, 0x0, 0x0, 0x0⟩,
  ⟨0x10308, 0x400, 64, 0x0, 1, 0x0, 0x0, 0x0, 0x0⟩,
  ⟨0x1030C, 0x400, 64, 0x0, 1, 0x0, 0x0, 0x0, 0x0⟩,
  ⟨0x10310, 0x400, 64, 0x0, 1, 0x0, 0x0, 0x0, 0x0⟩,
  ⟨0x10324, 0x400, 64, 0x0, 1, 0x0, 0x0, 0x0, 0x0⟩,
  ⟨0x10314, 0x400, 64, 0x0, 1, 0x0, 0x0, 0x0, 0x0⟩,
  ⟨0x10318, 0x400, 64, 0x0, 1, 0x0, 0x0, 0x0, 0x0⟩,
  ⟨0x1031C, 0x400, 64, 0x0, 1, 0x0, 0x0, 0x0, 0x0⟩,
  ⟨0x10320, 0x400, 64, 0x0, 1, 0x0, 0x0, 0x0, 0x0⟩]

/-- The register table of block ETH. -/
def rowsETH : List RegRow := [
  ⟨0x20000, 0x800, 2, 0x0, 1, 0xC0003FFF, 0x0, 0x0, 0x5F2⟩,
  ⟨0x20004, 0x800, 2, 0x0, 1, 0x0, 0x0, 0x0, 0x0⟩,
  ⟨0x20008, 0x800, 2, 0x0, 1, 0xC000FFFF, 0x0, 0x0, 0xC0000000⟩,
  ⟨0x2000C, 0x800, 2, 0x0, 1, 0xFFFFFFFF, 0x0, 0x0, 0x0⟩,
  ⟨0x20100, 0x800, 2, 0x8, 8, 0xFFFFFFFF, 0x0, 0x0, 0x0⟩,
  ⟨0x20104, 0x800, 2, 0x8, 8, 0x8000FFFF, 0x0, 0x0, 0x0⟩,
  ⟨0x20040, 0x800, 2, 0x0, 1, 0x0, 0x0, 0x0, 0x0⟩,
  ⟨0x20044, 0x800, 2, 0x0, 1, 0x0, 0x0, 0x0, 0x0⟩,
  ⟨0x20048, 0x800, 2, 0x0, 1, 0x0, 0x0, 0x0, 0x0⟩,
  ⟨0x2004C, 0x800, 2, 0x0, 1, 0x0, 0x0, 0x0, 0x0⟩,
  ⟨0x20050, 0x800, 2, 0x0, 1, 0x0, 0x0, 0x0, 0x0⟩,
  ⟨0x20054, 0x800, 2, 0x0, 1, 0x0, 0x0, 0x0, 0x0⟩,
  ⟨0x20058, 0x800, 2, 0x0, 1, 0x0, 0x0, 0x0, 0x0⟩]

/-- The register table of block RAD. -/
def rowsRAD : List RegRow := [
  ⟨0x21000, 0x400, 4, 0x0, 1, 0xE000FF03, 0x0, 0x0, 0x0⟩,
  ⟨0x21004, 0x400, 4, 0x0, 1, 0xFFFF, 0x0, 0x0, 0x0⟩,
  ⟨0x21008, 0x400, 4, 0x0, 1, 0xFFFFFFFF, 0x0, 0x0, 0x6⟩,
  ⟨0x2100C, 0x400, 4, 0x0, 1, 0xFFFFFFFF, 0x0, 0x0, 0x0⟩,
  ⟨0x21010, 0x400, 4, 0x0, 1, 0xFFFF, 0x0, 0x0, 0x0⟩,
  ⟨0x21014, 0x400, 4, 0x0, 1, 0x0, 0x0, 0x0, 0x0⟩,
  ⟨0x21018, 0x400, 4, 0x0, 1, 0x0, 0x0, 0x0, 0x0⟩,
  ⟨0x2101C, 0x400, 4, 0x0, 1, 0x0, 0x0, 0x0, 0x0⟩,
  ⟨0x21020, 0x400, 4, 0x0, 1, 0xFFFFFFFF, 0x0, 0x0, 0x0⟩,
  ⟨0x21024, 0x400, 4, 0x0, 1, 0x0, 0x0, 0x0, 0x0⟩,
  ⟨0x21040, 0x400, 4, 0x0, 1, 0x0, 0x0, 0x0, 0x0⟩,
  ⟨0x21044, 0x400, 4, 0x0, 1, 0x0, 0x0, 0x0, 0x0⟩,
  ⟨0x21048, 0x400, 4, 0x0, 1, 0x0, 0x0, 0x0, 0x0⟩,
  ⟨0x2104C, 0x400, 4, 0x0, 1, 0x0, 0x0, 0x0, 0x0⟩,
  ⟨0x21050, 0x400, 4, 0x0, 1, 0x0, 0x0, 0x0, 0x0⟩,
  ⟨0x21054, 0x400, 4, 0x0, 1, 0x0, 0x0, 0x0, 0x0⟩,
  ⟨0x21058, 0x400, 4, 0x0, 1, 0x0, 0x0, 0x0, 0x0⟩,
  ⟨0x2105C, 0x400, 4, 0x0, 1, 0x0, 0x0, 0x0, 0x0⟩,
  ⟨0x21060, 0x400, 4, 0x0, 1, 0x0, 0x0, 0x0, 0x0⟩,
  ⟨0x21064, 0x400, 4, 0x0, 1, 0x0, 0x0, 0x0, 0x0⟩,
  ⟨0x21068, 0x400, 4, 0x0, 1, 0x0, 0x0, 0x0, 0x0⟩,
  ⟨0x2106C, 0x400, 4, 0x0, 1, 0x0, 0x0, 0x0, 0x0⟩,
  ⟨0x21070, 0x400, 4, 0x0, 1, 0x0, 0x0, 0xFFFFFFFF, 0x0⟩]

/-- The register table of block TIM. -/
def rowsTIM : List RegRow := [
  ⟨0x22000, 0x0, 1, 0x0, 1, 0x107, 0x0, 0x0, 0x0⟩,
  ⟨0x22004, 0x0, 1, 0x0, 1, 0x0, 0x60, 0x0, 0x0⟩,
  ⟨0x22008, 0x0, 1, 0x0, 1, 0xFFFFFFFF, 0x0, 0x0, 0x0⟩,
  ⟨0x2200C, 0x0, 1, 0x0, 1, 0xFF, 0x0, 0x0, 0x28⟩,
  ⟨0x22010, 0x0, 1, 0x0, 1, 0x0, 0x0, 0x0, 0x0⟩,
  ⟨0x22014, 0x0, 1, 0x0, 1, 0x0, 0x0, 0x0, 0x0⟩,
  ⟨0x22018, 0x0, 1, 0x0, 1, 0x0, 0x0, 0x0, 0x0⟩,
  ⟨0x2201C, 0x0, 1, 0x0, 1, 0x0, 0x0, 0x0, 0x0⟩,
  ⟨0x22020, 0x0, 1, 0x0, 1, 0x0, 0x0, 0x0, 0x0⟩,
  ⟨0x22024, 0x0, 1, 0x0, 1, 0x0, 0x0, 0x0, 0x0⟩,
  ⟨0x22028, 0x0, 1, 0x0, 1, 0x0, 0x0, 0x0, 0x0⟩,
  ⟨0x22030, 0x0, 1, 0x0, 1, 0xFFFFFFFF, 0x0, 0x0, 0x0⟩,
  ⟨0x22034, 0x0, 1, 0x0, 1, 0xFFFFFFFF, 0x0, 0x0, 0x0⟩,
  ⟨0x22038, 0x0, 1, 0x0, 1, 0x0, 0x0, 0x0, 0x0⟩,
  ⟨0x2203C, 0x0, 1, 0x0, 1, 0x0, 0x0, 0x0, 0x0⟩,
  ⟨0x22040, 0x0, 1, 0x0, 1, 0xFFFFFFFF, 0x0, 0x0, 0x0⟩,
  ⟨0x22044, 0x0, 1, 0x0, 1, 0x3FFFF, 0x0, 0x3FFFF, 0x0⟩,
  ⟨0x22048, 0x0, 1, 0x0, 1, 0xFF00FFFF, 0x0, 0x0, 0x0⟩,
  ⟨0x2204C, 0x0, 1, 0x0, 1, 0x0, 0x0, 0x0, 0x303⟩,
  ⟨0x22050, 0x0, 1, 0x0, 1, 0x0, 0x0, 0x0, 0x0⟩]

/-- The register table of block RTC. -/
def rowsRTC : List RegRow := [
  ⟨0x23000, 0x0, 1, 0x0, 1, 0x1E, 0x0, 0xF800001E, 0x0⟩,
  ⟨0x23004, 0x0, 1, 0x0, 1, 0x0, 0x60, 0x0, 0x0⟩,
  ⟨0x23008, 0x0, 1, 0x0, 1, 0x0, 0x0, 0x7FFF, 0x0⟩,
  ⟨0x2300C, 0x0, 1, 0x0, 1, 0x0, 0x0, 0xFFFFFFFF, 0x0⟩,
  ⟨0x23010, 0x0, 1, 0x0, 1, 0x0, 0x0, 0xFFFF7F1F, 0x0⟩,
  ⟨0x23014, 0x0, 1, 0x0, 1, 0x0, 0x0, 0x1F3F3F, 0x0⟩,
  ⟨0x23018, 0x0, 1, 0x0, 1, 0xFFFFFFFF, 0x0, 0x0, 0x0⟩,
  ⟨0x2301C, 0x0, 1, 0x0, 1, 0x7FFF, 0x0, 0x0, 0x0⟩,
  ⟨0x23020, 0x0, 1, 0x0, 1, 0x0, 0x0, 0x0, 0x0⟩,
  ⟨0x23024, 0x0, 1, 0x0, 1, 0xFFFF, 0x0, 0xFFFF, 0x0⟩,
  ⟨0x23028, 0x0, 1, 0x0, 1, 0x0, 0xFFF, 0x0, 0x0⟩,
  ⟨0x23040, 0x8, 4, 0x0, 1, 0xC1FFFFFF, 0x0, 0x0, 0x0⟩,
  ⟨0x23044, 0x8, 4, 0x0, 1, 0x1FFFFFF, 0x0, 0x0, 0x0⟩,
  ⟨0x23080, 0x20, 8, 0x0, 1, 0x0, 0x0, 0xFF000047, 0x0⟩,
  ⟨0x23084, 0x20, 8, 0x0, 1, 0x0, 0x0, 0xFFFFFFFF, 0x0⟩,
  ⟨0x23088, 0x20, 8, 0x0, 1, 0x0, 0x0, 0xFFFFFFFF, 0x0⟩,
  ⟨0x2308C, 0x20, 8, 0x0, 1, 0x0, 0x0, 0xFFFFFFFF, 0x0⟩,
  ⟨0x23090, 0x20, 8, 0x0, 1, 0x0, 0x0, 0xFFFFFFFF, 0x0⟩,
  ⟨0x23094, 0x20, 8, 0x0, 1, 0x0, 0x0, 0xFFFFFFFF, 0x0⟩]

/-- The register table of block MTR. -/
def rowsMTR : List RegRow := [
  ⟨0x24000, 0x0, 1, 0x0, 1, 0x1, 0x0, 0x0, 0x1⟩,
  ⟨0x24004, 0x0, 1, 0x0, 1, 0x0, 0x0, 0x0, 0x0⟩,
  ⟨0x24008, 0x0, 1, 0x0, 1, 0x0, 0x0, 0x0, 0x0⟩,
  ⟨0x2400C, 0x0, 1, 0x0, 1, 0x0, 0x0, 0x0, 0x0⟩,
  ⟨0x24010, 0x0, 1, 0x0, 1, 0x0, 0x0, 0x0, 0x0⟩,
  ⟨0x24014, 0x0, 1, 0x0, 1, 0x0, 0x0, 0x0, 0x0⟩,
  ⟨0x24018, 0x0, 1, 0x0, 1, 0x0, 0x0, 0x0, 0x0⟩,
  ⟨0x24100, 0x10, 32, 0x0, 1, 0x0, 0x4, 0x0, 0x0⟩,
  ⟨0x24104, 0x10, 32, 0x0, 1, 0x0, 0x0, 0x0, 0x0⟩,
  ⟨0x24108, 0x10, 32, 0x0, 1, 0x0, 0x0, 0x0, 0x0⟩,
  ⟨0x24300, 0x10, 4, 0x0, 1, 0x0, 0x0, 0x0, 0x40⟩,
  ⟨0x24400, 0x10, 8, 0x0, 1, 0x0, 0x0, 0x0, 0x0⟩,
  ⟨0x24404, 0x10, 8, 0x0, 1, 0x0, 0x0, 0x0, 0x0⟩,
  ⟨0x24408, 0x10, 8, 0x0, 1, 0x0, 0x0, 0x0, 0x0⟩]

/-- The register table of block EVR. -/
def rowsEVR : List RegRow := [
  ⟨0x28000, 0x0, 1, 0x0, 1, 0xFFFFF, 0x0, 0x0, 0x0⟩,
  ⟨0x28004, 0x0, 1, 0x0, 1, 0x0, 0x0, 0x1, 0x0⟩,
  ⟨0x28008, 0x0, 1, 0x0, 1, 0x0, 0x0, 0xFFFFFFFF, 0x0⟩,
  ⟨0x2800C, 0x0, 1, 0x0, 1, 0x0, 0x0, 0xFFFFFFFF, 0x0⟩,
  ⟨0x28010, 0x0, 1, 0x0, 1, 0x0, 0x0, 0xFFFFFFFF, 0x0⟩,
  ⟨0x28014, 0x0, 1, 0x0, 1, 0x0, 0x0, 0x0, 0x0⟩,
  ⟨0x28018, 0x0, 1, 0x0, 1, 0xFFFFFFFF, 0x0, 0x0, 0x0⟩,
  ⟨0x2801C, 0x0, 1, 0x0, 1, 0x0, 0x0, 0x0, 0x80000000⟩,
  ⟨0x28020, 0x0, 1, 0x0, 1, 0x0, 0x0, 0x0, 0x0⟩,
  ⟨0x28024, 0x0, 1, 0x0, 1, 0x0, 0x0, 0x0, 0x0⟩,
  ⟨0x28028, 0x0, 1, 0x0, 1, 0xFFFFFFFF, 0x0, 0x0, 0x0⟩,
  ⟨0x2802C, 0x0, 1, 0x0, 1, 0x0, 0x0, 0x0, 0x0⟩,
  ⟨0x28030, 0x0, 1, 0x0, 1, 0x0, 0x0, 0xFFFFFFFF, 0x0⟩]

/-- The register table of block RDN. -/
def rowsRDN : List RegRow := [
  ⟨0x29000, 0x0, 1, 0x0, 1, 0xFFFFFF, 0x0, 0x0, 0x4200A⟩,
  ⟨0x29004, 0x0, 1, 0x0, 1, 0x0, 0x0, 0x0, 0x2⟩,
  ⟨0x29008, 0x0, 1, 0x0, 1, 0x0, 0x0, 0x0, 0x0⟩,
  ⟨0x2900C, 0x0, 1, 0x0, 1, 0x0, 0x0, 0x0, 0x0⟩,
  ⟨0x29010, 0x0, 1, 0x0, 1, 0x0, 0x0, 0x0, 0x0⟩,
  ⟨0x29014, 0x0, 1, 0x0, 1, 0xFFFFFFFF, 0x0, 0x0, 0x0⟩,
  ⟨0x29018, 0x0, 1, 0x0, 1, 0x0, 0x0, 0x0, 0x0⟩,
  ⟨0x2901C, 0x0, 1, 0x0, 1, 0x0, 0x0, 0x0, 0x0⟩,
  ⟨0x29020, 0x0, 1, 0x0, 1, 0x0, 0x0, 0x0, 0x0⟩,
  ⟨0x29024, 0x0, 1, 0x0, 1, 0x0, 0x0, 0x0, 0x0⟩,
  ⟨0x29028, 0x0, 1, 0x0, 1, 0x0, 0x0, 0x0, 0x0⟩,
  ⟨0x2902C, 0x0, 1, 0x0, 1, 0xFFFF, 0x0, 0x0, 0x0⟩,
  ⟨0x29030, 0x0, 1, 0x0, 1, 0xFFFF, 0x0, 0x0, 0x88B6⟩,
  ⟨0x29040, 0x0, 1, 0x0, 1, 0x0, 0x0, 0x0, 0x0⟩,
  ⟨0x29044, 0x0, 1, 0x0, 1, 0x0, 0x0, 0x0, 0x0⟩,
  ⟨0x29048, 0x0, 1, 0x0, 1, 0x0, 0x0, 0x0, 0x0⟩,
  ⟨0x2904C, 0x0, 1, 0x0, 1, 0x0, 0x0, 0x0, 0x0⟩]

/-- The register table of block KEY. -/
def rowsKEY : List RegRow := [
  ⟨0x40000, 0x0, 1, 0x0, 1, 0x3, 0x0, 0x3, 0x0⟩,
  ⟨0x40004, 0x0, 1, 0x0, 1, 0x20000, 0x0, 0x20003, 0x0⟩,
  ⟨0x40008, 0x0, 1, 0x0, 1, 0x0, 0x0, 0x0, 0x0⟩,
  ⟨0x4000C, 0x0, 1, 0x0, 1, 0x0, 0x7, 0x0, 0x0⟩,
  ⟨0x40010, 0x0, 1, 0x0, 1, 0x800000FF, 0x0, 0x0, 0x0⟩,
  ⟨0x40014, 0x0, 1, 0x0, 1, 0xFFFFFFFF, 0x0, 0x0, 0x0⟩,
  ⟨0x40018, 0x0, 1, 0x0, 1, 0x0, 0x0, 0x0, 0x0⟩,
  ⟨0x4001C, 0x0, 1, 0x0, 1, 0x1FF, 0x0, 0x1FF, 0x0⟩,
  ⟨0x40020, 0x0, 1, 0x0, 1, 0xFFFF, 0x0, 0x0, 0x64⟩,
  ⟨0x40024, 0x0, 1, 0x0, 1, 0x0, 0x0, 0x0, 0x0⟩,
  ⟨0x40040, 0x4, 8, 0x0, 1, 0xFFFFFFFF, 0x0, 0x0, 0x0⟩,
  ⟨0x40100, 0x4, 16, 0x0, 1, 0x0, 0x0, 0xFFFFFFFF, 0x0⟩,
  ⟨0x40400, 0x4, 256, 0x0, 1, 0x0, 0x0, 0xF00FF007, 0x0⟩,
  ⟨0x40800, 0x4, 8, 0x0, 1, 0x0, 0x0, 0xC0000000, 0x0⟩]

/-- The register table of block PAT. -/
def rowsPAT : List RegRow := [
  ⟨0x2A000, 0x0, 1, 0x0, 1, 0x0, 0x0, 0x771, 0x0⟩,
  ⟨0x2A004, 0x0, 1, 0x0, 1, 0x0, 0x0, 0xFFFFFFFF, 0x0⟩,
  ⟨0x2A008, 0x0, 1, 0x0, 1, 0x0, 0x0, 0xFFFFFFFF, 0x0⟩,
  ⟨0x2A00C, 0x0, 1, 0x0, 1, 0x0, 0x0, 0xFFFFFFFF, 0x0⟩,
  ⟨0x2A010, 0x0, 1, 0x0, 1, 0xFFFFFFFF, 0x0, 0x0, 0x25887D0⟩,
  ⟨0x2A014, 0x0, 1, 0x0, 1, 0x0, 0x0, 0x0, 0x0⟩,
  ⟨0x2A020, 0x0, 1, 0x0, 1, 0xFFFFFFFF, 0x0, 0x0, 0x0⟩,
  ⟨0x2A024, 0x0, 1, 0x0, 1, 0xFFFFFFFF, 0x0, 0x0, 0x0⟩,
  ⟨0x2A028, 0x0, 1, 0x0, 1, 0xFFFFFFFF, 0x0, 0x0, 0x0⟩,
  ⟨0x2A02C, 0x0, 1, 0x0, 1, 0x0, 0x0, 0x0, 0x0⟩]

/-- The block of tables an offset lies in (R475, R476). -/
def rowsAt (a : Nat) : List RegRow :=
  if a < 0x1000 then rowsGLB
  else if a < 0x2000 then rowsHIF
  else if a < 0x3000 then rowsDBL
  else if a < 0x4000 then rowsRNG
  else if a < 0x5000 then rowsDMA
  else if a < 0x6000 then rowsTUN
  else if a < 0x7000 then rowsTXN
  else if a < 0x8000 then rowsMEM
  else if a < 0xA000 then rowsPNT
  else if a < 0xC000 then rowsLDL
  else if a < 0xD000 then rowsCYC
  else if a < 0xF000 then rowsLMP
  else if a < 0x10000 then []
  else if a < 0x20000 then rowsTRK
  else if a < 0x21000 then rowsETH
  else if a < 0x22000 then rowsRAD
  else if a < 0x23000 then rowsTIM
  else if a < 0x24000 then rowsRTC
  else if a < 0x28000 then rowsMTR
  else if a < 0x29000 then rowsEVR
  else if a < 0x2A000 then rowsRDN
  else if a < 0x2B000 then rowsPAT
  else if a < 0x40000 then []
  else if a < 0x50000 then rowsKEY
  else []
/-- Is `a` an offset of this register? Strides run from the larger to the smaller. -/
def RegRow.covers (r : RegRow) (a : Nat) : Bool :=
  decide (r.base ≤ a) &&
    (let d := a - r.base
     let i := if r.s1 = 0 then 0 else d / r.s1
     let e := if r.s1 = 0 then d else d % r.s1
     let j := if r.s2 = 0 then 0 else e / r.s2
     let f := if r.s2 = 0 then e else e % r.s2
     decide (i < r.n1) && decide (j < r.n2) && decide (f = 0))

/-- The register at an offset; none at a reserved offset (R478). -/
def regRow? (a : Nat) : Option RegRow := (rowsAt a).find? (fun r => r.covers a)

/-- What the module is: order code (R1), chip and board revision, serial number, vendor identifier (R75, R481: fixed at manufacture). -/
inductive OrderCode where
  | gf7_64r4_868
  | gf7_64r4_915
  | gf7_64r0
  deriving DecidableEq, Repr

/-- The identity of one module, fixed at manufacture (R481), with the default contents of its certificates left to the key store. -/
structure Ident where
  order : OrderCode
  chipStep : Byte
  boardRev : Byte
  serial : Dword
  vendor : Half
  deriving DecidableEq, Repr

/-- Radios fitted: 0 or 4 (R1). -/
def Ident.radios (i : Ident) : Nat := match i.order with | .gf7_64r0 => 0 | _ => 4

/-- Band code of GLB_ORDER (R1). -/
def Ident.band (i : Ident) : Nat :=
  match i.order with | .gf7_64r0 => 0 | .gf7_64r4_868 => 1 | .gf7_64r4_915 => 2

/-- Entry sizes of the rings as log2 of bytes (R83). -/
def ringEsize (n : Nat) : Nat :=
  if n = 0 then 6 else if n = 1 then 5 else if n = 2 then 5 else if n = 3 then 5 else if n = 4 then 6
  else if n = 5 then 7 else if n = 6 then 5 else if n = 7 then 8 else if n = 8 then 6 else if n = 9 then 8
  else if n = 13 then 8 else 6

/-- Default burst priorities (R119). -/
def runnerPrio (n : Nat) : Nat :=
  if n = 15 then 7 else if n = 0 then 6 else if n = 1 then 6 else if n = 2 then 5 else if n = 3 then 5
  else if n = 12 then 4 else if n = 14 then 4 else if n = 4 then 3 else if n = 5 then 3 else if n = 6 then 3
  else if n = 11 then 1 else if n = 13 then 1 else 2

/-- Address registers of a port after reset (R265 for trunks; ETH tables for the gigabit ports): the first word holds address
bytes 2 to 5, the second VALID and bytes 0 and 1. `tag` is byte 4 of the port's own address. -/
def addrReset (i : Ident) (tag port entry : Nat) (hi : Bool) (group : Bool) : Nat :=
  let s := i.serial.toNat % 2 ^ 24
  if entry = 0 then
    (if hi then 0x80000200 + s / 2 ^ 16 else s % 2 ^ 16 * 2 ^ 16 + tag * 2 ^ 8 + port)
  else if entry = 1 && group then (if hi then 0x8000034E else 0x59435A00)
  else 0

/-- The value of a register after module reset (R7, R481). Resets that depend on the index or on the module's identity stand first. -/
def regDefault (i : Ident) (a : Nat) : Word :=
  BitVec.ofNat 32 <|
    if a = 0x4 then 64 * 2 ^ 8 + i.band * 2 ^ 4 + i.radios
    else if a = 0x8 then i.chipStep.toNat * 2 ^ 8 + i.boardRev.toNat
    else if a = 0x10 then i.serial.toNat % 2 ^ 32
    else if a = 0x1008 then (match regRow? a with | some r => putBits r.reset 0 16 i.vendor.toNat | none => 0)
    else if a = 0x14 then i.serial.toNat / 2 ^ 32
    else if a = 0x2A000 then 4 * 2 ^ 4
    else if a = 0x2A004 then 0x01000000
    else if a = 0x40004 then 1
    else if 0x3000 ≤ a ∧ a < 0x3400 ∧ a % 0x40 = 0x10 then
      (let n := (a - 0x3000) / 0x40; 0x8004 + n * 2 ^ 16 + ringEsize n * 2 ^ 8)
    else if 0x4100 ≤ a ∧ a < 0x4300 ∧ a % 0x20 = 0 then runnerPrio ((a - 0x4100) / 0x20)
    else if 0x7100 ≤ a ∧ a < 0x7400 ∧ a % 4 = 0 then (a - 0x7100) / 4 * 2 ^ 24
    else if 0x1800 ≤ a ∧ a < 0x1A00 ∧ a % 16 = 12 then 1
    else if 0x10000 ≤ a ∧ a < 0x20000 ∧ 0x200 ≤ a % 0x400 ∧ a % 0x400 < 0x240 then
      addrReset i 0 ((a - 0x10000) / 0x400) ((a % 0x400 - 0x200) / 8) (a % 8 == 4) true
    else if 0x20000 ≤ a ∧ a < 0x21000 ∧ 0x100 ≤ a % 0x800 ∧ a % 0x800 < 0x140 then
      addrReset i 0x80 ((a - 0x20000) / 0x800) ((a % 0x800 - 0x100) / 8) (a % 8 == 4) false
    else if a = 0x20008 then (match regRow? a with | some r => putBits r.reset 0 16 1000 | none => 0)
    else if 0x21010 ≤ a ∧ a < 0x22000 ∧ (a - 0x21010) % 0x400 = 0 then
      (match i.order with | .gf7_64r4_868 => 1000 | _ => 0)
    else match regRow? a with
      | some r => r.reset
      | none => 0

/-- A write of a register by its access codes alone (R5): writable bits take the value, written ones clear write-one-to-clear bits,
everything else stands (R8). -/
def plainWrite (r : RegRow) (old v : Word) : Word :=
  let keepMask : Word := ~~~ (BitVec.ofNat 32 (r.rw ||| r.wc))
  (old &&& keepMask) ||| (v &&& BitVec.ofNat 32 r.rw) ||| (old &&& BitVec.ofNat 32 r.wc &&& ~~~ v)

end Sys2Proof.Machine
end

