-- ==== Sys2Proof/Machine/StClock.lean ====
section
/-!
DEFINITION. Timekeeping (R342 to R370): the monotonic and wall bases, the increment, the servo, the calendar, alarms and the
shadows of the frozen register groups.
-/
set_option linter.unusedVariables false
namespace Sys2Proof.Machine

/-- The selected PTP master (R351): the port it is heard on and what it announces. -/
structure PtpMaster where
  port : Nat
  identity : Nat
  rank : Nat
  clockClass : Nat
  deriving DecidableEq, Repr

/-- The bases and the servo. Times are in units of 2^-32 ns (R342). -/
structure Clock where
  /-- The monotonic base (R342). -/
  mono : Nat := 0
  /-- The wall offset: wall base less monotonic base (R344). -/
  wallOff : Int := 0
  /-- TIM_INCR in effect (R343). -/
  incr : Nat := 40 * 2 ^ 32
  /-- An increment that takes effect at the next tick (R343). -/
  incrNext : Option Nat := none
  /-- The wall base has been set since reset (R350, UNSET). -/
  wallSet : Bool := false
  /-- STEPPED is owed to the next TIME frame of these trunks and the next BEACON of these channels, as bit masks (R344). -/
  steppedTrunks : Nat := 0
  steppedRadios : Nat := 0
  /-- Consecutive Sync offsets within the lock bound, and beyond the step threshold (R350). -/
  lockRun : Nat := 0
  beyondRun : Nat := 0
  /-- Port and identity of the selected master; none while no master is selected (R350, R351). -/
  master : Option PtpMaster := none
  /-- Monotonic ns of the last accepted Sync and its interval in ns (R350). -/
  lastSync : Nat := 0
  syncNs : Nat := 0
  /-- PTP frames carry currentUtcOffsetValid of the master (R353). -/
  utcValid : Bool := false
  deriving DecidableEq, Repr

/-- The calendar of the backup domain (R354 to R364). -/
structure Calendar where
  /-- UTC seconds (R354). -/
  sec : Nat := 0
  /-- The 40-bit subsecond accumulator (R354). -/
  acc : Nat := 0
  /-- The calendar shows 23:59:60 (R358). -/
  leap60 : Bool := false
  /-- The contents of the backup domain were lost while main power was absent, or the module is as it left the factory (R364). -/
  lost : Bool := true
  deriving DecidableEq, Repr

/-- Volatile calendar state. -/
structure CalRun where
  /-- A commit by GO waits for the next crystal tick, with the commands that wait for it (R356). -/
  goReq : Bool := false
  /-- A commit by FROM_WALL waits for the next whole second (R356). -/
  wallReq : Bool := false
  /-- Why the FROM_WALL step was asked: 2 from wall, 3 follow (R370). -/
  wallCause : Nat := 2
  /-- The wall second that the FROM_WALL step takes (R356). -/
  wallSec : Nat := 0
  /-- A calendar second has passed that has not yet been evaluated; `stepped` when it follows a calendar step (R362). -/
  due : Bool := false
  stepped : Bool := false
  /-- Alarms are evaluated since the calendar was set (R364). -/
  held : Bool := false
  /-- The instant in 1/256 s at which each generator fired last, or stood after a calendar step, so that an instant fires once (R360). -/
  fired : List (Nat × Nat) := []
  /-- Monotonic ns of the last comparison of the calendar with the wall base (R357). -/
  follow : Nat := 0
  /-- The charger has charged since this monotonic ns (R365). -/
  chargeSince : Option Nat := none
  deriving DecidableEq, Repr

/-- Shadows of the frozen groups, each with whether it is frozen; one set shared by every reader (R5, R479). -/
structure Shadows where
  pnt : Option (List Word) := none
  rtc : Option (List Word) := none
  mono : Option (List Word) := none
  wall : Option (List Word) := none
  stamp : Option (List Word) := none
  /-- PNT_RDREC0 to PNT_RDREC3 as the last read of PNT_RDREC0 loaded them (R154); 0 at reset. -/
  rdrec : List Word := [0, 0, 0, 0]
  deriving DecidableEq, Repr

/-- An alarm entry of the time section, or of RTC_ALARM (R367, R368). -/
structure AlarmDef where
  alarm : Nat
  mode : Nat
  isLocal : Bool
  dayMask : Nat
  at_ : Nat
  ivl : Nat
  deriving DecidableEq, Repr

/-- The time section of the configuration (R367). -/
structure TimeCfg where
  src : Nat := 0
  flags : Nat := 0
  stepUs : Nat := 0
  lockNs : Nat := 0
  domain : Nat := 0
  portMode : List Nat := [0, 0]
  prio1 : Nat := 128
  prio2 : Nat := 128
  clockClass : Nat := 248
  logSync : Nat := 0
  logAnnounce : Nat := 0
  logDelay : Nat := 0
  utcOffset : Nat := 0
  /-- The local-time table: utc_from and offset in minutes (R359). -/
  locals : List (Nat × Int) := []
  alarms : List AlarmDef := []
  /-- Periodic entries: generator, flags, period, phase. -/
  periodics : List (Nat × Nat × Nat × Nat) := []
  deriving DecidableEq, Repr

end Sys2Proof.Machine
end

