-- ==== Sys2Proof/Machine/StEvents.lean ====
section
/-!
DEFINITION. The event recorder (R399 to R410): records, the volatile buffer, the flash ring and the window.
-/
set_option linter.unusedVariables false
namespace Sys2Proof.Machine

/-- An event record (R399). -/
structure EvRec where
  seq : Nat
  stamp : Nat
  source : Nat
  typ : Nat
  sev : Nat
  early : Bool
  payload : List Byte
  check : Nat
  deriving DecidableEq, Repr

/-- A record offered and not yet numbered (R402). -/
structure EvOffer where
  stamp : Nat
  source : Nat
  typ : Nat
  sev : Nat
  early : Bool
  payload : List Byte
  deriving DecidableEq, Repr

/-- The volatile state of the recorder. -/
structure Recorder where
  /-- The sequence the next record takes (R400). -/
  next : Nat := 0
  /-- First sequence of this heat. -/
  first : Nat := 0
  /-- Records buffered and not yet in flash, oldest first (R401, R402). -/
  buffer : List EvRec := []
  /-- Records offered while the event part of a flush runs or after it, until FLUSH_DONE (R402). -/
  offered : List EvOffer := []
  holding : Bool := false
  /-- Records dropped since the last EVENTS_DROPPED, and the highest severity among them (R401). -/
  dropped : Nat := 0
  dropSev : Nat := 0
  /-- Records dropped since module reset (EVR_DROPPED). -/
  dropTotal : Nat := 0
  /-- Monotonic ns of the last flash write (R402). -/
  lastWrite : Nat := 0
  /-- A record at or above FLUSH_SEV awaits its write (R402). -/
  sevDue : Bool := false
  /-- Flash writes are failing (R403), and attempts made at the failing unit. -/
  fault : Bool := false
  attempts : Nat := 0
  /-- The window: first record copied, records, and whether a copy is under way from a sequence (R404). -/
  window : List EvRec := []
  winReady : Bool := true
  winFirst : Nat := 0
  winFrom : Nat := 0
  /-- The records the copy under way takes: the state at the instant of the request (R407). -/
  winCopy : List EvRec := []
  deriving DecidableEq, Repr

/-- The recorder's part of the flash (R403, R407). -/
structure EvFlash where
  /-- The flash ring, oldest first. -/
  ring : List EvRec := []
  /-- Records in each erase unit that has been opened since it was last erased, oldest first; the last is being written (R403). -/
  units : List Nat := []
  wrapped : Bool := false
  clears : Nat := 0
  /-- Records written since manufacture: the place of the next write, as a count (R403). -/
  pos : Nat := 0
  /-- Sequence of the newest record written to flash (EVR_FLASHED). -/
  newest : Nat := 0
  /-- End of the sequence numbers reserved in flash (R400). -/
  reserved : Nat := 0
  /-- The next sequence after a completed flush, with no hold mark; none otherwise (R400). -/
  cont : Option Nat := some 0
  deriving DecidableEq, Repr

end Sys2Proof.Machine
end

