-- ==== Sys2Proof/Machine/StMeter.lean ====
section
/-!
DEFINITION. The metering section of the configuration (R395) and the energy engine's own state (R373 to R391).
-/
set_option linter.unusedVariables false
namespace Sys2Proof.Machine

/-- A voltage record (R395): scale and gain as binary32 words, phase in 0.001°, v_min in 0.1 V. -/
structure MtrVCfg where
  enable : Bool
  scale : Word
  gain : Word
  phase : Int
  vMin : Nat
  deriving DecidableEq, Repr

/-- A current record (R395). -/
structure MtrCCfg where
  enable : Bool
  kind : Nat
  ref : Nat
  invert : Bool
  scale : Word
  gain : Word
  phase : Int
  creep : Nat
  deriving DecidableEq, Repr

/-- A pulse record (R395). -/
structure MtrPulseCfg where
  out : Nat
  reg : Nat
  mask : Nat
  const : Nat
  width : Nat
  gap : Nat
  deriving DecidableEq, Repr

/-- The metering section (R395). -/
structure MtrCfg where
  /-- Interval length in minutes. -/
  interval : Nat := 15
  volts : List MtrVCfg := []
  currents : List MtrCCfg := []
  pulses : List MtrPulseCfg := []
  /-- Zones with the channel each is assigned to (R390). -/
  zones : List (Nat × Nat) := []
  deriving DecidableEq, Repr

/-- An interval record (R384). `calClose` is the calendar time of its close, which the archive keeps (R387). -/
structure MtrRec where
  seq : Nat
  chan : Nat
  unitRole : Nat
  flags : Nat
  count : Nat
  intervalS : Nat
  cause : Nat
  openStamp : Nat
  closeStamp : Nat
  measuredMs : Nat
  unmeasuredMs : Nat
  energy : List Nat
  iRms : Nat
  vRms : Nat
  freq : Nat
  overload : Nat
  calClose : Nat
  deriving DecidableEq, Repr

/-- The open interval of a channel. -/
structure MtrOpen where
  openStamp : Nat := 0
  /-- It opened on a boundary. -/
  onBoundary : Bool := false
  samples : Nat := 0
  /-- Integer totals at the opening, and the jumps that presets have made since. -/
  totals : List Nat := []
  jumps : List Int := []
  flags : Nat := 0
  unmeasured : Nat := 0
  /-- Sums over its windows: I_RMS times duration, duration, V_RMS, FREQ; windows, and windows with a FREQ. -/
  iSum : Rat := 0
  dSum : Rat := 0
  vSum : Rat := 0
  fSum : Rat := 0
  wins : Nat := 0
  freqWins : Nat := 0
  overload : Nat := 0
  /-- ZONE_DRIVE summed over the pours of the interval, by zone (R390). -/
  drive : List (Nat × Nat) := []
  deriving DecidableEq, Repr

/-- The window in progress of a current channel: sums of i², v·i and v90·i, the largest |i|, samples on the fine path, clipped samples. -/
structure MtrWin where
  ii : Rat := 0
  vi : Rat := 0
  qi : Rat := 0
  peak : Rat := 0
  fine : Nat := 0
  clip : Nat := 0
  deriving DecidableEq, Repr

/-- A current channel. -/
structure MtrChan where
  /-- Registers 0 to 7 with their residues, in units of 2^-32 mWh (R381). -/
  acc : List Nat := List.replicate 8 0
  open_ : Option MtrOpen := none
  fine : Bool := true
  below : Nat := 0
  win : MtrWin := {}
  creep : Bool := false
  /-- Intervals closed. -/
  count : Nat := 0
  overloadAt : Option Nat := none
  deriving DecidableEq, Repr

/-- A voltage channel: samples of the window in progress, sum of v², largest |v|, clipped samples. -/
structure MtrVolt where
  n : Nat := 0
  vv : Rat := 0
  peak : Rat := 0
  clip : Nat := 0
  deriving DecidableEq, Repr

/-- A pulse output (R391). -/
structure MtrPulse where
  acc : Nat := 0
  busy : Nat := 0
  /-- Monotonic ns at which the pulse in progress ends. -/
  on : Option Nat := none
  backlogAt : Option Nat := none
  deriving DecidableEq, Repr

/-- The snapshot of a metering close (R386), written with the flush: totals and counts by channel, pulse accumulators and counts, the POWER_CUT
records, the sequence of the last record whose energy the totals include, and the calendar time of the last sample. -/
structure MtrSnap where
  accs : List (Nat × List Nat) := []
  counts : List (Nat × Nat) := []
  pulses : List (Nat × Nat × Nat) := []
  records : List MtrRec := []
  seq : Nat := 0
  calSec : Option Nat := none
  deriving DecidableEq, Repr

/-- The energy engine. -/
structure Meter where
  chans : List (Nat × MtrChan) := []
  volts : List (Nat × MtrVolt) := []
  pulses : List (Nat × MtrPulse) := []
  /-- Sequence of the last record closed. -/
  seq : Nat := 0
  /-- Records closed and not yet formed (R384). -/
  closed : List MtrRec := []
  /-- Next boundary: a UTC second, or monotonic ns while UNALIGNED (R382). -/
  nextEnd : Nat := 0
  /-- Monotonic ns of the opening, from which UNALIGNED boundaries are counted (R382). -/
  origin : Nat := 0
  unaligned : Bool := false
  /-- Stamp and monotonic ns of the last sample, calendar second. -/
  lastStamp : Nat := 0
  lastAt : Nat := 0
  lastCal : Nat := 0
  /-- The wall base has been stepped since the last sample (R383). -/
  stepped : Bool := false
  /-- Current records that take effect at the next window boundary of their channel (R375). -/
  recal : List (Nat × MtrCCfg) := []
  /-- Voltage records that take effect at the next window boundary of their channel (R375). -/
  recalV : List (Nat × MtrVCfg) := []
  /-- Monotonic ns of the last accumulator write (R381). -/
  writeAt : Nat := 0
  /-- The snapshot that the next opening continues from, and whether it is older than the last cut (R387). -/
  snap : Option MtrSnap := none
  rebuilt : Bool := false
  /-- Metering has been closed by a warning and the snapshot's records have not yet been made. -/
  cutPending : Bool := false
  /-- It has opened since module reset. -/
  opened : Bool := false
  deriving DecidableEq, Repr

end Sys2Proof.Machine
end

