-- ==== Sys2Proof/Machine/StBase.lean ====
section
/-!
DEFINITION. The state of start-up, supply and power-fail flush (R53 to R74), the module's role, what the module emits, and the flush slots.
-/
set_option linter.unusedVariables false
namespace Sys2Proof.Machine

/-- The module's role (R412, RDN_STATUS.ROLE). -/
inductive Role where
  | active | standby | seeding | alone | witness
  deriving DecidableEq, Repr

/-- The code of a role in RDN_STATUS.ROLE. -/
def Role.code : Role → Nat
  | .active => 0 | .standby => 1 | .seeding => 2 | .alone => 3 | .witness => 4

/-- Where the power-fail flush stands (R69, R72). -/
inductive FlushPhase where
  /-- No flush. -/
  | idle
  /-- The warning has come, the flush has not yet begun (R69, t0 to t0 + 1 ms). -/
  | warned
  /-- Outputs are off in an activate pause, and the flush waits for the end of the pause (R471). -/
  | waiting
  /-- The flush runs. -/
  | running
  /-- The flush has completed. -/
  | done
  deriving DecidableEq, Repr

/-- What a flush was started for. -/
inductive FlushFor where
  /-- A power-fail warning (R69). -/
  | supply
  /-- An assertion of PERST_N while VIN is good (R72). -/
  | perst
  /-- The die at 125 °C (R47). -/
  | thermal
  deriving DecidableEq, Repr

/-- Supply, straps and flush (R30, R47, R68 to R74). -/
structure Supply where
  /-- VIN is good and the on-module rails are in regulation. -/
  powerGood : Bool := false
  /-- PERST_N is asserted. -/
  perst : Bool := false
  /-- Module reset holds. -/
  inReset : Bool := true
  /-- Level of UNIT_SEL: true is high, Drag (R30: open reads high). -/
  unitSel : Bool := true
  /-- MAINT_N and EMERG_N are asserted (R30). -/
  maintPin : Bool := false
  emergPin : Bool := false
  /-- VCORE is in regulation and the die was below 110 °C (R54). -/
  vcoreReady : Bool := false
  /-- HIF_STATUS.READY and configuration space: stage 0x2 has completed (R54, R480). -/
  stage2 : Bool := false
  /-- The role has settled at the end of stage 0x6 (R483). -/
  roleSettled : Bool := false
  flush : FlushPhase := .idle
  flushFor : FlushFor := .supply
  /-- The flush writes accumulators and retentive points too (R70). -/
  flushFull : Bool := false
  /-- PERST_N was released while a flush it started runs (R72). -/
  relWaits : Bool := false
  /-- The riser's charger runs: from the end of module reset (R54). -/
  charger : Bool := false
  /-- What the riser holds while its load switch is open, in mV: the highest voltage it has reached from VIN (R42). 0 once the switch has drained it. -/
  riserHeld : Nat := 0
  /-- Stamp and monotonic ns of the warning, and the lowest VIN since (R73). -/
  warnStamp : Nat := 0
  warnAt : Nat := 0
  /-- The stage of start-up that the flush interrupted (R73). -/
  stageWas : Nat := 1
  lowVin : Nat := 0
  /-- Monotonic ns at which VIN was restored (R68). -/
  restoredAt : Option Nat := none
  /-- Since start-up the module has made a cycle commit as ACTIVE or ALONE, or applied a commit delta as STANDBY (R70). -/
  committed : Bool := false
  /-- Consecutive PACE samples below the floor (R59). -/
  slowRun : Nat := 0
  slowMin : Nat := 0xFFFF
  /-- A core-voltage ramp runs towards EBB (true) or FULL (false) (R60). -/
  ramp : Option Bool := none
  /-- Start-up waits for the die to fall below 100 °C (R54). -/
  hot : Bool := false
  /-- Monotonic ns at which an activate pause began, and whether it goes back to the previous slot (R469). -/
  pauseAt : Nat := 0
  pauseBack : Bool := false
  /-- State of the slot that ran before the pause: RUNNING or TRIAL (R102). -/
  pauseWas : Nat := 4
  /-- The new pattern has refused the running configuration (R469, R471). -/
  refused : Bool := false
  /-- Length in ms of the pause that PAT_ACTIVATE reports. -/
  pauseMs : Nat := 0
  /-- Monotonic ns at which service began in a trial pattern (R468). -/
  trialAt : Nat := 0
  /-- PWR: the other copy awaits its rewrite after stage 0x7 (R65, R67). -/
  rewrite : Option Nat := none
  deriving DecidableEq, Repr

/-- A region whose test a write has aborted (R134): its aborts in this pass and the further regions until it is retried. -/
structure FettleRetry where
  bank : Nat
  region : Nat
  aborts : Nat
  left : Nat
  deriving DecidableEq, Repr

/-- Fettling and remapping (R133 to R135). -/
structure Fettle where
  /-- The region under test. -/
  test : Option (Nat × Nat) := none
  /-- The region under test is a retry. -/
  retry : Bool := false
  /-- Monotonic ns at which the next region starts. -/
  at_ : Nat := 0
  retries : List FettleRetry := []
  /-- A bank that is being copied to a spare, and the cause. -/
  remap : Option (Nat × Nat) := none
  /-- Banks that need a spare while another is being copied, with their causes, in the order in which they came. -/
  needs : List (Nat × Nat) := []
  /-- Corrected errors of the last 24 h: bank and monotonic ns, the latest first. -/
  ce : List (Nat × Nat) := []
  /-- Banks that stay in service without a spare. -/
  degraded : List Nat := []
  deriving DecidableEq, Repr

/-- One flush slot (R69 to R71): it counts only with its trailer. -/
structure FlushSlot where
  complete : Bool := false
  /-- Order of completion: the newest complete slot has the highest. -/
  age : Nat := 0
  layout : List Byte := []
  points : List (Nat × PtRec) := []
  /-- The snapshot of the energy engine (R386). -/
  meter : MtrSnap := {}
  deriving DecidableEq, Repr

/-- An application that waits for the end of the charge (R207): its operations and the untagged host command that waits with it, or the transaction of a slot. -/
structure Deferred where
  ops : List PtOp
  host : Option CmdTag
  txn : Option Nat := none
  /-- The stamp of the commit had passed when it was taken (R112). -/
  late : Nat := 0
  deriving DecidableEq, Repr

end Sys2Proof.Machine
end

