-- ==== Sys2Proof/Machine/StKeys.lean ====
section
/-!
DEFINITION. The key store (R442 to R458).
-/
set_option linter.unusedVariables false
namespace Sys2Proof.Machine

/-- A key slot: its attribute word, its key or path, and the key it replaced while that key still counts (R449). -/
structure KeySlot where
  attr : Word := 0
  data : List Byte := []
  prev : Option (Word × List Byte) := none
  /-- The module still sends under the replaced key. -/
  prevSends : Bool := false
  /-- Monotonic ns from which it sends under the new key, and from which the replaced key no longer checks. -/
  sendAt : Nat := 0
  graceEnd : Nat := 0
  deriving DecidableEq, Repr

/-- A tree root: its attribute word and its 32 bytes (R442). -/
structure KeyRoot where
  attr : Word := 0
  data : List Byte := []
  deriving DecidableEq, Repr

/-- The key store. -/
structure KeyStore where
  slots : List (Nat × KeySlot) := []
  roots : List (Nat × KeyRoot) := []
  /-- Cached working keys, the most recently used first: root and path (R445). -/
  cache : List (Nat × List Byte) := []
  /-- The life-cycle transition whose intent stands in flash (R453, R454). -/
  intent : Option Nat := none
  /-- Monotonic ns of the request, and whether its zeroisation has been made. -/
  lcAt : Nat := 0
  zeroised : Bool := false
  /-- The latest statement (R458). -/
  statement : List Byte := []
  deriving DecidableEq, Repr

end Sys2Proof.Machine
end

