-- ==== Sys2Proof/Machine/StLamp.lean ====
section
/-!
DEFINITION. The lamp section of the configuration (R252, R253) and the lamp engine's own state (R227 to R250).
-/
set_option linter.unusedVariables false
namespace Sys2Proof.Machine

/-- A luminaire record (R253). -/
structure LumRec where
  mode : Nat
  emerg : Bool
  noProbe : Bool
  zoneSource : Bool
  fitted : Nat
  curve : Nat
  zone : Nat
  fluxRef : Nat
  emergLevel : Nat
  bins : List Nat
  tKnee : Int
  tMax : Int
  derateMin : Nat
  maintMin : Nat
  maintSlope : Nat
  deriving DecidableEq, Repr

/-- A node record (R252): word width, dither limit in words, probe interval in s. -/
structure LampNode where
  n : Nat
  width : Nat
  dither : Nat
  probe : Nat
  deriving DecidableEq, Repr

/-- The lamp section (R252). -/
structure LampCfg where
  tick : Nat := 50
  probeEn : Bool := false
  ditherEn : Bool := false
  emFade : Nat := 0
  nodes : List LampNode := []
  lums : List (Nat × LumRec) := []
  /-- φ in 1/32,768 and CCT in K, by code. -/
  bins : List (Nat × Nat) := []
  curves : List (List Nat) := []
  /-- Level, CCT and fade, numbered from 1. -/
  scenes : List (Nat × Nat × Nat) := []
  deriving DecidableEq, Repr

/-- A segment entry in a mould (R241, R242): a probe or a ramp, its ramp in ms and its word, the level at the segment's end, the monotonic ns of the
pour it was queued for, and the pour sequence under which a frame last carried it. -/
structure LampEntry where
  probe : Bool
  ramp : Nat
  word : Nat
  level : Nat
  pour : Nat
  sent : Option Nat := none
  deriving DecidableEq, Repr

/-- A lamp channel: its fade (R234), its residue and words (R240, R242), its status and probes (R246 to R248). Instants are monotonic ns, colour
temperatures in mired. -/
structure Chan where
  start : Nat := 0
  target : Nat := 0
  /-- The fade's start; on a unit that took the fade from its peer it may lie before its own base began. -/
  tBeg : Int := 0
  /-- Fade time in ms. -/
  dur : Nat := 0
  endLevel : Nat := 0
  cct0 : Rat := 0
  cct1 : Rat := 0
  endCct : Rat := 0
  /-- The latched CCT in K that the fade runs to; none before the first (R234). -/
  cctRaw : Option Nat := none
  res : Int := 0
  /-- Word of the last entry queued; none before the first (R242). -/
  last : Option Nat := none
  /-- Word and ideal word, in 1/256, of the current segment. -/
  word : Nat := 0
  ideal : Nat := 0
  /-- Drive d' in 1/65,535. -/
  drive : Nat := 0
  /-- The fade runs in the segment computed last. -/
  fading : Bool := false
  /-- The mould entry not yet delivered (R242). -/
  pend : Option LampEntry := none
  /-- The entry that was delivered for the coming pour (R242). -/
  poured : Option LampEntry := none
  /-- CH_STATUS as taken last, with its quality: NOT_FITTED, GOOD (R246). -/
  status : Nat := 3
  statusQ : Nat := 0
  /-- Monotonic ns of the pour at which the channel's steady on-time first fell below t_meas, none above it (R248). -/
  below : Option Nat := none
  /-- Monotonic ns at which the next probe is due, and whether LMP_PROBE made it due at once. -/
  probeAt : Int := 0
  probeNow : Bool := false
  /-- Monotonic ns of the last measurement or probe result, what the latest measurement and the latest probe said, the current in mA (R247). -/
  resultAt : Option Nat := none
  result : Option Nat := none
  probed : Option Nat := none
  current : Nat := 0
  deriving DecidableEq, Repr

/-- A luminaire: run time in ms since the last whole second, seconds run, the derating factor (R237, R238) and as last written, the flags as last
written, the maintenance factor with the LUM_RUN it was computed for, LUM_STATUS with its quality (R230). -/
structure Lum where
  runMs : Nat := 0
  run : Nat := 0
  derate : Rat := 1
  wroteD : Rat := 1
  flags : Nat := 0
  maint : Option (Nat × Rat) := none
  status : Nat × Nat := (3, 0)
  deriving DecidableEq, Repr

/-- The lamp engine. -/
structure Lamp where
  /-- Monotonic ns of the next tick boundary; none while the engine is stopped (R228). -/
  next : Option Nat := none
  /-- The tick in effect, in ms, and the boundary of the tick in progress. -/
  tick : Nat := 50
  boundary : Nat := 0
  /-- A tick value that takes effect at the next boundary (R229). -/
  newTick : Option Nat := none
  /-- Evaluation of the tick in progress has not ended (R243). -/
  evaluating : Bool := false
  /-- Which free value places the luminaires within the evaluation of the tick in progress (R243). -/
  order : Nat := 0
  /-- Boundary of the tick for which EVAL_LATE has been recorded. -/
  lateAt : Option Nat := none
  chans : List (Nat × Chan) := []
  lums : List (Nat × Lum) := []
  /-- Emergency mode is requested by LMP_EMERG (R249). -/
  asked : Bool := false
  /-- Emergency mode at the last latch, and the monotonic ns of its entry. -/
  emerg : Bool := false
  emergAt : Nat := 0
  /-- Sequence of the pour ordered last; LMP_POURSEQ is that of the last POUR frame (R244). -/
  seq : Nat := 0
  /-- Pours ordered and not yet made: monotonic ns and pour sequence. -/
  pours : List (Nat × Nat) := []
  /-- Sequence of ring 6 entries (R254). -/
  seq6 : Nat := 0
  /-- Luminaire records that apply at the next latch (R255). -/
  records : List (Nat × LumRec) := []
  /-- Zone figures last written: members, faults, unverified, drive (R231). -/
  zones : List (Nat × List Nat) := []
  deriving DecidableEq, Repr

/-- The luminaires of a configuration by zone: is the zone configured? A zone is one that a luminaire record names (DEDUCED). -/
def LampCfg.zoneOk (c : LampCfg) (z : Nat) : Bool := decide (z ≤ 4095) && c.lums.any (·.2.zone == z)

end Sys2Proof.Machine
end

