-- ==== Sys2Proof/Machine/StRadio.lean ====
section
/-!
DEFINITION. The radio section of the configuration (R337) and what the radio channels and radio nodes hold beyond their registers (R313 to R341).
-/
set_option linter.unusedVariables false
namespace Sys2Proof.Machine

/-- A channel record (R337). Powers are two's-complement bytes. -/
structure RadioChanCfg where
  enable : Bool
  phymode : Nat
  channel : Nat
  wakech : Nat
  power : Nat
  wakePower : Nat
  preamble : Nat
  beaconMs : Nat
  limit : Nat
  deriving DecidableEq, Repr

/-- A node entry (R337). -/
structure RadioEntry where
  n : Nat
  profile : Nat
  wakeOnOutput : Bool
  uid : Nat
  heartbeat : Nat
  listen : Nat
  eventMin : Nat
  drift : Nat
  wakeMax : Nat
  deriving DecidableEq, Repr

/-- The radio section (R337). A profile is one type code per offset +0x20 to +0xFF. -/
structure RadioCfg where
  segId : Nat := 0
  chans : List RadioChanCfg := []
  profiles : List (List Nat) := []
  nodes : List RadioEntry := []
  deriving DecidableEq, Repr

/-- A radio node as the module holds it. -/
structure RadioNode where
  /-- NODE_STATE coding (R307, R335). -/
  state : Nat := 0
  key : List Byte := []
  windows : List CznWindow := []
  hiCounter : Nat := 0
  lastHeard : Nat := 0
  lastStamp : Nat := 0
  /-- Monotonic ns of its last HELLO (R319). -/
  helloAt : Nat := 0
  /-- Monotonic ns of its last frame of any kind: its post-uplink window counts from here (R322). -/
  uplinkAt : Nat := 0
  /-- Frames sent with ACK_REQ and not acknowledged. -/
  unacked : List CznUnacked := []
  /-- Frames that wait for its next opportunity: type and body. -/
  pend : List (Nat × List Byte) := []
  /-- RN_LISTEN (R325). -/
  listen : Nat := 0
  /-- Monotonic ns of the last contact as the module knows it (R323). -/
  contact : Nat := 0
  /-- Outputs committed and not yet acknowledged, as block offsets. -/
  outputs : List Nat := []
  keysAcked : Bool := false
  /-- Wake-up calls sent in the wall-clock hour `wakeHour`, the sequence of the last call, a call held for the next hour (R328). -/
  wakes : Nat := 0
  wakeHour : Nat := 0
  wakeSeq : Nat := 0
  wakeHeld : Option Nat := none
  /-- Counters of R334. -/
  claimRej : Nat := 0
  repeats : Nat := 0
  authFail : Nat := 0
  calls : Nat := 0
  /-- Wall ms of the last listen window served (R322). -/
  lastWin : Nat := 0
  deriving DecidableEq, Repr

/-- A radio channel. -/
structure RadioChan where
  /-- The channel's key generation, and its phase: 0 steady, 1 distributing, 2 announced, 3 grace (R285, R318). -/
  gen : Nat := 0
  phase : Nat := 0
  groupKeys : List (Nat × List Byte) := []
  /-- Beacons sent, newest first: sequence and monotonic ns; at most 256 (R323). -/
  beacons : List (Nat × Nat) := []
  /-- Wall ms of the last beacon instant served. -/
  beaconMs : Nat := 0
  /-- The vote for this channel has been cast, until a beacon is accepted (R330). -/
  voted : Bool := false
  /-- Monotonic ns of the last beacon accepted as STANDBY. -/
  heardAt : Nat := 0
  /-- Own transmissions and uplinks: monotonic ns and air time in ns. -/
  sent : List (Nat × Nat) := []
  heard : List (Nat × Nat) := []
  /-- Sequence of the beacon from which the next generation is used (R318). -/
  switchSeq : Nat := 0
  rekeyAt : Nat := 0
  graceAt : Nat := 0
  /-- Monotonic ns until which the radio is sending. -/
  busyTo : Nat := 0
  /-- Instants of the authentication failures of the last second, and that of the last AUTH_FAIL event (R312). -/
  auth : List Nat := []
  authAt : Option Nat := none
  /-- Receive windows of the active module's frames (R287, R330). -/
  peerWindows : List CznWindow := []
  deriving DecidableEq, Repr

/-- The radio subsystem. -/
structure Radio where
  nodes : List (Nat × RadioNode) := []
  chans : List (Nat × RadioChan) := []
  /-- Sequence of ring 7 entries (R338). -/
  seq7 : Nat := 0
  deriving DecidableEq, Repr

end Sys2Proof.Machine
end

