-- ==== Sys2Proof/Machine/StRdn.lean ====
section
/-!
DEFINITION. The redundancy section of the configuration (R438) and the state of pairs, peers and witnesses (R411 to R437).
-/
set_option linter.unusedVariables false
namespace Sys2Proof.Machine

/-- A pair that a witness serves (R438). -/
structure PairCfg where
  pairId : Nat
  slot : Nat
  uids : List Nat
  addrs : List (List Byte)
  deriving DecidableEq, Repr

/-- The redundancy section (R438). -/
structure RdnCfg where
  mode : Nat := 0
  proto : Nat := 4
  selfGrant : Bool := false
  radioRotate : Bool := false
  yieldStuck : Bool := false
  lag : Nat := 4
  pairId : Nat := 1
  beaconMs : Nat := 10
  lossMs : Nat := 32
  isolateMs : Nat := 1000
  rotateS : Nat := 0
  peerUid : Nat := 0
  witnessUid : Nat := 0
  witnessAddr : List Byte := []
  etype : Nat := 0x88B6
  peerSlot : Nat := 0
  witnessSlot : Nat := 0
  pairs : List PairCfg := []
  deriving DecidableEq, Repr

/-- A REQUEST that is outstanding (R434): its nonce, reason, when it was first and last sent (monotonic ns), and the trigger of a takeover (1 peer lost,
2 yield). -/
structure RdnReq where
  nonce : Nat
  reason : Nat
  first : Nat
  last : Nat
  trigger : Nat
  denied : Bool := false
  /-- The epoch of a REVERT that has been granted and the cycle boundary at which it takes effect (R427). -/
  granted : Option (Nat × Nat) := none
  deriving DecidableEq, Repr

/-- A handover at T (R425 to R427), as the old active (`old`) or as the new one: T on the monotonic base and as a stamp, the time of the decision, the
granted epoch and whether READY or the grant is in, and the command that asked for it. -/
structure Handover where
  old : Bool
  t : Nat
  stamp : Nat
  epoch : Option Nat := none
  /-- T has passed: the new active runs, or the old one waits for CONFIRM. -/
  passed : Bool := false
  /-- The new active has not yet applied the DELTA of the old one's last commit. -/
  delta : Bool := false
  confirmed : Bool := false
  /-- RDN_ROTATE waits for it. -/
  command : Bool := false
  deriving DecidableEq, Repr

/-- A DELTA or SEED being received: sequence (DELTA) or base batch (SEED), batch, last part, parts by number. -/
structure RdnParts where
  seq : Nat
  batch : Nat
  last : Nat
  parts : List (Nat × List Byte)
  deriving DecidableEq, Repr

/-- A unit as a witness sees it: its last HEARTBEAT and when it arrived, the highest counter accepted, the last nonce with its answer
(`none` while a START is held), and a held START with its last_active_epoch. -/
structure WitUnit where
  role : Nat := 2
  flags : Nat := 0
  epoch : Nat := 0
  at_ : Option Nat := none
  hi : Nat := 0
  nonce : Option Nat := none
  /-- 0 no answer yet, 1 GRANT, 2 DENY, with its epoch or reason. -/
  answer : Nat × Nat := (0, 0)
  start : Option Nat := none
  /-- A HEARTBEAT with CONFIRMED has come since the last grant. -/
  confirmed : Bool := false
  deriving DecidableEq, Repr

/-- A pair as a witness holds it (R435). E stands in flash. -/
structure WitPair where
  act : Option Nat := none
  units : List (Nat × WitUnit) := []
  /-- Monotonic ns of the first START that is held (R436). -/
  startAt : Option Nat := none
  statusAt : Nat := 0
  deriving DecidableEq, Repr

/-- What the redundancy subsystem holds beyond its registers. -/
structure Rdn where
  /-- Highest epoch held or seen since reset (R417). -/
  highest : Nat := 0
  /-- The epoch of the module's own claim, and the last epoch under which it was ACTIVE. -/
  epoch : Nat := 0
  lastActive : Nat := 0
  /-- Sender counters: last sent on the peer link and to the witness. -/
  txPeer : Nat := 0
  txWit : Nat := 0
  windows : List CznWindow := []
  witHi : Nat := 0
  /-- Monotonic ns of the last valid peer BEACON and witness STATUS; role and flags of the peer; since when it has been STANDBY. -/
  peerAt : Option Nat := none
  witAt : Option Nat := none
  witHolding : Bool := false
  peerRole : Nat := 2
  peerFlags : Nat := 0
  peerSince : Option Nat := none
  /-- Monotonic ns of the last contact with either, for R415. -/
  contactAt : Nat := 0
  isolated : Bool := false
  req : Option RdnReq := none
  /-- Monotonic ns at which the role began (R425), and at which rotation is due anew after a postponement. -/
  roleAt : Nat := 0
  postponed : Nat := 0
  hand : Option Handover := none
  /-- A peer is being mirrored: it has asked for a seed. -/
  mirror : Bool := false
  /-- DELTAs sent and not acknowledged. -/
  unacked : List Nat := []
  rx : List RdnParts := []
  applied : Option Nat := none
  seed : Option RdnParts := none
  seedAt : Nat := 0
  seeded : Bool := false
  /-- Monotonic ns at which SEEDING began to listen, at which the next BEACON and the next HEALTH are due. -/
  listenAt : Nat := 0
  beaconAt : Nat := 0
  healthAt : Nat := 0
  /-- The self-test passed when last evaluated. -/
  healthy : Bool := true
  protoBad : Bool := false
  /-- YIELD has been sent in this role (R422); the first commit after a handover has been confirmed (R425, R434). -/
  yielding : Bool := false
  confirmed : Bool := false
  /-- Monotonic ns at which the last DELTA was applied. -/
  appliedAt : Nat := 0
  pairs : List (Nat × WitPair) := []
  /-- Monotonic ns until which a witness holds after its restart (R436). -/
  holdUntil : Nat := 0
  deriving DecidableEq, Repr

end Sys2Proof.Machine
end

