-- ==== Sys2Proof/Machine/State.lean ====
section
/-!
DEFINITION. The state of the module as plain data, the reasons a command can stop, and the state after reset.
-/
set_option linter.unusedVariables false
namespace Sys2Proof.Machine

/-- Faults. No command of this block ends in a fault: the spec gives every command an effect. -/
inductive Fault where
  /-- Raised by no meaning. -/
  | none
  deriving DecidableEq, Repr

/-- Refusals. -/
inductive Refusal where
  /-- Raised by the dispatch for a command without a meaning. Safe. -/
  | notModelled (mnemonic : String)
  deriving DecidableEq, Repr

/-- The running configuration, parsed from its image (R61 to R64). -/
structure RunCfg where
  /-- Generation; 0 under factory defaults. -/
  gen : Nat := 0
  layout : List Byte := []
  ranges : List PtRange := []
  retain : List Nat := []
  time : TimeCfg := {}
  cycle : CycCfg := {}
  lamp : LampCfg := {}
  trunks : List TrunkPortCfg := []
  eths : List Bool := [true, true]
  czn : CznCfg := {}
  radio : RadioCfg := {}
  meter : MtrCfg := {}
  rdn : RdnCfg := {}
  /-- Sections as the image carries them: type, index, bytes (R63). -/
  sections : List (Nat × Nat × List Byte) := []
  /-- flush_sev, ring_min, flush_s of the recorder section (R487). -/
  recorder : Option (Nat × Nat × Nat) := none
  deriving DecidableEq, Repr

/-- A pattern slot (R464): its load while it is LOADING, and its image, or the image it was shipped with. Its state stands in PAT_STATUS. -/
structure PatSlot where
  load : Option PatLoad := none
  image : List Byte := []
  shipped : Bool := false
  version : Nat := 0
  security : Nat := 0
  deriving DecidableEq, Repr

/-- The flash of the module (R137): it outlives module reset and loss of power. -/
structure Flash where
  /-- Configuration copies 0 and 1 (R61). -/
  copies : List (Nat × List Byte) := []
  /-- The running copy (R67). -/
  runCopy : Nat := 0
  slots : List (Nat × FlushSlot) := []
  events : EvFlash := {}
  /-- The last heat stored (R347). -/
  heat : Nat := 0
  /-- Pattern slots: 0 A, 1 B. -/
  pats : List (Nat × PatSlot) := [(0, { shipped := true, version := 0x01000000 })]
  /-- Logical banks that have been remapped, to their physical banks (R135). -/
  remap : List (Nat × Nat) := []
  /-- Spares used, in order (R135). -/
  sparesUsed : Nat := 0
  /-- End of the counter values reserved, by port: 0 to 63 trunk, 64 to 67 radio, 254 peer, 253 witness (R284, R433). -/
  counters : List (Nat × Nat) := []
  /-- The key generation of each radio channel (R285, R318); that of the trunks is TRK_CZNKEY.GEN. -/
  radGens : List (Nat × Nat) := []
  /-- The stored epoch (R412); a witness's E by pair (R435). -/
  epoch : Nat := 0
  witEpochs : List (Nat × Nat) := []
  /-- The interval archive, oldest first (R385). -/
  archive : List MtrRec := []
  /-- What the last flush lost (R71): bit 0 events, bit 1 metering, bit 2 retentive points; none where it completed. -/
  unflushed : Option Nat := none
  deriving DecidableEq, Repr

/-- The state of the block. -/
structure State where
  /-- The commands that wait outside, first in first out. -/
  pending : List Instr
  /-- Packets in host-to-module tundishes that wait for earlier commands (R90, R124). -/
  held : List Held
  /-- Commands taken that wait (R92). -/
  waits : List Wait
  /-- The held packet that is being released: the model's own bookkeeping. -/
  cur : Option Held
  ident : Ident
  /-- Registers by offset (R475). -/
  regs : List (Nat × Word)
  /-- Data of the last register read with a row of its own. -/
  rdData : List Word
  pcie : Pcie
  rings : List (Nat × RingSt)
  /-- The runner served last at each priority level (R118); unlisted is 15, so that the first round starts at runner 0. -/
  rrLast : List (Nat × Nat)
  txns : List (Nat × TxnSlot)
  /-- The 15-bit tag counter (R105) and the rank of the next TXN_COMMIT (R113). -/
  txnTag : Nat
  txnRank : Nat
  /-- Bytes the module has written to host memory. -/
  hostMem : List (Nat × Byte)
  /-- What the module has emitted, oldest first. -/
  outs : List Out
  clock : Clock
  cal : Calendar
  calRun : CalRun
  shadows : Shadows
  evr : Recorder
  flash : Flash
  sup : Supply
  fettle : Fettle
  role : Role
  cfg : RunCfg
  /-- The stamp at which restore completed (R58). -/
  restoreStamp : Nat
  points : List (Nat × PtRec)
  forces : List (Nat × Force)
  subs : List (Nat × Sub)
  noticeQ : List Notice
  /-- The batch sequence (R152). -/
  batch : Nat
  /-- Applications that wait for the end of the charge (R207). -/
  deferred : List Deferred
  ladles : List (Nat × Ladle)
  cyc : Cyc
  lamp : Lamp
  keys : KeyStore
  czn : Czn
  radio : Radio
  meter : Meter
  rdn : Rdn
  /-- Counter of the free values: the model's own. -/
  free : Nat
  deriving DecidableEq, Repr

/-- The module right after reset. -/
def State.reset : State where
  pending := []
  held := []
  waits := []
  cur := none
  ident := { order := .gf7_64r4_868, chipStep := 1, boardRev := 1, serial := 1, vendor := 0 }
  regs := []
  rdData := []
  pcie := {}
  rings := []
  rrLast := []
  txns := []
  txnTag := 1
  txnRank := 0
  hostMem := []
  outs := []
  clock := {}
  cal := {}
  calRun := {}
  shadows := {}
  evr := {}
  flash := {}
  sup := {}
  fettle := {}
  role := .seeding
  cfg := {}
  restoreStamp := 0
  points := []
  forces := []
  subs := []
  noticeQ := []
  batch := 0
  deferred := []
  ladles := []
  cyc := {}
  lamp := {}
  keys := {}
  czn := {}
  radio := {}
  meter := {}
  rdn := {}
  free := 0

end Sys2Proof.Machine
end

