-- ==== Sys2Proof/Machine/Ops.lean ====
section
/-!
DEFINITION. The named operations over the state: registers, time and stamps, event records, interrupts, writes to host memory,
rings and completions. Every meaning goes through them.
-/
set_option linter.unusedVariables false
namespace Sys2Proof.Machine

/-- What every meaning answers. -/
abbrev Answer := Host.Outcome State Fault Refusal

/-! ### Registers -/

/-- The stored word of a register (R5). -/
def State.rd (s : State) (a : Nat) : Word := mapGet (regDefault s.ident) s.regs a

/-- The bytes of a word that a read addresses (R9). -/
def laneOf (l : Lane) (w : Word) : List Byte := slice (le 4 w.toNat) l.byte l.size

/-- Store a register word. -/
def State.wr (s : State) (a : Nat) (v : Word) : State := { s with regs := mapSet (regDefault s.ident) s.regs a v }

/-- The value of a register field. -/
def State.fld (s : State) (a : Nat) (f : Fld) : Nat := f.get (s.rd a)

/-- Set a register field. -/
def State.setF (s : State) (a : Nat) (f : Fld) (v : Nat) : State := s.wr a (f.set (s.rd a) v)

/-- The value of a register as a number. -/
def State.rdN (s : State) (a : Nat) : Nat := (s.rd a).toNat

/-- Store a number in a register, modulo 2^32. -/
def State.wrN (s : State) (a v : Nat) : State := s.wr a (BitVec.ofNat 32 v)

/-- Add to a counter register, modulo 2^32. -/
def State.bump (s : State) (a : Nat) (n : Nat := 1) : State := s.wrN a (s.rdN a + n)

/-- Add to a counter field, saturating at its width. -/
def State.bumpSat (s : State) (a : Nat) (f : Fld) (n : Nat := 1) : State :=
  s.setF a f (min (2 ^ f.width - 1) (s.fld a f + n))

/-- Add to a counter field, modulo its width. -/
def State.bumpF (s : State) (a : Nat) (f : Fld) (n : Nat := 1) : State := s.setF a f (s.fld a f + n)

/-- Is a one-bit field 1? -/
def State.flag (s : State) (a : Nat) (f : Fld) : Bool := s.fld a f == 1

/-- The start-up stage (R54). -/
def State.stage (s : State) : Nat := s.fld Reg.GLB_BOOTSTAGE F.GLB_BOOTSTAGE_STAGE

/-- The module runs factory defaults (R66). -/
def State.defaulted (s : State) : Bool := s.flag Reg.GLB_STATUS F.GLB_STATUS_DEFAULTED

/-- MAINT_N is asserted (R30). -/
def State.maint (s : State) : Bool := s.flag Reg.GLB_STATUS F.GLB_STATUS_MAINT

/-- The module's unit: 0 Cope, 1 Drag (R31). -/
def State.unit (s : State) : Nat := s.fld Reg.GLB_STATUS F.GLB_STATUS_UNIT

/-- ACTIVE or ALONE: the roles that drive the segment. -/
def State.leads (s : State) : Bool := s.role == .active || s.role == .alone

/-- A power-fail warning holds (R69). -/
def State.pfw (s : State) : Bool := s.flag Reg.GLB_STATUS F.GLB_STATUS_PFW

/-- A flush has been started, or a warning holds: service has stopped until it resumes (R69, R72). -/
def State.outage (s : State) : Bool := s.pfw || s.sup.flush != .idle

/-- The outputs are off: 1 ms after the warning, or at once for the flush of PERST_N or a hot die, until service resumes (R47, R69, R72). -/
def State.dark (s : State) : Bool := s.sup.flush != .idle && s.sup.flush != .warned

/-- The module runs on the riser: from a power-fail warning until VIN is restored (R68). -/
def State.onRiser (s : State) : Bool := s.pfw && s.sup.restoredAt.isNone

/-- VIN is good: the on-module rails are in regulation and the riser does not carry them (R44, R68). -/
def State.vinPresent (s : State) : Bool := s.sup.powerGood && !s.onRiser

/-- PCIe and the gigabit ports are in their reset state (R49): in module reset, from the assertion of PERST_N on (R72), and from the flush of a hot die on (R47). -/
def State.linkOff (s : State) : Bool := s.sup.inReset || s.sup.perst || (s.dark && s.sup.flushFor == .thermal)

/-- An activate pause is in progress (R469). -/
def State.pausing (s : State) : Bool := s.flag Reg.PAT_STATUS F.PAT_STATUS_PAUSING

/-- Does the block of an offset answer in the module's present state (R480)? Where PCIe is in its reset state nothing answers (R47, R49). -/
def State.answers (s : State) (a : Nat) : Bool :=
  let glb := decide (a < 0x1000)
  let hif := decide (0x1000 ≤ a ∧ a < 0x2000)
  let pat := decide (0x2A000 ≤ a ∧ a < 0x2B000)
  if s.linkOff then false
  else if s.stage = 0xF then glb || pat
  else if s.pausing then glb || hif || pat
  else if !s.sup.stage2 then glb || hif
  else true

/-- Take a free value's index and advance the counter: the model's own bookkeeping. -/
def State.nextFree (s : State) : State := { s with free := s.free + 1 }

/-! ### Time and stamps (R342 to R347) -/

/-- Units of 2^-32 ns in one second. -/
def secUnits : Nat := 10 ^ 9 * 2 ^ 32

/-- The monotonic base in ns (R342). -/
def State.now (s : State) : Nat := s.clock.mono / 2 ^ 32

/-- The wall base in units of 2^-32 ns (R344). -/
def State.wall (s : State) : Nat := ((s.clock.mono : Int) + s.clock.wallOff).toNat

/-- Wall seconds (R344). -/
def State.wallSec (s : State) : Nat := s.wall / secUnits

/-- The current heat number (R347). -/
def State.heat (s : State) : Nat := s.fld Reg.TIM_STATUS F.TIM_STATUS_HEAT

/-- A stamp of a heat and a time in units of 2^-32 ns (R346). -/
def stampOf (heat u : Nat) : Nat :=
  heat % 2 ^ 12 * 2 ^ 52 + u / secUnits % 2 ^ 32 * 2 ^ 20 + u % secUnits * 2 ^ 20 / secUnits

/-- The extension of a fine stamp: bits 15:0 of the time at 2^36 parts of a second (R346). -/
def fineOf (u : Nat) : Nat := u % secUnits * 2 ^ 36 / secUnits % 2 ^ 16

/-- The current stamp; with heat 0 it takes the monotonic base (R347). -/
def State.stamp (s : State) : Nat := if s.heat = 0 then stampOf 0 s.clock.mono else stampOf s.heat s.wall

/-- The heat number of a stamp. -/
def stampHeat (st : Nat) : Nat := st / 2 ^ 52 % 2 ^ 12

/-- The time of a stamp in units of 2^-20 s, modulo 2^52. -/
def stampTime (st : Nat) : Nat := st % 2 ^ 52

/-- A stamp moved by a number of ns. -/
def stampAdd (st ns : Nat) : Nat := stampHeat st * 2 ^ 52 + (stampTime st + ns * 2 ^ 20 / 10 ^ 9) % 2 ^ 52

/-- Milliseconds in ns. -/
def ms (n : Nat) : Nat := n * 1000000

/-- Seconds in ns. -/
def secs (n : Nat) : Nat := n * 1000000000

/-! ### Interrupts (R81, R82) -/

/-- The function may write to the host: Bus Master Enable in D0 (R78), and PCIe is not in its reset state (R49). -/
def State.busOn (s : State) : Bool := s.pcie.bme && !s.pcie.d3hot && !s.linkOff

/-- Offset of word `w` of an MSI-X table entry (R82). -/
def msixEntry (v w : Nat) : Nat := 0x1800 + 16 * v + 4 * w

/-- Offset of the Pending Bit Array (R82). -/
def msixPba : Nat := 0x1C00

/-- Record an emission. -/
def State.emit (s : State) (o : Out) : State := { s with outs := s.outs ++ [o] }

/-- What a gigabit port holds beyond its registers. -/
def State.eth (s : State) (g : Nat) : EthPort := mapGet (fun _ => {}) s.czn.eths g
def State.setEth (s : State) (g : Nat) (x : EthPort) : State := { s with czn := { s.czn with eths := mapSet (fun _ => {}) s.czn.eths g x } }

/-- A frame leaves on a gigabit port: nothing leaves a port in its reset state, a disabled port or a link that is down; a port stopped by PAUSE holds it (R49, R272,
R273). -/
def State.ethOut (s : State) (g : Nat) (o : Out) : State :=
  if s.linkOff || !s.flag (Reg.ETH_CTL g) F.ETH_CTL_ENABLE || !s.flag (Reg.ETH_STATUS g) F.ETH_STATUS_LINK then s
  else if (s.eth g).pausedTo.isSome then s.setEth g { s.eth g with queue := (s.eth g).queue ++ [o] }
  else (s.emit o).bump (Reg.ETH_TXFRAMES g)

/-- The message of a vector as its table entry gives it. -/
def State.msixOut (s : State) (v : Nat) : Out :=
  .msix v (s.rdN (msixEntry v 0) + s.rdN (msixEntry v 1) * 2 ^ 32) (s.rd (msixEntry v 2))

/-- Is the vector masked, in its table entry or with all of the function's? -/
def State.msixMasked (s : State) (v : Nat) : Bool := s.pcie.fmask || bitOf (s.rdN (msixEntry v 3)) 0

/-- Send a message on a vector, or set its pending bit (R82). -/
def State.sendMsix (s : State) (v : Nat) : State :=
  if s.pcie.msixEnable then
    if s.busOn && !s.msixMasked v then s.emit (s.msixOut v)
    else s.wrN msixPba (putBits (s.rdN msixPba) v 1 1)
  else s

/-- Set HIF_CAUSE bit `k`, with its message (R81). -/
def State.setCause (s : State) (k : Nat) : State :=
  let c := s.rdN Reg.HIF_CAUSE
  if bitOf c k then s
  else
    let en := s.fld Reg.HIF_CAUSEEN F.HIF_CAUSEEN_ENABLE
    let t := s.wrN Reg.HIF_CAUSE (putBits c k 1 1)
    if bitOf en k && (c &&& en) == 0 then t.sendMsix (t.fld Reg.HIF_CAUSEVEC F.HIF_CAUSEVEC_VECTOR) else t

/-- Set HIF_ERR bit `k`, and with it the cause HIF_ERR. -/
def State.setHifErr (s : State) (k : Nat) : State :=
  (s.wrN Reg.HIF_ERR (putBits (s.rdN Reg.HIF_ERR) k 1 1)).setCause 0

/-! ### Event records (R399 to R401) -/

/-- The 60 bytes of a record that its check covers (R399). -/
def evBody (seq stamp source typ sev : Nat) (early : Bool) (payload : List Byte) : List Byte :=
  le 4 seq ++ le 8 stamp ++ le 2 source ++ le 2 typ ++ le 1 sev ++ le 1 (bit early) ++ le 2 payload.length
    ++ padTo 40 payload

/-- The 64 bytes of a record. -/
def EvRec.bytes (r : EvRec) : List Byte :=
  evBody r.seq r.stamp r.source r.typ r.sev r.early r.payload ++ le 4 r.check

/-- Number a record and put it into the buffer; numbers are reserved in flash in blocks of 65,536 (R400). -/
def State.numberRecord (s : State) (o : EvOffer) : State :=
  let q := s.evr.next
  let r : EvRec := { seq := q, stamp := o.stamp, source := o.source, typ := o.typ, sev := o.sev, early := o.early
                     payload := o.payload
                     check := crc32c (evBody q o.stamp o.source o.typ o.sev o.early o.payload) }
  let fl := s.flash.events
  let resv := if seqDiff q fl.reserved < 0 then fl.reserved else (q + 65536 - q % 65536) % 2 ^ 32
  let due := s.evr.sevDue || decide (s.fld Reg.EVR_CFG F.EVR_CFG_FLUSH_SEV ≤ o.sev)
  { s with
    evr := { s.evr with next := addMod32 q 1, buffer := s.evr.buffer ++ [r], sevDue := due }
    flash := { s.flash with events := { fl with reserved := resv, cont := none } } }

/-- Records the buffer holds and flash does not (R401). -/
def evCapacity : Nat := 32768

/-- Make the EVENTS_DROPPED record once the buffer has room again (R401). -/
def State.reportDropped (s : State) : State :=
  if 0 < s.evr.dropped && s.evr.buffer.length < evCapacity && !s.evr.holding then
    let pl := le 4 s.evr.dropped ++ le 1 s.evr.dropSev
    let t := { s with evr := { s.evr with dropped := 0, dropSev := 0 } }
    t.numberRecord { stamp := t.stamp, source := t.unit * 2 ^ 15 + 0x7FFF, typ := 0x1302, sev := 1
                     early := t.heat == 0, payload := pl }
  else s

/-- Offer a record: numbered at once, held without a number while a flush runs (R402), or dropped when the buffer, the held ones with it, is full
(R401). When the buffer
has room again, an EVENTS_DROPPED record comes first. -/
def State.offer (s : State) (o : EvOffer) : State :=
  let s := s.reportDropped
  if evCapacity ≤ s.evr.buffer.length + s.evr.offered.length then
    { s with evr := { s.evr with dropped := s.evr.dropped + 1, dropSev := max s.evr.dropSev o.sev
                                 dropTotal := addMod32 s.evr.dropTotal 1 } }
  else if s.evr.holding then { s with evr := { s.evr with offered := s.evr.offered ++ [o] } }
  else s.numberRecord o

/-- Record an event with a stamp of its own: type, severity, instance (0x7FFF for none), payload (R399, R409). -/
def State.eventAt (s : State) (stamp typ sev inst : Nat) (payload : List Byte) : State :=
  s.offer { stamp := stamp, source := s.unit * 2 ^ 15 + inst % 2 ^ 15, typ := typ, sev := sev
            early := stampHeat stamp == 0, payload := payload.take 40 }

/-- Record an event stamped now. -/
def State.event (s : State) (typ sev inst : Nat) (payload : List Byte) : State :=
  s.eventAt s.stamp typ sev inst payload

/-- No instance (R399). -/
def noInst : Nat := 0x7FFF

/-! ### Host memory and rings (R85 to R92, R103) -/

/-- Bytes as they stand in host memory from an address on. -/
def storeBytes (m : List (Nat × Byte)) (addr : Nat) : List Byte → List (Nat × Byte)
  | [] => m
  | b :: bs => storeBytes (mapPut m (addr % 2 ^ 64) b) (addr + 1) bs

/-- One memory write request to the host (R76): a payload write to a command buffer carries Relaxed Ordering where Device Control enables it; a ring entry or a
writeback never does, and No Snoop is never set. -/
def State.hostWrite (s : State) (addr : Nat) (bytes : List Byte) (payload : Bool := false) : State :=
  ({ s with hostMem := storeBytes s.hostMem addr bytes } : State).emit (.memWrite addr bytes.length (payload && s.pcie.ro) false)

/-- What a ring holds beyond its registers. -/
def State.ring (s : State) (n : Nat) : RingSt := mapGet (fun _ => {}) s.rings n

/-- Store what a ring holds. -/
def State.setRing (s : State) (n : Nat) (r : RingSt) : State := { s with rings := mapSet (fun _ => {}) s.rings n r }

/-- The ring is enabled. -/
def State.ringOn (s : State) (n : Nat) : Bool := s.flag (Reg.RNG_CFG n) F.RNG_CFG_ENABLE

/-- Entries of the ring (R85). -/
def State.ringSize (s : State) (n : Nat) : Nat := 2 ^ s.fld (Reg.RNG_CFG n) F.RNG_CFG_SIZE

/-- Host interface format 1 is selected (R80). -/
def State.fmt1 (s : State) : Bool := s.fld Reg.HIF_VERSION F.HIF_VERSION_SELECT == 1

/-- Entry size of a ring in bytes; ring 1 has 16-byte entries under format 1 (R80, R84). -/
def State.entrySize (s : State) (n : Nat) : Nat :=
  if n = 1 && s.fmt1 then 16 else 2 ^ s.fld (Reg.RNG_CFG n) F.RNG_CFG_ESIZE

/-- The rings are paused by R78 or by the power-fail warning (R69). -/
def State.paused (s : State) : Bool := !s.busOn || s.outage || s.pausing

/-- The ring's runner has halted (R123). -/
def State.halted (s : State) (n : Nat) : Bool := s.flag (Reg.DMA_STATUS n) F.DMA_STATUS_HALTED

/-- Does ring `n` run from the host to the module (R83)? -/
def hostToModule (n : Nat) : Bool := [0, 2, 8, 10, 11, 12, 14, 15].contains n

/-- The host's index less the module's on a host-to-module ring, the module's less the host's otherwise, modulo 2^32. -/
def State.occupancy (s : State) (n : Nat) : Nat :=
  let h := s.rdN (Reg.RNG_HOSTIDX n)
  let m := s.rdN (Reg.RNG_MODIDX n)
  if hostToModule n then (h + 2 ^ 32 - m) % 2 ^ 32 else (m + 2 ^ 32 - h) % 2 ^ 32

/-- Payload bytes of a packet. -/
def OutPkt.bytes (p : OutPkt) : Nat := (p.payload.map (·.2.length)).sum

/-- The packets at the front of a module-to-host queue that its tundish holds: at most 256, with at most 65,536 bytes of buffer data (R124). Those behind them wait with
their producer. `k` packets and `b` bytes stand before. -/
def tundishPart (k b : Nat) : List OutPkt → List OutPkt
  | [] => []
  | p :: q => if k < 256 && b + p.bytes ≤ 65536 then p :: tundishPart (k + 1) (b + p.bytes) q else []

/-- The packets in the tundish of a module-to-host ring. -/
def RingSt.tundish (r : RingSt) : List OutPkt := tundishPart 0 0 r.outq

/-- Entries on their way to a module-to-host ring. -/
def RingSt.queued (r : RingSt) : Nat := (r.outq.filter (·.entry.isSome)).length

/-- Room for one more entry: ring entries and entries on their way stay below the ring's size (R103). -/
def State.ringRoom (s : State) (n : Nat) : Bool :=
  s.ringOn n && decide (s.occupancy n + (s.ring n).queued < s.ringSize n)

/-- Address formed by a pair of registers. -/
def State.pairAddr (s : State) (lo hi : Nat) : Nat := s.rdN lo + s.rdN hi * 2 ^ 32

/-- The 8 bytes of a writeback (R88). -/
def State.wbBytes (s : State) (n : Nat) : List Byte :=
  le 4 (s.rdN (Reg.RNG_MODIDX n)) ++ le 2 (bit (s.halted n) + 2 * bit s.paused + 4 * bit (s.ringOn n))
    ++ le 2 (s.ring n).lost

/-- Write a ring's writeback, with its message; owed while the bus is off (R85, R88, R89). -/
def State.writeback (s : State) (n : Nat) : State :=
  if s.busOn then
    let t := (s.hostWrite (s.pairAddr (Reg.RNG_WBLO n) (Reg.RNG_WBHI n)) (s.wbBytes n)).setRing n
      { s.ring n with uncovered := 0, wbOwed := false }
    if t.flag (Reg.RNG_CFG n) F.RNG_CFG_IRQ_EN then t.sendMsix (t.fld (Reg.RNG_CFG n) F.RNG_CFG_VECTOR) else t
  else s.setRing n { s.ring n with wbOwed := true }

/-- Entries that force a writeback (R89; 0 acts as 1). -/
def State.coalCount (s : State) (n : Nat) : Nat := max 1 (s.fld (Reg.RNG_COAL n) F.RNG_COAL_COUNT)

/-- One entry taken or produced: the module's index moves on, and the coalescing rule of R89 decides the writeback. `force` is a
host-to-module ring that has become empty. -/
def State.advance (s : State) (n : Nat) : State :=
  let t := s.bump (Reg.RNG_MODIDX n)
  let r := t.ring n
  let u := r.uncovered + 1
  let t := t.setRing n { r with uncovered := u, firstAt := if r.uncovered = 0 then t.now else r.firstAt }
  if t.coalCount n ≤ u || t.fld (Reg.RNG_COAL n) F.RNG_COAL_TIME == 0 || (hostToModule n && t.occupancy n == 0) then
    t.writeback n
  else t

/-- The next entry is taken from its ring: the module's index moves on, nothing of the descriptor after it has been read, and the run of slagged descriptors ends (R86,
R117, R123). -/
def State.takeEntry (s : State) (n : Nat) : State :=
  let t := s.advance n
  (t.setRing n { t.ring n with rd := 0, rdBuf := none }).setF (Reg.DMA_STATUS n) F.DMA_STATUS_CONSEC 0

/-- Discard an entry of a module-to-host ring: the lost counter rises and the next entry carries the loss flag (R103). -/
def State.loseEntry (s : State) (n : Nat) (k : Nat := 1) : State :=
  let r := s.ring n
  s.setRing n { r with lost := (r.lost + k) % 2 ^ 16, loss := true }

/-- Put an entry into a module-to-host tundish, unconditionally. The layout receives the loss flag (R103). -/
def State.enqueue (s : State) (n : Nat) (mk : Bool → List Byte) : State :=
  let r := s.ring n
  s.setRing n { r with outq := r.outq ++ [{ payload := [], entry := some (mk r.loss) }], loss := false }

/-- Post an entry on a ring that discards new entries when full or disabled (rings 3, 7, 9 and 13, R103). -/
def State.post (s : State) (n : Nat) (mk : Bool → List Byte) : State :=
  if s.ringRoom n then s.enqueue n mk else s.loseEntry n

/-- A diagnostic entry on ring 13 (R138): cut to the entry size, with its truncation flag. -/
def State.postDia (s : State) (kind unit : Nat) (payload : List Byte) : State :=
  let r := s.ring 13
  let q := r.diaSeq
  let s := s.setRing 13 { r with diaSeq := addMod32 q 1 }
  let room := s.entrySize 13 - 20
  let st := s.stamp
  s.post 13 fun loss =>
    le 2 kind ++ le 1 (bit (decide (room < payload.length)) + 2 * bit loss) ++ [0] ++ le 4 q ++ le 8 st ++ le 2 unit
      ++ le 2 payload.length ++ padTo room payload

/-! ### Completions (R96 to R101) -/

/-- The completion entry (R100); under format 1 its first 16 bytes (R80). -/
def cplEntry (t : CmdTag) (status flags stamp r0 r1 : Nat) (fmt1 : Bool) : List Byte :=
  (le 4 t.cmdId.toNat ++ le 4 t.sq ++ le 1 t.ring ++ le 1 status ++ le 1 flags ++ [0] ++ le 2 t.op ++ le 2 t.txn
    ++ le 8 stamp ++ le 4 r0 ++ le 4 r1).take (if fmt1 then 16 else 32)

/-- Status codes (R102). -/
def St.ok : Nat := 0x00
def St.slagged : Nat := 0x01
def St.refused : Nat := 0x02
def St.conflict : Nat := 0x03
def St.aborted : Nat := 0x04
def St.badVersion : Nat := 0x05
def St.notFound : Nat := 0x06
def St.locked : Nat := 0x07
def St.timeout : Nat := 0x08
def St.stale : Nat := 0x09
def St.queueReset : Nat := 0x0A
def St.badFormat : Nat := 0x0B
def St.noSpace : Nat := 0x0C
def St.unauthorised : Nat := 0x0D
def St.busy : Nat := 0x0E
def St.defaulted : Nat := 0x0F
def St.unknownOpcode : Nat := 0x40
def St.badRing : Nat := 0x41
def St.bufferRange : Nat := 0x42
def St.txnFull : Nat := 0x50
def St.wrongHeat : Nat := 0x51
def St.notHalted : Nat := 0x60
def St.typeMismatch : Nat := 0x70
def St.readOnly : Nat := 0x71
def St.notForced : Nat := 0x72
def St.unbalanced : Nat := 0x80
def St.badTarget : Nat := 0x81
def St.ambiguousBase : Nat := 0x82
def St.writeOverlap : Nat := 0x83
def St.wcuMismatch : Nat := 0x84
def St.overBudget : Nat := 0x85
def St.forcedType : Nat := 0x86
def St.notHeld : Nat := 0x87
def St.noLuminaire : Nat := 0x90
def St.binOrder : Nat := 0x91
def St.portDown : Nat := 0xA0
def St.gateInvalid : Nat := 0xA1
def St.frameSize : Nat := 0xA2
def St.noNode : Nat := 0xA3
def St.rekeyBusy : Nat := 0xA4
def St.radioOff : Nat := 0xB0
def St.radioBudget : Nat := 0xB1
def St.dutyReserve : Nat := 0xB2
def St.noRadioNode : Nat := 0xB3
def St.wakeLimit : Nat := 0xB4
def St.sourceOwned : Nat := 0xC0
def St.wallUnset : Nat := 0xC1
def St.noArchive : Nat := 0xD0
def St.pulseRate : Nat := 0xD1
def St.meterClosed : Nat := 0xD2
def St.noEvent : Nat := 0xE0
def St.badConfirm : Nat := 0xE1
def St.notPaired : Nat := 0xE8
def St.peerNotReady : Nat := 0xE9
def St.witnessDenied : Nat := 0xEA
def St.peerBudget : Nat := 0xEB
def St.handoverFailed : Nat := 0xEC
def St.keyEmpty : Nat := 0xF0
def St.keyAttr : Nat := 0xF1
def St.noIdentity : Nat := 0xF2
def St.badSignature : Nat := 0xF4
def St.incomplete : Nat := 0xF5
def St.emergency : Nat := 0xF6
def St.lowEnergy : Nat := 0xF7
def St.roleChanging : Nat := 0xF8
def St.meterClose : Nat := 0xF9
def St.belowFloor : Nat := 0xFA
def St.activeInPair : Nat := 0xFB
def St.notVerified : Nat := 0xFC
def St.trialOpen : Nat := 0xFD
def St.configRejected : Nat := 0xFE
def St.noTrial : Nat := 0xFF

/-- The command leaves the record as if it had never been taken: BUSY, SLAGGED and QUEUE_RESET (R98). -/
def forgets (status : Nat) : Bool := status == St.busy || status == St.slagged || status == St.queueReset

/-- Close a command ID: recorded as completed, or forgotten (R98, R127). -/
def State.closeId (s : State) (t : CmdTag) (status r0 r1 : Nat) (forget : Bool) : State :=
  if t.cmdId = 0 then s
  else
    let r := s.ring t.ring
    let opened := r.openIds.filter (· ≠ t.cmdId)
    let done := if forget || s.fmt1 then r.done
      else ({ cmdId := t.cmdId, status := status, result0 := BitVec.ofNat 32 r0, result1 := BitVec.ofNat 32 r1 } :: r.done).take 1024
    s.setRing t.ring { r with openIds := opened, done := done }

/-- Post a completion on ring 1 after the payload of its output buffer. No completion is lost: it waits for space (R93, R103). -/
def State.postCpl (s : State) (t : CmdTag) (status flags r0 r1 : Nat) (payload : List (Nat × List Byte)) : State :=
  if t.mute then s
  else
    let want := status != St.ok || t.cplReq
    let r := s.ring 1
    let entry := if want then some (cplEntry t status flags s.stamp r0 r1 s.fmt1) else none
    if want || !payload.isEmpty then s.setRing 1 { r with outq := r.outq ++ [{ payload := payload, entry := entry }] }
    else s

/-- A ring 2 write that completes with a status other than OK is counted (R155). -/
def State.countPwr (s : State) (t : CmdTag) (status : Nat) : State :=
  if t.ring = 2 && status != St.ok then s.bump Reg.PNT_CNT_REFUSED else s

/-- What a change of the tags in progress makes of the reasons to wait: SYNC alone names commands. -/
def WaitKind.mapSync (f : List CmdTag → List CmdTag) : WaitKind → WaitKind
  | .sync l => .sync (f l)
  | k => k

/-- A command has completed: SYNC commands, taken or held, wait for it no longer (R96). -/
def State.dropSync (s : State) (t : CmdTag) : State :=
  { s with
    waits := s.waits.map fun w => { w with kind := w.kind.mapSync (·.filter (· ≠ t)) }
    held := s.held.map fun h => { h with before := h.before.filter (· ≠ t) } }

/-- Complete a command: its ID is closed, its completion posted (R98, R101). -/
def State.complete (s : State) (t : CmdTag) (status r0 r1 : Nat) (flags : Nat := 0)
    (payload : List (Nat × List Byte) := []) (forget : Bool := false) : State :=
  (((s.closeId t status r0 r1 (forget || forgets status)).countPwr t status).postCpl t status flags r0 r1 payload).dropSync t

/-- A SYNC that waits for nothing any more. -/
def Wait.syncReady (w : Wait) : Bool := match w.kind with | .sync [] => true | _ => false

/-- Complete every SYNC that waits for nothing any more; each completion may free another (R96). -/
def State.syncPass : Nat → State → State
  | 0, s => s
  | k + 1, s =>
    match s.waits.find? Wait.syncReady with
    | none => s
    | some w =>
      State.syncPass k (({ s with waits := s.waits.filter (fun x => x ≠ w) } : State).complete w.tag St.ok 0 0)

/-- Complete a waiting command and every SYNC that waited for it. -/
def State.finish (s : State) (w : Wait) (status r0 r1 : Nat) (payload : List (Nat × List Byte) := []) : State :=
  let t := ({ s with waits := s.waits.filter (fun x => x ≠ w) } : State).complete w.tag status r0 r1 0 payload
  t.syncPass t.waits.length

/-- Complete every waiting command that satisfies a test. -/
def State.finishAll (s : State) (p : Wait → Bool) (status r0 r1 : Nat) : State :=
  (s.waits.filter p).foldl (fun t w => t.finish w status r0 r1) s

end Sys2Proof.Machine
end

