-- ==== Sys2Proof/Machine/HostCmd.lean ====
section
/-!
DEFINITION. How a ring entry is taken and checked before its opcode's own rules apply (R83, R90 to R93, R98, R483, R484), once for all host commands.
-/
set_option linter.unusedVariables false
namespace Sys2Proof

/-- The parameter field of `n` bytes at `off` (R90: little-endian). -/
def CmdEntry.param (e : CmdEntry) (off n : Nat) : Nat := Machine.fieldLe e.params off n

/-- BUF_OUT: the module writes the buffer (R90). -/
def CmdEntry.bufOut (e : CmdEntry) : Bool := Machine.bitOf e.flags.toNat 2

/-- FENCE: start only after every earlier command of the ring has completed (R90). -/
def CmdEntry.fence (e : CmdEntry) : Bool := Machine.bitOf e.flags.toNat 1

/-- The identity of an entry's command (R100). -/
def CmdEntry.tag (e : CmdEntry) (op sq : Nat) : Machine.CmdTag :=
  { ring := e.ring, sq := sq, cmdId := e.cmdId, op := op, txn := e.txn.toNat, cplReq := Machine.bitOf e.flags.toNat 0 }

end Sys2Proof

namespace Sys2Proof.Machine

/-- What the body of a command answers: it completes, or it waits. -/
inductive Res where
  | done (status r0 r1 flags : Nat) (payload : List (Nat × List Byte)) (s : State)
  | wait (k : WaitKind) (s : State)

/-- A completion without results. -/
def Res.stat (status : Nat) (s : State) : Res := .done status 0 0 0 [] s

/-- OK with two results. -/
def Res.okWith (r0 r1 : Nat) (s : State) : Res := .done St.ok r0 r1 0 [] s

/-- OK of a staging command: accepted into a transaction, with the STAGED flag (R93, R100). -/
def Res.staged (r0 : Nat) (s : State) : Res := .done St.ok r0 0 2 [] s

/-- Do the parameters set a bit that the opcode does not define (R92)? -/
def badParams (mask params : List Byte) : Bool :=
  (List.range (max 40 params.length)).any fun i =>
    ((params.getD i 0) &&& ~~~ (mask.getD i 0)) != 0

/-- Is the opcode accepted on the ring (R83)? -/
def acceptsOn (o : OpSpec) (ring : Nat) : Bool :=
  let hi := o.op / 256
  if ring = 0 then !([4, 5, 7, 8, 9, 15, 16].contains hi)
  else if ring = 8 then hi == 9 || hi == 0
  else if ring = 10 then hi == 7 || hi == 8 || hi == 0
  else if ring = 11 then hi == 16 || hi == 0
  else if ring = 12 then hi == 15 || hi == 0
  else if ring = 14 then hi == 4 || hi == 5 || hi == 0
  else if ring = 15 then o.urgent || o.op == 0 || o.op == 1 || o.op == 2
  else false

/-- The stage of start-up that has been reached: a flush that interrupts start-up does not move it on (R73, R483). -/
def State.reached (s : State) : Nat := if 8 ≤ s.stage && s.stage ≤ 0xA then s.sup.stageWas else s.stage

/-- Does the subsystem of an opcode accept commands at this point of start-up (R483)? -/
def subsysReady (op : Nat) (s : State) : Bool :=
  let hi := op / 256
  if [0, 2, 13, 15, 16].contains hi then s.flag Reg.HIF_STATUS F.HIF_STATUS_READY
  else if hi == 10 || hi == 11 || [0x300, 0x301, 0x304, 0x305, 0x306, 0xC00].contains op then
    decide (6 ≤ s.reached && s.reached ≤ 7)
  else if [1, 3, 7, 8, 9, 14].contains hi then s.sup.roleSettled
  else decide (s.reached = 7)

/-- Command intake waits for ring 1: it is disabled or full (R93). -/
def State.cplWait (s : State) : Bool := !s.ringRoom 1

/-- Packets held in the tundish of a host-to-module ring behind FENCE. -/
def State.heldOn (s : State) (n : Nat) : List Held := s.held.filter (·.ring == n)

/-- The packets that the consumer of ring 14 keeps in its tundish until a ladle's idle interval (R131), with the bytes of their buffers. -/
def State.kept (s : State) (n : Nat) : List (Wait × Nat) :=
  s.waits.filterMap fun w => match w.kind with
    | .ldlTable _ _ words _ => if w.tag.ring == n then some (w, words.length) else none
    | _ => none

/-- Packets in the tundish of a host-to-module ring (R124). -/
def State.tunPackets (s : State) (n : Nat) : Nat := (s.heldOn n).length + (s.kept n).length

/-- Bytes of buffer data in the tundish of a host-to-module ring (R124). -/
def State.tunBytes (s : State) (n : Nat) : Nat := ((s.heldOn n).map (·.bytes)).sum + ((s.kept n).map (·.2)).sum

/-- The runner has read the next descriptor, its entry and its input buffer, to the last byte (R117, R125). -/
def State.readWhole (s : State) (n : Nat) : Bool :=
  match (s.ring n).rdBuf with
  | some (_, len) => (s.ring n).rd == s.entrySize n + len
  | none => false

/-- Can the runner of a host-to-module ring read its next entry: ready, enabled, announced, not paused, not halted, room in the tundish,
and intake not waiting for ring 1 (R55, R78, R85, R86, R93, R120, R123, R124)? -/
def State.intakeOk (s : State) (n : Nat) : Bool :=
  hostToModule n && s.flag Reg.HIF_STATUS F.HIF_STATUS_READY && s.ringOn n && !s.paused && !s.halted n
    && decide (0 < s.occupancy n) && (n == 15 || !s.cplWait) && decide (s.tunPackets n < 256)

/-- Can the next entry of a host-to-module ring be handed on: it may be read, and its bursts have brought it whole (R117, R125)? -/
def State.takeOk (s : State) (n : Nat) : Bool := s.intakeOk n && s.readWhole n

/-- Earlier commands of the ring are still in progress (R90 FENCE). -/
def State.ringBusy (s : State) (n : Nat) : Bool :=
  s.waits.any (·.tag.ring == n) || s.held.any (·.ring == n)

/-- Steps 2 to 6 of R484, in order: the first failing check names the status. -/
def entryCheck (o : OpSpec) (e : CmdEntry) : Option Nat :=
  if !acceptsOn o e.ring then some St.badRing
  else if bitsOf e.flags.toNat 3 5 ≠ 0 || e.resv3 ≠ 0 || e.resv10 ≠ 0 || badParams o.mask e.params then some St.badFormat
  else if 65536 < e.bufLen.toNat || o.bufMax < e.bufLen.toNat then some St.bufferRange
  else if e.bufLen ≠ 0 && e.bufAddr.toNat % 4 ≠ 0 then some St.badFormat
  else none

/-- The open transaction a tag names: its slot (R104, R105). -/
def State.txnOf (s : State) (tag : Nat) : Option Nat :=
  if tag = 0 then none
  else (List.range 4).find? fun k =>
    (mapGet (fun _ => ({} : TxnSlot)) s.txns k).phase ≠ .free && (mapGet (fun _ => ({} : TxnSlot)) s.txns k).tag == tag

/-- A transaction slot. -/
def State.txn (s : State) (k : Nat) : TxnSlot := mapGet (fun _ => {}) s.txns k

/-- Store a transaction slot. -/
def State.setTxn (s : State) (k : Nat) (t : TxnSlot) : State := { s with txns := mapSet (fun _ => {}) s.txns k t }

/-- The idle count of the transaction that a tag names starts afresh (R107). -/
def State.nameTxn (s : State) (tag : Nat) : State :=
  match s.txnOf tag with
  | some k => if (s.txn k).phase == .opened then s.setTxn k { s.txn k with named := s.now } else s
  | none => s

/-- A staging command names its transaction whatever it completes with (R107); one that completes OK has recorded so itself. -/
def Res.named (tag : Nat) : Res → Res
  | .done status r0 r1 flags payload s => .done status r0 r1 flags payload (if status = St.ok then s else s.nameTxn tag)
  | r => r

/-- What the body of an opcode answers, with the idle count of the transaction that a staging command names. -/
def OpSpec.staging (o : OpSpec) (e : CmdEntry) (r : Res) : Res := if o.stages then r.named e.txn.toNat else r

/-- The body's answer turned into the state after the command. -/
def settle (t : CmdTag) : Res → State
  | .done status r0 r1 flags payload s =>
    let u := s.complete t status r0 r1 flags payload
    u.syncPass u.waits.length
  | .wait k s => { s with waits := s.waits ++ [{ tag := t, kind := k }] }

/-- Step 8 of R484: an ID in the record, or taken and not completed, is answered without executing (R98). -/
def State.repeated (s : State) (t : CmdTag) : Option State :=
  if t.cmdId = 0 || s.fmt1 then none
  else
    let r := s.ring t.ring
    match r.done.find? (·.cmdId == t.cmdId) with
    | some d =>
      let u := s.setRing t.ring { r with repeats := r.repeats + 1 }
      some (((u.countPwr t d.status).postCpl t d.status 1 d.result0.toNat d.result1.toNat []).dropSync t)
    | none =>
      if r.openIds.contains t.cmdId then some (((s.countPwr t St.busy).postCpl t St.busy 1 0 0 []).dropSync t) else none

/-- Steps 8 to 10 of R484 for an entry that has passed steps 1 to 7. -/
def State.runChecked (s : State) (t : CmdTag) (op : Nat) (body : CmdTag → State → Res) : State :=
  match s.repeated t with
  | some u => u.syncPass u.waits.length
  | none =>
    let s := if t.cmdId = 0 then s
      else s.setRing t.ring { s.ring t.ring with openIds := t.cmdId :: (s.ring t.ring).openIds }
    if !subsysReady op s then settle t (.stat St.busy s) else settle t (body t s)

/-- An entry at the head of its tundish is handed to its consumer: the checks of R484, then the body. On the variant without radios
radio commands and every command of ring 8 are refused (R2). A tag that names no open transaction is not found (R93). -/
def State.consume (s : State) (o : OpSpec) (e : CmdEntry) (t : CmdTag) (body : CmdTag → State → Res) : State :=
  match entryCheck o e with
  | some st =>
    let u := (s.postCpl t st 0 0 0 []).dropSync t
    u.syncPass u.waits.length
  | none =>
    s.runChecked t o.op fun t s =>
      if s.ident.radios = 0 && (e.ring == 8 || o.op / 256 == 9) then .stat St.refused s
      else if e.txn ≠ 0 && o.op ≠ 0x0100 && (s.txnOf e.txn.toNat).isNone then .stat St.notFound s
      else o.staging e (body t s)

/-- Commands taken and not completed, held ones included. -/
def State.inProgress (s : State) : List CmdTag := s.waits.map (·.tag) ++ s.held.map (·.tag)

/-- A command entry: taken from its ring when the ring lets it, held in its tundish behind FENCE (R90, R92), or handed on. An entry
that cannot be taken stays in host memory and nothing happens. -/
def runCmd (o : OpSpec) (i : Instr) (e : CmdEntry) (body : CmdTag → State → Res) (s : State) : Answer :=
  match s.cur with
  | some h => .next (({ s with cur := none } : State).consume o e h.tag body)
  | none =>
    if s.takeOk e.ring then
      let sq := s.rdN (Reg.RNG_MODIDX e.ring)
      let t := s.takeEntry e.ring
      if !(t.heldOn e.ring).isEmpty || (e.fence && t.ringBusy e.ring) then
        .next { t with held := t.held ++ [{ ring := e.ring, sq := sq, fence := e.fence, bytes := e.buf.length, tag := e.tag o.op sq, cmd := i
                                            before := if o.op = Op.sync.op then s.inProgress else [] }] }
      else .next (t.consume o e (e.tag o.op sq) body)
    else .next s

/-- The packet that can leave its tundish: the first of its ring, and behind no command in progress if it carries FENCE. -/
def State.releasable (s : State) : Option Held :=
  s.held.find? fun h =>
    (s.held.find? (·.ring == h.ring)) == some h && !(h.fence && s.waits.any (·.tag.ring == h.ring))

end Sys2Proof.Machine
end

