-- ==== Sys2Proof/Machine/Txn.lean ====
section
/-!
DEFINITION. Transaction slots, targets and conflicts (R104 to R111), shared by every staging command.
-/
set_option linter.unusedVariables false
namespace Sys2Proof.Machine

/-- What a staged change holds (R108): a point, a lamp channel or luminaire, a register, a table range in 4-byte units, a key slot, a ladle. -/
inductive Target where
  | point (a : Nat)
  /-- Luminaire L as a whole, or its channel c. -/
  | lum (l : Nat)
  | chan (l c : Nat)
  | reg (off : Nat)
  | table (t : TableId) (first last : Nat)
  | key (slot : Nat)
  | ladle (n : Nat)
  | cycle (n : Nat)
  | cfgImage
  deriving DecidableEq, Repr

/-- The target of a point: the lamp channel or luminaire for a lamp target, the point otherwise (R108, R142). -/
def pointTarget (a : Nat) : Target :=
  if a < 0x1000000 then
    let l := a / 0x200
    let o := a % 0x200
    if o < 0x40 then .lum l else if o < 0x140 then .chan l ((o - 0x40) / 0x40) else .point a
  else .point a

/-- Bytes of the table that a change loads: a gate list stands behind the byte that carries its MULT. -/
def Change.tableBytes : Change → Nat
  | .table (.gates _) _ b => b.length - 1
  | .table _ _ b => b.length
  | _ => 0

/-- The targets of a change (R108): a force holds its point, a write of a lamp target the channel or luminaire. -/
def Change.targets (c : Change) : List Target :=
  match c with
  | .point a _ _ => [pointTarget a]
  | .force a _ _ => [.point a]
  | .unforce a => [.point a]
  | .reg off _ _ => [.reg off]
  | .table t off _ => [.table t (off / 4) ((off + c.tableBytes + 3) / 4)]
  | .key k _ => [.key k]
  | .program n _ => [.ladle n]
  | .cycSetup _ _ _ _ => [.cycle 16]
  | .cycSched n _ => [.cycle n]
  | .image _ => [.cfgImage]

/-- Do two targets overlap? Ranges of one table overlap when they share a unit; a point overlaps the channel or luminaire whose lamp target it is. -/
def Target.meets : Target → Target → Bool
  | .table t a b, .table u c d => t == u && decide (a < d) && decide (c < b)
  | .point a, .point b => a == b
  | .point a, y => pointTarget a == y
  | x, .point b => x == pointTarget b
  | x, y => x == y

/-- The target is held by an open transaction other than slot `own` (R109). -/
def State.heldByOther (s : State) (own : Option Nat) (x : Target) : Bool :=
  (List.range 4).any fun k =>
    own != some k && (s.txn k).phase != .free && (s.txn k).changes.any fun c => c.targets.any (·.meets x)

/-- Some target is held by another open transaction (R109). -/
def State.conflicts (s : State) (own : Option Nat) (xs : List Target) : Bool := xs.any (s.heldByOther own)

/-- A command completes CONFLICT under R109: counted. -/
def Res.conflict (s : State) : Res := .stat St.conflict (s.bump Reg.TXN_CNT_CONFLICT)

/-- Is a change of the same kind at the same place as another: the later replaces the earlier (R105)? -/
def Change.same : Change → Change → Bool
  | .point a _ _, .point b _ _ => a == b
  | .force a _ _, .force b _ _ => a == b
  | .unforce a, .unforce b => a == b
  | .force a _ _, .unforce b => a == b
  | .unforce a, .force b _ _ => a == b
  | .reg a _ _, .reg b _ _ => a == b
  | .key a _, .key b _ => a == b
  | .program n _, .program m _ => n == m
  | .cycSetup _ _ _ _, .cycSetup _ _ _ _ => true
  | .cycSched n _, .cycSched m _ => n == m
  | .image _, .image _ => true
  | _, _ => false

/-- What a later load of the bytes from `lo` to `hi` leaves of an earlier load at `o` (R105). -/
def cutBytes (lo hi o : Nat) (b : List Byte) : List (Nat × List Byte) :=
  if hi ≤ o || o + b.length ≤ lo then [(o, b)]
  else (if o < lo then [(o, b.take (lo - o))] else []) ++ (if hi < o + b.length then [(hi, b.drop (hi - o))] else [])

/-- What a later change leaves of an earlier one (R105): of a register the bits that it does not write, of a table the bytes that it does not load, where a gate list is loaded
whole; of another place nothing. What is left stands where it was in the order. -/
def Change.after (c x : Change) : List Change :=
  match c, x with
  | .reg a _ m, .reg b v0 m0 => if a = b then (if m0 &&& ~~~ m = 0 then [] else [.reg b v0 (m0 &&& ~~~ m)]) else [x]
  | .table t off bytes, .table u o b =>
    if t ≠ u then [x]
    else match t with
      | .gates _ => []
      | _ => (cutBytes off (off + bytes.length) o b).map fun p => .table u p.1 p.2
  | _, _ => if x.same c then [] else [x]

/-- The changes of a transaction with one more, in order of acceptance, replacements made (R105). -/
def addChange (cs : List Change) (c : Change) : List Change := cs.flatMap c.after ++ [c]

/-- Point changes counted together: point writes, forces and removals (R108). -/
def Change.isPoint : Change → Bool
  | .point _ _ _ => true | .force _ _ _ => true | .unforce _ => true | _ => false

def Change.isReg : Change → Bool | .reg _ _ _ => true | _ => false
def Change.isKey : Change → Bool | .key _ _ => true | _ => false

/-- Registers that the changes hold. -/
def regsHeld (cs : List Change) : Nat := (cs.filterMap fun c => match c with | .reg a _ _ => some a | _ => none).eraseDups.length

/-- Within the limits of one transaction (R108)? -/
def withinLimits (cs : List Change) : Bool :=
  decide ((cs.filter Change.isPoint).length ≤ 16384) && decide (regsHeld cs ≤ 2048)
    && decide ((cs.map Change.tableBytes).sum ≤ 65536) && decide ((cs.filter Change.isKey).length ≤ 16)

/-- May a LOCAL transaction hold the change: register writes and key slot changes only (R105)? -/
def Change.localOk (c : Change) : Bool := c.isReg || c.isKey

/-- Stage changes into the open transaction of slot `k`: REFUSED once its TXN_COMMIT has been taken or for a LOCAL transaction that
may not hold them (R105), CONFLICT for a held target (R109), NO_SPACE beyond a limit (R108). A refusal stages nothing. -/
def State.stageChanges (s : State) (k : Nat) (cs : List Change) (r0 : Nat) : Res :=
  let t := s.txn k
  if t.phase != .opened then .stat St.refused s
  else if t.isLocal && cs.any (fun c => !c.localOk) then .stat St.refused s
  else if s.conflicts (some k) (cs.flatMap Change.targets) then Res.conflict s
  else
    let all := cs.foldl addChange t.changes
    if withinLimits all then .staged r0 (s.setTxn k { t with changes := all, named := s.now })
    else .stat St.noSpace s

/-- An untagged command that changes registers: CONFLICT where a transaction holds one of them (R109). -/
def State.freeRegs (s : State) (regs : List Nat) (r : Res) : Res := if s.conflicts none (regs.map .reg) then Res.conflict s else r

/-- Stage one change, or apply it at once when the command carries no tag: an untagged command on a held target conflicts (R109). -/
def State.stageOr (s : State) (e : CmdEntry) (c : Change) (now : State → Res) : Res :=
  match s.txnOf e.txn.toNat with
  | some k => s.stageChanges k [c] 0
  | none => if s.conflicts none c.targets then Res.conflict s else now s

/-- Stage table loads, or load at once when the command carries no tag (R108, R109); result0 counts what is loaded. -/
def State.stageTable (s : State) (e : CmdEntry) (cs : List Change) (r0 : Nat) (now : State → State) : Res :=
  match s.txnOf e.txn.toNat with
  | some k => s.stageChanges k cs r0
  | none => if s.conflicts none (cs.flatMap Change.targets) then Res.conflict s else .okWith r0 0 (now s)

/-- Free a slot: its changes are discarded, its targets released, its tag names nothing (R107). -/
def State.closeTxn (s : State) (k : Nat) : State := s.setTxn k {}

/-- The commit that waits on slot `k`. -/
def Wait.commits (k : Nat) (w : Wait) : Bool := w.kind == .txnCommit k

/-- A commit that no longer waits is not applied at the end of the charge. -/
def State.dropDeferred (s : State) (k : Nat) : State := { s with deferred := s.deferred.filter fun d => d.txn ≠ some k }

/-- Abort the transaction of slot `k`: counted unless it was counted when it was doomed, its waiting commit completes with the given status (R107, R110, R112). -/
def State.abortTxn (s : State) (k status : Nat) : State :=
  if (s.txn k).phase == .free then s
  else
    let n := if (s.txn k).doomed then 0 else 1
    (((s.dropDeferred k).closeTxn k).bump Reg.TXN_CNT_ABORT n).finishAll (Wait.commits k) status 0 0

/-- Abort with the TXN_ABORTED event: cause 1 idle, 2 power-fail warning, 3 reset or link down, 4 role change (R107, R410). -/
def State.abortTxnEv (s : State) (k cause : Nat) : State :=
  if (s.txn k).phase == .free then s
  else (s.event 0x0701 1 k (le 2 (s.txn k).tag ++ le 1 cause)).abortTxn k St.aborted

/-- Abort every open transaction (R69, R78). -/
def State.abortAll (s : State) (cause : Nat) : State :=
  (List.range 4).foldl (fun t k => t.abortTxnEv k cause) s

/-- A change of role aborts transactions: without LOCAL on leaving ACTIVE and ALONE, with LOCAL on entering SEEDING or WITNESS (R107). -/
def State.abortForRole (s : State) (dest : Role) : State :=
  (List.range 4).foldl (fun t k =>
    let x := t.txn k
    let leaves := !(dest == .active || dest == .alone)
    let parks := dest == .seeding || dest == .witness
    if (if x.isLocal then parks else leaves) then t.abortTxnEv k 4 else t) s

/-- A direct write of a register held by an open transaction dooms it, which TXN_CNT_ABORT counts; a commit that waits completes CONFLICT
and leaves the doomed transaction to be aborted (R110). -/
def State.doomReg (s : State) (off : Nat) : State :=
  (List.range 4).foldl (fun t k =>
    let x := t.txn k
    if x.phase != .free && !x.doomed && x.changes.any (fun c => c.targets.contains (.reg off)) then
      let u := ((t.dropDeferred k).setTxn k { x with doomed := true, phase := .opened, point := 0, stamp := 0, waitFrom := none, named := t.now }).bump Reg.TXN_CNT_ABORT
      if x.phase == .waiting then u.finishAll (Wait.commits k) St.conflict 0 0 else u
    else t) s

/-- TXN[s]_STATE (TXN registers). -/
def TxnSlot.stateReg (t : TxnSlot) : Nat :=
  let ph := match t.phase with | .free => 0 | .opened => 1 | .waiting => 2 | .applying => 3
  t.tag * 2 ^ 16 + ph * 2 ^ 12 + t.point * 2 ^ 10 + bit t.doomed * 2 ^ 9 + bit t.online * 2 ^ 8 + bit t.isLocal * 2 ^ 7

/-- TXN[s]_USE. -/
def TxnSlot.useReg (t : TxnSlot) : Nat :=
  regsHeld t.changes * 2 ^ 20 + (t.changes.map Change.tableBytes).sum

/-- TXN[s]_POINTS. -/
def TxnSlot.pointsReg (t : TxnSlot) : Nat :=
  (t.changes.filter Change.isKey).length * 2 ^ 16 + (t.changes.filter Change.isPoint).length

end Sys2Proof.Machine
end

