-- ==== Sys2Proof/Machine/PointMap.lean ====
section
/-!
DEFINITION. What each address of the crucible is: its type, its marking and who writes it (R140 to R145, R230, R231, R308, R485).
-/
set_option linter.unusedVariables false
namespace Sys2Proof.Machine

/-- An unassigned point (R145). -/
def ptNone : PtInfo := { typ := 0, enumMax := 0, input := false, output := false, modOnly := false, dflt := 0 }

/-- The range of the point defaults section that assigns a point (R485). -/
def RunCfg.rangeOf (c : RunCfg) (a : Nat) : Option PtRange := c.ranges.find? fun r => decide (r.first ≤ a ∧ a < r.first + r.count)

/-- A point of the user region or of a program-defined place (R145, R485). -/
def RunCfg.rangePoint (c : RunCfg) (a : Nat) : PtInfo :=
  match c.rangeOf a with
  | some r => { typ := r.typ, enumMax := r.enumMax, input := r.input, output := r.output, modOnly := false, dflt := r.dflt }
  | none => ptNone

/-- A point the program and the host write; `out` marks a lamp target of a luminaire with a record (R149). -/
def ptFree (typ enumMax : Nat) (out : Bool) (dflt : Nat := 0) : PtInfo :=
  { typ := typ, enumMax := enumMax, input := false, output := out, modOnly := false, dflt := BitVec.ofNat 32 dflt }

/-- A point the module or the configuration alone writes. -/
def ptMod (typ : Nat) (enumMax : Nat := 0) (dflt : Nat := 0) : PtInfo :=
  { typ := typ, enumMax := enumMax, input := false, output := false, modOnly := true, dflt := BitVec.ofNat 32 dflt }

/-- An INPUT point that the energy engine feeds (R149). -/
def PtInfo.fed (i : PtInfo) : PtInfo := { i with input := decide (i.typ ≠ 0) }

/-- An input point. -/
def ptIn (typ : Nat) (enumMax : Nat := 0) : PtInfo :=
  { typ := typ, enumMax := enumMax, input := true, output := false, modOnly := false, dflt := 0 }

/-- A point of lamp channel `o` offsets into the channel (R142, R230). -/
def chanPoint (rec : Bool) (o : Nat) : PtInfo :=
  if o = 0 then ptFree 4 0 rec
  else if o = 1 then ptFree 6 0 rec
  else if o = 2 then ptFree 8 63 rec
  else if o = 3 || o = 4 || o = 6 then ptMod 4
  else if o = 5 then ptMod 8 7 3
  else ptNone

/-- A point of a lamp block (R142, R230): its defaults come from the luminaire record (R253). -/
def lumPoint (r : Option LumRec) (o : Nat) : PtInfo :=
  let has := r.isSome
  if o = 0x000 || o = 0x001 then ptFree 4 0 has
  else if o = 0x002 then ptFree 6 0 has
  else if o = 0x003 then ptFree 8 255 has
  else if o = 0x004 then ptMod 4 0 (match r with | some x => x.zone | none => 0xFFFF)
  else if o = 0x005 then ptFree 8 1 has (match r with | some x => bit x.zoneSource | none => 0)
  else if o = 0x006 then ptFree 8 63 has (match r with | some x => x.curve | none => 0)
  else if o = 0x007 then ptMod 8 7 3
  else if 0x140 ≤ o ∧ o ≤ 0x143 then ptMod 2 0 (match r with | some x => x.bins.getD (o - 0x140) 0 | none => 0)
  else if o = 0x144 then ptIn 3
  else if o = 0x145 || o = 0x146 then ptMod 4 0 65535
  else if o = 0x147 then ptMod 9
  else if o = 0x148 then ptMod 10
  else if o = 0x149 then ptMod 4
  else ptNone

/-- A point of a zone block (R143, R231). -/
def zonePoint (o : Nat) : PtInfo :=
  if o = 0 || o = 1 || o = 6 || o = 7 then ptFree 4 0 false
  else if o = 2 || o = 8 || o = 9 then ptFree 6 0 false
  else if o = 3 then ptFree 8 255 false
  else if o = 4 || o = 5 then ptFree 1 0 false
  else if 0x40 ≤ o ∧ o ≤ 0x42 then ptMod 4
  else if o = 0x43 then ptMod 6
  else if o = 0x44 then (ptMod 9).fed
  else if o = 0x45 then (ptMod 10).fed
  else ptNone

/-- The status points of a row node (R308). -/
def nodePoint (o : Nat) : PtInfo :=
  if o = 0 then ptMod 8 6
  else if o = 1 || o = 2 then ptMod 2
  else if o = 4 || o = 0xB then ptMod 4
  else if o = 6 then ptMod 5
  else if o = 3 || o = 5 || (7 ≤ o && o ≤ 0xA) then ptMod 6
  else ptNone

/-- A point that a profile declares by a type code (R309). -/
def profilePoint (code : Nat) (output : Bool) : PtInfo :=
  if code = 0 then ptNone
  else if output then ptFree code 65535 true else ptIn code 65535

/-- The node table entry of row node `n`. -/
def RunCfg.cznEntry (c : RunCfg) (n : Nat) : Option CznEntry := c.czn.nodes.find? (·.n == n)

/-- A point of a row-node block (R143, R308, R309). -/
def RunCfg.rowPoint (c : RunCfg) (n o : Nat) : PtInfo :=
  if o < 0x100 then nodePoint o
  else match c.cznEntry n with
    | none => ptNone
    | some e =>
      let codes := c.czn.profiles.getD e.profile []
      if o < 0x500 then profilePoint (codes.getD (o - 0x100) 0) false
      else if o < 0x700 then profilePoint (codes.getD (o - 0x100) 0) true
      else ptIn 6

/-- The status points of a radio node (R334). -/
def radioStatusPoint (o : Nat) : PtInfo :=
  if o = 0 then ptMod 8 6
  else if o = 1 || (5 ≤ o && o ≤ 0xA) then ptMod 6
  else if o = 2 then ptMod 3
  else if o = 3 then ptMod 4
  else if o = 4 then ptMod 8 2
  else ptNone

/-- The points of time and calendar (R366). -/
def timePointInfo (o : Nat) : PtInfo :=
  if o = 0 || o = 1 || (0x10 ≤ o && o ≤ 0x13) || (0x20 ≤ o && o ≤ 0x27) then ptMod 6
  else if o = 2 || o = 0xB then ptMod 4
  else if 3 ≤ o && o ≤ 8 then ptMod 2
  else if o = 9 then ptMod 3
  else if o = 0xA then ptMod 8 4
  else if o = 0xC then ptMod 1
  else ptNone

/-- A slot of the interval history (R389). -/
def historyPoint (o : Nat) : PtInfo :=
  if o = 0 || o = 5 || o = 6 then ptMod 6
  else if o = 7 then ptMod 4
  else if o = 1 || o = 3 || (8 ≤ o && o < 0x18 && o % 2 == 0) then ptMod 9
  else if o = 2 || o = 4 || (8 ≤ o && o < 0x18) then ptMod 10
  else ptNone

/-- The metering points (R388). -/
def meterPoint (a : Nat) : PtInfo :=
  if a < 0x1E30000 then
    let o := a % 0x800
    if o ≤ 6 then ptMod 7 else if o = 7 || o = 8 then ptMod 4 else ptNone
  else if a < 0x1E40000 then
    let o := a % 0x800
    if 0x1E32000 ≤ a then ptNone
    else if o ≤ 2 || o = 4 then ptMod 7 else if o = 3 then ptMod 6 else if o = 5 then ptMod 4 else ptNone
  else if a < 0x1E40800 then
    let o := a % 0x40
    if o < 0x12 then ptMod (if o % 2 = 0 then 9 else 10) else ptNone
  else if a < 0x1E50000 then (if a < 0x1E40820 then ptMod 4 else ptNone)
  else if a < 0x1E90000 then historyPoint (a % 0x20)
  else ptNone

/-- A point of the module status or of the aggregates: no rule lays them out, so which of them are assigned, and their types, are free (R144). -/
def statusPoint (a : Nat) : PtInfo :=
  match Config.statusPoints.find? (·.1 == a) with
  | some e => if 1 ≤ e.2.1 ∧ e.2.1 ≤ 8 then ptMod e.2.1 65535 else ptNone
  | none => ptNone

/-- A point of the system and metering region (R144). -/
def systemPoint (a : Nat) : PtInfo :=
  if a < 0x1E10000 then statusPoint a
  else if a < 0x1E20000 then timePointInfo (a - 0x1E10000)
  else if a < 0x1F00000 then (meterPoint a).fed
  else if a < 0x1F80000 then statusPoint a
  else ptNone

/-- The luminaire record of luminaire `l`. -/
def RunCfg.lum (c : RunCfg) (l : Nat) : Option LumRec := mapFind c.lamp.lums l

/-- The node table entry of radio node `k` and the profile codes of its block from +0x20 on (R338). -/
def RunCfg.radioCode (c : RunCfg) (k o : Nat) : Nat :=
  match c.radio.nodes.find? (·.n == k) with
  | none => 0
  | some e => (c.radio.profiles.getD e.profile []).getD (o - 0x20) 0

/-- A point of a radio-node block (R143, R334): status points, inputs, outputs. -/
def RunCfg.radioPoint (c : RunCfg) (k o : Nat) : PtInfo :=
  if o < 0x20 then radioStatusPoint o
  else if o < 0xE0 then profilePoint (c.radioCode k o) false
  else profilePoint (c.radioCode k o) true

/-- The point at an address under a configuration (R140). -/
def RunCfg.ptInfo (c : RunCfg) (a : Nat) : PtInfo :=
  if a < 0x1000000 then
    let o := a % 0x200
    if 0x1C0 ≤ o then c.rangePoint a
    else if 0x40 ≤ o ∧ o < 0x140 then chanPoint (c.lum (a / 0x200)).isSome ((o - 0x40) % 0x40)
    else lumPoint (c.lum (a / 0x200)) o
  else if a < 0x1400000 then c.rowPoint ((a - 0x1000000) / 0x800) (a % 0x800)
  else if a < 0x1800000 then (if 0x100 ≤ a % 0x400 then c.rangePoint a else zonePoint (a % 0x400))
  else if a < 0x1C00000 then c.rangePoint a
  else if a < 0x1E00000 then c.radioPoint ((a - 0x1C00000) / 0x100) (a % 0x100)
  else systemPoint a

/-- Places whose points the configuration assigns (R143, R145, R485). -/
def RunCfg.places (c : RunCfg) : List Nat :=
  (c.ranges.flatMap fun r => (List.range r.count).map (r.first + ·))
    ++ (c.czn.nodes.flatMap fun e => (List.range 0x700).map fun o => 0x1000000 + e.n * 0x800 + 0x100 + o)
    ++ c.radio.nodes.flatMap fun e => (List.range 0xE0).map fun o => 0x1C00000 + e.n * 0x100 + 0x20 + o

/-- Points that one configuration assigns and another did not, or with another type (R220). -/
def RunCfg.newPoints (c old : RunCfg) : List Nat := c.places.filter fun a => (c.ptInfo a).typ ≠ 0 && (c.ptInfo a).typ != (old.ptInfo a).typ

/-- CH_STATUS of a channel that is not fitted or belongs to no luminaire record, or LUM_STATUS of a luminaire without a fitted channel (R230, R232). -/
def RunCfg.notFitted (c : RunCfg) (a : Nat) : Bool :=
  let o := a % 0x200
  let fitted := match c.lum (a / 0x200) with | some r => r.fitted | none => 0
  decide (a < 0x1000000) && (if o = 7 then fitted == 0 else decide (0x40 ≤ o ∧ o < 0x140 ∧ o % 0x40 = 5) && !bitOf fitted (o / 0x40 - 1))

/-- The point is in the retain list (R149, R168). -/
def RunCfg.retained (c : RunCfg) (a : Nat) : Bool := c.retain.contains a

/-- Is the address in the system and metering region (R144)? -/
def inSystem (a : Nat) : Bool := decide (0x1E00000 ≤ a)

/-- Addresses of the crucible's blocks (R140 to R143). -/
def lumAddr (l o : Nat) : Nat := l * 0x200 + o
def chanAddr (l c o : Nat) : Nat := l * 0x200 + 0x40 + 0x40 * c + o
def rowAddr (n o : Nat) : Nat := 0x1000000 + n * 0x800 + o
def zoneAddr (z o : Nat) : Nat := 0x1400000 + z * 0x400 + o
def radioAddr (k o : Nat) : Nat := 0x1C00000 + k * 0x100 + o

end Sys2Proof.Machine
end

