-- ==== Sys2Proof/Machine/Points.lean ====
section
/-!
DEFINITION. Applications to the crucible (R146 to R168): records, forces, subscriptions and change notices.
-/
set_option linter.unusedVariables false
namespace Sys2Proof.Machine

/-- Quality codes (R148). -/
def Q.good : Nat := 0
def Q.unverified : Nat := 1
def Q.default : Nat := 2
def Q.stale : Nat := 3
def Q.absent : Nat := 4
def Q.bad : Nat := 5

/-- A node or a radio sensor feeds the point (R58, R149). -/
def PtInfo.sensed (i : PtInfo) : Bool := i.input && !i.modOnly

/-- What a point that nothing has written since restore holds (R58): its default with quality DEFAULT, or ABSENT for a point that a node or a radio sensor feeds, for an
unassigned one, and in the radio-node region of a variant without radios (R2); GOOD for the status NOT_FITTED (R246); writer 0x0000 and the restore stamp. -/
def ptDefault (c : RunCfg) (radios : Nat) (restore : Nat) (a : Nat) : PtRec :=
  let i := c.ptInfo a
  let radioless := decide (radios = 0 ∧ 0x1C00000 ≤ a ∧ a < 0x1E00000)
  { value := i.dflt, quality := if i.typ = 0 || i.sensed || radioless then Q.absent else if c.notFitted a then Q.good else Q.default, pending := false, writer := 0, stamp := restore }

/-- The stored record of a point. -/
def State.pt (s : State) (a : Nat) : PtRec := mapGet (ptDefault s.cfg s.ident.radios s.restoreStamp) s.points a

/-- Store a point record. -/
def State.setPt (s : State) (a : Nat) (r : PtRec) : State :=
  { s with points := mapSet (ptDefault s.cfg s.ident.radios s.restoreStamp) s.points a r }

/-- What the address is under the running configuration. -/
def State.info (s : State) (a : Nat) : PtInfo := s.cfg.ptInfo a

/-- The force on a point. -/
def State.force? (s : State) (a : Nat) : Option Force := mapFind s.forces a

/-- The record a reader sees: the forced value and quality while the point is forced (R162, R163). The record itself takes them when the
force is applied, so this is the stored record. -/
def State.view (s : State) (a : Nat) : PtRec := s.pt a

/-- The point lies in at least one subscription. -/
def State.subscribed (s : State) (a : Nat) : Bool := s.subs.any fun e => decide (e.2.first ≤ a ∧ a < e.2.first + e.2.count)

/-- The flags byte of a point (R149). -/
def State.ptFlags (s : State) (a : Nat) : Nat :=
  let i := s.info a
  let f := s.force? a
  bit i.input * 128 + bit i.output * 64 + bit (s.subscribed a) * 32 + bit (s.cfg.retained a) * 16
    + bit (s.pt a).pending * 8 + bit (match f with | some x => x.orphan | none => false) * 4 + bit f.isSome

/-- The 16 bytes of a point record (R146). -/
def State.recBytes (s : State) (a : Nat) : List Byte :=
  let r := s.view a
  le 4 r.value.toNat ++ le 1 ((s.info a).typ + r.quality * 16) ++ le 1 (s.ptFlags a) ++ le 2 r.writer ++ le 8 r.stamp

/-- The address an operation touches. -/
def PtOp.addr : PtOp → Nat
  | .write w => w.addr | .quality a _ => a | .pending a _ => a | .force a _ _ _ => a | .unforce a => a | .orphan a _ => a

/-- Absorb a write into a force: the underlying record takes it and the counts rise (R163). -/
def State.absorb (s : State) (a : Nat) (f : Force) (r : PtRec) : State :=
  ({ s with forces := mapPut s.forces a { f with under := some r, absorbed := min (2 ^ 32 - 1) (f.absorbed + 1) } } : State).bump
    Reg.PNT_CNT_ABSORBED

/-- The effect of one operation on records and forces. -/
def State.ptOp (s : State) : PtOp → State
  | .write w =>
    let r : PtRec := { value := w.value, quality := w.quality, pending := (s.pt w.addr).pending, writer := w.writer, stamp := w.stamp }
    match s.force? w.addr with
    | some f => s.absorb w.addr f r
    | none => s.setPt w.addr r
  | .quality a q =>
    match s.force? a with
    | some f =>
      let base := f.under.getD (s.pt a)
      s.absorb a f { base with quality := q }
    | none => s.setPt a { s.pt a with quality := q }
  | .pending a p => s.setPt a { s.pt a with pending := p }
  | .force a v q st =>
    let f : Force := match s.force? a with
      | some f => { f with value := v, quality := q, setStamp := st }
      | none => { value := v, quality := q, orphan := false, under := none, absorbed := 0, setStamp := st }
    ({ s with forces := mapPut s.forces a f } : State).setPt a
      { value := v, quality := q, pending := (s.pt a).pending, writer := 0x0030, stamp := st }
  | .unforce a =>
    match s.force? a with
    | none => s
    | some f =>
      let t : State := { s with forces := mapDel s.forces a }
      match f.under with
      | some u => t.setPt a { u with pending := (s.pt a).pending }
      | none => t
  | .orphan a o =>
    match s.force? a with
    | none => s
    | some f => { s with forces := mapPut s.forces a { f with orphan := o } }

/-- Signed or unsigned distance of two values of a type (R157). -/
def valueDistance (typ : Nat) (x y : Word) : Nat :=
  if typ = 3 || typ = 5 then (sext 32 x.toNat - sext 32 y.toNat).natAbs
  else ((x.toNat : Int) - (y.toNat : Int)).natAbs

/-- The exact value of a finite binary32 word. -/
def f32Rat (x : Word) : Rat :=
  let sign : Rat := if bitOf x.toNat 31 then -1 else 1
  let e := bitsOf x.toNat 23 8
  let m := bitsOf x.toNat 0 23
  if e = 0 then sign * (m : Rat) / (2 ^ 149 : Nat)
  else sign * ((m + 2 ^ 23 : Nat) : Rat) * ((2 ^ e : Nat) : Rat) / (2 ^ 150 : Nat)

/-- An infinity or a NaN. -/
def f32Special (x : Word) : Bool := bitsOf x.toNat 23 8 == 255
def f32IsNan (x : Word) : Bool := f32Special x && bitsOf x.toNat 0 23 != 0

/-- Is the distance of two different binary32 values above a deadband? The distance to an infinity is above every finite deadband. -/
def f32Exceeds (deadband ref v : Word) : Bool :=
  if f32IsNan deadband then Config.nanDeadband deadband ref v
  else if f32Special deadband then bitOf deadband.toNat 31
  else if f32Special ref || f32Special v then true
  else decide (f32Rat deadband < (if f32Rat v < f32Rat ref then f32Rat ref - f32Rat v else f32Rat v - f32Rat ref))

/-- Does the change from the value last notified exceed the deadband (R157)? The deadband applies to I16, U16, I32, U32 and F32 and is an integer of the point's type, or a
binary32 value. -/
def exceeds (typ : Nat) (deadband ref v : Word) : Bool :=
  v != ref &&
    (if typ = 3 || typ = 5 then decide (sext 32 deadband.toNat < valueDistance typ ref v)
     else if typ = 4 || typ = 6 then decide (deadband.toNat < valueDistance typ ref v)
     else if typ = 7 then f32Exceeds deadband ref v
     else true)

/-- What notices compare: value, quality and the FORCED, ORPHAN and PENDING flags. -/
structure PtView where
  value : Word
  quality : Nat
  flags : Nat
  deriving DecidableEq, Repr

/-- The view of a point. -/
def State.ptView (s : State) (a : Nat) : PtView :=
  { value := (s.view a).value, quality := (s.view a).quality, flags := s.ptFlags a &&& 0x0D }

/-- The notice of one subscription for one point after an application, with the subscription's new reference (R157, R158). -/
def subNotice (typ : Nat) (sub : Sub) (a : Nat) (old new : PtView) : Bool × Sub :=
  if decide (sub.first ≤ a ∧ a < sub.first + sub.count) then
    let ref := mapGet (fun _ => old.value) sub.refs a
    let v := bitOf sub.mode 0 && exceeds typ sub.deadband ref new.value
    let q := bitOf sub.mode 1 && new.quality != old.quality
    let f := bitOf sub.mode 2 && new.flags != old.flags
    let hit := v || q || f
    (hit, { sub with refs := mapPut sub.refs a (if hit then new.value else ref) })
  else (false, sub)

/-- The notices of one point, over all subscriptions in order of their IDs. -/
def State.notePoint (s : State) (a : Nat) (old : PtView) (acc : List Notice) : State × List Notice :=
  let new := s.ptView a
  if new = old then (s, acc)
  else
    s.subs.foldl (fun (p : State × List Notice) e =>
      let r := subNotice (s.info a).typ e.2 a old new
      let t : State := { p.1 with subs := mapPut p.1.subs e.1 r.2 }
      (t, if r.1 then p.2 ++ [{ sub := e.1, addr := a, flags := 0, batch := s.batch, record := s.recBytes a }] else p.2)) (s, acc)

/-- Mark the last notice of a batch (R158, BATCH_END). -/
def markLast : List Notice → List Notice
  | [] => []
  | [n] => [{ n with flags := n.flags + 2 }]
  | n :: ns => n :: markLast ns

/-- Insert into an ascending list without repeats. -/
def insertNat (a : Nat) : List Nat → List Nat
  | [] => [a]
  | b :: bs => if a < b then a :: b :: bs else if a = b then b :: bs else b :: insertNat a bs

/-- A change of an output of the radio node is announced to it by a wake-up call (R336). -/
def State.wakesOn (s : State) (n : Nat) : Bool := s.cfg.radio.nodes.any fun e => e.n == n && e.wakeOnOutput

/-- An OUTPUT point of a node that changes waits for its delivery; on a node that is STALE or ABSENT it takes PENDING at once (R161, R300, R324). -/
def State.noteOutput (s : State) (a : Nat) (old : PtView) : State :=
  if (s.view a).value = old.value || !(s.info a).output || !s.leads then s
  else if 0x1000000 ≤ a && a < 0x1400000 then
    let n := (a - 0x1000000) / 0x800
    let x := mapGet (fun _ => ({} : CznNode)) s.czn.nodes n
    let t : State := { s with czn := { s.czn with
      nodes := mapSet (fun _ => {}) s.czn.nodes n { x with outputs := insertNat (a % 0x800) x.outputs } } }
    if x.state = 4 || x.state = 5 then t.setPt a { t.pt a with pending := true } else t
  else if 0x1C00000 ≤ a && a < 0x1E00000 then
    let n := (a - 0x1C00000) / 0x100
    let x := mapGet (fun _ => ({} : RadioNode)) s.radio.nodes n
    let t : State := { s with radio := { s.radio with
      nodes := mapSet (fun _ => {}) s.radio.nodes n { x with outputs := insertNat (a % 0x100) x.outputs, wakeHeld := if s.wakesOn n then some 0 else x.wakeHeld } } }
    if x.state = 4 || x.state = 5 then t.setPt a { t.pt a with pending := true } else t
  else if a < 0x1000000 then
    let x := mapGet (fun _ => ({} : CznNode)) s.czn.nodes (a / 0x2000)
    if x.state = 4 || x.state = 5 then s.setPt a { s.pt a with pending := true } else s
  else s

/-- One application (R152) by an effect `f` on records that touches some points: the batch sequence rises, the effect takes place, and the notices of the
points queue in ascending address order, the last with BATCH_END (R159). -/
def State.applyVia (s : State) (touched : List Nat) (f : State → State) : State :=
  let s := { s with batch := addMod32 s.batch 1 }
  let addrs := touched.foldl (fun l a => insertNat a l) []
  let olds := addrs.map fun a => (a, s.ptView a)
  let t := olds.foldl (fun (t : State) e => t.noteOutput e.1 e.2) (f s)
  let r := olds.foldl (fun (p : State × List Notice) e => p.1.notePoint e.1 e.2 p.2) (t, [])
  let u := r.1.bump Reg.PNT_CNT_NOTICE r.2.length
  { u with noticeQ := u.noticeQ ++ markLast r.2 }

/-- One application of operations (R152). -/
def State.apply (s : State) (ops : List PtOp) : State := s.applyVia (ops.map PtOp.addr) fun t => ops.foldl State.ptOp t

/-- Is the value within the coding of a type (R147)? -/
def codingOk (typ enumMax : Nat) (v : Word) : Bool :=
  let n := v.toNat
  if typ = 1 then decide (n < 2)
  else if typ = 2 then decide (n < 256)
  else if typ = 3 then decide (n < 0x8000) || decide (0xFFFF8000 ≤ n)
  else if typ = 4 then decide (n < 65536)
  else if typ = 5 || typ = 6 then true
  else if typ = 7 then !(bitsOf n 23 8 == 255 && bitsOf n 0 23 != 0)
  else if typ = 8 then decide (n ≤ enumMax)
  else false

/-- The checks of R155 in their order, for a write by the host (`force`: INPUT points may be forced, R162). -/
def State.writeCheck (s : State) (addr : Word) (badOp untagged force : Bool) (tq : Byte) (v : Word) (own : Option Nat) : Option Nat :=
  let a := addr.toNat % 2 ^ 25
  let i := s.info a
  let q := bitsOf tq.toNat 4 4
  if addr.toNat ≥ 2 ^ 25 || badOp || 5 < q then some St.badFormat
  else if untagged && s.defaulted then some St.defaulted
  else if !s.defaulted && !s.leads then some St.refused
  else if i.typ = 0 then some St.notFound
  else if inSystem a || i.typ = 9 || i.typ = 10 || (i.input && !force) || i.modOnly then some St.readOnly
  else if bitsOf tq.toNat 0 4 ≠ i.typ then some St.typeMismatch
  else if !codingOk i.typ i.enumMax v then some St.badFormat
  else if s.heldByOther own (if force then .point a else pointTarget a) then some St.conflict
  else none

end Sys2Proof.Machine
end

