-- ==== Sys2Proof/Machine/LadleLoad.lean ====
section
/-!
DEFINITION. The loader: every check of a ladle program image (R173 to R198), with the status and the index of the first failure (R200).
-/
set_option linter.unusedVariables false
namespace Sys2Proof.Machine

/-- Why an image is refused: status, and the instruction index or 0xFFFFFFFF (R200). -/
structure LoadErr where
  status : Nat
  index : Nat := 0xFFFFFFFF
  /-- U, where the loader had computed it (R196). -/
  units : Option Nat := none
  deriving DecidableEq, Repr

/-- A check: refuse with a status unless the condition holds. -/
def demand (ok : Bool) (status : Nat) (index : Nat := 0xFFFFFFFF) : Except LoadErr Unit :=
  if ok then .ok () else .error { status := status, index := index }

/-! ### The image (R198) -/

/-- Range entries, 16 bytes each; starts accumulate (R173). -/
def parseRanges (bs : List Byte) : Nat → Nat → Nat → List FRange
  | 0, _, _ => []
  | k + 1, off, start =>
    let r : FRange := { first := fieldLe bs off 4, count := fieldLe bs (off + 4) 2 + 1, width := fieldLe bs (off + 6) 2 + 1
                        stride := fieldLe bs (off + 8) 4, w := bitOf (fieldLe bs (off + 12) 2) 0, start := start }
    r :: parseRanges bs k (off + 16) (start + r.count * r.width)

/-- The reserved fields of a range entry are 0 (R198). -/
def rangeResvOk (bs : List Byte) (off : Nat) : Bool :=
  decide (fieldLe bs off 4 < 2 ^ 25) && decide (fieldLe bs (off + 12) 2 < 2) && fieldLe bs (off + 14) 2 == 0

/-- Decode the instruction words, each with its index. -/
def decodeAll (bs : List Byte) : Nat → Nat → Nat → Except LoadErr (List LIns)
  | 0, _, _ => .ok []
  | k + 1, i, off =>
    match LIns.decode (fieldLe bs off 4) with
    | none => .error { status := St.badFormat, index := i }
    | some x =>
      match decodeAll bs k (i + 1) (off + 4) with
      | .ok xs => .ok (x :: xs)
      | .error e => .error e

/-- Total slots of a footprint (R173). -/
def slotTotal (rs : List FRange) : Nat := (rs.map fun r => r.count * r.width).sum

/-- Header, tables and instruction words of an image for ladle `n` (R193, R198). -/
def parseProg (bs : List Byte) (n : Nat) : Except LoadErr Prog := do
  let f (off k : Nat) : Nat := fieldLe bs off k
  demand (64 ≤ bs.length && f 0 4 == 0x4C444C07 && f 4 2 == 1 && f 6 1 == n && f 7 1 == 0) St.badFormat
  let ni := f 8 4
  let nr := f 12 2
  let nt := f 14 2
  let nc := f 16 2
  demand (ni ≤ 65536 && nr ≤ 512 && nt ≤ 512 && nc ≤ 512 && f 18 2 ≤ 4096 && f 20 2 ≤ 4096 && f 48 4 ≤ 32768) St.noSpace
  demand (ni != 0 && f 22 2 == 0 && f 28 2 ≤ 2048 && f 30 2 == 0 && f 52 8 == 0
    && bs.length == 64 + 16 * nr + 8 * (nt + nc) + 4 * ni) St.badFormat
  demand (crc32c (bs.take 60 ++ [0, 0, 0, 0] ++ bs.drop 64) == f 60 4) St.badFormat
  let ranges := parseRanges bs nr 64 0
  demand (slotTotal ranges ≤ 32768) St.noSpace
  demand ((List.range nr).all fun k => rangeResvOk bs (64 + 16 * k)) St.badFormat
  demand (ranges.all fun r => !(decide (1 < r.count) && decide (r.stride < r.width)) && !(r.count == 1 && r.stride != 0)) St.badFormat
  let tOff := 64 + 16 * nr
  let timers := (List.range nt).map fun k => (f (tOff + 8 * k) 1, f (tOff + 8 * k + 4) 4)
  demand ((List.range nt).all fun k => f (tOff + 8 * k + 1) 3 == 0) St.badFormat
  demand (timers.all fun t => decide (t.1 ≤ 3) && t.2 != 0) St.badFormat
  let co := tOff + 8 * nt
  demand ((List.range nc).all fun k => f (co + 8 * k) 4 == 0) St.badFormat
  let counters := (List.range nc).map fun k => sext 32 (f (co + 8 * k + 4) 4)
  let ins ← decodeAll bs ni 0 (co + 8 * nc)
  return { image := bs, ins := ins, ranges := ranges, timers := timers, counters := counters, edges := f 18 2, mems := f 20 2
           tableWords := f 48 4, wcu := f 24 4, wcCalls := f 28 2 }

/-! ### The footprint (R173) -/

/-- The points of a range in slot order. -/
def FRange.addrs (r : FRange) : List Nat :=
  (List.range r.count).flatMap fun w => (List.range r.width).map fun o => r.first + w * r.stride + o

/-- The points of the footprint in slot order, each with its W flag. -/
def Prog.slots (p : Prog) : List (Nat × Bool) := p.ranges.flatMap fun r => r.addrs.map fun a => (a, r.w)

/-- The declared write footprint (R156, R173). -/
def Prog.writes (p : Prog) : List Nat := (p.slots.filter (·.2)).map (·.1)

/-- A point that no ladle may write (R144, R155, R156). -/
def barred (i : PtInfo) (a : Nat) : Bool := inSystem a || i.typ == 9 || i.typ == 10 || i.input || i.modOnly

/-- The footprint checks of R173 under the configuration that will run, with the points other ladles write. -/
def checkFoot (p : Prog) (info : Nat → PtInfo) (taken : List Nat) : Except LoadErr Unit := do
  let sl := p.slots
  demand (sl.all fun x => decide (x.1 < 2 ^ 25) && (info x.1).typ != 0) St.badFormat
  demand (sl.all fun x => !x.2 || !barred (info x.1) x.1) St.badFormat
  demand (sl.all fun x => !x.2 || (sl.filter (·.1 == x.1)).length == 1) St.badFormat
  demand (sl.all fun x => !x.2 || !taken.contains x.1) St.writeOverlap

/-! ### Control flow: loops, depths, calls (R179, R184, R185) -/

/-- Match each LOOP with its ENDL: pairs (LOOP, ENDL) in order of the ENDL. -/
def pairLoops : List LIns → Nat → List Nat → List (Nat × Nat) → Except LoadErr (List (Nat × Nat))
  | [], _, [], acc => .ok acc
  | [], _, j :: _, _ => .error { status := St.unbalanced, index := j }
  | .loop _ _ _ :: xs, i, st, acc => pairLoops xs (i + 1) (i :: st) acc
  | .z .endl :: xs, i, st, acc =>
    match st with
    | [] => .error { status := St.unbalanced, index := i }
    | j :: js => pairLoops xs (i + 1) js ((j, i) :: acc)
  | _ :: xs, i, st, acc => pairLoops xs (i + 1) st acc

/-- The ENDL of a LOOP. -/
def endOf (pairs : List (Nat × Nat)) (j : Nat) : Nat := match pairs.find? (·.1 == j) with | some p => p.2 | none => 0

/-- The LOOP of an ENDL. -/
def loopOf (pairs : List (Nat × Nat)) (i : Nat) : Nat := match pairs.find? (·.2 == i) with | some p => p.1 | none => 0

/-- What holds at an instruction on every path from its entry: depth of the branch stack and open loops, innermost first. -/
structure FlowSt where
  depth : Nat
  loops : List Nat
  deriving DecidableEq, Repr

/-- A call: its site, its target, the depth and the loops open there. -/
structure CallSite where
  site : Nat
  target : Nat
  depth : Nat
  loops : Nat
  deriving DecidableEq, Repr

/-- A function: its entry, what holds at the instructions it reaches, its calls, and the greatest depth and number of open loops. -/
structure Fn where
  entry : Nat
  at_ : List (Nat × FlowSt) := []
  calls : List CallSite := []
  maxDepth : Nat := 0
  maxLoops : Nat := 0
  deriving DecidableEq, Repr

/-- Pass what holds on to a later instruction: paths that join must agree (R179). -/
def flowTo (n i : Nat) (m : List (Nat × FlowSt)) (j : Nat) (v : FlowSt) : Except LoadErr (List (Nat × FlowSt)) :=
  if n ≤ j then .error { status := St.badTarget, index := i }
  else match mapFind m j with
    | none => .ok (mapPut m j v)
    | some u => if u = v then .ok m else .error { status := St.unbalanced, index := j }

/-- The branch stack after an instruction, or none below depth 0. -/
def depthAfter (x : LIns) (d : Nat) : Option Nat :=
  match x with
  | .z .bopen => some (d + 1)
  | .z .band => if d = 0 then none else some (d - 1)
  | .z .bor => if d = 0 then none else some (d - 1)
  | .z .bdrop => if d = 0 then none else some (d - 1)
  | .z .bpeek => if d = 0 then none else some d
  | _ => some d

/-- One instruction of a function (R179, R184, R185). -/
def flowStep (n : Nat) (pairs : List (Nat × Nat)) (i : Nat) (x : LIns) (v : FlowSt) (f : Fn) : Except LoadErr Fn := do
  let d ← match depthAfter x v.depth with
    | some d => Except.ok d
    | none => Except.error { status := St.unbalanced, index := i }
  demand (d ≤ 16) St.unbalanced i
  let f := { f with maxDepth := max f.maxDepth d, maxLoops := max f.maxLoops v.loops.length }
  let go (l : List (Nat × List Nat)) : Except LoadErr Fn := do
    let m ← l.foldlM (fun m (e : Nat × List Nat) => flowTo n i m e.1 { depth := d, loops := e.2 }) f.at_
    return { f with at_ := m }
  match x with
  | .z .fin => do demand (v.depth == 0) St.unbalanced i; return f
  | .z .ret => do
    demand (f.entry != 0) St.badTarget i
    demand (v.depth == 0 && v.loops.isEmpty) St.unbalanced i
    return f
  | .jmp c t => do
    demand (i < t && t < n) St.badTarget i
    go (if c = 0 then [(t, v.loops)] else [(t, v.loops), (i + 1, v.loops)])
  | .call _ t => do
    demand (t < n) St.badTarget i
    let g ← go [(i + 1, v.loops)]
    return { g with calls := g.calls ++ [{ site := i, target := t, depth := v.depth, loops := v.loops.length }] }
  | .loop _ w _ => do
    demand (v.loops.length < 4) St.unbalanced i
    let g ← go ((i + 1, i :: v.loops) :: (if w = 1 then [(endOf pairs i + 1, v.loops)] else []))
    return { g with maxLoops := max g.maxLoops (v.loops.length + 1) }
  | .z .endl =>
    match v.loops with
    | [] => .error { status := St.unbalanced, index := i }
    | j :: js => do
      demand (j == loopOf pairs i) St.unbalanced i
      demand ((mapFind f.at_ (j + 1)).map (·.depth) == some d) St.unbalanced i
      go [(i + 1, js)]
  | .z .brk =>
    match v.loops with
    | [] => .error { status := St.badTarget, index := i }
    | j :: js => do
      demand (i < endOf pairs j) St.badTarget i
      go [(i + 1, v.loops), (endOf pairs j + 1, js)]
  | _ => go [(i + 1, v.loops)]

/-- The instructions of a function in index order: every edge but ENDL's goes forward. -/
def flowScan (n : Nat) (pairs : List (Nat × Nat)) : List LIns → Nat → Fn → Except LoadErr Fn
  | [], _, f => .ok f
  | x :: xs, i, f =>
    match mapFind f.at_ i with
    | none => flowScan n pairs xs (i + 1) f
    | some v =>
      match flowStep n pairs i x v f with
      | .error e => .error e
      | .ok g => flowScan n pairs xs (i + 1) g

/-- A function from its entry. -/
def walkFn (ins : List LIns) (pairs : List (Nat × Nat)) (entry : Nat) : Except LoadErr Fn :=
  flowScan ins.length pairs (ins.drop entry) entry { entry := entry, at_ := [(entry, { depth := 0, loops := [] })] }

/-- Every function that can be reached, each once. -/
def collectFns (ins : List LIns) (pairs : List (Nat × Nat)) : Nat → List Nat → List Fn → Except LoadErr (List Fn)
  | 0, _, fs => .ok fs
  | _, [], fs => .ok fs
  | k + 1, e :: todo, fs =>
    if fs.any (·.entry == e) then collectFns ins pairs k todo fs
    else match walkFn ins pairs e with
      | .error err => .error err
      | .ok f => collectFns ins pairs k (todo ++ f.calls.map (·.target)) (fs ++ [f])

/-- Totals of a function through its calls: depth, loops, nesting of calls. -/
structure FnTotal where
  depth : Nat
  loops : Nat
  calls : Nat
  deriving DecidableEq, Repr

/-- Totals of all functions, following calls `k` deep. -/
def fnTotals (fs : List Fn) : Nat → List (Nat × FnTotal)
  | 0 => fs.map fun f => (f.entry, { depth := f.maxDepth, loops := f.maxLoops, calls := 0 })
  | k + 1 =>
    let prev := fnTotals fs k
    fs.map fun f => (f.entry, f.calls.foldl (fun (t : FnTotal) c =>
      match mapFind prev c.target with
      | none => t
      | some g => { depth := max t.depth (c.depth + g.depth), loops := max t.loops (c.loops + g.loops), calls := max t.calls (g.calls + 1) })
      { depth := f.maxDepth, loops := f.maxLoops, calls := 0 })

/-- The functions that calls lead to from function `e`, `e` among them only where a chain of calls comes back to it; `k` bounds the calls followed. -/
def fnReach (fs : List Fn) (e : Nat) : Nat → List Nat
  | 0 => []
  | k + 1 =>
    let r := fnReach fs e k
    (fs.filter fun f => f.entry == e || r.contains f.entry).foldl (fun l f => f.calls.foldl (fun l c => insertNat c.target l) l) r

/-- The smallest site of some calls. -/
def firstSite (cs : List CallSite) : Nat := (cs.map (·.site)).foldl min 0xFFFFFFFF

/-- The call graph has no cycle, and the nesting limits hold through calls (R179, R184, R185). The failure is at the first call that lies on a
cycle, or whose nesting is out of limits. -/
def checkCalls (fs : List Fn) : Except LoadErr Unit := do
  let loops := fs.flatMap fun f => f.calls.filter fun c => c.target == f.entry || (fnReach fs c.target fs.length).contains f.entry
  demand loops.isEmpty St.badTarget (firstSite loops)
  let deep := fnTotals fs fs.length
  let bad := (fs.flatMap Fn.calls).filter fun c =>
    match mapFind deep c.target with
    | none => false
    | some g => decide (16 < c.depth + g.depth) || decide (4 < c.loops + g.loops) || decide (8 < g.calls + 1)
  demand bad.isEmpty St.unbalanced (firstSite bad)

/-! ### Base registers (R174, R175, R184, R189) -/

/-- What each of B0 to B7 may hold at an instruction: 0 is what it held at the entry (unbound in the main program), r + 1 is range r. -/
abbrev BaseSt := List (List Nat)

/-- Nothing has changed since the entry. -/
def baseEntry : BaseSt := List.replicate 8 [0]

/-- The union of two ascending lists. -/
def unionNat (xs ys : List Nat) : List Nat := ys.foldl (fun l y => insertNat y l) xs

/-- Paths join. -/
def joinBase (a b : BaseSt) : BaseSt := List.zipWith unionNat a b

/-- What a base may hold once what it held at the entry is known. -/
def substBase (entry inner : BaseSt) : BaseSt :=
  List.zipWith (fun e i => if i.contains 0 then unionNat e (i.filter (· != 0)) else i) entry inner

/-- The key of instruction `i` in function `f`. -/
def fnKey (f i : Nat) : Nat := f * 65537 + i

/-- Join a state into a table. -/
def joinAt (m : List (Nat × BaseSt)) (k : Nat) (v : BaseSt) : List (Nat × BaseSt) :=
  match mapFind m k with
  | none => mapPut m k v
  | some u => mapPut m k (joinBase u v)

/-- Successors within a function, from what holds there. -/
def succOf (pairs : List (Nat × Nat)) (i : Nat) (x : LIns) (v : FlowSt) : List Nat :=
  match x with
  | .z .fin => [] | .z .ret => []
  | .jmp c t => if c = 0 then [t] else [t, i + 1]
  | .loop _ w _ => (i + 1) :: (if w = 1 then [endOf pairs i + 1] else [])
  | .z .endl => [i + 1, loopOf pairs i + 1]
  | .z .brk => match v.loops with | j :: _ => [i + 1, endOf pairs j + 1] | [] => [i + 1]
  | _ => [i + 1]

/-- What a function leaves in the bases at its RETs, none while no RET has been reached. -/
def retState (ins : List LIns) (f : Fn) (m : List (Nat × BaseSt)) : Option BaseSt :=
  (f.at_.filter fun e => ins.getD e.1 (.z .nop) == .z .ret).foldl (fun acc e =>
    match mapFind m (fnKey f.entry e.1), acc with
    | some v, some a => some (joinBase a v)
    | some v, none => some v
    | none, a => a) none

/-- The bases after an instruction; none where no path goes on (a call that never returns). -/
def baseAfter (ins : List LIns) (fs : List Fn) (m : List (Nat × BaseSt)) (x : LIns) (s : BaseSt) : Option BaseSt :=
  match x with
  | .setb b r _ => some (s.set b [r + 1])
  | .call c t =>
    match (fs.find? (·.entry == t)).bind (fun g => retState ins g m) with
    | some r => some (if c = 0 then substBase s r else joinBase s (substBase s r))
    | none => if c = 0 then none else some s
  | _ => some s

/-- One round of propagation over all functions. -/
def baseRound (ins : List LIns) (pairs : List (Nat × Nat)) (fs : List Fn) (m : List (Nat × BaseSt)) : List (Nat × BaseSt) :=
  fs.foldl (fun m f => f.at_.foldl (fun m e =>
    let x := ins.getD e.1 (.z .nop)
    match mapFind m (fnKey f.entry e.1) with
    | none => m
    | some s =>
      match baseAfter ins fs m x s with
      | none => m
      | some t => (succOf pairs e.1 x e.2).foldl (fun m j => joinAt m (fnKey f.entry j) t) m) m) m

/-- Rounds until nothing changes; each round but the last adds a range to a base somewhere, which bounds them. -/
def baseRounds (ins : List LIns) (pairs : List (Nat × Nat)) (fs : List Fn) : Nat → List (Nat × BaseSt) → List (Nat × BaseSt)
  | 0, m => m
  | k + 1, m =>
    let m' := baseRound ins pairs fs m
    if m' = m then m else baseRounds ins pairs fs k m'

/-- What the bases hold at the entry of each function, through its callers. -/
def entryRounds (fs : List Fn) (m : List (Nat × BaseSt)) : Nat → List (Nat × BaseSt) → List (Nat × BaseSt)
  | 0, e => e
  | k + 1, e =>
    let e' := fs.foldl (fun e f =>
      match mapFind e f.entry with
      | none => e
      | some a => f.calls.foldl (fun e c =>
          match mapFind m (fnKey f.entry c.site) with
          | none => e
          | some s => joinAt e c.target (substBase a s)) e) e
    if e' = e then e else entryRounds fs m k e'

/-- The one range a base is bound to at a use, or AMBIGUOUS_BASE (R174). -/
def oneRange (p : Prog) (i b : Nat) (s : BaseSt) : Except LoadErr FRange :=
  match s.getD b [] with
  | [k] =>
    if k = 0 then .error { status := St.ambiguousBase, index := i }
    else match p.ranges[k - 1]? with
      | some r => .ok r
      | none => .error { status := St.badFormat, index := i }
  | _ => .error { status := St.ambiguousBase, index := i }

/-- The declared count of the kind an instance instruction uses (R189). -/
def kindCount (p : Prog) (op : TIns) (md : Nat) : Nat :=
  match op with
  | .edge => p.edges
  | .tmr => p.timers.length
  | .ctu => p.counters.length
  | .ctd => p.counters.length
  | .tcr => if md = 0 then p.timers.length else p.counters.length
  | .tcld => if md = 0 then p.timers.length else p.counters.length
  | .ldm => p.mems
  | .stm => p.mems

/-- Does the P instruction store? -/
def PIns.stores : PIns → Bool
  | .st => true | .set => true | .rst => true | .stw => true | _ => false

/-- Widths of bit stores and bit loads (R178). -/
def bitWidth (store : Bool) (typ : Nat) : Nat :=
  if typ = 1 then 1 else if typ = 2 then 8 else if typ = 4 then 16 else if typ = 6 then 32
  else if store then 0
  else if typ = 3 || typ = 8 then 16 else if typ = 5 then 32 else 0

/-- Is the P instruction one of single bits? -/
def PIns.bits : PIns → Bool
  | .ld => true | .and_ => true | .or_ => true | .xor_ => true | .st => true | .set => true | .rst => true | _ => false

/-- The point operand (R174) and the bit number (R178) of one instruction: base, offset, writable range, every point it can reach. -/
def checkPoint (p : Prog) (info : Nat → PtInfo) (i : Nat) (op : PIns) (b off md : Nat) (s : BaseSt) : Except LoadErr Unit := do
  let sl := p.slots
  let reach ← if b = 0 then do
      demand (off < sl.length) St.badFormat i
      demand (!op.stores || (sl.getD off (0, false)).2) St.badFormat i
      pure [(sl.getD off (0, false)).1]
    else do
      let r ← oneRange p i b s
      demand (off < r.width) St.badFormat i
      demand (!op.stores || r.w) St.ambiguousBase i
      pure ((List.range r.count).map fun w => r.first + w * r.stride + off)
  demand (!op.bits || reach.all fun a => decide (md % 32 < bitWidth op.stores (info a).typ)) St.badFormat i

/-- The uses of base registers and instances by one instruction (R174, R175, R184, R189). DESIGN CHOICE (log entry 49): the largest window that a base can reach is the last
window of the range it is bound to, whatever SETB and LOOP set. -/
def checkUse (p : Prog) (info : Nat → PtInfo) (i : Nat) (x : LIns) (s : BaseSt) : Except LoadErr Unit :=
  match x with
  | .pt op b off md => checkPoint p info i op b off md s
  | .inst op k b md => do
    let top ← if b = 0 then pure k else (do let r ← oneRange p i b s; pure (k + r.count - 1))
    demand (top < kindCount p op md) St.badFormat i
  | .loop b _ c => if b = 0 then .ok () else (do let r ← oneRange p i b s; demand (c + 1 ≤ r.count) St.badFormat i)
  | .setb _ r w =>
    match p.ranges[r]? with
    | none => .error { status := St.badFormat, index := i }
    | some g => demand (w < g.count) St.badFormat i
  | .bidx b _ _ => (oneRange p i b s).map fun _ => ()
  | .bld b => (oneRange p i b s).map fun _ => ()
  | _ => .ok ()

/-- All uses, over all functions. -/
def checkBases (p : Prog) (info : Nat → PtInfo) (pairs : List (Nat × Nat)) (fs : List Fn) : Except LoadErr Unit := do
  let fuel := 8 * (p.ranges.length + 2) * (fs.map (·.at_.length)).sum + 1
  let m := baseRounds p.ins pairs fs fuel (fs.foldl (fun m f => mapPut m (fnKey f.entry f.entry) baseEntry) [])
  let ent := entryRounds fs m fuel [(0, baseEntry)]
  fs.foldlM (fun _ f => f.at_.foldlM (fun _ e =>
    match mapFind m (fnKey f.entry e.1), mapFind ent f.entry with
    | some s, some a => checkUse p info e.1 (p.ins.getD e.1 (.z .nop)) (substBase a s)
    | _, _ => .ok ()) ()) ()

/-! ### The worst-case count (R192, R196) -/

/-- The larger of two costs, where there is one. -/
def maxOpt : Option Nat → Option Nat → Option Nat
  | some a, some b => some (max a b)
  | some a, none => some a
  | none, b => b

/-- The largest costs from an instruction: `leave` to the ENDL (excluded) or a BRK (included) of the innermost open loop, `stop` to an END or RET
(included) without leaving that loop. -/
structure Worst where
  leave : Option Nat := none
  stop : Option Nat := none
  deriving DecidableEq, Repr

/-- Add a cost to both. -/
def Worst.plus (w : Worst) (c : Nat) : Worst := { leave := w.leave.map (· + c), stop := w.stop.map (· + c) }

/-- The worse of two. -/
def Worst.max (a b : Worst) : Worst := { leave := maxOpt a.leave b.leave, stop := maxOpt a.stop b.stop }

/-- The worst case from instruction `i` on (R196), from that of the later instructions; `sub` is the cost of a subroutine. -/
def worstStep (cost : LIns → Nat) (pairs : List (Nat × Nat)) (sub : Nat → Nat) (i : Nat) (x : LIns) (m : List (Nat × Worst)) : Worst :=
  let w (j : Nat) : Worst := mapGet (fun _ => {}) m j
  let c := cost x
  match x with
  | .z .fin => { stop := some c }
  | .z .ret => { stop := some c }
  | .z .endl => { leave := some 0 }
  | .z .brk => Worst.max { leave := some c } ((w (i + 1)).plus c)
  | .jmp k t => if k = 0 then (w t).plus c else (Worst.max (w t) (w (i + 1))).plus c
  | .call _ t => (w (i + 1)).plus (c + sub t)
  | .loop _ wm n =>
    let e := endOf pairs i
    let per := cost (.z .endl)
    let body := w (i + 1)
    match body.leave with
    | some b => Worst.max ((w (e + 1)).plus (c + (n + 1) * (b + per))) { stop := body.stop.map (· + c + n * (b + per)) }
    | none => Worst.max { stop := body.stop.map (· + c) } (if wm = 1 then (w (e + 1)).plus c else {})
  | _ => (w (i + 1)).plus c

/-- All instructions, last first. -/
def worstScan (cost : LIns → Nat) (pairs : List (Nat × Nat)) (sub : Nat → Nat) : List LIns → Nat → List (Nat × Worst)
  | [], _ => []
  | x :: xs, i =>
    let m := worstScan cost pairs sub xs (i + 1)
    (i, worstStep cost pairs sub i x m) :: m

/-- The largest cost from instruction `t` to its end, with calls followed `k` deep. -/
def worstFrom (cost : LIns → Nat) (ins : List LIns) (pairs : List (Nat × Nat)) : Nat → Nat → Nat
  | 0, _ => 0
  | k + 1, t =>
    ((mapGet (fun _ => {}) (worstScan cost pairs (worstFrom cost ins pairs k) ins 0) t : Worst).stop).getD 0

/-- U and the largest number of calls on the lamp engine (R192, R196). Calls nest at most 8 deep. -/
def worstCase (p : Prog) (pairs : List (Nat × Nat)) : Nat × Nat :=
  (worstFrom LIns.cost p.ins pairs 10 0, worstFrom (fun x => match x with | .lcall _ _ _ => 1 | _ => 0) p.ins pairs 10 0)

/-- Every check of a ladle program image (R173 to R198): the program, or the status and the index of the first failure. -/
def loadProgram (bs : List Byte) (n : Nat) (info : Nat → PtInfo) (taken : List Nat) : Except LoadErr Prog := do
  let p ← parseProg bs n
  checkFoot p info taken
  let pairs ← pairLoops p.ins 0 [] []
  let fs ← collectFns p.ins pairs (p.ins.length + 1 + (p.ins.filter fun x => match x with | .call _ _ => true | _ => false).length * (p.ins.length + 1)) [0] []
  checkCalls fs
  checkBases p info pairs fs
  let u := worstCase p pairs
  if u.2 ≤ 2048 then
    if u.1 == p.wcu && u.2 == p.wcCalls then return p else .error { status := St.wcuMismatch, units := some u.1 }
  else .error { status := St.noSpace, units := some u.1 }

end Sys2Proof.Machine
end

