-- ==== Sys2Proof/Machine/F32.lean ====
section
/-!
DEFINITION. IEEE 754 binary32 arithmetic, round to nearest even, subnormals flushed to zero with their sign (R181), on exact integers.
-/
set_option linter.unusedVariables false
namespace Sys2Proof.Machine

/-- A binary32 operand: NaN, an infinity, or (-1)^neg × m × 2^e. -/
inductive F32 where
  | nan
  | inf (neg : Bool)
  | fin (neg : Bool) (m : Nat) (e : Int)
  deriving DecidableEq, Repr

/-- The NaN that every NaN result leaves (R181). -/
def nanWord : Word := 0x7FC00000

/-- A word as an operand; a subnormal reads as zero with its sign (R181). -/
def F32.ofWord (w : Word) : F32 :=
  let neg := bitOf w.toNat 31
  let e := bitsOf w.toNat 23 8
  let m := bitsOf w.toNat 0 23
  if e = 255 then (if m = 0 then .inf neg else .nan)
  else if e = 0 then .fin neg 0 0
  else .fin neg (m + 2 ^ 23) ((e : Int) - 150)

/-- The sign bit of a word. -/
def signWord (neg : Bool) : Nat := if neg then 2 ^ 31 else 0

/-- An infinity as a word. -/
def infWord (neg : Bool) : Word := BitVec.ofNat 32 (signWord neg + 0x7F800000)

/-- A zero as a word. -/
def zeroWord (neg : Bool) : Word := BitVec.ofNat 32 (signWord neg)

/-- Round m × 2^e, with something more below m when `sticky`, to the nearest binary32, ties to even; a subnormal result is zero with its
sign, an overflow an infinity. With `sticky`, m has at least 26 bits. -/
def roundF32 (neg : Bool) (m : Nat) (e : Int) (sticky : Bool) : Word :=
  if m = 0 then zeroWord neg
  else
    let len : Int := (Nat.log2 m : Nat) + 1
    let q : Int := max (e + len - 24) (-149)
    let sh := (q - e).toNat
    let hi := if q ≤ e then m * 2 ^ (e - q).toNat else m / 2 ^ sh
    let rest := if q ≤ e then 0 else m % 2 ^ sh
    let half := 2 ^ (sh - 1)
    let up := decide (q > e) && (decide (half < rest) || (rest == half && (sticky || hi % 2 == 1)))
    let r := if up then hi + 1 else hi
    let r2 := if r = 2 ^ 24 then 2 ^ 23 else r
    let q2 : Int := if r = 2 ^ 24 then q + 1 else q
    let ex : Int := q2 + 150
    if r2 < 2 ^ 23 then zeroWord neg
    else if 255 ≤ ex then infWord neg
    else BitVec.ofNat 32 (signWord neg + ex.toNat * 2 ^ 23 + (r2 - 2 ^ 23))

/-- An exact signed sum m × 2^e as a word; a zero sum takes the given sign. -/
def roundInt (zeroNeg : Bool) (m : Int) (e : Int) : Word :=
  if m = 0 then zeroWord zeroNeg else roundF32 (decide (m < 0)) m.natAbs e false

/-- The signed mantissa at a lower exponent. -/
def scaled (neg : Bool) (m : Nat) (e low : Int) : Int :=
  let v : Int := ((m * 2 ^ (e - low).toNat : Nat) : Int)
  if neg then -v else v

/-- Addition; `none` is a NaN result. The sum of zeros of unlike sign, and an exact cancellation, is +0 (IEEE 754). -/
def f32Add (x y : F32) : Option Word :=
  match x, y with
  | .nan, _ => none
  | _, .nan => none
  | .inf a, .inf b => if a = b then some (infWord a) else none
  | .inf a, _ => some (infWord a)
  | _, .inf b => some (infWord b)
  | .fin a m e, .fin b n f =>
    let low := min e f
    some (roundInt (a && b && m == 0 && n == 0) (scaled a m e low + scaled b n f low) low)

/-- Negation of an operand. -/
def F32.negate : F32 → F32
  | .nan => .nan
  | .inf a => .inf (!a)
  | .fin a m e => .fin (!a) m e

/-- Multiplication. -/
def f32Mul (x y : F32) : Option Word :=
  match x, y with
  | .nan, _ => none
  | _, .nan => none
  | .inf a, .inf b => some (infWord (a != b))
  | .inf a, .fin b n _ => if n = 0 then none else some (infWord (a != b))
  | .fin a m _, .inf b => if m = 0 then none else some (infWord (a != b))
  | .fin a m e, .fin b n f => some (roundF32 (a != b) (m * n) (e + f) false)

/-- Division. -/
def f32Div (x y : F32) : Option Word :=
  match x, y with
  | .nan, _ => none
  | _, .nan => none
  | .inf _, .inf _ => none
  | .inf a, .fin b _ _ => some (infWord (a != b))
  | .fin a _ _, .inf b => some (zeroWord (a != b))
  | .fin a m e, .fin b n f =>
    if n = 0 then (if m = 0 then none else some (infWord (a != b)))
    else
      let num := m * 2 ^ 32
      some (roundF32 (a != b) (num / n) (e - f - 32) (num % n != 0))

/-- Square root; of a negative number a NaN, of -0 it is -0 (IEEE 754). -/
def f32Sqrt (x : F32) : Option Word :=
  match x with
  | .nan => none
  | .inf a => if a then none else some (infWord false)
  | .fin a m e =>
    if m = 0 then some (zeroWord a)
    else if a then none
    else
      let k : Int := if e % 2 = 0 then e - 40 else e - 41
      let v := m * 2 ^ (e - k).toNat
      let r := Nat.sqrt v
      some (roundF32 false r (k / 2) (r * r != v))

/-- Ordering of two operands that are not NaN: -1, 0 or 1. -/
def f32Order (x y : F32) : Int :=
  match x, y with
  | .nan, _ => 0
  | _, .nan => 0
  | .inf a, .inf b => if a = b then 0 else if a then -1 else 1
  | .inf a, _ => if a then -1 else 1
  | _, .inf b => if b then 1 else -1
  | .fin a m e, .fin b n f =>
    let low := min e f
    let d := scaled a m e low - scaled b n f low
    if d < 0 then -1 else if d = 0 then 0 else 1

/-- A word that is not NaN as an operand leaves it: a subnormal is a zero. -/
def F32.toWord : F32 → Word
  | .nan => nanWord
  | .inf a => infWord a
  | .fin a m e => roundF32 a m e false

/-- FMIN (`lower`) and FMAX (R195). IEEE 754 has had two rules for a NaN beside a number and leaves the sign of a zero beside the other zero
open: both are a free choice on the operands. -/
def f32MinMax (lower : Bool) (x y : F32) (u v : Word) : Option Word :=
  let o := f32Order x y
  match x, y with
  | .nan, .nan => none
  | .nan, _ => if Config.minMaxChoice lower u v then none else some y.toWord
  | _, .nan => if Config.minMaxChoice lower u v then none else some x.toWord
  | _, _ =>
    if o = 0 then some (if x.toWord = y.toWord || Config.minMaxChoice lower u v then x.toWord else y.toWord)
    else some (if (o < 0) = (lower = true) then x.toWord else y.toWord)

/-- ITOF (R195): an I32 rounded to binary32. -/
def f32OfInt (w : Word) : Word := roundInt false (sext 32 w.toNat) 0

/-- FTOI (R181): truncation toward zero, saturating to I32; `none` for a NaN. -/
def f32ToInt (x : F32) : Option Word :=
  match x with
  | .nan => none
  | .inf a => some (if a then 0x80000000 else 0x7FFFFFFF)
  | .fin a m e =>
    let v : Nat := if 0 ≤ e then m * 2 ^ e.toNat else m / 2 ^ (-e).toNat
    let i : Int := if a then -(v : Int) else v
    some (BitVec.ofNat 32 (ofInt 32 (clampInt (-(2 ^ 31 : Nat)) (2 ^ 31 - 1 : Nat) i)))

/-- The exact value of an operand that is finite. -/
def F32.rat : F32 → Rat
  | .fin a m e =>
    let v : Rat := if 0 ≤ e then ((m * 2 ^ e.toNat : Nat) : Rat) else (m : Rat) / ((2 ^ (-e).toNat : Nat) : Rat)
    if a then -v else v
  | _ => 0

/-- The binary32 word nearest to a rational number, subnormals flushed. -/
def f32OfRat (r : Rat) : Word :=
  let n := r.num.natAbs * 2 ^ 200
  roundF32 (decide (r < 0)) (n / r.den) (-200) (n % r.den != 0)

end Sys2Proof.Machine
end

