-- ==== Sys2Proof/Machine/Ccm.lean ====
section
/-!
DEFINITION. AES-128 and CCM, which R283, R430 and R443 name: FIPS 197 and SP 800-38C with 13-byte nonces and a length field of 2 bytes (PRESUMED: the standards the names stand for).
A block is a list of 16 numbers below 256.
-/
set_option linter.unusedVariables false
namespace Sys2Proof.Machine

/-- The S-box: entry `x` is byte `x` of this number, from the least significant. -/
def aesBoxes : Nat :=
  0x16bb54b00f2d99416842e6bf0d89a18cdf2855cee9871e9b948ed9691198f8e19e1dc186b95735610ef6034866b53e708a8bbd4b1f74dde8c6b4a61c2e2578ba08ae7a65eaf4566ca94ed58d6d37c8e779e4959162acd3c25c2406490a3a32e0db0b5ede14b8ee4688902a22dc4f816073195d643d7ea7c41744975fec130ccdd2f3ff1021dab6bcf5389d928f40a351a89f3c507f02f94585334d43fbaaefd0cf584c4a39becb6a5bb1fc20ed00d153842fe329b3d63b52a05a6e1b1a2c830975b227ebe28012079a059618c323c7041531d871f1e5a534ccf73f362693fdb7c072a49cafa2d4adf04759fa7dc982ca76abd7fe2b670130c56f6bf27b777c63

/-- The S-box. -/
def aesSub (x : Nat) : Nat := aesBoxes / 2 ^ (8 * x) % 256

/-- Doubling in the field of AES. -/
def aesDouble (x : Nat) : Nat := (2 * x) ^^^ (x / 128 * 0x11B)

/-- Two blocks combined bit by bit. -/
def aesXor (a b : List Nat) : List Nat := List.zipWith (· ^^^ ·) a b

/-- The next round key of the schedule, with its round constant. -/
def aesNextKey (k : List Nat) (rcon : Nat) : List Nat :=
  match k with
  | [a0, a1, a2, a3, b0, b1, b2, b3, c0, c1, c2, c3, d0, d1, d2, d3] =>
    let w0 := [a0 ^^^ aesSub d1 ^^^ rcon, a1 ^^^ aesSub d2, a2 ^^^ aesSub d3, a3 ^^^ aesSub d0]
    let w1 := aesXor [b0, b1, b2, b3] w0
    let w2 := aesXor [c0, c1, c2, c3] w1
    w0 ++ w1 ++ w2 ++ aesXor [d0, d1, d2, d3] w2
  | _ => k

/-- Rows shifted. A column is four bytes of the block. -/
def aesShift (s : List Nat) : List Nat :=
  match s with
  | [a0, a1, a2, a3, b0, b1, b2, b3, c0, c1, c2, c3, d0, d1, d2, d3] => [a0, b1, c2, d3, b0, c1, d2, a3, c0, d1, a2, b3, d0, a1, b2, c3]
  | _ => s

/-- A column mixed. -/
def aesMixColumn (a b c d : Nat) : List Nat :=
  [aesDouble a ^^^ aesDouble b ^^^ b ^^^ c ^^^ d, a ^^^ aesDouble b ^^^ aesDouble c ^^^ c ^^^ d,
   a ^^^ b ^^^ aesDouble c ^^^ aesDouble d ^^^ d, aesDouble a ^^^ a ^^^ b ^^^ c ^^^ aesDouble d]

/-- Columns mixed. -/
def aesMix (s : List Nat) : List Nat :=
  match s with
  | [a0, a1, a2, a3, b0, b1, b2, b3, c0, c1, c2, c3, d0, d1, d2, d3] =>
    aesMixColumn a0 a1 a2 a3 ++ aesMixColumn b0 b1 b2 b3 ++ aesMixColumn c0 c1 c2 c3 ++ aesMixColumn d0 d1 d2 d3
  | _ => s

/-- One round of the cipher: state and round key so far, and the round constant of the next key. -/
def aesRound (x : List Nat × List Nat) (rcon : Nat) : List Nat × List Nat :=
  let k := aesNextKey x.2 rcon
  let s := aesShift (x.1.map aesSub)
  (aesXor (if rcon = 0x36 then s else aesMix s) k, k)

/-- AES-128 of a block under a key of 16 bytes. -/
@[irreducible] def aes128 (key block : List Nat) : List Nat :=
  ([0x01, 0x02, 0x04, 0x08, 0x10, 0x20, 0x40, 0x80, 0x1B, 0x36].foldl aesRound (aesXor block key, key)).1

/-- Bytes as numbers, padded with zeros to whole blocks. -/
def ccmPad (bs : List Byte) : List Nat := bs.map (·.toNat) ++ List.replicate ((16 - bs.length % 16) % 16) 0

/-- Block `i` of a list of numbers. -/
def ccmBlock (xs : List Nat) (i : Nat) : List Nat := (xs.drop (16 * i)).take 16

/-- The blocks that CCM authenticates: B0, the associated data with its length, the plaintext. -/
def ccmInput (micLen : Nat) (nonce aad p : List Byte) : List Nat :=
  (((if aad.isEmpty then 0 else 64) + 8 * ((micLen - 2) / 2) + 1) :: (nonce ++ be 2 p.length).map (·.toNat))
    ++ (if aad.isEmpty then [] else ccmPad (be 2 aad.length ++ aad)) ++ ccmPad p

/-- The CBC-MAC under a key. -/
def ccmMac (key : List Nat) (xs : List Nat) : List Nat :=
  (List.range (xs.length / 16)).foldl (fun x i => aes128 key (aesXor x (ccmBlock xs i))) (List.replicate 16 0)

/-- Block `i` of the key stream. -/
def ccmStream (key : List Nat) (nonce : List Byte) (i : Nat) : List Nat := aes128 key (1 :: (nonce ++ be 2 i).map (·.toNat))

/-- Byte `i` of the key stream over the payload. -/
def ccmPayloadStream (key : List Nat) (nonce : List Byte) (n : Nat) : List Nat := (List.range ((n + 15) / 16)).flatMap fun i => ccmStream key nonce (i + 1)

/-- Bytes with the key stream applied. -/
def ccmCrypt (key nonce p : List Byte) : List Byte :=
  let ks := ccmPayloadStream (key.map (·.toNat)) nonce p.length
  (List.range p.length).map fun i => p.getD i 0 ^^^ BitVec.ofNat 8 (ks.getD i 0)

/-- The encrypted MIC of `micLen` bytes. -/
def ccmMic (micLen : Nat) (key nonce aad p : List Byte) : List Byte :=
  let k := key.map (·.toNat)
  let m := aesXor (ccmMac k (ccmInput micLen nonce aad p)) (ccmStream k nonce 0)
  (List.range micLen).map fun i => BitVec.ofNat 8 (m.getD i 0)

/-- AES-128-CCM: the encrypted payload followed by the encrypted MIC (R283). -/
@[irreducible] def ccmSeal (micLen : Nat) (key nonce aad p : List Byte) : List Byte := ccmCrypt key nonce p ++ ccmMic micLen key nonce aad p

/-- The payload where the MIC holds, none otherwise. -/
@[irreducible] def ccmOpen (micLen : Nat) (key nonce aad c : List Byte) : Option (List Byte) :=
  let p := ccmCrypt key nonce (c.take (c.length - micLen))
  if micLen ≤ c.length && ccmMic micLen key nonce aad p == c.drop (c.length - micLen) then some p else none

end Sys2Proof.Machine
end

