-- ==== Sys2Proof/Machine/Sha.lean ====
section
/-!
DEFINITION. SHA-256 and HMAC-SHA-256, which R433, R443, R444, R457 name: FIPS 180-4 and RFC 2104 (PRESUMED: the standards the names stand for). Words are numbers below 2^32.
-/
set_option linter.unusedVariables false
namespace Sys2Proof.Machine

/-- Rotation of a 32-bit word to the right. -/
def rotr32 (x n : Nat) : Nat := (x >>> n) ||| ((x <<< (32 - n)) % 2 ^ 32)

/-- The 64 round constants. -/
def shaK : List Nat :=
  [0x428A2F98, 0x71374491, 0xB5C0FBCF, 0xE9B5DBA5, 0x3956C25B, 0x59F111F1, 0x923F82A4, 0xAB1C5ED5,
   0xD807AA98, 0x12835B01, 0x243185BE, 0x550C7DC3, 0x72BE5D74, 0x80DEB1FE, 0x9BDC06A7, 0xC19BF174,
   0xE49B69C1, 0xEFBE4786, 0x0FC19DC6, 0x240CA1CC, 0x2DE92C6F, 0x4A7484AA, 0x5CB0A9DC, 0x76F988DA,
   0x983E5152, 0xA831C66D, 0xB00327C8, 0xBF597FC7, 0xC6E00BF3, 0xD5A79147, 0x06CA6351, 0x14292967,
   0x27B70A85, 0x2E1B2138, 0x4D2C6DFC, 0x53380D13, 0x650A7354, 0x766A0ABB, 0x81C2C92E, 0x92722C85,
   0xA2BFE8A1, 0xA81A664B, 0xC24B8B70, 0xC76C51A3, 0xD192E819, 0xD6990624, 0xF40E3585, 0x106AA070,
   0x19A4C116, 0x1E376C08, 0x2748774C, 0x34B0BCB5, 0x391C0CB3, 0x4ED8AA4A, 0x5B9CCA4F, 0x682E6FF3,
   0x748F82EE, 0x78A5636F, 0x84C87814, 0x8CC70208, 0x90BEFFFA, 0xA4506CEB, 0xBEF9A3F7, 0xC67178F2]

/-- The initial hash value. -/
def shaInit : List Nat :=
  [0x6A09E667, 0xBB67AE85, 0x3C6EF372, 0xA54FF53A, 0x510E527F, 0x9B05688C, 0x1F83D9AB, 0x5BE0CD19]

/-- The message with its padding: a 1 bit, zeros, the length in bits. -/
def shaPad (m : List Byte) : List Byte := m ++ [0x80] ++ List.replicate ((119 - m.length % 64) % 64) 0 ++ be 8 (8 * m.length)

/-- One more word of the message schedule; the list holds the latest word first. -/
def shaNextWord (w : List Nat) : List Nat :=
  let a := w.getD 1 0
  let b := w.getD 14 0
  let s1 := rotr32 a 17 ^^^ rotr32 a 19 ^^^ (a >>> 10)
  let s0 := rotr32 b 7 ^^^ rotr32 b 18 ^^^ (b >>> 3)
  ((s1 + w.getD 6 0 + s0 + w.getD 15 0) % 2 ^ 32) :: w

/-- The 64 words of the message schedule of a block. -/
def shaSchedule (block : List Byte) : List Nat :=
  let w0 := ((List.range 16).map fun i => fieldBe block (4 * i) 4).reverse
  ((List.range 48).foldl (fun w _ => shaNextWord w) w0).reverse

/-- The eight working variables. -/
structure ShaVars where
  a : Nat
  b : Nat
  c : Nat
  d : Nat
  e : Nat
  f : Nat
  g : Nat
  h : Nat
  deriving DecidableEq, Repr

/-- One round: the round constant and the schedule word. -/
def shaRound (v : ShaVars) (kw : Nat × Nat) : ShaVars :=
  let t1 := v.h + (rotr32 v.e 6 ^^^ rotr32 v.e 11 ^^^ rotr32 v.e 25) + ((v.e &&& v.f) ^^^ ((v.e ^^^ 0xFFFFFFFF) &&& v.g)) + kw.1 + kw.2
  let t2 := (rotr32 v.a 2 ^^^ rotr32 v.a 13 ^^^ rotr32 v.a 22) + ((v.a &&& v.b) ^^^ (v.a &&& v.c) ^^^ (v.b &&& v.c))
  { a := (t1 + t2) % 2 ^ 32, b := v.a, c := v.b, d := v.c, e := (v.d + t1) % 2 ^ 32, f := v.e, g := v.f, h := v.g }

/-- The hash value after one more block. -/
def shaBlock (h : List Nat) (block : List Byte) : List Nat :=
  let x (i : Nat) : Nat := h.getD i 0
  let v := (shaK.zip (shaSchedule block)).foldl shaRound
    { a := x 0, b := x 1, c := x 2, d := x 3, e := x 4, f := x 5, g := x 6, h := x 7 }
  [x 0 + v.a, x 1 + v.b, x 2 + v.c, x 3 + v.d, x 4 + v.e, x 5 + v.f, x 6 + v.g, x 7 + v.h].map (· % 2 ^ 32)

/-- SHA-256 of a message. -/
@[irreducible] def sha256 (m : List Byte) : List Byte :=
  let p := shaPad m
  ((List.range (p.length / 64)).foldl (fun h i => shaBlock h (slice p (64 * i) 64)) shaInit).flatMap (be 4)

/-- HMAC-SHA-256 of a key and a message. -/
@[irreducible] def hmac (key m : List Byte) : List Byte :=
  let k := padTo 64 (if 64 < key.length then sha256 key else key)
  sha256 (k.map (· ^^^ 0x5C) ++ sha256 (k.map (· ^^^ 0x36) ++ m))

end Sys2Proof.Machine
end

