-- ==== Sys2Proof/Machine/Keys.lean ====
section
/-!
DEFINITION. The key store: slots, roots, the derivation tree, key writes and what consumers take from a slot (R442 to R451).
-/
set_option linter.unusedVariables false
namespace Sys2Proof.Machine

/-- The uses of a slot (R443), by their bit in the attribute word. -/
inductive KeyUse where
  | ccm | hmac | kdf
  deriving DecidableEq, Repr

/-- The bit of a use. -/
def KeyUse.bit : KeyUse → Nat | .ccm => 0 | .hmac => 1 | .kdf => 2

/-- A key slot. -/
def State.keySlot (s : State) (k : Nat) : KeySlot := mapGet (fun _ => {}) s.keys.slots k

/-- Store a key slot. -/
def State.setKeySlot (s : State) (k : Nat) (x : KeySlot) : State :=
  { s with keys := { s.keys with slots := mapSet (fun _ => {}) s.keys.slots k x } }

/-- A tree root. -/
def State.keyRoot (s : State) (k : Nat) : KeyRoot := mapGet (fun _ => {}) s.keys.roots k

/-- Store a tree root. -/
def State.setKeyRoot (s : State) (k : Nat) (x : KeyRoot) : State :=
  { s with keys := { s.keys with roots := mapSet (fun _ => {}) s.keys.roots k x } }

/-- Fields of an attribute word (KEY_SLOT[s]_ATTR). -/
def attrValid (a : Word) : Bool := F.KEY_SLOT_ATTR_VALID.get a == 1
def attrLock (a : Word) : Bool := F.KEY_SLOT_ATTR_LOCK.get a == 1
def attrKind (a : Word) : Nat := F.KEY_SLOT_ATTR_KIND.get a
def attrRoot (a : Word) : Nat := F.KEY_SLOT_ATTR_ROOT.get a
def attrDepth (a : Word) : Nat := F.KEY_SLOT_ATTR_DEPTH.get a

/-- The life-cycle state (R452). -/
def State.lifeCycle (s : State) : Nat := s.fld Reg.KEY_LC F.KEY_LC_STATE

/-- The labels of a path: a length byte and label per level, 1 to 64 bytes each; none for a malformed path (R444, R459). -/
def pathLabels : Nat → List Byte → Option (List (List Byte))
  | 0, [] => some []
  | 0, _ :: _ => none
  | _ + 1, [] => none
  | k + 1, n :: rest =>
    let len := n.toNat
    if len < 1 || 64 < len || rest.length < len then none
    else (pathLabels k (rest.drop len)).map fun ls => rest.take len :: ls

/-- The derivation of R444, level by level. -/
def deriveTree : List Byte → Nat → List (List Byte) → List Byte
  | k, _, [] => k
  | k, i, l :: ls => deriveTree (hmac k (be 4 1 ++ l ++ [0] ++ be 1 i ++ be 4 256)) (i + 1) ls

/-- The key that an attribute word and its contents give for a use; none where the slot is invalid, of another use or of the wrong length
(R443, R444). -/
def State.keyFrom (s : State) (attr : Word) (data : List Byte) (u : KeyUse) : Option (List Byte) :=
  if !attrValid attr || !bitOf attr.toNat u.bit then none
  else if attrKind attr = 1 then (if u = .ccm then some data else none)
  else if attrKind attr = 2 then (if u = .ccm then none else some data)
  else if attrKind attr = 3 then
    let r := s.keyRoot (attrRoot attr)
    if !attrValid r.attr then none
    else (pathLabels (attrDepth attr) data).map fun ls =>
      let k := deriveTree r.data 1 ls
      if u = .ccm then k.take 16 else k
  else none

/-- The key the module sends under (R449). -/
def State.sendKey (s : State) (k : Nat) (u : KeyUse) : Option (List Byte) :=
  let x := s.keySlot k
  match x.prev with
  | some p => if x.prevSends then s.keyFrom p.1 p.2 u else s.keyFrom x.attr x.data u
  | none => s.keyFrom x.attr x.data u

/-- The keys that check received traffic (R449). -/
def State.checkKeys (s : State) (k : Nat) (u : KeyUse) : List (List Byte) :=
  let x := s.keySlot k
  (s.keyFrom x.attr x.data u).toList ++ (match x.prev with | some p => (s.keyFrom p.1 p.2 u).toList | none => [])

/-- A use of a TREE slot looks its working key up in the cache: 64 entries, the least recently used replaced first (R445). -/
def State.touchKey (s : State) (k : Nat) : State :=
  let x := s.keySlot k
  if attrKind x.attr = 3 && attrValid x.attr then
    let e := (attrRoot x.attr, x.data)
    let hit := s.keys.cache.contains e
    let t : State := { s with keys := { s.keys with cache := (e :: s.keys.cache.filter (· ≠ e)).take 64 } }
    t.bumpSat Reg.KEY_CACHE (if hit then F.KEY_CACHE_HITS else F.KEY_CACHE_MISSES)
  else s

/-- The slot of the Carzon master (R450). -/
def State.czMaster (s : State) : Option (List Byte) :=
  if s.flag Reg.KEY_CZNSRC F.KEY_CZNSRC_VALID then s.sendKey (s.fld Reg.KEY_CZNSRC F.KEY_CZNSRC_SLOT) .kdf else none

/-- ASCII text as bytes. -/
def ascii (t : String) : List Byte := t.toList.map fun c => BitVec.ofNat 8 c.toNat

/-- The node root key K_nr of a UID under a master (R451). -/
def nodeRootKey (master : List Byte) (uid : Nat) : List Byte :=
  (hmac master (be 4 1 ++ ascii "CZN-NR" ++ [0] ++ be 8 uid ++ be 4 0x80)).take 16

/-! ### Writing keys (R446, R447) -/

/-- The fields of an attribute word: its reserved bits are not written (R8). -/
def attrFields : Word := 0xF00FF007

/-- The length of a key for its kind. -/
def kindLen (kind : Nat) : Nat := if kind = 1 then 16 else 32

/-- Is the kind allowed by the mode (R442)? -/
def modeAllows (mode kind : Nat) : Bool :=
  if kind = 3 then mode == 1 || mode == 2 else mode == 0 || mode == 2

/-- Do attribute word and contents agree: a kind, uses its length serves, a root and a path in range (R442 to R444)? -/
def attrOk (mode : Nat) (attr : Word) (data : List Byte) : Bool :=
  let kind := attrKind attr
  let ccm := bitOf attr.toNat 0
  let longUse := bitOf attr.toNat 1 || bitOf attr.toNat 2
  kind != 0 && modeAllows mode kind
    && (if kind = 3 then
          decide (attrRoot attr ≤ 7) && decide (1 ≤ attrDepth attr) && decide (attrDepth attr ≤ 8) && (pathLabels (attrDepth attr) data).isSome
        else
          data.length == kindLen kind && (if kind = 1 then !longUse else !ccm))

/-- A life-cycle transition or power-fail warning is in progress (R447). -/
def State.keyBusy (s : State) : Bool := s.flag Reg.KEY_LC F.KEY_LC_PENDING || s.pfw

/-- The checks of R447 in their order: REJ_CAUSE and the status of a command. -/
def State.keyWriteCheck (s : State) (lock attrGood : Bool) : Option (Nat × Nat) :=
  let lc := s.lifeCycle
  if lc = 2 && !s.maint then some (1, St.unauthorised)
  else if lc = 2 && lock then some (2, St.locked)
  else if !attrGood then some (3, St.keyAttr)
  else if s.keyBusy then some (4, St.busy)
  else if lc = 0 || lc = 3 then some (5, St.refused)
  else none

/-- Write a slot: the replaced key keeps sending for the delay and checking for the grace after it (R449). -/
def State.keySet (s : State) (k : Nat) (attr : Word) (delay : Nat) (data : List Byte) : State :=
  let x := s.keySlot k
  let a := F.KEY_SLOT_ATTR_VALID.set attr 1
  let at_ := s.now + ms delay
  let y : KeySlot := if attrValid x.attr then
      { attr := a, data := data, prev := some (x.attr, x.data), prevSends := delay != 0, sendAt := at_
        graceEnd := at_ + ms (s.fld Reg.KEY_GRACE F.KEY_GRACE_MS) }
    else { attr := a, data := data }
  (s.setKeySlot k y).event 0x1602 3 noInst ([1] ++ le 1 k ++ le 4 a.toNat)

/-- Clear a slot, without grace (R449). -/
def State.keyClear (s : State) (k : Nat) : State :=
  (s.setKeySlot k {}).event 0x1602 3 noInst ([3] ++ le 1 k ++ le 4 0)

/-- Write a root: cache entries derived from it go (R445). -/
def State.keyRootSet (s : State) (r : Nat) (lock : Bool) (data : List Byte) : State :=
  let a := F.KEY_ROOT_ATTR_VALID.set (F.KEY_SLOT_ATTR_LOCK.set 0 (bit lock)) 1
  let t := s.setKeyRoot r { attr := a, data := data }
  ({ t with keys := { t.keys with cache := t.keys.cache.filter (·.1 ≠ r) } } : State).event 0x1602 3 noInst ([2] ++ le 1 r ++ le 4 a.toNat)

/-- A refused write: WR_REJ and REJ_CAUSE, and its event (R447, R461). -/
def State.keyReject (s : State) (target index cause : Nat) : State :=
  ((s.setF Reg.KEY_STATUS F.KEY_STATUS_WR_REJ 1).setF Reg.KEY_STATUS F.KEY_STATUS_REJ_CAUSE cause).event 0x1603 1 noInst
    (le 1 target ++ le 1 index ++ le 1 cause)

/-- A slot held by an open transaction is written directly: that transaction is doomed (R110, R448). -/
def State.doomKey (s : State) (k : Nat) : State :=
  (List.range 4).foldl (fun t j =>
    let x := t.txn j
    if x.phase != .free && !x.doomed && x.changes.any (fun c => c.targets.contains (.key k)) then
      let u := (t.setTxn j { x with doomed := true, phase := .opened, point := 0, stamp := 0, waitFrom := none
                                    named := t.now }).bump Reg.TXN_CNT_ABORT
      if x.phase == .waiting then u.finishAll (Wait.commits j) St.conflict 0 0 else u
    else t) s

/-- Apply a staged key change (R448). -/
def State.applyKey (s : State) (k : Nat) : KeyChange → State
  | .set attr delay data => s.keySet k attr delay data
  | .clear => s.keyClear k

/-- Zeroisation: every slot, root, cache entry and named master, at one instant (R453). -/
def State.zeroiseKeys (s : State) : State :=
  let t : State := { s with keys := { s.keys with slots := [], roots := [], cache := [], zeroised := true } }
  (t.setF Reg.KEY_CZNSRC F.KEY_CZNSRC_VALID 0).setF Reg.KEY_LC F.KEY_LC_OWNER_LOCK 0

end Sys2Proof.Machine
end

