-- ==== Sys2Proof/Machine/Frames.lean ====
section
/-!
DEFINITION. What the frames of Carzon, of the radio, of the peer link and of the witness share: the module's UID, sender counters, nonces, receive windows
(R279, R283, R284, R287).
-/
set_option linter.unusedVariables false
namespace Sys2Proof.Machine

/-- The module's UID: its serial number (R279). -/
def State.uid (s : State) : Nat := s.ident.serial.toNat

/-- The end of the counter values reserved in flash for a port. -/
def State.counterEnd (s : State) (port : Nat) : Nat := mapGet (fun _ => 0) s.flash.counters port

/-- The counter after the last one sent; values are reserved in flash in blocks of 65,536. None is sent past 0xFFFF_FFFF (R284). -/
def State.takeCounter (s : State) (port last : Nat) : Option (Nat × State) :=
  let n := last + 1
  if 2 ^ 32 ≤ n then none
  else if s.counterEnd port ≤ n then
    some (n, { s with flash := { s.flash with counters := mapSet (fun _ => 0) s.flash.counters port ((n / 65536 + 1) * 65536) } })
  else some (n, s)

/-- The last counter after a reset: the sender continues from the start of the next unused block (R284). -/
def State.resumeCounter (s : State) (port : Nat) : Nat := s.counterEnd port - 1

/-- The 13-byte nonce: UID, counter, port (R283). -/
def nonceOf (uid counter port : Nat) : List Byte := be 8 uid ++ be 4 counter ++ be 1 port

/-! ### Events that are recorded at most once per second -/

/-- Instants of the last second, this one included. -/
def State.lately (s : State) (l : List Nat) : List Nat := s.now :: l.filter fun a => decide (s.now < a + secs 1)

/-- A second has passed since the last event, if there was one. -/
def State.mayRecord (s : State) (last : Option Nat) : Bool := match last with | some a => decide (a + secs 1 ≤ s.now) | none => true

/-- What a counter is to its receive window (R287). -/
inductive Fresh where
  | new | repeat_ | old
  deriving DecidableEq, Repr

/-- The window after a counter, and what the counter was (R287). -/
def windowStep (hi win c : Nat) : Fresh × Nat × Nat :=
  if hi < c then (.new, c, if 32 ≤ c - hi then 1 else (win * 2 ^ (c - hi) + 1) % 2 ^ 32)
  else if 32 ≤ hi - c then (.old, hi, win)
  else if bitOf win (hi - c) then (.repeat_, hi, win)
  else (.new, hi, putBits win (hi - c) 1 1)

/-- The windows of one sender after a frame of a key class group and generation. -/
def acceptCounter (ws : List CznWindow) (disc : Bool) (gen c : Nat) : Fresh × List CznWindow :=
  match ws.find? (fun w => w.disc == disc && w.gen == gen) with
  | some w =>
    let r := windowStep w.hi w.win c
    (r.1, { w with hi := r.2.1, win := r.2.2 } :: ws.filter (· ≠ w))
  | none => (.new, { disc := disc, gen := gen, hi := c, win := 1 } :: ws)

/-- Seal a body under AES-128-CCM: the sealed bytes end with the MIC (R283, R430). -/
def sealBody (key : List Byte) (uid counter port : Nat) (aad body : List Byte) : List Byte := ccmSeal 8 key (nonceOf uid counter port) aad body

/-- Open a sealed body under the first key that verifies it. -/
def openWith (keys : List (List Byte)) (uid counter port : Nat) (aad sealed_ : List Byte) : Option (List Byte) :=
  keys.findSome? fun k => ccmOpen 8 k (nonceOf uid counter port) aad sealed_

end Sys2Proof.Machine
end

