-- ==== Sys2Proof/Machine/Mirror.lean ====
section
/-!
DEFINITION. Peer frames and the mirroring of applications to the standby (R115, R419, R430 to R432), with the applications that wait for the end of a
charge (R207).
-/
set_option linter.unusedVariables false
namespace Sys2Proof.Machine

/-! ### Peer frames (R430) -/

/-- The address of a unit's gigabit port, formed from its UID (R265, ETH[g]_ADDR). -/
def ethMac (uid g : Nat) : List Byte := [2] ++ be 3 uid ++ [0x80] ++ be 1 g

/-- The module is one of a pair (R438). -/
def State.paired (s : State) : Bool := !s.defaulted && s.cfg.rdn.mode == 1

/-- The EtherType of peer frames and witness messages. -/
def State.rdnEtype (s : State) : Nat := s.fld Reg.RDN_ETYPE F.RDN_ETYPE_ETYPE

/-- The claim that the module sends: granted epoch as ACTIVE, own epoch as ALONE, 0 otherwise (R411, R412). -/
def State.claim (s : State) : Nat := if s.leads then s.rdn.epoch * 2 + s.unit else 0

/-- The peer protocol in use: 4 or 3 (R429). -/
def State.rdnProto (s : State) : Nat := s.fld Reg.RDN_CFG F.RDN_CFG_PROTO

/-- Send a peer frame of a type; nothing goes out without K_peer or past the last counter. -/
def State.sendPeer (s : State) (typ : Nat) (body : List Byte) : State :=
  if !s.paired then s
  else match s.sendKey s.cfg.rdn.peerSlot .ccm, s.takeCounter 0xFE s.rdn.txPeer with
    | some key, some (n, t) =>
      let hdr := be 1 t.rdnProto ++ be 1 typ ++ [0, 0] ++ be 8 t.uid ++ be 4 n ++ be 4 t.claim ++ be 2 body.length ++ [0, 0]
      let t : State := { t.touchKey s.cfg.rdn.peerSlot with rdn := { t.rdn with txPeer := n } }
      t.ethOut 0 (.eth 0 (ethMac s.cfg.rdn.peerUid 0 ++ ethMac t.uid 0 ++ be 2 t.rdnEtype ++ hdr ++ sealBody key t.uid n 0xFE hdr body))
    | _, _ => s

/-- Bytes of records that one frame can carry: ETH[0]_CTL.MAXLEN less Ethernet, peer header, MIC and the DELTA or SEED header. -/
def State.partRoom (s : State) : Nat := s.fld (Reg.ETH_CTL 0) F.ETH_CTL_MAXLEN - 18 - 32 - 12

/-- One record of a DELTA or SEED body (R432). -/
def peerRecord (kind : Nat) (data : List Byte) : List Byte := be 1 kind ++ [0] ++ be 2 data.length ++ data

/-- Cut a list into pieces of at most `n`; `fuel` bounds the pieces. -/
def chunks {α : Type} (n : Nat) : Nat → List α → List (List α)
  | 0, _ => []
  | f + 1, l => if l.isEmpty then [] else l.take (max 1 n) :: chunks n f (l.drop (max 1 n))

/-- Records of a kind whose data is a count and entries of equal size, as many as the entries need: a record never spans two parts (R432). -/
def countedRecords (room kind size : Nat) (head : List Byte) (entries : List (List Byte)) : List (List Byte) :=
  (chunks ((room - 8 - head.length) / size) entries.length entries).map fun es => peerRecord kind (head ++ be 4 es.length ++ es.flatten)

/-- Pack records into parts. -/
def packParts (room : Nat) : List (List Byte) → List Byte → List (List Byte)
  | [], cur => [cur]
  | r :: rs, cur => if cur.isEmpty || cur.length + r.length ≤ room then packParts room rs (cur ++ r) else cur :: packParts room rs r

/-- POINTS records (R432). DESIGN CHOICE (log entry 38): the point record stands in the frame as R146 lays it out, little-endian, while the frame is in network order (R10). -/
def State.pointRecords (s : State) (addrs : List Nat) : List (List Byte) :=
  countedRecords s.partRoom 1 20 [] (addrs.map fun a => be 4 a ++ s.recBytes a)

/-- The R166 entry of a force, little-endian as R166 lays it out (DESIGN CHOICE, log entry 38), with its underlying writer and stamp in network order (R432). -/
def State.forceBytes (s : State) (a : Nat) (f : Force) : List Byte :=
  let u := f.under.getD {}
  le 4 a ++ le 4 f.value.toNat ++ le 1 ((s.info a).typ + f.quality * 16) ++ le 1 (bit f.orphan + 2 * bit f.under.isSome) ++ [0, 0]
    ++ le 4 f.absorbed ++ le 8 f.setStamp ++ le 4 (if f.under.isSome then u.value.toNat else 0)
    ++ le 1 (if f.under.isSome then u.quality * 16 else 0) ++ [0, 0, 0] ++ be 2 u.writer ++ List.replicate 6 0 ++ be 8 u.stamp

/-- FORCES records of the forces that stand on some points. -/
def State.forceRecords (s : State) (addrs : List Nat) : List (List Byte) :=
  countedRecords s.partRoom 3 48 [] ((s.forces.filter fun e => addrs.contains e.1).map fun e => s.forceBytes e.1 e.2)

/-- A host command whose effect a delta carries (R115). -/
structure DeltaCmd where
  ring : Nat
  cmdId : Word
  op : Nat
  status : Nat
  flags : Nat
  txn : Nat
  r0 : Nat
  r1 : Nat
  deriving DecidableEq, Repr

/-- COMMANDS records; commands without an ID are not carried (R115). -/
def commandRecords (cs : List DeltaCmd) : List (List Byte) :=
  (cs.filter fun c => c.cmdId ≠ 0).map fun c =>
    peerRecord 7 (be 1 c.ring ++ [0, 0, 0] ++ be 4 1 ++ be 4 c.cmdId.toNat ++ be 2 c.op ++ be 1 c.status ++ be 1 c.flags ++ be 2 c.txn ++ [0, 0]
      ++ be 4 c.r0 ++ be 4 c.r1)

/-- The standby has fallen behind: it must seed again (R420). -/
def State.mirrorLag (s : State) : State :=
  ({ s with rdn := { s.rdn with mirror := false, unacked := [] } } : State).event 0x140A 1 noInst (le 1 s.rdn.unacked.length)

/-- Show RDN_STATUS.UNACKED. -/
def State.showUnacked (s : State) : State := s.setF Reg.RDN_STATUS F.RDN_STATUS_UNACKED (min 17 s.rdn.unacked.length)

/-- Send one DELTA of records for the latest application (R419), in as many parts as it needs; the count of R420 follows. -/
def State.sendDelta (s : State) (records : List (List Byte)) : State :=
  if !(s.role == .active) || !s.paired then s
  else
    let q := addMod32 (s.rdN Reg.RDN_DELTASENT) 1
    let parts := packParts s.partRoom records []
    let t := (s.wrN Reg.RDN_DELTASENT q)
    let t := (List.range parts.length).foldl (fun (t : State) i =>
      t.sendPeer 2 (be 4 q ++ be 4 s.batch ++ be 2 i ++ be 2 (parts.length - 1) ++ parts.getD i [])) t
    if !t.rdn.mirror then t
    else
      let u : State := { t with rdn := { t.rdn with unacked := t.rdn.unacked ++ [q] } }
      let u := if u.fld Reg.RDN_CFG F.RDN_CFG_LAG < u.rdn.unacked.length then u.mirrorLag else u
      u.showUnacked

/-! ### Mirrored applications (R152, R207) -/

/-- One mirrored application with the host commands and further records that travel with it (R115, R419). -/
def State.applyWith (s : State) (ops : List PtOp) (cmds : List DeltaCmd) (more : List (List Byte)) : State :=
  let t := s.apply ops
  let addrs := ops.foldl (fun l o => insertNat o.addr l) []
  t.sendDelta (t.pointRecords addrs ++ t.forceRecords addrs ++ more ++ commandRecords cmds)

/-- A charge is under way (R207). -/
def State.charging (s : State) : Bool := s.cyc.phase == .charging

/-- One mirrored application that is not a host command's: directly, or directly after the charge (R207). A standby takes these points from deltas
alone (R419). -/
def State.applyM (s : State) (ops : List PtOp) : State :=
  if ops.isEmpty then s
  else if s.charging then { s with deferred := s.deferred ++ [{ ops := ops, host := none }] }
  else s.applyWith ops [] []

/-- Result0 of an untagged host write or force change: whether a force absorbed it, whether the point was forced, whether a write had been
absorbed (R155, R162, R164). -/
def State.hostResult (s : State) : PtOp → Nat
  | .write w => bit (s.force? w.addr).isSome
  | .force a _ _ _ => bit (s.force? a).isSome
  | .unforce a => bit (match s.force? a with | some f => f.under.isSome | none => false)
  | _ => 0

/-- The operation stamped at its application (R151). -/
def PtOp.restamp (st : Nat) : PtOp → PtOp
  | .write w => .write { w with stamp := st }
  | .force a v q _ => .force a v q st
  | o => o

/-- What a delta says of a command that completed OK. -/
def CmdTag.delta (t : CmdTag) (r0 r1 : Nat) : DeltaCmd :=
  { ring := t.ring, cmdId := t.cmdId, op := t.op, status := St.ok, flags := 0, txn := t.txn, r0 := r0, r1 := r1 }

/-- The application of an untagged host command: directly, or directly after the charge (R152, R207). -/
def State.applyHost (s : State) (t : CmdTag) (op : PtOp) : Res :=
  if s.charging then .wait .charge { s with deferred := s.deferred ++ [{ ops := [op], host := some t }] }
  else
    let r := s.hostResult op
    .okWith r 0 (s.applyWith [op.restamp s.stamp] [t.delta r 0] [])

/-- Apply what waited for the end of the charge, in the order of arrival (R207). -/
def State.applyDeferred (s : State) : State :=
  s.deferred.foldl (fun t d =>
    match d.host, d.ops with
    | some g, op :: _ =>
      match t.waits.find? (fun w => w.tag == g && w.kind == .charge) with
      | some w =>
        let r := t.hostResult op
        (t.applyWith [op.restamp t.stamp] [g.delta r 0] []).finish w St.ok r 0
      | none => t
    | _, [] => t
    | _, _ => t.applyWith d.ops [] []) { s with deferred := [] }

end Sys2Proof.Machine
end

