-- ==== Sys2Proof/Machine/Rings.lean ====
section
/-!
DEFINITION. The host interface: PCIe events, ring set-up, doorbells, writebacks, runners, tundishes and the host interface's own
commands (R75 to R103, R117 to R127, R139).
-/
set_option linter.unusedVariables false
namespace Sys2Proof.Machine

/-! ### Ring set-up (R85) -/

/-- BASE and WB are aligned, SIZE is in range and the format allows the ring (R80, R85). -/
def State.setupOk (s : State) (n : Nat) : Bool :=
  let size := s.fld (Reg.RNG_CFG n) F.RNG_CFG_SIZE
  let al := min (2 ^ size * s.entrySize n) 4096
  decide (4 ≤ size ∧ size ≤ 16) && s.pairAddr (Reg.RNG_BASELO n) (Reg.RNG_BASEHI n) % al == 0
    && s.pairAddr (Reg.RNG_WBLO n) (Reg.RNG_WBHI n) % 8 == 0 && !(n == 15 && s.fmt1)

/-- Set a write-one-to-clear error bit of RNG[n]_STATUS, and HIF_ERR.RING_ERR with it. -/
def State.ringErr (s : State) (n : Nat) (f : Fld) : State := (s.setF (Reg.RNG_STATUS n) f 1).setHifErr 2

/-- Enable a ring: indices 0, the enable writeback, a fresh lost count; a halted runner is released (R85, R123). A mark of entries lost while the ring was disabled stands
until an entry carries it (R103). DBL[n]_INDEX reads 0 again with the index it announces (DESIGN CHOICE: R85 says that both indices are 0 at enable, the register's table
that a read returns the last value written; log entry 41). -/
def State.enableRing (s : State) (n : Nat) : State :=
  if s.setupOk n then
    let t := (((s.setF (Reg.RNG_CFG n) F.RNG_CFG_ENABLE 1).wrN (Reg.RNG_HOSTIDX n) 0).wrN (Reg.RNG_MODIDX n) 0).wrN (Reg.DBL_INDEX n) 0
    let r := t.ring n
    let t := t.setRing n { r with lost := 0, uncovered := 0, sent := 0, rd := 0, rdBuf := none }
    let t := (t.setF (Reg.DMA_STATUS n) F.DMA_STATUS_HALTED 0).setF (Reg.DMA_STATUS n) F.DMA_STATUS_CONSEC 0
    t.writeback n
  else s.ringErr n F.RNG_STATUS_BAD_SETUP

/-- Disable a ring: intake stops; packets waiting on a discarding module-to-host ring count as lost. The completions of ring 1, the
records of ring 4 and the held records of rings 5 and 6 wait (R85, R103). -/
def State.disableRing (s : State) (n : Nat) : State :=
  let t := s.setF (Reg.RNG_CFG n) F.RNG_CFG_ENABLE 0
  let t := if t.busOn then t.writeback n else t
  if [3, 7, 9, 13].contains n then
    let k := (t.ring n).outq.length
    let t := t.setRing n { t.ring n with outq := [], sent := 0 }
    if k = 0 then t else t.loseEntry n k
  else t.setRing n { t.ring n with sent := 0, rd := 0, rdBuf := none }

/-- ESIZE of rings 7, 9 and 13 is held to 6 to 12 (R84). -/
def esizeWrite (n v old : Nat) : Nat := if n = 7 ∨ n = 9 ∨ n = 13 then clampNat 6 12 v else old

/-- A write of RNG[n]_CFG (R84, R85). -/
def State.writeRingCfg (s : State) (n : Nat) (v : Word) : State :=
  if 16 ≤ n then s
  else
    let a := Reg.RNG_CFG n
    let on := s.ringOn n
    let es := esizeWrite n (F.RNG_CFG_ESIZE.get v) (s.fld a F.RNG_CFG_ESIZE)
    let sz := F.RNG_CFG_SIZE.get v
    let t := (s.setF a F.RNG_CFG_VECTOR (F.RNG_CFG_VECTOR.get v)).setF a F.RNG_CFG_IRQ_EN (F.RNG_CFG_IRQ_EN.get v)
    let t := if on then
        (if es ≠ s.fld a F.RNG_CFG_ESIZE || sz ≠ s.fld a F.RNG_CFG_SIZE then t.ringErr n F.RNG_STATUS_CFG_REFUSED else t)
      else (t.setF a F.RNG_CFG_ESIZE es).setF a F.RNG_CFG_SIZE sz
    let en := F.RNG_CFG_ENABLE.get v == 1
    if en && !on then t.enableRing n else if !en && on then t.disableRing n else t

/-- A write of a base or writeback register: refused while the ring is enabled if it would change it (R85). -/
def State.writeRingAddr (s : State) (a n : Nat) (v : Word) : State :=
  if s.ringOn n then (if v = s.rd a then s else s.ringErr n F.RNG_STATUS_CFG_REFUSED) else s.wr a v

/-! ### Doorbells (R86, R87) -/

/-- Would the index move the host's index backward, or make the occupancy exceed the ring's size (R87)? On a module-to-host ring the
host's index may not pass the module's. -/
def State.doorbellBad (s : State) (n : Nat) (v : Word) : Bool :=
  let h := s.rdN (Reg.RNG_HOSTIDX n)
  let m := s.rdN (Reg.RNG_MODIDX n)
  let occ := if hostToModule n then (v.toNat + 2 ^ 32 - m) % 2 ^ 32 else (m + 2 ^ 32 - v.toNat) % 2 ^ 32
  let fwd := (v.toNat + 2 ^ 32 - h) % 2 ^ 32
  decide (2 ^ 31 ≤ fwd) || decide (s.ringSize n < occ)

/-- A doorbell on a ready module (R86, R87). On a disabled ring even a write of the value held sets DB_DISABLED (DESIGN CHOICE: R86 says that such a write has no effect,
R87 that a doorbell on a disabled ring sets the flag, and neither gives way; log entry 42). -/
def State.ringDoorbell (s : State) (n : Nat) (v : Word) : State :=
  if !s.ringOn n then s.ringErr n F.RNG_STATUS_DB_DISABLED
  else if v = s.rd (Reg.RNG_HOSTIDX n) then s
  else if s.doorbellBad n v then
    (s.event 0x0201 1 n (le 1 n ++ le 4 v.toNat ++ le 4 (s.rdN (Reg.RNG_HOSTIDX n)))).ringErr n F.RNG_STATUS_DB_RANGE
  else s.wr (Reg.RNG_HOSTIDX n) v

/-- A doorbell write: discarded before stage 0x2 has completed, held until READY, acted on afterwards (R87, R480). -/
def State.writeDoorbell (s : State) (n : Nat) (v : Word) : State :=
  if 16 ≤ n || !s.answers 0x2000 then s
  else
    let t := s.wr (Reg.DBL_INDEX n) v
    if t.flag Reg.HIF_STATUS F.HIF_STATUS_READY then t.ringDoorbell n v
    else (t.setRing n { t.ring n with dbHeld := some v }).setHifErr 0

/-- READY: doorbells held since stage 0x2 are acted on where the ring is then enabled (R87). -/
def State.becomeReady (s : State) : State :=
  (List.range 16).foldl (fun t n =>
    match (t.ring n).dbHeld with
    | some v =>
      let u := t.setRing n { t.ring n with dbHeld := none }
      if u.ringOn n then u.ringDoorbell n v else u
    | none => t) (s.setF Reg.HIF_STATUS F.HIF_STATUS_READY 1)

/-! ### Version and PCIe events (R78, R79, R82) -/

/-- A write of HIF_VERSION.SELECT (R79). -/
def State.writeVersion (s : State) (v : Word) : State :=
  let sel := F.HIF_VERSION_SELECT.get v
  if (List.range 16).any s.ringOn || !bitOf (s.fld Reg.HIF_VERSION F.HIF_VERSION_SUPPORTED) sel then s.setHifErr 1
  else
    let t := s.setF Reg.HIF_VERSION F.HIF_VERSION_SELECT sel
    t.setF (Reg.RNG_CFG 1) F.RNG_CFG_ESIZE (if sel = 1 then 4 else 5)

/-- Send every pending message that may now be sent (R82). -/
def State.sendPending (s : State) : State :=
  if s.pcie.msixEnable && s.busOn then
    (List.range 32).foldl (fun t v =>
      if bitOf (t.rdN msixPba) v && !t.msixMasked v then (t.wrN msixPba (putBits (t.rdN msixPba) v 1 0)).emit (t.msixOut v) else t) s
  else s

/-- The bus has come on: writebacks owed are written, rings resume where they stopped, pending messages go (R78). -/
def State.resumeRings (s : State) : State :=
  ((List.range 16).foldl (fun t n => if (t.ring n).wbOwed then t.writeback n else t) s).sendPending

/-- BUS_MASTER_ENABLE_CHANGE: Bus Master Enable and the power state take new values; the rings pause or resume, and the writebacks whose
PAUSED flag changes are written once the bus is on (R78, R89). -/
def execBusMasterEnableChange (bme d3hot : Bool) (s : State) : Answer :=
  let was := s.busOn
  let t : State := { s with pcie := { s.pcie with bme := bme, d3hot := d3hot } }
  .next (if t.busOn == was then t
    else if t.busOn then t.resumeRings
    else (List.range 16).foldl (fun u n => if u.ringOn n then u.setRing n { u.ring n with wbOwed := true } else u) t)

/-- The registers that a Function Level Reset returns to their reset values: RNG[n]_*, DBL[n]_INDEX, the MSI-X table and PBA (R482). -/
def flrRegs (a : Nat) : Bool := decide (0x2000 ≤ a ∧ a < 0x4000) || decide (0x1800 ≤ a ∧ a < 0x1C08)

/-- A command's completion is posted no more (R78). -/
def CmdTag.muted (t : CmdTag) : CmdTag := { t with mute := true }

/-- Every command taken runs on without posting: those that wait, those that a tundish or a transmit queue holds, and those that the end of the charge applies (R78). -/
def State.muteAll (s : State) : State :=
  let port (x : TrunkPort) : TrunkPort := { x with queue := x.queue.map fun f => match f.kind with
    | .host b g => { f with kind := .host b g.muted }
    | _ => f }
  { s with
    waits := s.waits.map fun w => { tag := w.tag.muted, kind := w.kind.mapSync (·.map CmdTag.muted) }
    held := s.held.map fun h => { h with tag := h.tag.muted, before := h.before.map CmdTag.muted }
    deferred := s.deferred.map fun d => { d with host := d.host.map CmdTag.muted }
    czn := { s.czn with ports := s.czn.ports.map fun e => (e.1, port e.2) } }

/-- What a ring holds after a Function Level Reset: set-up, indices and coalescing state are at reset values; records that wait with ring 4, 5 or 6 stand (R103), other entries on
their way are discarded, which the next entry reports; a flush that waits and the command-ID record stand (R78, R98). -/
def RingSt.afterFlr (n : Nat) (r : RingSt) : RingSt :=
  let keep := [4, 5, 6].contains n
  { r with uncovered := 0, firstAt := 0, lost := 0, sent := 0, rd := 0, rdBuf := none, nextOk := 0, dbHeld := none, wbOwed := false
           loss := r.loss || (!keep && [3, 7, 9, 13].contains n && !r.outq.isEmpty)
           outq := if keep then r.outq.map fun p => { p with started := false } else [] }

/-- What a Function Level Reset or link down returns to reset values: ring state, interrupt state and MSI-X (R78, R482). ESIZE of ring 1 is that of the format selected
(R80). Max Payload Size outlives a Function Level Reset, the rest of Device Control does not (PRESUMED, PCIe Base 3.0; log entry 43). -/
def State.flr (s : State) (linkDown : Bool) : State :=
  let t : State := { s.muteAll with
    regs := s.regs.filter fun e => !flrRegs e.1
    pcie := if linkDown then {} else { mps := s.pcie.mps }
    rings := s.rings.map fun e => (e.1, e.2.afterFlr e.1) }
  t.setF (Reg.RNG_CFG 1) F.RNG_CFG_ESIZE (if s.fmt1 then 4 else 5)

/-- FUNC_RESET: a Function Level Reset or link down (R78, R482). Open transactions abort, commands taken run on without posting, the command-ID record stays. -/
def execFuncReset (linkDown : Bool) (s : State) : Answer :=
  let t := (((s.flr linkDown).abortAll 3).event 0x0202 1 noInst (le 1 (if linkDown then 2 else 1))).setHifErr 3
  .next (if linkDown then (t.wrN Reg.HIF_LINK 0).wrN Reg.DMA_LINKRATE 0 else t)

/-- Sizes of Device Control in bytes by their code (R75, PCIe Base 3.0). -/
def pcieSize (code : Nat) : Nat := 128 * 2 ^ code

/-- A write of Device Control (R75, R76; bits as in PCIe Base 3.0: 4 Enable Relaxed Ordering, 7:5 Max Payload Size, 14:12 Max Read Request Size). A size that the module
does not support leaves the field (DESIGN CHOICE, log entry 43). -/
def State.writeDevCtl (s : State) (v : Word) : State :=
  let mps := bitsOf v.toNat 5 3
  let mrrs := bitsOf v.toNat 12 3
  { s with pcie := { s.pcie with ro := bitOf v.toNat 4
                                 mps := if mps ≤ 2 then pcieSize mps else s.pcie.mps
                                 mrrs := if mrrs ≤ 5 then pcieSize mrrs else s.pcie.mrrs } }

/-- A write of MSI-X Message Control (R82; bits as in PCIe Base 3.0: 31 MSI-X Enable and 30 Function Mask of the capability's first word). -/
def State.writeMsixCtl (s : State) (v : Word) : State :=
  ({ s with pcie := { s.pcie with msixEnable := bitOf v.toNat 31, fmask := bitOf v.toNat 30 } } : State).sendPending

/-- MSIX_UNMASK: MSI-X is enabled in configuration space, or a vector is unmasked; what is pending and may be sent is sent (R82). -/
def execMsixUnmask (enable : Bool) (vector : Nat) (s : State) : Answer :=
  let t : State :=
    if enable then { s with pcie := { s.pcie with msixEnable := true } }
    else if vector < 32 then s.wrN (msixEntry vector 3) (putBits (s.rdN (msixEntry vector 3)) 0 1 0)
    else s
  .next t.sendPending

/-- Bytes per µs of a trained link (R121). -/
def linkRate (width speed : Nat) : Nat :=
  if speed = 3 then (if width = 4 then 3938 else if width = 2 then 1969 else 984)
  else if speed = 2 then (if width = 4 then 2000 else if width = 2 then 1000 else 500)
  else (if width = 4 then 1000 else if width = 2 then 500 else 250)

/-- PCIE_LINK_TRAINED: HIF_LINK and DMA_LINKRATE take the trained width and speed (R121). -/
def execPcieLinkTrained (width speed : Nat) (s : State) : Answer :=
  if [1, 2, 4].contains width && [1, 2, 3].contains speed then
    .next ((s.wrN Reg.HIF_LINK (width * 16 + speed)).wrN Reg.DMA_LINKRATE (linkRate width speed))
  else .next s

/-! ### Runners (R117 to R123) -/

/-- Has the next descriptor of a host-to-module ring bytes still to be read, with room in the tundish for the buffer that comes with it (R120, R124)? -/
def State.readMore (s : State) (n : Nat) : Bool :=
  !s.readWhole n && (match (s.ring n).rdBuf with | some (_, len) => decide (s.tunBytes n + len ≤ 65536) | none => true)

/-- Has the runner of a ring a burst ready: the ring enabled, not paused, not halted, and something to move with room for it (R120)? -/
def State.runnerReady (s : State) (n : Nat) : Bool :=
  if hostToModule n then s.intakeOk n && s.readMore n
  else s.ringOn n && !s.paused && !s.halted n &&
    (match (s.ring n).outq with
     | [] => false
     | p :: _ => p.entry.isNone || decide (s.occupancy n < s.ringSize n))

/-- The rate limiter allows the runner a burst now (R121). -/
def State.limiterOk (s : State) (n : Nat) : Bool :=
  s.fld (Reg.DMA_CFG n) F.DMA_CFG_SHARE == 0 || decide ((s.ring n).nextOk ≤ s.now)

/-- Spacing of burst starts in ns (R121). -/
def burstGap (len share rate : Nat) : Nat := len * 256 * 1000 / (share * rate)

/-- A burst of the runner ends at the request size or at a 4 KiB boundary of host addresses (R117). -/
def burstLen (addr left limit : Nat) : Nat := min left (min (min 512 limit) (4096 - addr % 4096))

/-- Runners in the order in which R118 serves them at one priority level: round-robin, starting after the runner served last there. -/
def rrOrder (last : Nat) : List Nat := (List.range 16).map fun i => (last + 1 + i) % 16

/-- The runner whose burst starts next (R118): the highest priority that has a runner ready and allowed, round-robin within it. -/
def State.pickRunner (s : State) : Option Nat :=
  ((List.range 8).reverse.filterMap fun p =>
    (rrOrder (mapGet (fun _ => 15) s.rrLast p)).find? fun n =>
      s.fld (Reg.DMA_CFG n) F.DMA_CFG_PRIO == p && s.runnerReady n && s.limiterOk n).head?

/-- Where the next entry of a ring lies (R85). -/
def State.entryAddr (s : State) (n : Nat) : Nat :=
  s.pairAddr (Reg.RNG_BASELO n) (Reg.RNG_BASEHI n) + s.rdN (Reg.RNG_MODIDX n) % s.ringSize n * s.entrySize n

/-- One write burst of a module-to-host ring: payload first, then the entry in address order; the index moves on when the entry is
whole (R92, R117). Answers the bytes moved. -/
def State.moveOut (s : State) (n : Nat) : State × Nat :=
  let r := s.ring n
  match r.outq with
  | [] => (s, 0)
  | p :: rest =>
    match p.payload with
    | (addr, bytes) :: more =>
      let k := burstLen addr bytes.length s.pcie.mps
      let t := s.hostWrite addr (bytes.take k) true
      let pl := if bytes.length ≤ k then more else (addr + k, bytes.drop k) :: more
      let q := if pl.isEmpty && p.entry.isNone then rest else { p with payload := pl, started := true } :: rest
      (t.setRing n { t.ring n with outq := q }, k)
    | [] =>
      match p.entry with
      | none => (s.setRing n { r with outq := rest }, 0)
      | some e =>
        let e := padTo (s.entrySize n) e
        let addr := s.entryAddr n + r.sent
        let k := burstLen addr (e.length - r.sent) s.pcie.mps
        let t := s.hostWrite addr (slice e r.sent k)
        if e.length ≤ r.sent + k then ((t.setRing n { t.ring n with outq := rest, sent := 0 }).advance n, k)
        else (t.setRing n { t.ring n with outq := { p with started := true } :: rest, sent := r.sent + k }, k)

/-- One read burst of a host-to-module ring: the entry, then its input buffer, in address order (R117). `buf` is the buffer that the entry turns out to name. Answers the
bytes read. -/
def State.moveIn (s : State) (n : Nat) (buf : Nat × Nat) : State × Nat :=
  let r := s.ring n
  let es := s.entrySize n
  match r.rdBuf with
  | none =>
    let k := burstLen (s.entryAddr n + r.rd) (es - r.rd) s.pcie.mrrs
    (s.setRing n { r with rd := r.rd + k, rdBuf := if es ≤ r.rd + k then some (buf.1, min 65536 buf.2) else none }, k)
  | some (addr, len) =>
    let k := burstLen (addr + (r.rd - es)) (es + len - r.rd) s.pcie.mrrs
    (s.setRing n { r with rd := r.rd + k }, k)

/-- A descriptor is slagged: counted; the 16th in a row halts the runner (R122, R123). -/
def State.slag (s : State) (n sq cause offset : Nat) : State :=
  let c := s.fld (Reg.DMA_STATUS n) F.DMA_STATUS_CONSEC + 1
  let t := ((s.setF (Reg.DMA_STATUS n) F.DMA_STATUS_CONSEC c).setF (Reg.DMA_STATUS n) F.DMA_STATUS_LASTCAUSE cause).bump
    (Reg.DMA_SLAGGED n)
  let t := t.postDia 0x0201 n (le 4 sq ++ le 1 cause ++ le 3 offset)
  if c < 16 then t
  else
    let u := t.setF (Reg.DMA_STATUS n) F.DMA_STATUS_HALTED 1
    (((u.writeback n).setCause 1).postDia 0x0202 n (le 4 sq)).event 0x0501 2 n (le 4 sq)

/-- The descriptor that the runner of a ring reads is given up at a fault of its read: the runner goes on with the next entry, the entry completes SLAGGED, and what was read is
discarded (R101, R122). Where the entry itself could not be read its fields are unknown: the completion echoes command ID 0 and opcode 0xFFFF. -/
def State.slagNext (s : State) (n cause offset : Nat) (entry : Option (Half × CmdEntry)) : State :=
  let sq := s.rdN (Reg.RNG_MODIDX n)
  let t := s.advance n
  let t := t.setRing n { t.ring n with rd := 0, rdBuf := none }
  let tag : CmdTag := match entry with
    | none => { ring := n, sq := sq, cmdId := 0, op := 0xFFFF, txn := 0, cplReq := true }
    | some (op, e) => { ring := n, sq := sq, cmdId := e.cmdId, op := op.toNat, txn := e.txn.toNat, cplReq := true }
  ((t.countPwr tag St.slagged).postCpl tag St.slagged 0 0 0 []).slag n sq cause offset

/-- Steps 2 to 6 of R484 for an entry whose opcode has yet to be looked up. -/
def State.entryStatus (s : State) (op : Nat) (e : CmdEntry) : Option Nat :=
  if op = Op.sync.op && s.fmt1 then some St.unknownOpcode
  else match opSpecOf op with
    | none => some St.unknownOpcode
    | some o => entryCheck o e

/-- An entry that fails a check before step 7 of R484: taken, completed with the status, without effect and without a record. -/
def State.refuseEntry (s : State) (op : Nat) (e : CmdEntry) (st : Nat) : State :=
  let sq := s.rdN (Reg.RNG_MODIDX e.ring)
  (s.takeEntry e.ring).postCpl (e.tag op sq) st 0 0 0 []

/-- RUNNER_READ_FAIL: the read of the next entry, or of its input buffer, fails and the descriptor is slagged (R122, R484 steps 1 and 7). A buffer is read only for an entry that
passes steps 2 to 6: one that does not completes with its own status; one with no input buffer has none to fail. -/
def execRunnerReadFail (n cause offset : Nat) (entry : Option (Half × CmdEntry)) (s : State) : Answer :=
  .next (if !s.intakeOk n then s
    else match entry with
      | none => s.slagNext n cause offset none
      | some (op, e) =>
        if e.ring ≠ n then s
        else match s.entryStatus op.toNat e with
          | some st => s.refuseEntry op.toNat e st
          | none => if e.bufOut || e.bufLen == 0 then s else s.slagNext n cause offset entry)

/-- Resume a halted runner at its next entry (R123). -/
def State.resumeRunner (s : State) (n : Nat) : State :=
  let t := (s.setF (Reg.DMA_STATUS n) F.DMA_STATUS_HALTED 0).setF (Reg.DMA_STATUS n) F.DMA_STATUS_CONSEC 0
  if s.halted n then t.writeback n else t

/-- WRITEBACK_TIMER: TIME µs after the first entry not yet covered the writeback is written (R89). -/
def execWritebackTimer (n : Nat) (s : State) : Answer :=
  let r := s.ring n
  let due := r.firstAt + s.fld (Reg.RNG_COAL n) F.RNG_COAL_TIME * 1000
  .next (if s.ringOn n && decide (0 < r.uncovered) && decide (due ≤ s.now) then s.writeback n else s)

/-! ### Tundishes (R124 to R127) -/

/-- LDL_STATUS.TABLE_PENDING: a table load waits for the ladle's idle interval (R200). -/
def State.tablePending (s : State) (n : Nat) : State :=
  s.setF (Reg.LDL_STATUS n) F.LDL_STATUS_TABLE_PENDING (bit (s.waits.any fun x => match x.kind with | .ldlTable m _ _ _ => m == n | _ => false))

/-- Request a flush of a tundish (R127). -/
def State.requestFlush (s : State) (n : Nat) : State := s.setRing n { s.ring n with flushReq := true }

/-- The packets of a host-to-module tundish are discarded: each command completes with the status and leaves the record as if never taken (R126, R127). A table load that the consumer
kept there until its ladle's idle interval (R131) is one of them. -/
def State.discardPackets (s : State) (n status : Nat) : State :=
  let hs := s.heldOn n
  let ks := (s.kept n).map (·.1)
  let t : State := { s with held := s.held.filter (fun h => h.ring ≠ n), waits := s.waits.filter (fun w => !ks.contains w) }
  let t := ks.foldl (fun (u : State) w => match w.kind with | .ldlTable k _ _ _ => u.tablePending k | _ => u) t
  (ks.map (·.tag) ++ hs.map (·.tag)).foldl (fun u g => u.complete g status 0 0 0 [] true) t

/-- The packets of a module-to-host tundish are discarded; each entry adds 1 to the ring's lost counter (R126, R127). -/
def State.discardOut (s : State) (n : Nat) : State :=
  let r := s.ring n
  let q := r.tundish
  let gone := (q.filter (·.entry.isSome)).length
  let t := s.setRing n { r with outq := r.outq.drop q.length, sent := 0 }
  if gone = 0 then t else t.loseEntry n gone

/-- Is the tundish at a packet boundary: no packet is being written or read (R127)? -/
def RingSt.boundary (r : RingSt) : Bool := r.rd == 0 && !(match r.outq with | p :: _ => p.started || r.sent != 0 | [] => false)

/-- TUNDISH_FLUSH_APPLY: at the packet boundary every packet left is discarded: commands complete ABORTED and leave the record as if
never taken, entries to the host count as lost; then the TUN_FLUSH commands that asked complete (R127, R139). A packet that is being written or read is finished first. -/
def execTundishFlushApply (n : Nat) (s : State) : Answer :=
  let r := s.ring n
  if !r.flushReq || !r.boundary then .next s
  else
    let t := s.setRing n { r with flushReq := false }
    let t := if hostToModule n then t.discardPackets n St.aborted else t.discardOut n
    let t := t.finishAll (fun w => w.kind == .tunFlush n) St.ok 0 0
    .next (t.syncPass t.waits.length)

/-- TUN_FLUSH (R139). -/
def execTunFlush (e : CmdEntry) (s : State) : Answer :=
  runCmd Op.tunFlush (.tunFlush e) e (fun _ s =>
    let n := e.param 0 1
    if 15 < n then .stat St.badFormat s else .wait (.tunFlush n) (s.requestFlush n)) s

/-- RUNNER_RESUME (R139). -/
def execRunnerResume (e : CmdEntry) (s : State) : Answer :=
  runCmd Op.runnerResume (.runnerResume e) e (fun _ s =>
    let n := e.param 0 1
    if 15 < n then .stat St.badFormat s
    else if s.halted n then .stat St.ok (s.resumeRunner n) else .stat St.notHalted s) s

/-! ### The host interface commands (R95 to R97) -/

/-- UNKNOWN_OPCODE: an opcode that does not exist (R95, R484 step 2). The entry has no effect and is not recorded; an opcode that exists comes with its own row. -/
def execUnknownOpcode (op : Half) (e : CmdEntry) (s : State) : Answer :=
  .next (if s.takeOk e.ring && s.entryStatus op.toNat e == some St.unknownOpcode then s.refuseEntry op.toNat e St.unknownOpcode else s)

/-- NOP (R96). -/
def execNop (e : CmdEntry) (s : State) : Answer :=
  runCmd Op.nop (.nop e) e (fun _ s => .stat St.ok s) s

/-- ECHO (R96). -/
def execEcho (e : CmdEntry) (s : State) : Answer :=
  runCmd Op.echo (.echo e) e (fun _ s => .okWith (e.param 0 4) (e.param 4 4) s) s

/-- May CANCEL withdraw a waiting command: it waits for a stamp, a commit, a transaction or the end of the charge, or has not started (R97, R470)? -/
def WaitKind.cancellable : WaitKind → Bool
  | .txnCommit _ | .charge | .sync _ | .ldlTable _ _ _ _ | .cycSetup _ _ _ _ | .cycSched _ _ | .cycHold | .setIncr | .rtcSet | .rtcFromWall | .mtrPreset _ _ _
  | .trkSend _ _ | .patActivate _ _ => true
  | _ => false

/-- A withdrawn command has no effect (R97): what it had asked for is asked for no longer, unless another command asks for it too. The idle count of a transaction whose
commit is withdrawn starts from zero (DESIGN CHOICE: R107 says only that it is not counted while the commit waits; log entry 45). -/
def State.withdraw (s : State) (w : Wait) : State :=
  let alone := !(s.waits.any fun x => x.kind == w.kind && x != w)
  match w.kind with
  | .txnCommit k => (s.dropDeferred k).setTxn k { s.txn k with phase := .opened, point := 0, stamp := 0, waitFrom := none, named := s.now }
  | .cycHold => ({ s with cyc := { s.cyc with hold := none } } : State).wrN Reg.CYC_HOLDLEFT 0
  | .ldlTable n _ _ _ => ({ s with waits := s.waits.filter (· ≠ w) } : State).tablePending n
  | .setIncr =>
    if alone then (({ s with clock := { s.clock with incrNext := none } } : State).wrN Reg.TIM_INCRLO s.clock.incr).wrN Reg.TIM_INCRHI (s.clock.incr / 2 ^ 32 % 256)
    else s
  | .rtcSet => if alone then ({ s with calRun := { s.calRun with goReq := false } } : State).setF Reg.RTC_STATUS F.RTC_STATUS_STAGED 0 else s
  | .rtcFromWall => if alone then { s with calRun := { s.calRun with wallReq := false } } else s
  | .trkSend p _ =>
    let x := mapGet (fun _ => ({} : TrunkPort)) s.czn.ports p
    let keep : TxFrame → Bool := fun f => match f.kind with | .host _ g => g != w.tag | _ => true
    { s with czn := { s.czn with ports := mapSet (fun _ => {}) s.czn.ports p { x with queue := x.queue.filter keep } } }
  | _ => s

/-- CANCEL (R97). A held packet or a waiting command is withdrawn; a TXN_COMMIT withdrawn leaves its transaction OPEN. -/
def State.cancel (s : State) (ring : Nat) (id : Word) : Res :=
  match s.held.find? (fun h => h.ring == ring && h.tag.cmdId == id && id != 0) with
  | some h => .stat St.ok (({ s with held := s.held.filter (fun x => x ≠ h) } : State).complete h.tag St.aborted 0 0)
  | none =>
    match s.waits.find? (fun w => w.tag.ring == ring && w.tag.cmdId == id && id != 0) with
    | none => .stat St.notFound s
    | some w => if w.kind.cancellable then .stat St.ok ((s.withdraw w).finish w St.aborted 0 0) else .stat St.busy s

/-- CANCEL (R96, R97). -/
def execCancel (e : CmdEntry) (s : State) : Answer :=
  runCmd Op.cancel (.cancel e) e
    (fun _ s => s.cancel (e.param 0 1) (BitVec.ofNat 32 (e.param 4 4))) s

/-- SYNC: completes once every command taken before it from any ring has completed; not available under format 1 (R80, R96). -/
def execSync (e : CmdEntry) (s : State) : Answer :=
  if s.fmt1 && s.cur.isNone then execUnknownOpcode 0x0004 e s
  else
    let before := match s.cur with | some h => h.before | none => s.inProgress
    runCmd Op.sync (.sync e) e (fun _ s => if before.isEmpty then .stat St.ok s else .wait (.sync before) s) s

/-! ### Change notices on ring 3 (R158, R159) -/

/-- The 32 bytes of a notice (R158). -/
def Notice.bytes (n : Notice) (loss : Bool) : List Byte :=
  le 2 n.sub ++ le 1 (n.flags + bit loss) ++ [0] ++ le 4 n.addr ++ le 4 n.batch ++ padTo 16 n.record ++ le 4 0

/-- The notices of the oldest application, and the rest: a batch ends at the notice with BATCH_END. -/
def firstBatch : List Notice → List Notice × List Notice
  | [] => ([], [])
  | n :: ns => if bitOf n.flags 1 then ([n], ns) else let r := firstBatch ns; (n :: r.1, r.2)

/-- CHANGE_NOTICE_POST: the notices of the oldest application are posted in order; those that find no room are discarded and counted
(R103, R159). -/
def execChangeNoticePost (s : State) : Answer :=
  let b := firstBatch s.noticeQ
  .next (b.1.foldl (fun t n => t.post 3 n.bytes) { s with noticeQ := b.2 })

end Sys2Proof.Machine
end

