-- ==== Sys2Proof/Machine/TxnCmd.lean ====
section
/-!
DEFINITION. The transaction commands that open, fill, query and abort (R104 to R107, R112); commit and application stand with the cycle commit.
-/
set_option linter.unusedVariables false
namespace Sys2Proof.Machine

/-- The next tag of the unit: bit 15 the unit, bits 14:0 a counter that skips 0 and every open tag (R105). At most four tags are open, so
five tries find one. -/
def State.freshTag (s : State) : Nat → Nat × Nat
  | 0 => (s.unit * 2 ^ 15 + s.txnTag, s.txnTag % 0x7FFF + 1)
  | k + 1 =>
    let tag := s.unit * 2 ^ 15 + s.txnTag
    if (s.txnOf tag).isSome then State.freshTag { s with txnTag := s.txnTag % 0x7FFF + 1 } k
    else (tag, s.txnTag % 0x7FFF + 1)

/-- The state check of TXN_OPEN (R105). -/
def State.openState (s : State) (online isLocal : Bool) : Option Nat :=
  if s.defaulted then (if online || isLocal then none else some St.defaulted)
  else match s.role with
    | .active => none
    | .alone => none
    | .standby => if isLocal then none else some St.refused
    | _ => some St.refused

/-- TXN_OPEN (R105): the checks in their order, then a free slot and a tag. -/
def State.openTxn (s : State) (txn : Nat) (online isLocal : Bool) : Res :=
  if txn ≠ 0 || (online && isLocal) then .stat St.badFormat s
  else match s.openState online isLocal with
    | some st => .stat st s
    | none =>
      match (List.range 4).find? (fun k => (s.txn k).phase == .free) with
      | none => .stat St.txnFull s
      | some k =>
        if online && (List.range 4).any (fun j => (s.txn j).phase != .free && (s.txn j).online) then .stat St.conflict s
        else
          let tg := s.freshTag 5
          let t := ({ s with txnTag := tg.2 } : State).setTxn k
            { phase := .opened, tag := tg.1, online := online, isLocal := isLocal, named := s.now }
          .okWith tg.1 0 t

/-- TXN_OPEN (R104, R105). -/
def execTxnOpen (e : CmdEntry) (s : State) : Answer :=
  runCmd Op.txnOpen (.txnOpen e) e
    (fun _ s => s.openTxn e.txn.toNat (bitOf (e.param 0 1) 0) (bitOf (e.param 0 1) 1)) s

/-- TXN_ABORT (R107). -/
def execTxnAbort (e : CmdEntry) (s : State) : Answer :=
  runCmd Op.txnAbort (.txnAbort e) e (fun _ s =>
    match s.txnOf e.txn.toNat with
    | none => .stat St.notFound s
    | some k => .stat St.ok (s.abortTxn k St.aborted)) s

/-- The entries of a TXN_REGWR buffer: offset, value, mask, 12 bytes each (R106). -/
def regwrEntries : Nat → List Byte → List (Nat × Word × Word)
  | 0, _ => []
  | k + 1, bs => (fieldLe bs 0 4, BitVec.ofNat 32 (fieldLe bs 4 4), BitVec.ofNat 32 (fieldLe bs 8 4)) :: regwrEntries k (bs.drop 12)

/-- May the register at a BAR0 offset be staged (R108): its block is stageable, the offset is one of a register, TIM_STEP is not? -/
def stageable (a : Nat) : Bool :=
  let blk := a / 0x1000
  (blk == 4 || blk == 5 || blk == 7 || blk == 0xC || blk == 0xD || blk == 0xE || decide (0x10 ≤ blk ∧ blk ≤ 0x29))
    && a % 4 == 0 && a != Reg.TIM_STEP

/-- TXN_REGWR (R106). -/
def execTxnRegwr (e : CmdEntry) (s : State) : Answer :=
  runCmd Op.txnRegwr (.txnRegwr e) e (fun _ s =>
    match s.txnOf e.txn.toNat with
    | none => .stat St.notFound s
    | some k =>
      if e.bufLen.toNat % 12 ≠ 0 || e.bufOut then .stat St.badFormat s
      else
        let es := regwrEntries (e.bufLen.toNat / 12) e.buf
        if es.any (fun x => !stageable x.1) then .stat St.refused s
        else s.stageChanges k (es.map fun x => .reg x.1 x.2.1 x.2.2) es.length) s

/-- TXN_QUERY (R104). -/
def execTxnQuery (e : CmdEntry) (s : State) : Answer :=
  runCmd Op.txnQuery (.txnQuery e) e (fun _ s =>
    match s.txnOf e.txn.toNat with
    | none => .stat St.notFound s
    | some k => .okWith (s.txn k).stateReg (s.txn k).useReg s) s

/-- TXN_IDLE_TIMEOUT: no staging command has named the transaction for TXN_CFG.IDLE seconds; not counted while TXN_COMMIT waits (R107). -/
def execTxnIdleTimeout (slot : Nat) (s : State) : Answer :=
  let x := s.txn slot
  let idle := s.fld Reg.TXN_CFG F.TXN_CFG_IDLE
  .next (if slot < 4 && x.phase == .opened && idle != 0 && decide (x.named + secs idle ≤ s.now) then s.abortTxnEv slot 1 else s)

/-- TXN_WAIT_TIMEOUT: a CYCLE commit has waited TXN_CFG.WAIT ms from the deadline of the first cycle on which it could not ride (R112). It
completes TIMEOUT and its transaction closes. -/
def execTxnWaitTimeout (slot : Nat) (s : State) : Answer :=
  let x := s.txn slot
  match x.waitFrom with
  | none => .next s
  | some from_ =>
    .next (if slot < 4 && x.phase == .waiting && x.point == 2 && decide (from_ + ms (s.fld Reg.TXN_CFG F.TXN_CFG_WAIT) ≤ s.now)
      then s.abortTxn slot St.timeout else s)

end Sys2Proof.Machine
end

