-- ==== Sys2Proof/Machine/PointCmd.lean ====
section
/-!
DEFINITION. The point services (R152 to R167): ring 2 writes, reads, forces and subscriptions.
-/
set_option linter.unusedVariables false
namespace Sys2Proof.Machine

/-- The slot a tag names, with the writer ID of a write staged or made under it (R150): 0x0020 untagged, 0x0021 + slot in a transaction. -/
def writerOf (slot : Option Nat) : Nat := match slot with | none => 0x0020 | some k => 0x0021 + k

/-- The host's write of one point, after the first row of R155 (steps 8 and 9 of R484 stand between): staged or applied at once. -/
def State.hostPoint (s : State) (t : CmdTag) (e : PwrEntry) (quality : Nat) : Res :=
  let slot := s.txnOf e.txn.toNat
  let a := e.address.toNat % 2 ^ 25
  if e.txn ≠ 0 && slot.isNone then .stat St.notFound s
  else match s.writeCheck e.address false slot.isNone false e.typeQuality e.value slot with
    | some st => if st = St.conflict then Res.conflict s else .stat st s
    | none =>
      match slot with
      | some k => s.stageChanges k [.point a e.value quality] (bit (s.force? a).isSome)
      | none => s.applyHost t (.write { addr := a, value := e.value, quality := quality, writer := 0x0020, stamp := s.stamp })

/-- The identity of a ring 2 entry (R100): the opcode echoed is 0x0200 + op. -/
def pwrTag (e : PwrEntry) (sq : Nat) : CmdTag :=
  { ring := 2, sq := sq, cmdId := e.cmdId, op := 0x0200 + e.op.toNat, txn := e.txn.toNat, cplReq := bitOf e.flags.toNat 0 }

/-- A ring 2 entry (R91, R155, R484). The first row of R155, with the reserved fields of R92, stands for steps 2 to 6. -/
def runPwr (e : PwrEntry) (s : State) : Answer :=
  if s.takeOk 2 then
    let sq := s.rdN (Reg.RNG_MODIDX 2)
    let t := s.takeEntry 2
    let tag := pwrTag e sq
    let op := e.op.toNat
    if e.address.toNat ≥ 2 ^ 25 || (op ≠ 1 && op ≠ 2) || 5 < bitsOf e.typeQuality.toNat 4 4 || bitsOf e.flags.toNat 1 7 ≠ 0
        || !allZero e.resv then
      .next ((t.bump Reg.PNT_CNT_REFUSED).postCpl tag St.badFormat 0 0 0 [])
    else
      let q := if op = 2 then bitsOf e.typeQuality.toNat 4 4 else Q.good
      match t.repeated tag with
      | some u => .next (u.syncPass u.waits.length)
      | none =>
        let u := if e.cmdId = 0 then t else t.setRing 2 { t.ring 2 with openIds := e.cmdId :: (t.ring 2).openIds }
        if !u.sup.roleSettled then .next (settle tag (.stat St.busy u))
        else .next (settle tag ((u.hostPoint tag e q).named e.txn.toNat))
  else .next s

/-- WRITE: op 0x01, or an op that does not exist (R91, R155). -/
def execWrite (e : PwrEntry) (s : State) : Answer := runPwr e s

/-- WRITE_QUALITY: op 0x02 (R91, R155). -/
def execWriteQuality (e : PwrEntry) (s : State) : Answer := runPwr e s

/-! ### Reads (R153) -/

/-- PNT_READ (R153): the records as they stand, which is after one application and before the next (R152). -/
def execPntRead (e : CmdEntry) (s : State) : Answer :=
  runCmd Op.pntRead (.pntRead e) e (fun _ s =>
    let first := e.param 0 4
    let count := e.param 4 4
    if count < 1 || 4096 < count || 2 ^ 25 < first + count || !e.bufOut || e.bufLen.toNat ≠ 16 * count then .stat St.badFormat s
    else .done St.ok count s.batch 0 [(e.bufAddr.toNat, (List.range count).flatMap fun i => s.recBytes (first + i))] s) s

/-- PNT_READ_LIST (R153). -/
def execPntReadList (e : CmdEntry) (s : State) : Answer :=
  runCmd Op.pntReadList (.pntReadList e) e (fun _ s =>
    let count := e.param 0 4
    let out := e.param 8 8
    let addrs := (List.range count).map fun i => fieldLe e.buf (4 * i) 4
    if count < 1 || 4096 < count || e.bufOut || e.bufLen.toNat ≠ 4 * count || out % 4 ≠ 0 || addrs.any (fun a => decide (2 ^ 25 ≤ a)) then
      .stat St.badFormat s
    else .done St.ok count s.batch 0 [(out, addrs.flatMap s.recBytes)] s) s

/-! ### Forces (R162 to R166) -/

/-- The force of a point, after all checks of R155 (R162). -/
def State.forcePoint (s : State) (t : CmdTag) (e : CmdEntry) : Res :=
  let addr := BitVec.ofNat 32 (e.param 0 4)
  let a := e.param 0 4
  let v := BitVec.ofNat 32 (e.param 4 4)
  let tq := BitVec.ofNat 8 (e.param 8 1)
  let q := bitsOf (e.param 8 1) 4 4
  let slot := s.txnOf e.txn.toNat
  match s.writeCheck addr false slot.isNone true tq v slot with
  | some st => if st = St.conflict then Res.conflict s else .stat st s
  | none =>
    let had := (s.force? a).isSome
    if s.flag Reg.PNT_CFG F.PNT_CFG_FORCE_LOCK then .stat St.locked s
    else if 4096 ≤ s.forces.length && !had then .stat St.noSpace s
    else match slot with
      | some k => s.stageChanges k [.force a v q] (bit had)
      | none => s.applyHost t (.force a v q s.stamp)

/-- PNT_FORCE (R162). -/
def execPntForce (e : CmdEntry) (s : State) : Answer :=
  runCmd Op.pntForce (.pntForce e) e (fun t s => s.forcePoint t e) s

/-- The removal of a force (R164). -/
def State.unforcePoint (s : State) (t : CmdTag) (e : CmdEntry) : Res :=
  let a := e.param 0 4
  let slot := s.txnOf e.txn.toNat
  if 2 ^ 25 ≤ a then .stat St.badFormat s
  else if slot.isNone && s.defaulted then .stat St.defaulted s
  else if !s.defaulted && !s.leads then .stat St.refused s
  else if (s.info a).typ = 0 then .stat St.notFound s
  else if s.heldByOther slot (.point a) then Res.conflict s
  else match s.force? a with
    | none => .stat St.notForced s
    | some f =>
      match slot with
      | some k => s.stageChanges k [.unforce a] (bit f.under.isSome)
      | none => s.applyHost t (.unforce a)

/-- PNT_UNFORCE (R164). -/
def execPntUnforce (e : CmdEntry) (s : State) : Answer :=
  runCmd Op.pntUnforce (.pntUnforce e) e (fun t s => s.unforcePoint t e) s

/-- A force entry (R166). -/
def State.forceEntry (s : State) (a : Nat) (f : Force) : List Byte :=
  let u := f.under
  le 4 a ++ le 4 f.value.toNat ++ le 1 ((s.info a).typ + 16 * f.quality) ++ le 1 (bit f.orphan + 2 * bit u.isSome) ++ le 2 0
    ++ le 4 f.absorbed ++ le 8 f.setStamp ++ le 4 (match u with | some r => r.value.toNat | none => 0)
    ++ le 1 (match u with | some r => 16 * r.quality | none => 0) ++ le 3 0

/-- PNT_FORCE_LIST (R153, R166): the forces stand in ascending address order. -/
def execPntForceList (e : CmdEntry) (s : State) : Answer :=
  runCmd Op.pntForceList (.pntForceList e) e (fun _ s =>
    if !e.bufOut || e.bufLen.toNat % 32 ≠ 0 then .stat St.badFormat s
    else
      let es := (s.forces.drop (e.param 0 4)).take (e.bufLen.toNat / 32)
      .done St.ok es.length s.forces.length 0 [(e.bufAddr.toNat, es.flatMap fun x => s.forceEntry x.1 x.2)] s) s

/-! ### Subscriptions (R157 to R159) -/

/-- Points subscribed in total, with multiplicity (R157). -/
def subPoints (subs : List (Nat × Sub)) : Nat := (subs.map fun e => e.2.count).sum

/-- The INITIAL notices of a subscription, as one batch (R157, R159). -/
def State.initialNotices (s : State) (id first count : Nat) : List Notice :=
  markLast ((List.range count).map fun i =>
    { sub := id, addr := first + i, flags := 4, batch := s.batch, record := s.recBytes (first + i) })

/-- PNT_SUBSCRIBE (R157). DESIGN CHOICE (log entry 47): every deadband word is accepted, since no rule names one that is refused. -/
def execPntSubscribe (e : CmdEntry) (s : State) : Answer :=
  runCmd Op.pntSubscribe (.pntSubscribe e) e (fun _ s =>
    let id := e.param 0 2
    let mode := e.param 2 1
    let first := e.param 4 4
    let count := e.param 8 4
    if id < 1 || 1024 < id || bitsOf mode 4 4 ≠ 0 || bitsOf mode 0 3 = 0 || count < 1 || 65536 < count || 2 ^ 25 < first + count then
      .stat St.badFormat s
    else
      let subs := mapPut s.subs id { mode := mode, first := first, count := count, deadband := BitVec.ofNat 32 (e.param 12 4), refs := [] }
      if 1024 < subs.length || 4194304 < subPoints subs then .stat St.noSpace s
      else
        let t : State := { s with subs := subs }
        let ns := if bitOf mode 3 then t.initialNotices id first count else []
        let t := t.bump Reg.PNT_CNT_NOTICE ns.length
        .okWith (subPoints subs) 0 { t with noticeQ := t.noticeQ ++ ns }) s

/-- PNT_UNSUBSCRIBE (R153). -/
def execPntUnsubscribe (e : CmdEntry) (s : State) : Answer :=
  runCmd Op.pntUnsubscribe (.pntUnsubscribe e) e (fun _ s =>
    let id := e.param 0 2
    if (mapFind s.subs id).isSome then .stat St.ok { s with subs := mapDel s.subs id } else .stat St.notFound s) s

end Sys2Proof.Machine
end

