-- ==== Sys2Proof/Machine/EventRec.lean ====
section
/-!
DEFINITION. The event recorder: flash writes, the window, ring 4 and the recorder's commands (R402 to R408).
-/
set_option linter.unusedVariables false
namespace Sys2Proof.Machine

/-- Records the flash ring holds, and records of one erase unit (R403). -/
def evRingCapacity : Nat := 4194304
def evUnit : Nat := 32768

/-- Erase units of the flash ring (R403). -/
def evUnits : Nat := evRingCapacity / evUnit

/-- Go on to the next erase unit: the oldest one is erased first where every unit has been opened (R403). -/
def EvFlash.openUnit (f : EvFlash) : EvFlash :=
  let g := if f.units.length < evUnits then f
    else { f with ring := f.ring.drop (f.units.headD 0), units := f.units.drop 1, wrapped := f.wrapped || decide (0 < f.units.headD 0) }
  { g with units := g.units ++ [0], pos := (g.pos + evUnit - 1) / evUnit * evUnit }

/-- One record more in the flash ring: a full unit is followed by the next (R403). -/
def EvFlash.push (f : EvFlash) (r : EvRec) : EvFlash :=
  let g := match f.units.getLast? with | some n => if n < evUnit then f else f.openUnit | none => f.openUnit
  { g with ring := g.ring ++ [r], units := g.units.dropLast ++ [g.units.getLastD 0 + 1], pos := g.pos + 1, newest := r.seq }

/-- A write into the present unit has failed: the rest of it is not used, and the write is retried in the next one (R403). -/
def EvFlash.abandon (f : EvFlash) : EvFlash := ({ f with pos := (f.pos / evUnit + 1) * evUnit } : EvFlash).openUnit

/-- The held records: flash, then buffer, in ascending sequence (R404). -/
def State.heldRecords (s : State) : List EvRec := s.flash.events.ring ++ s.evr.buffer

/-- Held records from a sequence on (R404). -/
def State.recordsFrom (s : State) (q : Nat) : List EvRec := s.heldRecords.filter fun r => decide (0 ≤ seqDiff r.seq q)

/-- Move the whole buffer to the flash ring (R402). -/
def State.writeEvents (s : State) : State :=
  { s with
    flash := { s.flash with events := s.evr.buffer.foldl EvFlash.push s.flash.events }
    evr := { s.evr with buffer := [], sevDue := false, lastWrite := s.now, fault := false, attempts := 0 } }

/-- An EVR_SYNC waits. -/
def Wait.evSync (w : Wait) : Bool := match w.kind with | .evrSync _ _ => true | _ => false

/-- An EVR_SYNC that has waited 5 s (R408). -/
def Wait.evSyncLate (now : Nat) (w : Wait) : Bool := match w.kind with | .evrSync _ since => decide (since + secs 5 ≤ now) | _ => false

/-- Longest time between flash writes in s: 0 acts as 1 before stage 0x4 (EVR_CFG). -/
def State.flushS (s : State) : Nat := max 1 (s.fld Reg.EVR_CFG F.EVR_CFG_FLUSH_S)

/-- A flash write is due (R402). -/
def State.evDue (s : State) : Bool :=
  !s.evr.holding && !s.evr.buffer.isEmpty &&
    (decide (4096 ≤ s.evr.buffer.length) || s.evr.sevDue || decide (s.evr.lastWrite + secs s.flushS ≤ s.now) || s.waits.any Wait.evSync)

/-- EVR_FLASH_WRITE: when due, the buffered records are written in sequence order. A write that fails is retried in the next erase unit; a
second failure sets FLASH_FAULT and is recorded; the records stay (R402, R403). Under FLASH_FAULT an EVR_SYNC ends in TIMEOUT after 5 s (R408). -/
def execEvrFlashWrite (ok : Bool) (s : State) : Answer :=
  if !s.evDue then .next s
  else if ok then
    let t := (s.writeEvents).finishAll Wait.evSync St.ok 0 0
    .next t.reportDropped
  else
    let ev := s.flash.events
    let unit := ev.pos / evUnit % 128
    let t : State := { s with
      flash := { s.flash with events := ev.abandon }
      evr := { s.evr with attempts := s.evr.attempts + 1, lastWrite := s.now } }
    let t := if t.evr.attempts = 2 then
        (({ t with evr := { t.evr with fault := true } } : State).event 0x1304 2 noInst (le 2 unit ++ le 1 t.evr.attempts)) else t
    .next (if t.evr.fault then t.finishAll (Wait.evSyncLate t.now) St.timeout 0 0 else t)

/-- Start a window copy from a sequence: READY falls, the copy takes the records held at this instant (R404, R407). -/
def State.startWindow (s : State) (from_ : Nat) : State :=
  { s with evr := { s.evr with winReady := false, winFrom := from_, winCopy := (s.recordsFrom from_).take 64 } }

/-- A write of 1 to EVR_WINCTL.NEXT: the copy that follows the current one (R404). An empty copy is followed from its own first sequence. -/
def State.nextWindow (s : State) : State :=
  s.startWindow (match s.evr.window.getLast? with | some r => addMod32 r.seq 1 | none => s.evr.winFirst)

/-- EVR_WINDOW_READY: the copy completes (R404). -/
def execEvrWindowReady (s : State) : Answer :=
  .next (if s.evr.winReady then s else
    { s with evr := { s.evr with
      winReady := true, window := s.evr.winCopy
      winFirst := (match s.evr.winCopy with | r :: _ => r.seq | [] => s.evr.winFrom), winCopy := [] } })

/-- EVS_DELIVERY: the next record at or above RING_MIN goes onto ring 4 if it has room; records no longer held are skipped (R103, R406). -/
def execEvsDelivery (s : State) : Answer :=
  .next (if s.ringRoom 4 then
    match (s.recordsFrom (s.rdN Reg.EVR_STREAM)).find? (fun r => decide (s.fld Reg.EVR_CFG F.EVR_CFG_RING_MIN ≤ r.sev)) with
    | some r => (s.enqueue 4 fun _ => r.bytes).wrN Reg.EVR_STREAM (r.seq + 1)
    | none => s
    else s)

/-- EVR_SYNC (R408). -/
def execEvrSync (e : CmdEntry) (s : State) : Answer :=
  runCmd Op.evrSync (.evrSync e) e (fun _ s =>
    if s.evr.buffer.isEmpty && !s.evr.holding then .stat St.ok s else .wait (.evrSync s.evr.next s.now) s) s

/-- Remove every record; LOG_CLEARED follows, and after it what R401 reports now that the buffer has room (R407). The sequences it names are free values when no record was held: the spec gives none. -/
def State.clearEvents (s : State) : State :=
  let rs := s.heldRecords
  let fr := (Config.freeWord s.free).toNat
  let first := match rs.head? with | some r => r.seq | none => fr
  let last := match rs.getLast? with | some r => r.seq | none => fr
  let n := addMod32 s.flash.events.clears 1
  let t : State := { s with
    flash := { s.flash with events := { s.flash.events with ring := [], units := s.flash.events.units.map fun _ => 0, clears := n } }
    evr := { s.evr with buffer := [], sevDue := false } }
  (t.nextFree.numberRecord { stamp := s.stamp, source := s.unit * 2 ^ 15 + noInst, typ := 0x1303, sev := 3, early := s.heat == 0
                             payload := le 4 first ++ le 4 last ++ le 8 s.stamp ++ le 4 n }).reportDropped

/-- EVR_CLEAR (R407). -/
def execEvrClear (e : CmdEntry) (s : State) : Answer :=
  runCmd Op.evrClear (.evrClear e) e (fun _ s =>
    if !s.maint then .stat St.unauthorised s
    else if e.param 0 4 ≠ 0xC1EAC1EA then .stat St.badConfirm s
    else if s.pfw then .stat St.busy s
    else .stat St.ok s.clearEvents) s

/-- EVR_READ (R406, R408). -/
def execEvrRead (e : CmdEntry) (s : State) : Answer :=
  runCmd Op.evrRead (.evrRead e) e (fun _ s =>
    let count := e.param 4 4
    if count < 1 || 1024 < count || !e.bufOut || e.bufLen.toNat ≠ 64 * count then .stat St.badFormat s
    else match (s.recordsFrom (e.param 0 4)).take count with
      | [] => .stat St.noEvent s
      | r :: rs => .done St.ok (rs.length + 1) r.seq 0 [(e.bufAddr.toNat, (r :: rs).flatMap EvRec.bytes)] s) s

end Sys2Proof.Machine
end

