-- ==== Sys2Proof/Machine/Gigabit.lean ====
section
/-!
DEFINITION. The receive path and the stamps of the gigabit ports (R264, R271 to R273), with ring 9 (R274), which trunks and gigabit ports share.
-/
set_option linter.unusedVariables false
namespace Sys2Proof.Machine

/-- The stamp of an instant of the monotonic base (R346, R347). -/
def State.stampAt (s : State) (ns : Nat) : Nat :=
  if s.heat = 0 then stampOf 0 (ns * 2 ^ 32) else stampOf s.heat (((ns * 2 ^ 32 : Nat) : Int) + s.clock.wallOff).toNat

/-! ### Ring 9 (R274) -/

/-- Post a ring 9 entry of a frame with its FCS: reason 1 FOREIGN, 2 CAPTURE, 3 FORMAT, 4 SENDER, 5 AUTH; `kept` bytes were taken. -/
def State.post9 (s : State) (port plca reason stamp : Nat) (kept whole : List Byte) : State :=
  let room := s.entrySize 9 - 32
  let q := s.czn.seq9
  let held := kept.take room
  let s : State := { s with czn := { s.czn with seq9 := addMod32 q 1 } }
  s.post 9 fun loss =>
    le 4 q ++ le 1 port ++ le 1 (bit (decide (held.length < whole.length)) + 2 * bit loss + 4 * bit (decide (kept.length < whole.length)))
      ++ le 2 (min 65535 whole.length) ++ le 8 stamp ++ le 1 plca ++ le 1 reason ++ le 2 held.length ++ List.replicate 12 0 ++ padTo room held

/-- An address filter pair lets an address through (R264). -/
def State.addrMatch (s : State) (lo hi : Nat) (a : List Byte) : Bool :=
  bitOf (s.rdN hi) 31 && bitsOf (s.rdN hi) 0 16 == ofBe (a.take 2) && s.rdN lo == ofBe (slice a 2 4)

/-! ### Stamps of the gigabit ports (R271) -/

/-- The time of the wall base that a departing frame carries, and that of a received one from its raw time, corrected, in units of 2^-32 ns. -/
def State.ethTx (s : State) (g : Nat) : Nat := ((s.wall : Int) + (312 + sext 16 (s.fld (Reg.ETH_TSADJ g) F.ETH_TSADJ_TX)) * 2 ^ 32).toNat
def State.ethRx (s : State) (g raw : Nat) : Nat := ((raw : Int) + (-416 + sext 16 (s.fld (Reg.ETH_TSADJ g) F.ETH_TSADJ_RX)) * 2 ^ 32).toNat

/-- The corrected receive stamp of a frame that comes now. -/
def State.ethStamp (s : State) (g : Nat) : Nat := s.stampAt ((s.now : Int) - 416 + sext 16 (s.fld (Reg.ETH_TSADJ g) F.ETH_TSADJ_RX)).toNat

/-! ### Flow control (R273) -/

/-- A PAUSE frame, without FCS (PRESUMED, log 58: IEEE 802.3 Annex 31B). -/
def State.pauseFrame (s : State) (g quanta : Nat) : List Byte :=
  padTo 60 ([0x01, 0x80, 0xC2, 0x00, 0x00, 0x01] ++ ethMac s.uid g ++ be 2 0x8808 ++ be 2 1 ++ be 2 quanta)

/-- PAUSE goes out past a received PAUSE, which stops data frames alone. -/
def State.sendPause (s : State) (g quanta : Nat) : State :=
  ((s.emit (.eth g (s.pauseFrame g quanta))).bump (Reg.ETH_TXFRAMES g)).setF (Reg.ETH_STATUS g) F.ETH_STATUS_XOFF (bit (quanta != 0))

/-- Bytes of the receive buffer of a gigabit port. -/
def ethBuffer : Nat := 65536

/-- PAUSE as the receive buffer passes 75 % and falls below 25 %; the level is known as a frame comes (DESIGN CHOICE, log 58). -/
def State.flowControl (s : State) (g level : Nat) : State :=
  let off := s.flag (Reg.ETH_STATUS g) F.ETH_STATUS_XOFF
  if !s.flag (Reg.ETH_PAUSE g) F.ETH_PAUSE_TX_EN then s
  else if !off && decide (3 * ethBuffer < 4 * level) then s.sendPause g 0xFFFF
  else if off && decide (4 * level < ethBuffer) then s.sendPause g 0
  else s

/-! ### The receive path (R264, R272) -/

/-- The destination passes the filter: a valid entry, or an IEEE 1588 multicast address. -/
def State.ethDest (s : State) (g : Nat) (d : List Byte) : Bool :=
  (List.range 8).any (fun i => s.addrMatch (Reg.ETH_ADDRLO g i) (Reg.ETH_ADDRHI g i) d)
    || [[0x01, 0x1B, 0x19, 0, 0, 0], [0x01, 0x80, 0xC2, 0, 0, 0x0E]].contains d

/-- The port receives: it is enabled, its link is up, and it is not in its reset state (R49). -/
def State.ethUp (s : State) (g : Nat) : Bool :=
  !s.linkOff && s.flag (Reg.ETH_CTL g) F.ETH_CTL_ENABLE && s.flag (Reg.ETH_STATUS g) F.ETH_STATUS_LINK

/-- A frame on a gigabit port: the checks of R264 in order, and what follows the EtherType of one that passes them all. A frame cut at MAXLEN carries nothing further, since
its end is missing. -/
def State.ethIn (s : State) (g etype : Nat) (f : EthFrame) : State × Option (List Byte) :=
  if !s.ethUp g then (s, none)
  else
    let room := decide (f.level + f.bytes.length ≤ ethBuffer)
    let max := s.fld (Reg.ETH_CTL g) F.ETH_CTL_MAXLEN
    let cut := decide (max < f.bytes.length)
    let s := s.flowControl g (if room then f.level + f.bytes.length else f.level)
    if !room then (s.bump (Reg.ETH_RXDROP g), none)
    else if !cut && (!f.fcsOk || decide (f.bytes.length < 64)) then (s.bump (Reg.ETH_RXFCS g), none)
    else
      let t := s.bump (if cut then Reg.ETH_RXTRUNC g else Reg.ETH_RXFRAMES g)
      let t := if t.flag (Reg.ETH_CTL g) F.ETH_CTL_CAP_ALL then t.post9 (64 + g) 0xFF 2 (t.ethStamp g) (f.bytes.take max) f.bytes else t
      if !s.ethDest g (f.bytes.take 6) then (t.bump (Reg.ETH_RXFILTER g), none)
      else if cut || fieldBe f.bytes 12 2 ≠ etype then (t, none)
      else (t, some (slice f.bytes 14 (f.bytes.length - 18)))

end Sys2Proof.Machine
end

