-- ==== Sys2Proof/Machine/Time.lean ====
section
/-!
DEFINITION. Timekeeping: bases, steps, servo, PTP, the frozen register groups and the timekeeper's commands (R342 to R353, R368).
-/
set_option linter.unusedVariables false
namespace Sys2Proof.Machine

/-! ### Source and servo state (R349, R350) -/

/-- The source in effect: PEER in the STANDBY and SEEDING roles whatever SRC holds (R349). -/
def State.timeSrc (s : State) : Nat :=
  if s.role == .standby || s.role == .seeding then 3 else s.fld Reg.TIM_CTL F.TIM_CTL_SRC

/-- The servo owns the wall base (R349). -/
def State.servoOwns (s : State) : Bool := decide (2 ≤ s.timeSrc)

/-- TIM_STATUS.STATE: 0 UNSET, 1 FREE, 2 ACQUIRING, 3 LOCKED, 4 HOLDOVER. -/
def State.servo (s : State) : Nat := s.fld Reg.TIM_STATUS F.TIM_STATUS_STATE

/-- The timekeeper is LOCKED. -/
def State.locked (s : State) : Bool := s.servo == 3

/-- The master runs the ARB timescale (R353). -/
def State.arb (s : State) : Bool := s.flag Reg.TIM_STATUS F.TIM_STATUS_ARB

/-- Change the servo state; every change records SERVO_STATE (R350, R370). -/
def State.setServo (s : State) (n : Nat) : State :=
  if s.servo = n then s
  else (s.setF Reg.TIM_STATUS F.TIM_STATUS_STATE n).event 0x1002 0 noInst (le 1 s.servo ++ le 1 n ++ le 4 (s.rdN Reg.TIM_OFFSET))

/-- The ends of TIM_INCR: 39.96 and 40.04 ns (R343). -/
def incrLow : Nat := 3996 * 2 ^ 32 / 100
def incrHigh : Nat := 4004 * 2 ^ 32 / 100

/-- Load an increment at the next tick, clamped; the registers take the value loaded (R343). -/
def State.loadIncr (s : State) (v : Nat) : State :=
  let c := clampNat incrLow incrHigh v
  ((({ s with clock := { s.clock with incrNext := some c } } : State).wrN Reg.TIM_INCRLO c).wrN Reg.TIM_INCRHI (c / 2 ^ 32 % 256))

/-- The servo writes the increment within ±100 ppm of 40.0; its value is the servo's own (R349, R350): a free value within the bounds. -/
def State.servoIncrement (s : State) : State :=
  s.nextFree.loadIncr (clampNat (399960 * 2 ^ 32 / 10000) (400040 * 2 ^ 32 / 10000) (Config.servoIncr s.free))

/-- Port mode of TIM_PTPCFG: bits 1:0 role, bit 2 peer delay, bit 3 two-step (R367). Port 0 is the peer port. -/
def State.ptpMode (s : State) (port : Nat) : Nat :=
  s.fld Reg.TIM_PTPCFG (if port = 0 then F.TIM_PTPCFG_PEER else F.TIM_PTPCFG_SITE)

/-- May the port be a slave now? Under PEER only the peer port is; in a pair the active module is master on the peer port (R349, R352). -/
def State.slavePort (s : State) (port : Nat) : Bool :=
  let role := s.ptpMode port % 4
  if s.timeSrc = 3 then port == 0 && (role == 1 || role == 3 || s.role == .standby || s.role == .seeding)
  else s.timeSrc == 2 && (role == 1 || role == 3) && !(port == 0 && s.role == .active)

/-- The selected master stands only while its port may be a slave: one that a change of source or role has put out of use is lost (R349, R352). -/
def State.dropMaster (s : State) : State :=
  match s.clock.master with
  | some m => if s.slavePort m.port then s
    else ({ s with clock := { s.clock with master := none, utcValid := false } } : State).setF Reg.TIM_STATUS F.TIM_STATUS_ARB 0
  | none => s

/-- The state that the source, the wall base and the master call for (R350): HOLDOVER is entered from LOCKED when the master is lost, with the increment held at the average
that the servo has of it. -/
def State.refreshServo (s : State) : State :=
  let t := (s.setF Reg.TIM_STATUS F.TIM_STATUS_PEER_FORCED (bit (s.role == .standby || s.role == .seeding))).dropMaster
  let base := if t.clock.wallSet then 1 else 0
  if !t.servoOwns then t.setServo base
  else match t.clock.master with
    | some _ => if t.servo = 3 || t.servo = 4 || t.servo = 2 then t else t.setServo 2
    | none => if t.servo = 3 then t.servoIncrement.setServo 4 else if t.servo = 4 then t else t.setServo base

/-! ### Increment and steps (R343, R344) -/

/-- A host write is ignored because the servo owns the base (R349). -/
def State.ignoreTime (s : State) : State := s.setF Reg.TIM_STATUS F.TIM_STATUS_HOSTWR_IGN 1

/-- A write of TIM_INCRHI: the pair takes effect at the next tick (R343). -/
def State.writeIncrHi (s : State) (v : Word) : State :=
  if s.servoOwns then s.ignoreTime else s.loadIncr (v.toNat % 256 * 2 ^ 32 + s.rdN Reg.TIM_INCRLO)

/-- Step the wall base by an amount in ns; `by` is 1 for the host, 2 for the servo (R344). -/
def State.stepWall (s : State) (secs_ ns_ : Int) (by_ : Nat) : State :=
  let before := s.stamp
  let amount := (secs_ * 1000000000 + ns_) * (2 ^ 32 : Nat)
  let t : State := { s with clock := { s.clock with
    wallOff := s.clock.wallOff + amount, wallSet := true, steppedTrunks := 2 ^ 64 - 1, steppedRadios := 15 },
                               meter := { s.meter with stepped := true } }
  let t := (t.bump Reg.TIM_STEPCNT).eventAt before 0x1001 1 noInst (le 8 before ++ le 4 (ofInt 32 secs_) ++ le 4 (ofInt 32 ns_) ++ le 1 by_)
  t.refreshServo

/-- Is a step allowed: ns in range, wall seconds not negative afterwards (R344)? -/
def State.stepOk (s : State) (secs_ ns_ : Int) : Bool :=
  decide (-999999999 ≤ ns_ ∧ ns_ ≤ 999999999) &&
    decide (0 ≤ (s.clock.mono : Int) + s.clock.wallOff + (secs_ * 1000000000 + ns_) * (2 ^ 32 : Nat))

/-- A write of 1 to TIM_STEP.GO (R344, R349). -/
def State.goStep (s : State) : State :=
  let sec := sext 32 (s.rdN Reg.TIM_STEPSEC)
  let ns := sext 32 (s.rdN Reg.TIM_STEPNS)
  if s.servoOwns then s.ignoreTime
  else if s.stepOk sec ns then s.stepWall sec ns 1
  else s.setF Reg.TIM_STATUS F.TIM_STATUS_STEP_REJ 1

/-- TIM_STEP (R368). -/
def execTimStep (e : CmdEntry) (s : State) : Answer :=
  runCmd Op.timStep (.timStep e) e (fun _ s =>
    let sec := sext 32 (e.param 0 4)
    let ns := sext 32 (e.param 4 4)
    if s.servoOwns then .stat St.sourceOwned s
    else if !s.stepOk sec ns then .stat St.badFormat s
    else
      let t := s.stepWall sec ns 1
      .okWith (t.stamp % 2 ^ 32) (t.stamp / 2 ^ 32) t) s

/-- TIM_SETINCR: completes when the increment is in effect, at the next tick (R343, R368). -/
def execTimSetincr (e : CmdEntry) (s : State) : Answer :=
  runCmd Op.timSetincr (.timSetincr e) e (fun _ s =>
    if s.servoOwns then .stat St.sourceOwned s
    else s.freeRegs [Reg.TIM_INCRLO, Reg.TIM_INCRHI] (.wait .setIncr (s.loadIncr (e.param 0 8)))) s

/-- TAI - UTC and LEAP are owned by PTP (R353). -/
def State.utcOwned (s : State) : Bool := s.timeSrc == 2 && s.clock.utcValid

/-- Write TIM_UTCOFF, and RTC_STATUS.LEAP_DUE with it. -/
def State.setUtcOff (s : State) (off leap : Nat) : State :=
  ((s.setF Reg.TIM_UTCOFF F.TIM_UTCOFF_OFFSET off).setF Reg.TIM_UTCOFF F.TIM_UTCOFF_LEAP leap).setF Reg.RTC_STATUS
    F.RTC_STATUS_LEAP_DUE (bit (leap == 1 || leap == 2))

/-- TIM_LEAP (R368). -/
def execTimLeap (e : CmdEntry) (s : State) : Answer :=
  runCmd Op.timLeap (.timLeap e) e (fun _ s =>
    if s.utcOwned then .stat St.sourceOwned s
    else if 2 < e.param 2 1 then .stat St.badFormat s
    else s.freeRegs [Reg.TIM_UTCOFF] (.stat St.ok (s.setUtcOff (e.param 0 2) (e.param 2 1)))) s

/-! ### PTP (R350 to R353) -/

/-- May the port be a master now: master only, or by the algorithm while it is not the slave port? -/
def State.masterPort (s : State) (port : Nat) : Bool :=
  let role := s.ptpMode port % 4
  (role == 2 || role == 3 || (port == 0 && s.role == .active)) && !(s.slavePort port && (match s.clock.master with | some m => m.port == port | none => false))
    && !(s.role == .standby || s.role == .seeding)

/-- The port state register: 9 SLAVE, 6 MASTER, 4 LISTENING, 3 DISABLED. -/
def State.ptpPortState (s : State) (port : Nat) : Nat :=
  if s.slavePort port && (match s.clock.master with | some m => m.port == port | none => false) then 9
  else if s.masterPort port then 6 else if s.ptpMode port % 4 = 0 then 3 else 4

/-- Bring TIM_PTPSTAT up to date. -/
def State.showPorts (s : State) : State :=
  (s.setF Reg.TIM_PTPSTAT F.TIM_PTPSTAT_PEER (s.ptpPortState 0)).setF Reg.TIM_PTPSTAT F.TIM_PTPSTAT_SITE (s.ptpPortState 1)

/-- The rank this clock announces itself, as the default algorithm compares it: priority1, clockClass, priority2, identity. -/
def State.ownRank (s : State) : Nat :=
  ((s.cfg.time.prio1 * 256 + s.cfg.time.clockClass) * 256 + s.cfg.time.prio2) * 2 ^ 64 + s.ident.serial.toNat

/-- An Announce: the default best master clock algorithm selects the better master; UTC data are taken from the selected one (R351, R353). -/
def State.ptpAnnounce (s : State) (port identity rank cls : Nat) (off : Half) (valid l61 l59 arb_ : Bool) : State :=
  if !s.slavePort port then s
  else
    let better := match s.clock.master with
      | none => decide (rank < s.ownRank) || s.timeSrc == 3 || s.ptpMode port % 4 == 1
      | some m => m.identity == identity || decide (rank < m.rank)
    if !better then s
    else
      let same := match s.clock.master with | some m => m.identity == identity | none => false
      let t : State := { s with clock := { s.clock with
        master := some { port := port, identity := identity, rank := rank, clockClass := cls }, utcValid := valid } }
      let t := if same then t else t.event 0x1004 0 noInst (le 1 port ++ le 8 identity ++ le 1 cls)
      let t := t.setF Reg.TIM_STATUS F.TIM_STATUS_ARB (bit arb_)
      let t := if t.timeSrc = 2 && valid then t.setUtcOff off.toNat (if l61 then 1 else if l59 then 2 else 0) else t
      t.refreshServo.showPorts

/-- Split an amount of ns into whole seconds and the rest, both with its sign. -/
def splitNs (x : Int) : Int × Int := (x.tdiv 1000000000, x.tmod 1000000000)

/-- The servo removes an offset by one step (R350). -/
def State.servoStep (s : State) (offset : Int) : State :=
  let p := splitNs (-offset)
  let t := s.stepWall p.1 p.2 2
  { t with clock := { t.clock with beyondRun := 0, lockRun := 0 } }

/-- A Sync of the selected master (R350): TIM_OFFSET takes the offset; offsets beyond STEP_US may be stepped out, the others are corrected by
frequency; eight within LOCK_NS in a row lock the servo, counted from the entry of ACQUIRING (log entry 59), and a Sync in HOLDOVER returns it there. -/
def State.ptpSync (s : State) (port identity : Nat) (offset : Int) (interval : Nat) : State :=
  match s.clock.master with
  | none => s
  | some m =>
    if m.identity ≠ identity || m.port ≠ port || !s.servoOwns then s
    else
      let t := s.wrN Reg.TIM_OFFSET (ofInt 32 (clampInt (-2147483648) 2147483647 offset))
      let beyond := decide (((max 1 (t.fld Reg.TIM_SERVO F.TIM_SERVO_STEP_US)) * 1000 : Nat) < offset.natAbs)
      let within := decide (offset.natAbs ≤ t.fld Reg.TIM_SERVO F.TIM_SERVO_LOCK_NS)
      let t : State := { t with clock := { t.clock with
        lastSync := t.now, syncNs := interval
        beyondRun := if beyond then t.clock.beyondRun + 1 else 0
        lockRun := if within then (if t.servo = 2 || t.servo = 3 then t.clock.lockRun else 0) + 1 else 0 } }
      let auto := t.flag Reg.TIM_CTL F.TIM_CTL_AUTOSTEP
      let t := if t.servo = 3 then t else t.setServo 2
      if beyond then
        if auto && (s.servo == 2 || s.servo < 2 || 8 ≤ t.clock.beyondRun) then t.servoStep offset else t
      else
        let u := t.servoIncrement
        if 8 ≤ u.clock.lockRun && u.servo == 2 then u.setServo 3 else u

/-- The master of a port has fallen silent. -/
def State.ptpSilent (s : State) (port : Nat) : State :=
  match s.clock.master with
  | some k => if k.port = port then
      (({ s with clock := { s.clock with master := none, utcValid := false } } : State).setF Reg.TIM_STATUS F.TIM_STATUS_ARB 0).refreshServo.showPorts
    else s
  | none => s

/-- The EtherType of PTP messages (R351). -/
def ptpEtype : Nat := 0x88F7

/-- What a PTP message that has come in on a port does (R351 to R353). -/
def State.ptpTake (s : State) (port : Nat) : PtpMsg → State
  | .announce identity rank cls off valid l61 l59 a => s.ptpAnnounce port identity rank cls off valid l61 l59 a
  | .sync identity offset interval => s.ptpSync port identity offset interval
  | .delayReq rx => if s.masterPort port && !bitOf (s.ptpMode port) 2 then s.ethOut port (.ptp port 4 (s.ethRx port rx)) else s
  | .pdelayReq rx =>
    if bitOf (s.ptpMode port) 2 then
      let t := s.ethOut port (.ptp port 6 (s.ethRx port rx))
      if bitOf (s.ptpMode port) 3 then t.ethOut port (.ptp port 7 (t.ethTx port)) else t
    else s
  | .announceTimeout => s
  | .other => s

/-- PTP_MESSAGE (R351 to R353): a message comes in a frame that passes the receive path of the port. -/
def execPtpMessage (port : Nat) (m : PtpIn) (s : State) : Answer :=
  if 2 ≤ port then .next s
  else if m.msg = .announceTimeout then .next (s.ptpSilent port)
  else match s.ethIn port ptpEtype m.frame with
    | (t, none) => .next t
    | (t, some _) => .next (t.ptpTake port m.msg)

/-- PTP_SYNC_INTERVAL: a port in the master role sends Sync and Announce, in two-step mode a Follow_Up; a slave asks for its delay (R352). -/
def execPtpSyncInterval (port : Nat) (s : State) : Answer :=
  if 2 ≤ port || s.stage < 6 then .next s
  else
    let mode := s.ptpMode port
    if s.masterPort port then
      let t := (s.ethOut port (.ptp port 2 (s.ethTx port))).ethOut port (.ptp port 0 (s.ethTx port))
      .next (if bitOf mode 3 then t.ethOut port (.ptp port 1 (t.ethTx port)) else t)
    else if s.slavePort port then .next (s.ethOut port (.ptp port (if bitOf mode 2 then 5 else 3) (s.ethTx port)))
    else .next s

/-- HOLDOVER_ENTRY: from LOCKED, no Sync for 8 Sync intervals, or the master lost; the increment is held at its average over the last 64 s,
which the spec leaves to the servo (R350). -/
def execHoldoverEntry (s : State) : Answer :=
  .next (if s.locked && (s.clock.master.isNone || decide (s.clock.lastSync + 8 * s.clock.syncNs ≤ s.now)) then s.servoIncrement.setServo 4 else s)

/-! ### Frozen register groups (R5, R355, R479) -/

/-- Words of the monotonic group, of the wall group and of the stamp group. -/
def State.monoWords (s : State) : List Word := [BitVec.ofNat 32 s.now, BitVec.ofNat 32 (s.now / 2 ^ 32)]
def State.wallWords (s : State) : List Word :=
  [BitVec.ofNat 32 (s.wall % secUnits / 2 ^ 32), BitVec.ofNat 32 s.wallSec, BitVec.ofNat 32 (s.wallSec / 2 ^ 32 % 2 ^ 16)]
def State.stampWords (s : State) : List Word := [BitVec.ofNat 32 s.stamp, BitVec.ofNat 32 (s.stamp / 2 ^ 32)]

/-- Year, month and day of a count of days since 1970-01-01 (Gregorian calendar). -/
def civil (days : Nat) : Nat × Nat × Nat :=
  let z := days + 719468
  let era := z / 146097
  let doe := z % 146097
  let yoe := (doe - doe / 1460 + doe / 36524 - doe / 146096) / 365
  let doy := doe - (365 * yoe + yoe / 4 - yoe / 100)
  let mp := (5 * doy + 2) / 153
  let d := doy - (153 * mp + 2) / 5 + 1
  let m := if mp < 10 then mp + 3 else mp - 9
  (yoe + era * 400 + (if m ≤ 2 then 1 else 0), m, d)

/-- Day of the week of a count of days: 0 Monday to 6 Sunday; 1970-01-01 was a Thursday. -/
def weekday (days : Nat) : Nat := (days + 3) % 7

/-- RTC_SUBSEC, RTC_UTC, RTC_DATE, RTC_CLOCK as the calendar shows them (R354, R358). -/
def Calendar.words (c : Calendar) : List Word :=
  let days := c.sec / 86400
  let t := c.sec % 86400
  let ymd := civil days
  [BitVec.ofNat 32 (c.acc / 2 ^ 25), BitVec.ofNat 32 c.sec,
   BitVec.ofNat 32 (ymd.1 * 2 ^ 16 + weekday days * 2 ^ 12 + ymd.2.1 * 2 ^ 8 + ymd.2.2),
   BitVec.ofNat 32 (t / 3600 * 2 ^ 16 + t / 60 % 60 * 2 ^ 8 + (if c.leap60 then 60 else t % 60))]

/-- The record of the point that PNT_RDADDR selects (R154). -/
def State.rdrecWords (s : State) : List Word :=
  let b := s.recBytes (s.fld Reg.PNT_RDADDR F.PNT_RDADDR_ADDR)
  (List.range 4).map fun i => BitVec.ofNat 32 (fieldLe b (4 * i) 4)

/-- The words of a group now. -/
def State.groupWords (s : State) : RfGroup → List Word
  | .pnt =>
    let w := s.rdrecWords
    let b := s.recBytes (s.fld Reg.PNT_RDADDR F.PNT_RDADDR_ADDR)
    [w.getD 0 0, BitVec.ofNat 32 (fieldLe b 6 2 * 2 ^ 16 + fieldLe b 5 1 * 2 ^ 8 + fieldLe b 4 1), w.getD 2 0, w.getD 3 0]
  | .rtc => s.cal.words
  | .mono => s.monoWords
  | .wall => s.wallWords
  | .stamp => s.stampWords

/-- The shadows of a group, and the same with new ones. -/
def Shadows.get (h : Shadows) : RfGroup → Option (List Word)
  | .pnt => h.pnt | .rtc => h.rtc | .mono => h.mono | .wall => h.wall | .stamp => h.stamp
def Shadows.put (h : Shadows) (v : Option (List Word)) : RfGroup → Shadows
  | .pnt => { h with pnt := v } | .rtc => { h with rtc := v } | .mono => { h with mono := v } | .wall => { h with wall := v }
  | .stamp => { h with stamp := v }

/-- The block a group lies in. -/
def groupBlock : RfGroup → Nat | .pnt => Reg.PNT_RDREC0 | .rtc => Reg.RTC_SUBSEC | _ => Reg.TIM_MONOLO

/-- What the registers of a group show (R5, R154): the shadows while the group stands; after that PNT_RDREC1 to PNT_RDREC3 still show the record copied last, the other groups
what they count. -/
def State.groupShown (s : State) (g : RfGroup) : List Word :=
  (s.shadows.get g).getD (match g with | .pnt => s.shadows.rdrec | g => s.groupWords g)

/-- Freeze a group: the whole group is copied into its shadows, afresh at every read of its first register (R5, R355, R479). A block that does not answer reads 0. -/
def State.freeze (s : State) (g : RfGroup) : State :=
  if s.answers (groupBlock g) then
    let w := s.groupWords g
    let t : State := { s with shadows := { s.shadows.put (some w) g with rdrec := if g = .pnt then w else s.shadows.rdrec }, rdData := w.take 1 }
    if g = .rtc then t.setF Reg.RTC_STATUS F.RTC_STATUS_FROZEN 1 else t
  else { s with rdData := [0] }

/-- RF_GROUP_FREEZE (R5). -/
def execRfGroupFreeze (g : RfGroup) (s : State) : Answer := .next (s.freeze g)

/-- RF_GROUP_END: the last register is read, from the shadows while they stand, and the group ends (R5). -/
def execRfGroupEnd (g : RfGroup) (s : State) : Answer :=
  .next (if s.answers (groupBlock g) then
    let t : State := { s with shadows := s.shadows.put none g, rdData := ((s.groupShown g).getLast?).toList }
    if g = .rtc then t.setF Reg.RTC_STATUS F.RTC_STATUS_FROZEN 0 else t
  else { s with rdData := [0] })

/-- PNT_RDREC0_READ (R154). -/
def execPntRdrec0Read (s : State) : Answer := .next (s.freeze .pnt)

/-- RTC_SUBSEC_READ (R355). -/
def execRtcSubsecRead (s : State) : Answer := .next (s.freeze .rtc)

end Sys2Proof.Machine
end

