-- ==== Sys2Proof/Machine/Cal.lean ====
section
/-!
DEFINITION. The calendar and backup domain: ticks, commits, alarms, periodic generators, trim, the charger and the calendar's commands
(R354 to R368), and the tick of the 25 MHz reference.
-/
set_option linter.unusedVariables false
namespace Sys2Proof.Machine

/-! ### Local time and alarm instances (R359, R361) -/

/-- The spans of constant offset: first UTC second, end (none for the last), offset in seconds (R359). -/
def localSpans : List (Nat × Int) → Nat → Int → List (Nat × Option Nat × Int)
  | [], from_, off => [(from_, none, off)]
  | (u, o) :: rest, from_, off => (from_, some u, off) :: localSpans rest u (o * 60)

/-- The spans of a local-time table; without LOCAL one span with offset 0. -/
def spansOf (isLocal : Bool) (tab : List (Nat × Int)) : List (Nat × Option Nat × Int) :=
  if isLocal then localSpans tab 0 0 else [(0, none, 0)]

/-- Offset in minutes in use at a UTC second (R359). -/
def offsetAt : List (Nat × Int) → Nat → Int
  | [], _ => 0
  | (u, o) :: rest, t => if t < u then 0 else match rest with
    | [] => o
    | (v, p) :: more => if t < v then o else offsetAt ((v, p) :: more) t

/-- The greatest local time reached at or before a UTC second. -/
def localReach (spans : List (Nat × Option Nat × Int)) (t : Nat) : Int :=
  spans.foldl (fun m sp =>
    if sp.1 ≤ t then
      let last := match sp.2.1 with | some e => min t (e - 1) | none => t
      if last < sp.1 then m else max m ((last : Int) + sp.2.2)
    else m) (-1)

/-- The instance of a local time: the first UTC second whose local time is at or after it, so that a skipped time falls on the first second
after the change and a repeated one on its first occurrence (R361). -/
def instanceOf : List (Nat × Option Nat × Int) → Int → Nat
  | [], x => x.toNat
  | (f, e, o) :: rest, x =>
    let c := max f (x - o).toNat
    match e with
    | none => c
    | some u => if c < u then c else instanceOf rest x

/-- How many times of a definition lie at or below a local time (R361): day counts for DAILY and WEEKLY, steps for INTERVAL. -/
def countUpTo (d : AlarmDef) (m : Int) : Nat :=
  if m < d.at_ then 0
  else
    let n := (m - d.at_).toNat
    if d.mode = 1 then 1
    else if d.mode = 2 then n / 86400 + 1
    else if d.mode = 3 then
      let days := n / 86400 + 1
      let pop := ((List.range 7).filter (bitOf d.dayMask)).length
      days / 7 * pop + ((List.range (days % 7)).filter fun i => bitOf d.dayMask (weekday (days / 7 * 7 + i))).length
    else if d.mode = 4 then n / max 1 d.ivl + 1
    else 0

/-- The first time of a definition above a local time; none when there is none. -/
def nextTime (d : AlarmDef) (m : Int) : Option Int :=
  if d.mode = 1 then (if m < d.at_ then some d.at_ else none)
  else if d.mode = 2 then
    let k := if m < d.at_ then 0 else (m - d.at_).toNat / 86400 + 1
    some ((k : Int) * 86400 + d.at_)
  else if d.mode = 3 then
    let k := if m < d.at_ then 0 else (m - d.at_).toNat / 86400 + 1
    ((List.range 7).find? fun i => bitOf d.dayMask (weekday (k + i))).map fun i => ((k + i : Nat) : Int) * 86400 + d.at_
  else if d.mode = 4 then
    let k := if m < d.at_ then 0 else (m - d.at_).toNat / max 1 d.ivl + 1
    some ((k : Int) * d.ivl + d.at_)
  else none

/-- No instance: the code of NEXT and LAST (RTC_ALM registers). -/
def noTime : Nat := 0xFFFFFFFF

/-- next_after: the first instance strictly later than `t`, or NONE (R362). -/
def nextAfter (tab : List (Nat × Int)) (d : AlarmDef) (t : Nat) : Nat :=
  let sp := spansOf d.isLocal tab
  match nextTime d (localReach sp t) with
  | none => noTime
  | some x => min noTime (instanceOf sp x)

/-- instances_between: the instances in (a, b] (R362). -/
def instancesBetween (tab : List (Nat × Int)) (d : AlarmDef) (a b : Nat) : Nat :=
  let sp := spansOf d.isLocal tab
  countUpTo d (localReach sp b) - countUpTo d (localReach sp a)

/-! ### Alarms (R361 to R363) -/

/-- The definition that the registers of alarm `a` hold. -/
def State.alarmDef (s : State) (a : Nat) : AlarmDef :=
  { alarm := a, mode := s.fld (Reg.RTC_ALM_CFG a) F.RTC_ALM_CFG_MODE, isLocal := s.flag (Reg.RTC_ALM_CFG a) F.RTC_ALM_CFG_LOCAL
    dayMask := s.fld (Reg.RTC_ALM_CFG a) F.RTC_ALM_CFG_DAYMASK, at_ := s.rdN (Reg.RTC_ALM_AT a), ivl := s.rdN (Reg.RTC_ALM_IVL a) }

/-- Quality of the calendar and local fields (R366). -/
def State.calQuality (s : State) : Nat :=
  if s.flag Reg.RTC_STATUS F.RTC_STATUS_INVALID then Q.bad else if s.locked then Q.good else Q.unverified

/-- A write of a time point by the timekeeper (R366). -/
def State.timePoint (s : State) (off v q : Nat) : PtOp :=
  .write { addr := 0x1E10000 + off, value := BitVec.ofNat 32 v, quality := q, writer := 0x00B0, stamp := s.stamp }

/-- A count point rises by 1, as one application (R360, R362). -/
def State.countPoint (s : State) (off : Nat) : State :=
  s.apply [s.timePoint off ((s.pt (0x1E10000 + off)).value.toNat + 1) Q.good]

/-- An alarm fires (R362). -/
def State.fireAlarm (s : State) (a inst skipped : Nat) (late : Bool) : State :=
  let t := s.wrN Reg.RTC_CAUSE (putBits (s.rdN Reg.RTC_CAUSE) (4 + a) 1 1)
  (t.countPoint (0x20 + a)).event 0x1103 0 noInst (le 1 a ++ le 4 inst ++ le 1 (bit late) ++ le 4 skipped)

/-- alarm_eval (R362). -/
def State.evalAlarm (s : State) (stepped : Bool) (a : Nat) : State :=
  let d := s.alarmDef a
  let now := s.cal.sec
  let next := s.rdN (Reg.RTC_ALM_NEXT a)
  let last := s.rdN (Reg.RTC_ALM_LAST a)
  if d.mode = 0 then s
  else if next ≠ noTime && next ≤ now then
    let skip := min (2 ^ 32 - 1) (s.rdN (Reg.RTC_ALM_SKIP a) + instancesBetween s.cfg.time.locals d next now)
    let t := s.wrN (Reg.RTC_ALM_SKIP a) skip
    let t := t.fireAlarm a next skip (decide (next < now))
    (t.wrN (Reg.RTC_ALM_LAST a) next).wrN (Reg.RTC_ALM_NEXT a) (if d.mode = 1 then noTime else nextAfter s.cfg.time.locals d now)
  else if stepped && d.mode ≠ 1 then
    s.wrN (Reg.RTC_ALM_NEXT a) (nextAfter s.cfg.time.locals d (if last = noTime then now else max now last))
  else s

/-- Evaluate every alarm; none before stage 0x7, and none while the calendar is lost (R363, R364). -/
def State.evalAlarms (s : State) (stepped : Bool) : State :=
  if s.stage = 7 && !s.flag Reg.RTC_STATUS F.RTC_STATUS_INVALID then (List.range 8).foldl (fun t a => t.evalAlarm stepped a) s else s

/-- Define an alarm: NEXT is the first instance after now, LAST is NONE (R363). -/
def State.defineAlarm (s : State) (d : AlarmDef) : State :=
  let t := ((s.wrN (Reg.RTC_ALM_CFG d.alarm) (d.dayMask % 256 * 2 ^ 24 + bit d.isLocal * 64 + d.mode % 8)).wrN (Reg.RTC_ALM_AT d.alarm) d.at_).wrN
    (Reg.RTC_ALM_IVL d.alarm) d.ivl
  (t.wrN (Reg.RTC_ALM_NEXT d.alarm) (nextAfter s.cfg.time.locals d s.cal.sec)).wrN (Reg.RTC_ALM_LAST d.alarm) noTime

/-- Is an alarm definition in range (R361, R367)? -/
def AlarmDef.ok (d : AlarmDef) (flags : Nat) : Bool :=
  decide (d.alarm < 8 ∧ d.mode ≤ 4 ∧ flags < 2 ∧ d.dayMask < 128) && (!(d.mode == 2 || d.mode == 3) || decide (d.at_ < 86400))
    && (d.mode != 4 || decide (1 ≤ d.ivl))

/-! ### Calendar seconds, steps and leap seconds (R354 to R358) -/

/-- The calendar instant in 1/256 s (R360). -/
def State.calInstant (s : State) : Nat := s.cal.sec * 256 + s.cal.acc / 2 ^ 25 / 128

/-- The leap second at the end of the UTC day: 1 insert, 2 delete (R358). -/
def State.leap (s : State) : Nat := s.fld Reg.TIM_UTCOFF F.TIM_UTCOFF_LEAP

/-- TAI - UTC in s, signed. -/
def State.utcOff (s : State) : Int := sext 16 (s.fld Reg.TIM_UTCOFF F.TIM_UTCOFF_OFFSET)

/-- A leap second is applied: TAI - UTC changes, LEAP returns to 0, recorded (R358, R370). -/
def State.leapDone (s : State) (dir : Nat) : State :=
  let off := ofInt 16 (s.utcOff + (if dir = 1 then 1 else -1))
  (s.setUtcOff off 0).event 0x1003 0 noInst (le 1 dir ++ le 2 off)

/-- The accumulator has overflowed: the next second begins. At the end of a UTC day a leap second is inserted (23:59:60 is shown, UTC holds
the value of 23:59:59, so the instants of R360 come again) or 23:59:59 is omitted (R358). -/
def State.nextSecond (s : State) : State :=
  let t : State := { s with calRun := { s.calRun with due := true } }
  if s.leap = 1 && s.cal.sec % 86400 = 86399 && !s.cal.leap60 then
    ({ t with cal := { t.cal with leap60 := true }, calRun := { t.calRun with fired := [] } } : State).leapDone 1
  else if s.leap = 2 && s.cal.sec % 86400 = 86398 then
    ({ t with cal := { t.cal with sec := (t.cal.sec + 2) % 2 ^ 32 } } : State).leapDone 2
  else { t with cal := { t.cal with sec := (t.cal.sec + 1) % 2 ^ 32, leap60 := false } }

/-- The step of the accumulator at one crystal tick (R354). -/
def State.crystalStep (s : State) : Nat := (2 ^ 25 + sext 16 (s.fld Reg.RTC_TRIM F.RTC_TRIM_TRIM)).toNat

/-- One crystal tick (R354). -/
def State.crystalTick (s : State) : State :=
  let a := s.cal.acc + s.crystalStep
  let t : State := { s with cal := { s.cal with acc := a % 2 ^ 40 } }
  if 2 ^ 40 ≤ a then t.nextSecond else t

/-- A calendar step (R356, R360, R362): recorded, INVALID clears, generators start again after the new time, alarms are evaluated. Causes: 1
commit, 2 from wall, 3 follow. -/
def State.calStep (s : State) (sec acc cause : Nat) : State :=
  let old := s.cal.sec
  let t : State := { s with cal := { sec := sec, acc := acc, leap60 := false, lost := false } }
  let t := (t.setF Reg.RTC_STATUS F.RTC_STATUS_INVALID 0).event 0x1101 0 noInst (le 4 old ++ le 4 sec ++ le 1 cause)
  let t : State := { t with calRun := { t.calRun with fired := [(0, t.calInstant), (1, t.calInstant), (2, t.calInstant), (3, t.calInstant)] } }
  t.evalAlarms true

/-- The calendar time that the wall base gives at its current whole second (R356). -/
def State.calFromWall (s : State) : Nat := ofInt 32 ((s.wallSec : Int) - s.utcOff)

/-- One tick of the 25 MHz reference (R342, R343): the base advances by the increment in effect, a waiting increment takes effect first; the
crystal ticks when the free phase between the two oscillators says so. In module reset the base stands at 0, and the crystal runs on. -/
def State.tick (s : State) : State :=
  let inc := s.clock.incrNext.getD s.clock.incr
  let mono := if s.sup.inReset then 0 else s.clock.mono + inc
  let t : State := { s with clock := { s.clock with mono := mono, incr := inc, incrNext := none } }
  let t := t.finishAll (fun w => w.kind == .setIncr) St.ok 0 0
  let u := t.nextFree
  if Config.crystalTick t.free then u.crystalTick else u

/-- LEAP_SECOND: the crystal tick that ends the last second before a leap second (R358). -/
def execLeapSecond (s : State) : Answer :=
  let atEnd := (s.leap == 1 && s.cal.sec % 86400 == 86399 && !s.cal.leap60) || (s.leap == 2 && s.cal.sec % 86400 == 86398)
  .next (if atEnd && decide (2 ^ 40 ≤ s.cal.acc + s.crystalStep) then s.crystalTick else s)

/-- The time points of one calendar second (R366), written as one application. -/
def State.timePoints (s : State) : List PtOp :=
  let off := offsetAt s.cfg.time.locals s.cal.sec
  let loc := ofInt 32 ((s.cal.sec : Int) + off * 60)
  let ymd := civil (loc / 86400)
  let t := loc % 86400
  let q := s.calQuality
  [s.timePoint 0 s.cal.sec q, s.timePoint 1 loc q, s.timePoint 2 ymd.1 q, s.timePoint 3 ymd.2.1 q, s.timePoint 4 ymd.2.2 q,
   s.timePoint 5 (weekday (loc / 86400)) q, s.timePoint 6 (t / 3600) q, s.timePoint 7 (t / 60 % 60) q,
   s.timePoint 8 (if s.cal.leap60 then 60 else t % 60) q, s.timePoint 9 (ofInt 32 off) q,
   s.timePoint 0xA s.servo Q.good, s.timePoint 0xB s.heat Q.good, s.timePoint 0xC (bit (!s.flag Reg.RTC_STATUS F.RTC_STATUS_INVALID)) Q.good]

/-- What the management firmware writes to a status point (R144). -/
def State.statusValue (s : State) (a : Nat) : Config.StatusItem → Int
  | .role => s.fld Reg.RDN_STATUS F.RDN_STATUS_ROLE
  | .heat => s.heat
  | .pace => s.fld Reg.GLB_PACE F.GLB_PACE_PACE
  | .dieTemp => sext 16 (s.fld Reg.GLB_DIETEMP F.GLB_DIETEMP_TEMP)
  | .vin => s.fld Reg.GLB_SUPPLY F.GLB_SUPPLY_VIN
  | .riser => s.fld Reg.GLB_SUPPLY F.GLB_SUPPLY_RISER
  | .vbak => s.fld Reg.GLB_SUPPLY2 F.GLB_SUPPLY2_VBAK
  | .aggregate => Config.aggregate a s.free

/-- A quantity in the coding of a type (R147), as much of it as the type holds. -/
def coded (typ enumMax : Nat) (v : Int) : Word :=
  if typ = 7 then f32OfRat v
  else if typ = 8 then BitVec.ofNat 32 (min v.toNat enumMax)
  else if typ = 3 then BitVec.ofInt 32 (sext 16 (ofInt 16 v))
  else BitVec.ofNat 32 (ofInt (if typ = 1 then 1 else if typ = 2 then 8 else if typ = 4 then 16 else 32) v)

/-- The management firmware writes module status and aggregates: one local application, writer 0x00C0 (R144, R150, R152). No rule says when; the model writes them at each
calendar second (DESIGN CHOICE, log entry 46). -/
def State.writeStatus (s : State) : State :=
  let ops := (Config.statusPoints.filter fun e => (statusPoint e.1).typ != 0 && (s.info e.1).typ == e.2.1).map fun e => PtOp.write
    { addr := e.1, value := coded e.2.1 65535 (s.statusValue e.1 e.2.2), quality := Q.good, writer := 0x00C0, stamp := s.stamp }
  (s.apply ops).nextFree

/-- CALENDAR_SECOND: a second has begun; alarms are evaluated and the time points written (R362, R366), then the module status (R144). -/
def execCalendarSecond (s : State) : Answer :=
  .next (if s.calRun.due then
    let t := ({ s with calRun := { s.calRun with due := false } } : State).evalAlarms false
    (t.apply t.timePoints).writeStatus else s)

/-- PERIODIC_FIRE: generator `k` reaches its phase and fires once at that instant (R360). -/
def execPeriodicFire (k : Nat) (s : State) : Answer :=
  let c := Reg.RTC_PER_CFG k
  let period := max 1 (s.fld c F.RTC_PER_CFG_PERIOD)
  let at_ := s.calInstant
  if k < 4 && s.stage == 7 && s.flag c F.RTC_PER_CFG_EN && at_ % period == s.fld (Reg.RTC_PER_PHASE k) F.RTC_PER_PHASE_PHASE
      && mapFind s.calRun.fired k != some at_ then
    let t : State := { s with calRun := { s.calRun with fired := mapPut s.calRun.fired k at_ } }
    let t := (t.countPoint (0x10 + k)).wrN Reg.RTC_CAUSE (putBits (t.rdN Reg.RTC_CAUSE) k 1 1)
    .next (if s.flag c F.RTC_PER_CFG_LOG && 256 ≤ period then t.event 0x1104 0 noInst (le 1 k ++ le 4 (t.pt (0x1E10010 + k)).value.toNat) else t)
  else .next s

/-! ### Commits (R356) -/

/-- The wall base cannot set the calendar: UNSET or ARB (R356, R369). -/
def State.wallUnset (s : State) : Bool := s.servo == 0 || s.arb

/-- Ask for a FROM_WALL step at the next whole second of the wall base. -/
def State.askWall (s : State) (cause : Nat) : State :=
  { s with calRun := { s.calRun with wallReq := true, wallSec := s.wallSec, wallCause := cause } }

/-- Stage a calendar time (R356). -/
def State.stageTime (s : State) (subsec : Bool) (v : Word) : State :=
  (if subsec then s.wrN Reg.RTC_STG_SUBSEC (v.toNat % 2 ^ 15) else s.wr Reg.RTC_STG_UTC v).setF Reg.RTC_STATUS F.RTC_STATUS_STAGED 1

/-- Ask for the staged time at the next crystal tick; without a staged time there is nothing to apply. -/
def State.askGo (s : State) : State :=
  if s.flag Reg.RTC_STATUS F.RTC_STATUS_STAGED then { s with calRun := { s.calRun with goReq := true } } else s

/-- A write of 1 to RTC_COMMIT.FROM_WALL (R356). -/
def State.commitFromWall (s : State) : State :=
  if s.wallUnset then s.setF Reg.RTC_STATUS F.RTC_STATUS_CMT_REJ 1 else s.askWall 2

/-- CALENDAR_STEP: the staged time is loaded at a crystal tick, or the wall-derived time at the first whole second of the wall base after the
request (R356). The commands that asked complete. -/
def execCalendarStep (s : State) : Answer :=
  if s.calRun.goReq then
    let t : State := { s with calRun := { s.calRun with goReq := false } }
    let t := t.setF Reg.RTC_STATUS F.RTC_STATUS_STAGED 0
    let t := t.calStep (s.rdN Reg.RTC_STG_UTC) (s.fld Reg.RTC_STG_SUBSEC F.RTC_STG_SUBSEC_TICKS * 2 ^ 25) 1
    .next (t.finishAll (fun w => w.kind == .rtcSet) St.ok 0 0)
  else if s.calRun.wallReq && decide (s.calRun.wallSec < s.wallSec) then
    let t : State := { s with calRun := { s.calRun with wallReq := false } }
    let t := t.calStep s.calFromWall 0 s.calRun.wallCause
    .next (t.finishAll (fun w => w.kind == .rtcFromWall) St.ok 0 0)
  else .next s

/-- CALENDAR_FOLLOW: every 64 s while FOLLOW is 1 and the timekeeper is LOCKED and not ARB, a difference above 2 ms is stepped out (R357). -/
def execCalendarFollow (s : State) : Answer :=
  if s.flag Reg.RTC_CTL F.RTC_CTL_FOLLOW && s.locked && !s.arb && decide (s.calRun.follow + secs 64 ≤ s.now) then
    let t : State := { s with calRun := { s.calRun with follow := s.now } }
    let calNs : Int := ((s.cal.sec : Int) + s.utcOff) * 1000000000 + s.cal.acc * 1000000000 / 2 ^ 40
    let diff := calNs - ((s.wall / 2 ^ 32 : Nat) : Int)
    .next (if 2000000 < diff.natAbs then t.askWall 3 else t)
  else .next s

/-- Rounded quotient, halves away from zero. -/
def roundDiv (a : Int) (b : Nat) : Int := if 0 ≤ a then (2 * a + b) / (2 * b) else -((-2 * a + b) / (2 * b))

/-- TRIM_MEASUREMENT_END: under NETWORK `x` is how many ns the calendar has fallen behind the wall base over 4,096 s, steps added; under MAINS the
mains cycles counted over 86,400 s. The rate error times 2^25 goes to MEAS and is added to TRIM (R357). -/
def execTrimMeasurementEnd (x : Int) (s : State) : Answer :=
  let src := s.fld Reg.RTC_CTL F.RTC_CTL_TRIMSRC
  let nominal : Nat := (if s.flag Reg.RTC_CTL F.RTC_CTL_MAINS60 then 60 else 50) * 86400
  let v0Good := s.fld (Reg.MTR_V_STATUS 0) F.MTR_V_STATUS_QUALITY == Q.good
  if (src == 1 && s.locked) || (src == 2 && !s.locked && v0Good) then
    let steps := if src = 1 then roundDiv (x * (2 ^ 25 : Nat)) (4096 * 10 ^ 9) else roundDiv ((x - nominal) * (2 ^ 25 : Nat)) nominal
    let old := sext 16 (s.fld Reg.RTC_TRIM F.RTC_TRIM_TRIM)
    let new := clampInt (-8590) 8590 (old + steps)
    let t := (s.setF Reg.RTC_TRIM F.RTC_TRIM_TRIM (ofInt 16 new)).setF Reg.RTC_TRIM F.RTC_TRIM_MEAS (ofInt 16 (clampInt (-32768) 32767 steps))
    .next (t.event 0x1105 0 noInst (le 2 (ofInt 16 old) ++ le 2 (ofInt 16 new) ++ le 1 src))
  else .next s

/-! ### Commands (R365, R368) -/

/-- RTC_SET: completes at the commit (R356, R368). -/
def execRtcSet (e : CmdEntry) (s : State) : Answer :=
  runCmd Op.rtcSet (.rtcSet e) e (fun _ s =>
    if 32767 < e.param 4 2 then .stat St.badFormat s
    else
      let t := (s.stageTime false (BitVec.ofNat 32 (e.param 0 4))).stageTime true (BitVec.ofNat 32 (e.param 4 2))
      s.freeRegs [Reg.RTC_STG_UTC, Reg.RTC_STG_SUBSEC] (.wait .rtcSet t.askGo)) s

/-- RTC_FROM_WALL (R368). -/
def execRtcFromWall (e : CmdEntry) (s : State) : Answer :=
  runCmd Op.rtcFromWall (.rtcFromWall e) e (fun _ s => if s.wallUnset then .stat St.wallUnset s else .wait .rtcFromWall (s.askWall 2)) s

/-- RTC_ALARM (R368). -/
def execRtcAlarm (e : CmdEntry) (s : State) : Answer :=
  runCmd Op.rtcAlarm (.rtcAlarm e) e (fun _ s =>
    let d : AlarmDef := { alarm := e.param 0 1, mode := e.param 1 1, isLocal := bitOf (e.param 2 1) 0, dayMask := e.param 3 1
                          at_ := e.param 4 4, ivl := e.param 8 4 }
    if d.ok (e.param 2 1) then .stat St.ok (s.defineAlarm d) else .stat St.badFormat s) s

/-- Load a periodic generator (R360, R367); it fires from the next aligned instant on (R368). -/
def State.definePeriodic (s : State) (k flags period phase : Nat) : State :=
  (({ s with calRun := { s.calRun with fired := mapPut s.calRun.fired k s.calInstant } } : State).wrN (Reg.RTC_PER_CFG k) (bit (bitOf flags 0) * 2 ^ 31 + bit (bitOf flags 1) * 2 ^ 30 + period % 2 ^ 25)).wrN (Reg.RTC_PER_PHASE k) phase

/-- Is a periodic entry in range (R360)? -/
def periodicOk (k flags period phase : Nat) : Bool := decide (k < 4 ∧ flags < 4 ∧ 1 ≤ period ∧ period ≤ 16777216 ∧ phase < period)

/-- RTC_PERIODIC (R368). -/
def execRtcPeriodic (e : CmdEntry) (s : State) : Answer :=
  runCmd Op.rtcPeriodic (.rtcPeriodic e) e (fun _ s =>
    if periodicOk (e.param 0 1) (e.param 1 1) (e.param 4 4) (e.param 8 4) then
      s.freeRegs [Reg.RTC_PER_CFG (e.param 0 1), Reg.RTC_PER_PHASE (e.param 0 1)]
        (.stat St.ok (s.definePeriodic (e.param 0 1) (e.param 1 1) (e.param 4 4) (e.param 8 4)))
    else .stat St.badFormat s) s

/-- Charger target in mV (R365). -/
def chargerTarget (v : Nat) : Nat := if v = 0 then 2800 else if v = 1 then 3000 else if v = 2 then 3150 else 3300

/-- The charger delivers current while it is enabled, main power is good and VBAK is below the target (R365). -/
def State.refreshCharger (s : State) : State :=
  let en := s.flag Reg.RTC_CTL F.RTC_CTL_CHG_EN
  let act := en && s.sup.powerGood && decide (s.fld Reg.GLB_SUPPLY2 F.GLB_SUPPLY2_VBAK < chargerTarget (s.fld Reg.RTC_CTL F.RTC_CTL_CHG_V))
  let t := s.setF Reg.RTC_STATUS F.RTC_STATUS_CHG_ACTIVE (bit act)
  { t with calRun := { t.calRun with chargeSince := if !act then none else match t.calRun.chargeSince with | some x => some x | none => some t.now } }

/-- RTC_CHARGER (R365). -/
def execRtcCharger (e : CmdEntry) (s : State) : Answer :=
  runCmd Op.rtcCharger (.rtcCharger e) e (fun _ s =>
    if !s.maint then .stat St.unauthorised s
    else if 1 < e.param 0 1 || 3 < e.param 1 1 || 3 < e.param 2 1 then .stat St.badFormat s
    else
      let t := ((s.setF Reg.RTC_CTL F.RTC_CTL_CHG_EN (e.param 0 1)).setF Reg.RTC_CTL F.RTC_CTL_CHG_V (e.param 1 1)).setF Reg.RTC_CTL
        F.RTC_CTL_CHG_I (e.param 2 1)
      s.freeRegs [Reg.RTC_CTL] (.stat St.ok t.refreshCharger)) s

/-- RTC_SETTRIM: -8,590 to +8,590 (R354, R368). -/
def execRtcSettrim (e : CmdEntry) (s : State) : Answer :=
  runCmd Op.rtcSettrim (.rtcSettrim e) e (fun _ s =>
    let v := sext 16 (e.param 0 2)
    if s.fld Reg.RTC_CTL F.RTC_CTL_TRIMSRC ≠ 0 then .stat St.refused s
    else if v < -8590 || 8590 < v then .stat St.badFormat s
    else s.freeRegs [Reg.RTC_TRIM] (.stat St.ok (s.setF Reg.RTC_TRIM F.RTC_TRIM_TRIM (ofInt 16 v)))) s

/-- CHARGER_FAULT: VBAK below 1.0 V after 60 s of charging switches the charger off (R365). -/
def execChargerFault (s : State) : Answer :=
  let vbak := s.fld Reg.GLB_SUPPLY2 F.GLB_SUPPLY2_VBAK
  match s.calRun.chargeSince with
  | some t0 =>
    if decide (t0 + secs 60 ≤ s.now) && decide (vbak < 1000) then
      let t := ((s.setF Reg.RTC_CTL F.RTC_CTL_CHG_EN 0).setF Reg.RTC_STATUS F.RTC_STATUS_CHG_FAULT 1).refreshCharger
      .next (t.event 0x1106 1 noInst (le 2 vbak))
    else .next s
  | none => .next s

/-! ### The time section (R367) -/

/-- One local-time entry: 8 bytes. -/
def parseLocals : Nat → List Byte → List (Nat × Int)
  | 0, _ => []
  | n + 1, b => (fieldLe b 0 4, sext 16 (fieldLe b 4 2)) :: parseLocals n (b.drop 8)

/-- Alarm entries: 16 bytes each, with the flags byte. -/
def parseAlarms : Nat → List Byte → List (AlarmDef × Nat)
  | 0, _ => []
  | n + 1, b =>
    ({ alarm := fieldLe b 0 1, mode := fieldLe b 1 1, isLocal := bitOf (fieldLe b 2 1) 0, dayMask := fieldLe b 3 1
       at_ := fieldLe b 4 4, ivl := fieldLe b 8 4 }, fieldLe b 2 1) :: parseAlarms n (b.drop 16)

/-- Periodic entries: 12 bytes each: generator, flags, period, phase. -/
def parsePeriodics : Nat → List Byte → List (Nat × Nat × Nat × Nat)
  | 0, _ => []
  | n + 1, b => (fieldLe b 0 1, fieldLe b 1 1, fieldLe b 4 4, fieldLe b 8 4) :: parsePeriodics n (b.drop 12)

/-- Are reserved bytes of the entries zero? -/
def reservedZero : Nat → Nat → List (Nat × Nat) → List Byte → Bool
  | 0, _, _, _ => true
  | n + 1, size, res, b => res.all (fun r => allZero (slice b r.1 r.2)) && reservedZero n size res (b.drop size)

/-- Keys strictly rising. -/
def risingBy {α : Type} (f : α → Nat) : List α → Bool
  | a :: b :: l => decide (f a < f b) && risingBy f (b :: l)
  | _ => true

/-- The time section (R367); none where a field is out of range. -/
def parseTime (b : List Byte) : Option TimeCfg :=
  let nl := fieldLe b 24 1
  let na := fieldLe b 25 1
  let np := fieldLe b 26 1
  let locs := parseLocals nl (b.drop 32)
  let al := parseAlarms na (b.drop (32 + 8 * nl))
  let pe := parsePeriodics np (b.drop (32 + 8 * nl + 16 * na))
  let ls := sext 8 (fieldLe b 18 1)
  let la := sext 8 (fieldLe b 19 1)
  let ld := sext 8 (fieldLe b 20 1)
  if b.length = 32 + 8 * nl + 16 * na + 12 * np && fieldLe b 0 2 == 1 && decide (fieldLe b 2 1 ≤ 3) && decide (fieldLe b 3 1 < 32)
      && fieldLe b 3 1 / 4 % 4 != 3 && decide (1 ≤ fieldLe b 4 4 ∧ fieldLe b 4 4 ≤ 65535) && decide (10 ≤ fieldLe b 8 4 ∧ fieldLe b 8 4 ≤ 65535)
      && decide (fieldLe b 12 1 ≤ 127) && decide (fieldLe b 13 1 < 16) && decide (fieldLe b 14 1 < 16)
      && decide (-4 ≤ ls ∧ ls ≤ 1) && decide (0 ≤ la ∧ la ≤ 3) && decide (-4 ≤ ld ∧ ld ≤ 5) && fieldLe b 21 1 == 0 && fieldLe b 27 5 == 0
      && decide (nl ≤ 32 ∧ na ≤ 8 ∧ np ≤ 4) && risingBy (·.1) locs && locs.all (fun l => decide (-900 ≤ l.2 ∧ l.2 ≤ 900))
      && al.all (fun a => a.1.ok a.2) && pe.all (fun p => periodicOk p.1 p.2.1 p.2.2.1 p.2.2.2)
      && reservedZero nl 8 [(6, 2)] (b.drop 32) && reservedZero na 16 [(12, 4)] (b.drop (32 + 8 * nl))
      && reservedZero np 12 [(2, 2)] (b.drop (32 + 8 * nl + 16 * na)) then
    some { src := fieldLe b 2 1, flags := fieldLe b 3 1, stepUs := fieldLe b 4 4, lockNs := fieldLe b 8 4, domain := fieldLe b 12 1
           portMode := [fieldLe b 13 1, fieldLe b 14 1], prio1 := fieldLe b 15 1, prio2 := fieldLe b 16 1, clockClass := fieldLe b 17 1
           logSync := fieldLe b 18 1, logAnnounce := fieldLe b 19 1, logDelay := fieldLe b 20 1, utcOffset := fieldLe b 22 2
           locals := locs, alarms := al.map (·.1), periodics := pe }
  else none

/-- The fields of the backup domain that a commit with the time section writes, and that stage 0x5 takes from the configuration where the backup was lost
(R364). -/
def State.loadKept (s : State) (c : TimeCfg) : State :=
  ((s.setF Reg.RTC_CTL F.RTC_CTL_FOLLOW (c.flags / 2 % 2)).setF Reg.RTC_CTL F.RTC_CTL_TRIMSRC (c.flags / 4 % 4)).setF Reg.RTC_CTL
    F.RTC_CTL_MAINS60 (c.flags / 16 % 2)

/-- Load the time section at stage 0x4 or at a commit that carries it (R363, R481): registers "from configuration", and the alarms whose definition
changes. -/
def State.loadTime (s : State) (c : TimeCfg) : State :=
  let s : State := { s with cfg := { s.cfg with time := c } }
  let s := (s.setF Reg.TIM_CTL F.TIM_CTL_SRC c.src).setF Reg.TIM_CTL F.TIM_CTL_AUTOSTEP (c.flags % 2)
  let s := (s.setF Reg.TIM_SERVO F.TIM_SERVO_STEP_US c.stepUs).setF Reg.TIM_SERVO F.TIM_SERVO_LOCK_NS c.lockNs
  let s := ((s.setF Reg.TIM_PTPCFG F.TIM_PTPCFG_DOMAIN c.domain).setF Reg.TIM_PTPCFG F.TIM_PTPCFG_PEER (c.portMode.getD 0 0)).setF Reg.TIM_PTPCFG
    F.TIM_PTPCFG_SITE (c.portMode.getD 1 0)
  let s := (List.range 4).foldl (fun t k =>
    match c.periodics.find? (·.1 == k) with
    | some p => t.definePeriodic k p.2.1 p.2.2.1 p.2.2.2
    | none => t.definePeriodic k 0 0 0) s
  let s := (List.range 8).foldl (fun t a =>
    let d : AlarmDef := (c.alarms.find? (·.alarm == a)).getD { alarm := a, mode := 0, isLocal := false, dayMask := 0, at_ := 0, ivl := 0 }
    if t.alarmDef a = d then t else t.defineAlarm d) s
  s.refreshServo.showPorts

end Sys2Proof.Machine
end

