-- ==== Sys2Proof/Machine/Quant.lean ====
section
/-!
DEFINITION. Quantities that the spec names a unit for: rounding where it states none, and square roots as binary32.
-/
set_option linter.unusedVariables false
namespace Sys2Proof.Machine

/-- A quantity in whole units where the spec states no rounding: exact where it is whole, either neighbour otherwise. -/
def quant (q : Rat) : Int := if (q.floor : Rat) = q then q.floor else q.floor + bit (Config.roundUp q)

/-- The same for a quantity that is not negative. -/
def quantN (q : Rat) : Nat := (quant q).toNat

/-- The binary32 word nearest to the square root of a number that is not negative. -/
def f32SqrtRat (r : Rat) : Word :=
  let n := r.num.natAbs * 2 ^ 400
  let m := n / r.den
  let q := Nat.sqrt m
  roundF32 false q (-200) (n % r.den != 0 || q * q != m)

/-- The value of a binary32 word; infinities and NaNs count as 0. -/
def f32Val (w : Word) : Rat := (F32.ofWord w).rat

/-- The larger of two quantities. -/
def ratMax (x y : Rat) : Rat := if x < y then y else x

/-- The absolute value. -/
def ratAbs (x : Rat) : Rat := if x < 0 then -x else x

end Sys2Proof.Machine
end

