-- ==== Sys2Proof/Machine/Meter.lean ====
section
/-!
DEFINITION. The energy engine (R371 to R397): samples, windows, accumulators, intervals, records, pulse outputs and the metering commands.
-/
set_option linter.unusedVariables false
namespace Sys2Proof.Machine

/-! ### Access -/

/-- A current channel, a voltage channel, a pulse output. -/
def State.mtrChan (s : State) (k : Nat) : MtrChan := mapGet (fun _ => {}) s.meter.chans k
def State.mtrVolt (s : State) (v : Nat) : MtrVolt := mapGet (fun _ => {}) s.meter.volts v
def State.mtrPulse (s : State) (j : Nat) : MtrPulse := mapGet (fun _ => {}) s.meter.pulses j
def State.setMtrChan (s : State) (k : Nat) (c : MtrChan) : State := { s with meter := { s.meter with chans := mapSet (fun _ => {}) s.meter.chans k c } }
def State.setMtrVolt (s : State) (v : Nat) (c : MtrVolt) : State := { s with meter := { s.meter with volts := mapSet (fun _ => {}) s.meter.volts v c } }
def State.setMtrPulse (s : State) (j : Nat) (c : MtrPulse) : State := { s with meter := { s.meter with pulses := mapSet (fun _ => {}) s.meter.pulses j c } }

/-- The current record of a channel, if it is enabled. -/
def State.mtrCur (s : State) (k : Nat) : Option MtrCCfg :=
  match s.cfg.meter.currents[k]? with
  | some c => if c.enable then some c else none
  | none => none

/-- The voltage record of a channel, if it is enabled. -/
def State.mtrVcfg (s : State) (v : Nat) : Option MtrVCfg :=
  match s.cfg.meter.volts[v]? with
  | some c => if c.enable then some c else none
  | none => none

/-- The enabled current channels. -/
def State.mtrOn (s : State) : List Nat := (List.range 32).filter fun k => (s.mtrCur k).isSome

/-- MTR_STATUS.STATE: 0 IDLE, 1 OPEN, 2 CLOSED. -/
def State.mtrState (s : State) : Nat := s.fld Reg.MTR_STATUS F.MTR_STATUS_STATE

/-- The roles in which the energy engine meters (R394). -/
def State.mtrRole (s : State) : Bool := s.leads || s.role == .standby

/-- A point write of the energy engine (R378): writer 0x0090. -/
def mtrWrite (a : Nat) (v : Word) (q stamp : Nat) : PtOp := .write { addr := a, value := v, quality := q, writer := 0x0090, stamp := stamp }

/-- A 64-bit value in a PAIR_LO and PAIR_HI point. -/
def mtrPair (a v q stamp : Nat) : List PtOp :=
  [mtrWrite a (BitVec.ofNat 32 v) q stamp, mtrWrite (a + 1) (BitVec.ofNat 32 (v / 2 ^ 32)) q stamp]

/-- The value of a pair of points. -/
def State.pairVal (s : State) (a : Nat) : Nat := (s.pt a).value.toNat + (s.pt (a + 1)).value.toNat * 2 ^ 32

/-! ### Intervals (R382 to R384, R390) -/

/-- UTC seconds: wall seconds less TIM_UTCOFF.OFFSET (R382). -/
def State.utcNow (s : State) : Nat := ofInt 48 ((s.wallSec : Int) - s.utcOff)

/-- The first boundary after now (R382): the wall base set, a multiple in UTC seconds; otherwise a multiple counted from the opening in monotonic ns. -/
def State.mtrNext (s : State) : Nat :=
  let len := s.cfg.meter.interval * 60
  if s.servo = 0 then s.meter.origin + ((s.now - s.meter.origin) / secs len + 1) * secs len else (s.utcNow / len + 1) * len

/-- Set the next boundary and MTR_STATUS.UNALIGNED (R382). -/
def State.mtrSetNext (s : State) : State :=
  ({ s with meter := { s.meter with nextEnd := s.mtrNext, unaligned := s.servo == 0 } } : State).setF Reg.MTR_STATUS F.MTR_STATUS_UNALIGNED
    (bit (s.servo == 0))

/-- Open an interval on a channel at the present sample. -/
def State.mtrOpenOne (s : State) (onBoundary : Bool) (flags unmeas : Nat) (k : Nat) : State :=
  let c := s.mtrChan k
  let o : MtrOpen :=
    { openStamp := s.stamp, onBoundary := onBoundary, totals := c.acc.map (· / 2 ^ 32), jumps := List.replicate 8 0, flags := flags, unmeasured := unmeas }
  s.setMtrChan k { c with open_ := some o }

/-- Show the open stamp. -/
def State.mtrShowOpen (s : State) : State := (s.wrN Reg.MTR_OPENLO s.stamp).wrN Reg.MTR_OPENHI (s.stamp / 2 ^ 32)

/-- An open interval takes a sample: the first one gives its open stamp (R384). -/
def MtrOpen.sampled (o : MtrOpen) (stamp : Nat) : MtrOpen :=
  { o with samples := o.samples + 1, openStamp := if o.samples = 0 then stamp else o.openStamp }

/-- The role code of a record (R384): 0 ALONE, 1 ACTIVE, 2 STANDBY. -/
def mtrRoleCode : Role → Nat | .alone => 0 | .active => 1 | _ => 2

/-- A mean in thousandths, 0 over nothing. -/
def meanMilli (sum : Rat) (n : Rat) : Nat := if n = 0 then 0 else quantN (sum * 1000 / n)

/-- The record of a channel's open interval (R384). PARTIAL is an interval opened or closed off a boundary. -/
def State.mtrRecord (s : State) (k cause : Nat) (c : MtrChan) (o : MtrOpen) (seq : Nat) : MtrRec :=
  let ints := c.acc.map (· / 2 ^ 32)
  let energy := (List.range 8).map fun j => ofInt 64 (((ints.getD j 0 : Nat) : Int) - ((o.totals.getD j 0 : Nat) : Int) - o.jumps.getD j 0)
  let flags := o.flags + 4 * bit (!(o.onBoundary && cause == 1)) + 8 * bit (cause == 2) + 16 * bit (cause == 3) + 2 ^ 10 * bit s.meter.unaligned
  { seq := seq, chan := k, unitRole := s.unit + 2 * mtrRoleCode s.role, flags := flags, count := addMod32 c.count 1
    intervalS := s.fld Reg.MTR_INTERVAL F.MTR_INTERVAL_SECONDS, cause := cause, openStamp := o.openStamp, closeStamp := s.meter.lastStamp
    measuredMs := o.samples / 8, unmeasuredMs := o.unmeasured, energy := energy
    iRms := meanMilli o.iSum o.dSum, vRms := meanMilli o.vSum o.wins, freq := meanMilli o.fSum o.freqWins
    overload := min 65535 o.overload, calClose := s.meter.lastCal }

/-- Apportion a channel's A_IMP increase among its zones (R390). -/
def State.apportion (s : State) (k cause energy : Nat) (drive : List (Nat × Nat)) : State :=
  let zs := s.cfg.meter.zones.filter (·.2 == k)
  let total := (zs.map fun z => mapGet (fun _ => 0) drive z.1).sum
  let share (z : Nat) : Nat := if cause = 3 ∨ total = 0 then 0 else energy * mapGet (fun _ => 0) drive z / total
  let given := (zs.map fun z => share z.1).sum
  let ua := 0x1E40000 + 0x40 * k + 0x10
  s.apply ((zs.flatMap fun z => mtrPair (zoneAddr z.1 0x44) ((s.pairVal (zoneAddr z.1 0x44) + share z.1) % 2 ^ 64) Q.unverified s.stamp)
    ++ mtrPair ua ((s.pairVal ua + (energy - given)) % 2 ^ 64) Q.good s.stamp)

/-- Close the open interval of a channel with a cause (R383). -/
def State.mtrCloseOne (s : State) (cause : Nat) (k : Nat) : State :=
  let c := s.mtrChan k
  match c.open_ with
  | none => s
  | some o =>
    let seq := addMod32 s.meter.seq 1
    let r := s.mtrRecord k cause c o seq
    let t := s.setMtrChan k { c with open_ := none, count := r.count }
    let t : State := { t with meter := { t.meter with seq := seq, closed := t.meter.closed ++ [r] } }
    t.apportion k cause (r.energy.getD 0 0) o.drive

/-- Close some channels' intervals and open the next at the same sample (R383). -/
def State.mtrTurn (s : State) (cause : Nat) (ks : List Nat) : State :=
  let t := ks.foldl (fun t k => t.mtrCloseOne cause k) s
  let t := t.mtrSetNext
  (ks.foldl (fun t k => if (t.mtrCur k).isSome then t.mtrOpenOne (cause == 1) 0 0 k else t) t).mtrShowOpen

/-- Milliseconds between two calendar times, 0xFFFF_FFFF where one is not known or the difference is negative (R386). -/
def calGap (since now : Option Nat) : Nat :=
  match since, now with
  | some a, some b => if a ≤ b then min 0xFFFFFFFE ((b - a) * 1000) else 0xFFFFFFFF
  | _, _ => 0xFFFFFFFF

/-- Open metering (R386): the totals continue from the snapshot and the archive (R387), every enabled channel opens its interval with
UNMEASURED. Cause 1 start-up, 2 dip recovered. Of rebuilt totals the unmeasured time is that of each channel since its own last archived record; the
register and the event show the time since the last record of all. -/
def State.mtrReopen (s : State) (cause : Nat) : State :=
  if !s.mtrRole || s.defaulted || s.cfg.meter.currents.isEmpty then s
  else
    let snap := s.meter.snap
    let base := snap.getD {}
    let after (k : Nat) := s.flash.archive.filter fun r => r.chan == k && decide (0 < seqDiff r.seq base.seq) && !(base.records.any (·.seq == r.seq))
    let known := s.flash.archive.map (·.seq)
    let t := if cause = 2 || s.meter.opened then s else
      (List.range 32).foldl (fun (t : State) k =>
        let acc := (List.range 8).map fun j =>
          (((mapGet (fun _ => List.replicate 8 0) base.accs k).getD j 0) + ((after k).map fun r => r.energy.getD j 0).sum * 2 ^ 32) % 2 ^ 96
        let n := match (after k).getLast? with | some r => r.count | none => mapGet (fun _ => 0) base.counts k
        t.setMtrChan k { t.mtrChan k with acc := acc, count := n }) s
    let fresh := base.records.filter fun r => !known.contains r.seq
    let last := (s.flash.archive.map (·.seq)).foldl (fun m q => if 0 < seqDiff q m then q else m) base.seq
    let t : State := if cause = 2 || s.meter.opened then t else
      { t with meter := { t.meter with
        seq := base.records.foldl (fun m r => if 0 < seqDiff r.seq m then r.seq else m) last, closed := fresh ++ t.meter.closed } }
    let calNow := if s.cal.lost || s.meter.opened && cause = 1 then none else some s.cal.sec
    let first := cause = 1 && snap.isNone && !s.meter.rebuilt
    let gap (rs : List MtrRec) : Nat :=
      if first then 0 else if cause = 2 then min 0xFFFFFFFE ((s.now - s.meter.lastAt) / 1000000)
      else calGap (if s.meter.rebuilt then rs.getLast?.map (·.calClose) else base.calSec) calNow
    let unmeas := gap s.flash.archive
    let own (k : Nat) : Nat := gap (s.flash.archive.filter (·.chan == k))
    let flags (x : Nat) : Nat := if first then 0 else 32 + 64 * bit (x == 0xFFFFFFFF) + 2 ^ 11 * bit (s.meter.rebuilt && cause == 1)
    let t := ({ t with meter := { t.meter with origin := t.now } } : State).mtrSetNext
    let t := t.mtrOn.foldl (fun t k => t.mtrOpenOne (t.meter.unaligned) (flags (own k)) (own k) k) t
    let t := ((t.setF Reg.MTR_STATUS F.MTR_STATUS_STATE 1).setF Reg.MTR_STATUS F.MTR_STATUS_REBUILT (bit (s.meter.rebuilt && cause == 1))).wrN Reg.MTR_UNMEAS unmeas
    let t := t.event 0x1201 0 noInst (le 1 (if s.meter.rebuilt && cause = 1 then 3 else cause) ++ le 4 unmeas)
    ({ t with meter := { t.meter with snap := none, rebuilt := false, opened := true, cutPending := false, stepped := false } } : State).mtrShowOpen

/-- Instantaneous points of the energy engine. -/
def State.mtrInstant (s : State) : List Nat :=
  (s.mtrOn.flatMap fun k => (List.range 9).map fun o => 0x1E20000 + 0x800 * k + o)
    ++ ((List.range 4).filter fun v => (s.mtrVcfg v).isSome).flatMap fun v => (List.range 6).map fun o => 0x1E30000 + 0x800 * v + o

/-- The quality of V_RMS as last shown. -/
def State.mtrVq (s : State) (v : Nat) : Nat := s.fld (Reg.MTR_V_STATUS v) F.MTR_V_STATUS_QUALITY

/-- V_RMS of a voltage channel takes a quality: a change is shown and recorded (R378, R398). -/
def State.setMtrVq (s : State) (q v : Nat) : State :=
  if s.mtrVq v = q then s else (s.setF (Reg.MTR_V_STATUS v) F.MTR_V_STATUS_QUALITY q).event 0x1207 0 v (le 1 v ++ le 1 q)

/-- Metering closes at a power-fail warning (R386, t0): the instantaneous points go STALE in one application. -/
def State.mtrShut (s : State) : State :=
  if s.mtrState ≠ 1 then s
  else
    let t := (s.setF Reg.MTR_STATUS F.MTR_STATUS_STATE 2).apply (s.mtrInstant.map fun a => .quality a Q.stale)
    let t := ((List.range 4).filter fun v => (s.mtrVcfg v).isSome).foldl (fun (t : State) v => t.setMtrVq Q.stale v) t
    let t := t.event 0x1202 1 noInst (le 8 t.meter.lastStamp)
    { t with meter := { t.meter with cutPending := true } }

/-- A pulse in progress goes off (R36, R391). -/
def State.pulseOff (s : State) (j : Nat) : State :=
  (s.setMtrPulse j { s.mtrPulse j with on := none }).setF (Reg.MTR_PULSE_STATUS j) F.MTR_PULSE_STATUS_ON 0

/-- One millisecond after the warning (R386): pulse outputs off, each open interval becomes a record with cause POWER_CUT. -/
def State.mtrCut (s : State) : State :=
  if !s.meter.cutPending then s
  else
    let t := (List.range 8).foldl State.pulseOff s
    let t := t.mtrOn.foldl (fun t k => t.mtrCloseOne 3 k) t
    { t with meter := { t.meter with cutPending := false } }

/-- The snapshot of the energy engine (R386). -/
def State.mtrSnap (s : State) : MtrSnap :=
  { accs := s.meter.chans.map fun e => (e.1, e.2.acc), counts := s.meter.chans.map fun e => (e.1, e.2.count)
    pulses := (List.range 8).map fun j => (j, (s.mtrPulse j).acc, s.rdN (Reg.MTR_PULSE_COUNT j))
    records := s.meter.closed, seq := s.meter.seq, calSec := if s.cal.lost then none else some s.meter.lastCal }

/-! ### Samples (R373, R374, R379, R380, R391) -/

/-- The sample period in seconds: 125 µs × TIM_INCR ÷ 40 (R373). -/
def State.mtrPeriod (s : State) : Rat := (125 : Rat) / 1000000 * s.clock.incr / (40 * 2 ^ 32 : Nat)

/-- Energy in units of 2^-32 mWh of a power in W over a time in s (1 mWh is 3.6 J). -/
def mtrUnits (p t : Rat) : Nat := quantN (p * t * (2 ^ 32 : Nat) * 10 / 36)

/-- The energy of one sample by register: p = v · i · T and q = v90 · i · T split by direction (R379). -/
def mtrSplit (p q t : Rat) : List Nat :=
  let ep := mtrUnits (ratAbs p) t
  let eq := mtrUnits (ratAbs q) t
  let imp := decide (0 ≤ p)
  let ind := decide (0 ≤ q)
  [if imp then ep else 0, if imp then 0 else ep, if imp && ind then eq else 0, if !imp && ind then eq else 0,
   if !imp && !ind then eq else 0, if imp && !ind then eq else 0, 0, 0]

/-- Fine-path full scale in nV; coarse full scale and the full scale of a voltage channel (R34). -/
def mtrFine : Int := 15625000
def mtrFull : Int := 500000000

/-- The path of a sample (R374): path and count after it. -/
def mtrPath (fine : Bool) (below : Nat) (c f : Int) (clip : Bool) : Bool × Nat :=
  if fine then
    if clip || decide (90 * mtrFine ≤ 100 * f.natAbs) then (false, 0) else (true, below)
  else if decide (100 * (c.natAbs : Int) < 70 * mtrFine) then (if 16 ≤ below + 1 then (true, below + 1) else (false, below + 1))
  else (false, 0)

/-- A sample as its path gives it: signals beyond full scale clip (R34). -/
def mtrClip (full x : Int) : Int := clampInt (-full) full x

/-- A scaled sample in V or A. -/
def mtrScale (x : Rat) (scale gain : Word) : Rat := x / 1000000000 * f32Val scale * f32Val gain

/-- Add energies to registers. -/
def addEnergy (acc e : List Nat) : List Nat := (List.range 8).map fun j => (acc.getD j 0 + e.getD j 0) % 2 ^ 96

/-- One sample of a voltage channel: the samples v and v90 that its current channels use. -/
def State.mtrVSample (s : State) (v : Nat) (u : Int) : State × (Rat × Rat) :=
  match s.mtrVcfg v with
  | none => (s.setMtrVolt v { s.mtrVolt v with n := (s.mtrVolt v).n + 1 }, (0, 0))
  | some g =>
    let x := mtrScale (Config.meterFilter s.free (32 + v) (mtrClip mtrFull u)) g.scale g.gain
    let y := mtrScale (Config.meterFilter s.free (36 + v) (mtrClip mtrFull u)) g.scale g.gain
    let w := s.mtrVolt v
    (s.setMtrVolt v { n := w.n + 1, vv := w.vv + x * x, peak := ratMax w.peak (ratAbs x), clip := w.clip + bit (decide (mtrFull < u.natAbs)) }, (x, y))

/-- One sample of a current channel; its energy by register. -/
def State.mtrISample (s : State) (k : Nat) (g : MtrCCfg) (c f : Int) (clip : Bool) (v q : Rat) : State × List Nat :=
  let ch := s.mtrChan k
  let pth := mtrPath ch.fine ch.below c f clip
  let cl := !pth.1 && decide (mtrFull < c.natAbs)
  let x := mtrScale (Config.meterFilter s.free k (if pth.1 then mtrClip mtrFine f else mtrClip mtrFull c)) g.scale g.gain
  let i := if g.invert then -x else x
  let e := if ch.creep then List.replicate 8 0 else mtrSplit (v * i) (q * i) s.mtrPeriod
  let w := ch.win
  let t := s.setMtrChan k { ch with
    fine := pth.1, below := pth.2, acc := addEnergy ch.acc e
    open_ := ch.open_.map fun o => o.sampled s.meter.lastStamp
    win := { ii := w.ii + i * i, vi := w.vi + v * i, qi := w.qi + q * i, peak := ratMax w.peak (ratAbs i), fine := w.fine + bit pth.1, clip := w.clip + bit cl } }
  let t := t.setF (Reg.MTR_CH_STATUS k) F.MTR_CH_STATUS_PATH (bit (!pth.1))
  let t := if pth.1 == ch.fine then t else t.bump (Reg.MTR_CH_SWITCH k)
  (if cl then t.bump (Reg.MTR_CH_CLIP k) else t, e)

/-- The output is driven: ACTIVE or ALONE with PULSE_EN (R391). -/
def State.pulseDriven (s : State) : Bool := s.leads && s.flag Reg.MTR_CTL F.MTR_CTL_PULSE_EN

/-- Show a pulse output in its registers; an output that is not driven is off (R36). -/
def State.showPulse (s : State) (g : MtrPulseCfg) : State :=
  let s := if s.pulseDriven || (s.mtrPulse g.out).on.isNone then s else s.pulseOff g.out
  let p := s.mtrPulse g.out
  let unit := g.const * 2 ^ 32
  ((s.setF (Reg.MTR_PULSE_STATUS g.out) F.MTR_PULSE_STATUS_OWED (min 65535 (p.acc / unit))).setF (Reg.MTR_PULSE_STATUS g.out) F.MTR_PULSE_STATUS_DRIVEN
    (bit s.pulseDriven)).wrN (Reg.MTR_PULSE_RES g.out) (p.acc % unit / 2 ^ 32)

/-- A pulse output takes energy (R391): a pulse starts where one is due and the output is free, what is owed is shown, and reaching 1,000 is recorded
at most once per hour. -/
def State.pulseAdd (s : State) (e : Nat) (g : MtrPulseCfg) : State :=
  let p := s.mtrPulse g.out
  let unit := g.const * 2 ^ 32
  let acc := (p.acc + e) % 2 ^ 96
  let fire := p.busy == 0 && decide (unit ≤ acc)
  let acc' := if fire then acc - unit else acc
  let owed := acc' / unit
  let late := decide (p.acc / unit < 1000 ∧ 1000 ≤ owed) && (match p.backlogAt with | some t => decide (t + secs 3600 ≤ s.now) | none => true)
  let t := s.setMtrPulse g.out
    { acc := acc', busy := if fire then (g.width + g.gap) * 8 else p.busy
      on := if fire && s.pulseDriven then some (s.now + ms g.width) else p.on, backlogAt := if late then some s.now else p.backlogAt }
  let t := if fire then t.bump (Reg.MTR_PULSE_COUNT g.out) else t
  let t := if fire && s.pulseDriven then (t.setF (Reg.MTR_PULSE_STATUS g.out) F.MTR_PULSE_STATUS_ON 1).emit (.pulse g.out) else t
  let t := if late then t.event 0x1205 1 g.out (le 1 g.out ++ le 4 owed) else t
  t.showPulse g

/-- One sample of a pulse output (R391). -/
def State.pulseSample (s : State) (e : Nat) (g : MtrPulseCfg) : State :=
  let p := s.mtrPulse g.out
  (s.setMtrPulse g.out { p with busy := p.busy - 1 }).pulseAdd e g

/-- A preset that waits for its sample. -/
def Wait.preset? (w : Wait) : Option (Nat × Nat × Nat) := match w.kind with | .mtrPreset k r v => some (k, r, v) | _ => none

/-- Apply one preset (R396): the total is set, its residue cleared, the jump is kept out of the open interval. -/
def State.presetOne (s : State) (k r v : Nat) : State :=
  let c := s.mtrChan k
  let old : Nat := c.acc.getD r 0 / 2 ^ 32
  let t := s.setMtrChan k { c with
    acc := c.acc.set r (v * 2 ^ 32)
    open_ := c.open_.map fun o => { o with
      jumps := o.jumps.set r (o.jumps.getD r 0 + ((v : Int) - (old : Int)))
      flags := if bitOf o.flags 9 then o.flags else o.flags + 2 ^ 9 } }
  t.event 0x1204 1 noInst (le 1 k ++ le 1 r ++ le 8 old ++ le 8 v)

/-- Every preset that waits takes effect at this sample. -/
def State.presetAll (s : State) : State :=
  s.waits.foldl (fun t w => match w.preset? with | some p => (t.presetOne p.1 p.2.1 p.2.2).finish w St.ok 0 0 | none => t) s

/-- METER_SAMPLE (R373, R374, R379): the coarse and fine samples of the current channels with the fine paths that clip, and the samples of the
voltage channels, in nV at the inputs. A step of the wall base closes the intervals before this sample (R383). -/
def execMeterSample (c f : List Int) (clip : Nat) (u : List Int) (s : State) : Answer :=
  if s.mtrState ≠ 1 || !s.mtrRole then .next s
  else
    let s := if s.meter.stepped then s.mtrTurn 2 s.mtrOn else s
    let s := s.presetAll
    let s := if s.mtrOn.any (fun k => (s.mtrChan k).open_.any (·.samples == 0)) then s.mtrShowOpen else s
    let s : State := { s with meter := { s.meter with lastStamp := s.stamp, lastAt := s.now, lastCal := s.cal.sec, stepped := false } }
    let vs := (List.range 4).foldl (fun (p : State × List (Rat × Rat)) v =>
      let r := p.1.mtrVSample v (u.getD v 0)
      (r.1, p.2 ++ [r.2])) (s, [])
    let es := (List.range 32).foldl (fun (p : State × List (Nat × List Nat)) k =>
      match p.1.mtrCur k with
      | none => p
      | some g =>
        let v := vs.2.getD g.ref (0, 0)
        let r := p.1.mtrISample k g (c.getD k 0) (f.getD k 0) (bitOf clip k) v.1 v.2
        (r.1, p.2 ++ [(k, r.2)])) (vs.1, [])
    let t := es.1.cfg.meter.pulses.foldl (fun (t : State) g =>
      t.pulseSample ((es.2.filter fun e => bitOf g.mask e.1).map fun e => e.2.getD g.reg 0).sum g) es.1
    .next t.nextFree

/-- PULSE_END: a pulse's width has expired (R391). -/
def execPulseEnd (j : Nat) (s : State) : Answer :=
  .next (match (s.mtrPulse j).on with
    | some t => if t ≤ s.now then s.pulseOff j else s
    | none => s)

/-! ### Windows (R376 to R378, R380) -/

/-- Cycles of a window: 10 at 50 Hz nominal, 12 at 60 Hz (R376). -/
def State.mtrCycles (s : State) : Nat := if s.flag Reg.RTC_CTL F.RTC_CTL_MAINS60 then 12 else 10

/-- An angle in degrees that the rules leave to a Fourier transform, within its stated range (R377). -/
def angleWord (k : Nat) : Word :=
  let a := Config.phasor k
  f32OfRat (if a < -180 then -180 else if 180 < a then 180 else a)

/-- A quality change of some points, where it is a change. -/
def State.qualityOps (s : State) (q : Nat) (as_ : List Nat) : List PtOp := (as_.filter fun a => (s.pt a).quality ≠ q).map fun a => .quality a q

/-- The end of a window for one current channel: its point writes, and the channel after it (R377 to R380). `vq` is the quality of its reference,
`n` the samples, `d` the duration in s. -/
def State.mtrWinChan (s : State) (k : Nat) (g : MtrCCfg) (vrms freq : Word) (vq vclip n : Nat) (d : Rat) : State × List PtOp :=
  let c := s.mtrChan k
  let w := c.win
  let irms := f32SqrtRat (w.ii / n)
  let p := w.vi / n
  let q := w.qi / n
  let sap := (f32Mul (F32.ofWord vrms) (F32.ofWord irms)).getD nanWord
  let ovl := decide (0 < w.clip) || decide (0 < vclip)
  let iq := if ovl then Q.bad else Q.good
  let pq := if vq = Q.absent then Q.absent else if ovl || vq = Q.bad then Q.bad else Q.good
  let zero := f32Val sap = 0
  let pf : Word := if zero then 0 else (f32Div (F32.ofWord (f32OfRat p)) (F32.ofWord sap)).getD 0
  let a := 0x1E20000 + 0x800 * k
  let st := s.meter.lastStamp
  let ops := [mtrWrite a irms iq st, mtrWrite (a + 1) (f32OfRat p) pq st, mtrWrite (a + 2) (f32OfRat q) pq st, mtrWrite (a + 3) sap pq st,
    mtrWrite (a + 4) pf (if zero && pq != Q.absent then Q.bad else pq) st, mtrWrite (a + 5) (angleWord (s.free + k)) pq st,
    mtrWrite (a + 6) (f32OfRat w.peak) iq st,
    mtrWrite (a + 7) (BitVec.ofNat 32 (quantN ((w.fine : Rat) * 65535 / n))) iq st, mtrWrite (a + 8) (BitVec.ofNat 32 (min 65535 w.clip)) iq st]
  let app := if c.creep then 0 else mtrUnits (f32Val sap) d
  let e : List Nat := [0, 0, 0, 0, 0, 0, if 0 ≤ p then app else 0, if 0 ≤ p then 0 else app]
  let calm := decide (ratAbs p * 1000 < g.creep) && decide (ratAbs q * 1000 < g.creep)
  let ov := ovl && (match c.overloadAt with | some t => decide (t + secs 60 ≤ s.now) | none => true)
  let t := s.setMtrChan k { c with
    acc := addEnergy c.acc e, win := {}, creep := calm, overloadAt := if ov then some s.now else c.overloadAt
    open_ := c.open_.map fun o => { o with
      iSum := o.iSum + f32Val irms * d, dSum := o.dSum + d, vSum := o.vSum + f32Val vrms, wins := o.wins + 1
      fSum := o.fSum + (if vq = Q.absent then 0 else f32Val freq), freqWins := o.freqWins + bit (vq != Q.absent), overload := o.overload + bit ovl
      flags := o.flags ||| (128 * bit ovl) ||| (256 * bit (vq != Q.good)) } }
  let t := t.setF (Reg.MTR_CH_STATUS k) F.MTR_CH_STATUS_CREEP (bit calm)
  let t := if ovl then t.setF (Reg.MTR_CH_STATUS k) F.MTR_CH_STATUS_OVERLOAD 1 else t
  let t := if ov then t.event 0x1203 1 k (le 1 k ++ le 4 w.clip) else t
  let t := t.cfg.meter.pulses.foldl (fun (t : State) pg =>
    if bitOf pg.mask k then t.pulseAdd (e.getD pg.reg 0) pg else t) t
  (t, ops)

/-- New calibration of the channels of a reference takes effect at the window boundary and closes their intervals with RECONFIG (R375). -/
def State.mtrRecal (s : State) (v : Nat) : State :=
  let due := s.meter.recal.filter fun e => match s.cfg.meter.currents[e.1]? with | some g => g.ref == v | none => true
  let volt := s.meter.recalV.find? (·.1 == v)
  if due.isEmpty && volt.isNone then s
  else
    let new := due.map (·.1)
    let ks := (List.range 32).filter fun k => new.contains k || (volt.isSome && (match s.mtrCur k with | some g => g.ref == v | none => false))
    let t := ks.foldl (fun t k => t.mtrCloseOne 5 k) s
    let m := t.cfg.meter
    let m := { m with currents := due.foldl (fun l e => l.set e.1 e.2) m.currents
                      volts := match volt with | some e => m.volts.set e.1 e.2 | none => m.volts }
    let t : State := { t with
      cfg := { t.cfg with meter := m }
      meter := { t.meter with recal := t.meter.recal.filter (fun e => !new.contains e.1), recalV := t.meter.recalV.filter (·.1 ≠ v) } }
    let t := ks.foldl (fun (t : State) k => t.setF (Reg.MTR_CH_STATUS k) F.MTR_CH_STATUS_ENABLED (bit (t.mtrCur k).isSome)) t
    let t := if volt.isSome then t.setF (Reg.MTR_V_STATUS v) F.MTR_V_STATUS_ENABLED (bit (t.mtrVcfg v).isSome) else t
    ks.foldl (fun t k => if (t.mtrCur k).isSome then t.mtrOpenOne false 0 0 k else t) t

/-- WINDOW_END (R376 to R378): a window of voltage channel `v` ends; `dur` is its duration between interpolated zero crossings in units of 2^-32 ns.
While the reference is ABSENT a window is 1,600 samples; of a STALE one, which no window has judged since the reopening, either ends it. -/
def execWindowEnd (v dur : Nat) (s : State) : Answer :=
  let w := s.mtrVolt v
  let wasAbsent := s.mtrVq v == Q.absent
  if 4 ≤ v || s.mtrState ≠ 1 || !s.mtrRole || w.n = 0 || (decide (w.n < 1600) && (wasAbsent || dur == 0))
      || (dur == 0 && !wasAbsent && s.mtrVq v != Q.stale) then .next s
  else
    let d : Rat := w.n * s.mtrPeriod
    let vrms := f32SqrtRat (w.vv / w.n)
    let fr : Rat := if dur = 0 then 0 else (s.mtrCycles : Rat) * secUnits / dur
    let vq := match s.mtrVcfg v with
      | none => Q.absent
      | some g =>
        if f32Val vrms * 10 < g.vMin then Q.absent
        else if 0 < w.clip || fr < 45 || 65 < fr then Q.bad else Q.good
    let a := 0x1E30000 + 0x800 * v
    let st := s.meter.lastStamp
    let freq := f32OfRat fr
    let cyc := (s.pt (a + 3)).value.toNat + (if dur = 0 then 0 else s.mtrCycles)
    let vops : List PtOp := match s.mtrVcfg v with
      | none => s.qualityOps Q.absent ((List.range 6).map (a + ·))
      | some _ =>
        [mtrWrite a vrms vq st, mtrWrite (a + 2) (f32OfRat w.peak) vq st, mtrWrite (a + 3) (BitVec.ofNat 32 cyc) vq st,
         mtrWrite (a + 5) (BitVec.ofNat 32 (min 65535 w.clip)) vq st]
          ++ (if vq = Q.absent then s.qualityOps Q.absent [a + 1, a + 4] else [mtrWrite (a + 1) freq vq st, mtrWrite (a + 4) (if v = 0 then 0 else angleWord (s.free + 32)) vq st])
    let r := (List.range 32).foldl (fun (p : State × List PtOp) k =>
      match p.1.cfg.meter.currents[k]? with
      | none => p
      | some g =>
        if g.ref ≠ v then p
        else if g.enable then
          let x := p.1.mtrWinChan k g vrms freq vq w.clip w.n d
          (x.1, p.2 ++ x.2)
        else (p.1, p.2 ++ p.1.qualityOps Q.absent ((List.range 9).map (0x1E20000 + 0x800 * k + ·)))) (s, vops)
    let t := r.1.apply r.2
    let t := t.setMtrVolt v {}
    .next (({ t with free := t.free + 64 } : State).setMtrVq vq v |>.mtrRecal v)

/-- The accumulators and the history of a disabled channel are ABSENT (R378). -/
def State.chanAbsent (s : State) (k : Nat) : List PtOp :=
  s.qualityOps Q.absent ((List.range 18).map (0x1E40000 + 0x40 * k + ·) ++ [0x1E40800 + k]
    ++ (List.range 256).flatMap fun slot => (List.range 24).map (0x1E50000 + 0x2000 * k + 0x20 * slot + ·))

/-- ACCUMULATOR_WRITE: once per second the integer totals are written to the crucible as one application (R381); disabled channels' points are
ABSENT (R378). -/
def execAccumulatorWrite (s : State) : Answer :=
  if s.mtrState ≠ 1 || !s.mtrRole || decide (s.now < s.meter.writeAt + secs 1) then .next s
  else
    let ops := (List.range 32).flatMap fun k =>
      let a := 0x1E40000 + 0x40 * k
      if (s.mtrCur k).isSome then (List.range 8).flatMap fun j => mtrPair (a + 2 * j) ((s.mtrChan k).acc.getD j 0 / 2 ^ 32) Q.good s.stamp
      else s.chanAbsent k
    .next { s.apply ops with meter := { s.meter with writeAt := s.now } }

/-! ### Closing and records (R382 to R385, R389) -/

/-- INTERVAL_BOUNDARY (R382). -/
def execIntervalBoundary (s : State) : Answer :=
  let due := if s.meter.unaligned then decide (s.meter.nextEnd ≤ s.now) else decide (s.meter.nextEnd ≤ s.utcNow)
  .next (if s.mtrState = 1 && s.mtrRole && due then s.mtrTurn 1 s.mtrOn else s)

/-- The 128 bytes of a record, with LOSS and ARCHIVE as given; the check takes both as 0 (R384). -/
def MtrRec.bytes (r : MtrRec) (loss archive : Bool) : List Byte :=
  let mk (fl : Nat) := le 4 r.seq ++ le 1 r.chan ++ le 1 r.unitRole ++ le 2 fl ++ le 4 r.count ++ le 2 r.intervalS ++ le 1 r.cause ++ [0]
    ++ le 8 r.openStamp ++ le 8 r.closeStamp ++ le 4 r.measuredMs ++ le 4 r.unmeasuredMs ++ (padNat 8 r.energy).flatMap (le 8)
    ++ le 4 r.iRms ++ le 4 r.vRms ++ le 4 r.freq ++ le 2 r.overload ++ List.replicate 6 0
  mk (r.flags + bit loss + 2 * bit archive) ++ le 4 (crc32c (mk r.flags))
where
  /-- Exactly `n` numbers. -/
  padNat (n : Nat) (l : List Nat) : List Nat := (List.range n).map fun j => l.getD j 0

/-- Set LOSS in a held ring 5 entry. -/
def lossBit (p : OutPkt) : OutPkt :=
  { p with entry := p.entry.map fun e => (e.take 6) ++ le 2 (fieldLe e 6 2 ||| 1) ++ e.drop 8 }

/-- Hold a record for ring 5 (R103, R385): beyond 65,536 held the oldest is discarded, counted and recorded, and the next posted carries LOSS. A
record that is under way stays. -/
def State.postRecord (s : State) (r : MtrRec) : State :=
  let g := s.ring 5
  let q := g.outq ++ [{ payload := [], entry := some (r.bytes false false) }]
  if q.length ≤ 65536 then s.setRing 5 { g with outq := q }
  else
    let keep := bit (decide (0 < g.sent))
    let gone := ((q.drop keep).head?.bind (·.entry)).getD []
    let rest := (q.drop (keep + 1))
    let t := s.setRing 5 { g with outq := q.take keep ++ (match rest with | p :: ps => lossBit p :: ps | [] => []), lost := (g.lost + 1) % 2 ^ 16 }
    t.event 0x1206 1 (fieldLe gone 4 1) (le 4 (fieldLe gone 0 4) ++ le 1 (fieldLe gone 4 1))

/-- Records the archive holds (R385). -/
def archiveCapacity : Nat := 4194304

/-- The history slot of a record, with LAST_SLOT, as one application (R389). -/
def State.historyOps (s : State) (r : MtrRec) : List PtOp :=
  let slot := r.count % 256
  let a := 0x1E50000 + 0x2000 * r.chan + 0x20 * slot
  let w (o v : Nat) : PtOp := mtrWrite (a + o) (BitVec.ofNat 32 v) Q.good s.stamp
  [w 0 r.seq] ++ mtrPair (a + 1) r.openStamp Q.good s.stamp ++ mtrPair (a + 3) r.closeStamp Q.good s.stamp
    ++ [w 5 r.measuredMs, w 6 r.unmeasuredMs, w 7 r.flags]
    ++ ((List.range 8).flatMap fun j => mtrPair (a + 8 + 2 * j) (r.energy.getD j 0) Q.good s.stamp)
    ++ [mtrWrite (0x1E40800 + r.chan) (BitVec.ofNat 32 slot) Q.good s.stamp]

/-- Form one record (R384): archive, ring 5, history, in that order. -/
def State.formRecord (s : State) (r : MtrRec) : State :=
  let ar := s.flash.archive ++ [r]
  let t : State := { s with
    flash := { s.flash with archive := if archiveCapacity < ar.length then ar.drop 1 else ar }
    meter := { s.meter with closed := s.meter.closed.filter (·.seq ≠ r.seq) } }
  let t := (t.wrN Reg.MTR_SEQ r.seq).postRecord r
  t.apply (t.historyOps r)

/-- MTR_CLOSE waits. -/
def Wait.mtrClosing (w : Wait) : Bool := match w.kind with | .mtrClose => true | _ => false

/-- INTERVAL_RECORD: the next closed interval becomes a record; MTR_CLOSE completes once no interval that it closed is left (R384, R396). While
metering is closed its records wait for the reopening (R386). -/
def execIntervalRecord (s : State) : Answer :=
  if s.mtrState ≠ 1 then .next s
  else match s.meter.closed with
    | [] => .next s
    | r :: _ =>
      let t := s.formRecord r
      .next (if t.meter.closed.any (·.cause == 4) then t else t.finishAll Wait.mtrClosing St.ok 0 0)

/-- The pours of the interval add ZONE_DRIVE to the sums of R390. -/
def State.mtrPour (s : State) : State :=
  if s.mtrState ≠ 1 then s
  else
    s.cfg.meter.zones.foldl (fun (t : State) z =>
      let c := t.mtrChan z.2
      match c.open_ with
      | none => t
      | some o =>
        let d := mapGet (fun _ => 0) o.drive z.1 + (t.pt (zoneAddr z.1 0x43)).value.toNat
        t.setMtrChan z.2 { c with open_ := some { o with drive := mapSet (fun _ => 0) o.drive z.1 d } }) s

/-! ### Commands (R396) -/

/-- The state checks of R396. -/
def State.mtrCheck (s : State) (archive : Bool) : Option Nat :=
  if s.defaulted then some St.defaulted else if s.mtrState = 2 && !archive then some St.meterClosed else none

/-- MTR_ARCHIVE (R396). -/
def execMtrArchive (e : CmdEntry) (s : State) : Answer :=
  runCmd Op.mtrArchive (.mtrArchive e) e (fun _ s =>
    match s.mtrCheck true with
    | some st => .stat st s
    | none =>
      let count := e.param 8 4
      if count < 1 || 512 < count || !e.bufOut || e.bufLen.toNat ≠ 128 * count then .stat St.badFormat s
      else
        let first := e.param 0 4
        let rs := (s.flash.archive.filter fun r => decide (0 ≤ seqDiff r.seq first) && bitOf (e.param 4 4) r.chan).take count
        match rs with
        | [] => .stat St.noArchive s
        | r :: _ => .done St.ok rs.length r.seq 0 [(e.bufAddr.toNat, rs.flatMap fun r => r.bytes false true)] s) s

/-- MTR_CLOSE (R396). -/
def execMtrClose (e : CmdEntry) (s : State) : Answer :=
  runCmd Op.mtrClose (.mtrClose e) e (fun _ s =>
    match s.mtrCheck false with
    | some st => .stat st s
    | none =>
      if s.mtrState ≠ 1 || s.mtrOn.isEmpty then .stat St.ok s else .wait .mtrClose (s.mtrTurn 4 s.mtrOn)) s

/-- A finite binary32 word that is not negative. -/
def finiteWord (w : Word) : Bool := bitsOf w.toNat 23 8 != 255

/-- A current record of 32 bytes (R395). -/
def parseCurrent (b : List Byte) : Option MtrCCfg :=
  let g : MtrCCfg := { enable := fieldLe b 0 1 == 1, kind := fieldLe b 1 1, ref := fieldLe b 2 1, invert := bitOf (fieldLe b 3 1) 0
                       scale := BitVec.ofNat 32 (fieldLe b 4 4), gain := BitVec.ofNat 32 (fieldLe b 8 4), phase := sext 16 (fieldLe b 12 2)
                       creep := fieldLe b 16 4 }
  if 1 < fieldLe b 0 1 || 2 < g.kind || 3 < g.ref || 1 < fieldLe b 3 1 || !finiteWord g.scale || !finiteWord g.gain || 5000 < g.phase.natAbs
    || fieldLe b 14 2 ≠ 0 || !allZero (slice b 20 12) then none else some g

/-- The entries of MTR_CALDATA: channel and record, 36 bytes each. -/
def parseCals : Nat → List Byte → Option (List (Nat × MtrCCfg))
  | 0, _ => some []
  | n + 1, b =>
    match parseCurrent (slice b 4 32), parseCals n (b.drop 36) with
    | some g, some rest => if fieldLe b 0 4 < 32 then some ((fieldLe b 0 4, g) :: rest) else none
    | _, _ => none

/-- Calibration that takes effect at the next window boundary of its channel (R375). -/
def State.loadCals (s : State) (cs : List (Nat × MtrCCfg)) : State :=
  { s with meter := { s.meter with recal := cs.foldl (fun m e => mapPut m e.1 e.2) s.meter.recal } }

/-- MTR_CALDATA (R396). -/
def execMtrCaldata (e : CmdEntry) (s : State) : Answer :=
  runCmd Op.mtrCaldata (.mtrCaldata e) e (fun _ s =>
    match (if e.txn = 0 then s.mtrCheck false else none) with
    | some st => .stat st s
    | none =>
      let n := e.bufLen.toNat / 36
      if e.bufLen.toNat % 36 ≠ 0 || n < 1 || 32 < n || e.bufOut then .stat St.badFormat s
      else match parseCals n e.buf with
        | none => .stat St.badFormat s
        | some cs =>
          s.stageTable e ((List.range n).map fun i => .table .calibration (36 * fieldLe e.buf (36 * i) 4) (slice e.buf (36 * i) 36)) n (·.loadCals cs)) s

/-- MTR_PRESET (R396). -/
def execMtrPreset (e : CmdEntry) (s : State) : Answer :=
  runCmd Op.mtrPreset (.mtrPreset e) e (fun _ s =>
    match s.mtrCheck false with
    | some st => .stat st s
    | none =>
      if !s.maint then .stat St.unauthorised s
      else if 31 < e.param 0 1 || 7 < e.param 1 1 then .stat St.badFormat s
      else .wait (.mtrPreset (e.param 0 1) (e.param 1 1) (e.param 8 8)) s) s

end Sys2Proof.Machine
end

