-- ==== Sys2Proof/Machine/CfgImage.lean ====
section
/-!
DEFINITION. Configuration images (R61 to R64): their structure and the content of every section (R168, R198, R199, R204, R205, R252, R253, R309, R337,
R367, R395, R438, R485 to R487).
-/
set_option linter.unusedVariables false
namespace Sys2Proof.Machine

/-- A section: type, index, bytes. -/
abbrev Sect := Nat × Nat × List Byte

/-- The first section of a type and index. -/
def sectOf (ss : List Sect) (t i : Nat) : Option (List Byte) := (ss.find? fun x => x.1 == t && x.2.1 == i).map (·.2.2)

/-- A result of checks. -/
abbrev Chk := Except LoadErr

/-- A demand that answers BAD_FORMAT. -/
def must (b : Bool) : Chk Unit := demand b St.badFormat

/-- Split bytes into records of a size. -/
def recordsOf (size : Nat) : Nat → List Byte → List (List Byte)
  | 0, _ => []
  | n + 1, b => b.take size :: recordsOf size n (b.drop size)

/-- No two entries of a list are equal. -/
def distinct (l : List Nat) : Bool :=
  match l with
  | [] => true
  | x :: xs => !xs.contains x && distinct xs

/-- Codes of a profile, one per nibble, high nibble first. -/
def nibbles (b : List Byte) : List Nat := b.flatMap fun x => [x.toNat / 16, x.toNat % 16]

/-! ### The structure (R61, R62, R64) -/

/-- The area of a configuration copy in flash. -/
def imageMax : Nat := 67108864

/-- Directory entries: type, version, offset, length, index. -/
def directory (b : List Byte) : List (Nat × Nat × Nat × Nat × Nat) :=
  (recordsOf 16 (fieldLe b 24 4) (b.drop 64)).map fun e => (fieldLe e 0 2, fieldLe e 2 2, fieldLe e 4 4, fieldLe e 8 4, fieldLe e 12 4)

/-- The ranges do not overlap. -/
def apart : List (Nat × Nat) → Bool
  | [] => true
  | (o, n) :: l => l.all (fun x => decide (o + n ≤ x.1) || decide (x.1 + x.2 ≤ o) || n == 0 || x.2 == 0) && apart l

/-- The sections of an image whose structure is good (R61, R62, R64). Every defined section has format version 1; site data may have any. -/
def imageSections (b : List Byte) : Chk (List Sect) := do
  must (fieldLe b 0 4 == 0x47464337 && fieldLe b 4 2 == 2 && fieldLe b 6 2 == 64)
  let len := fieldLe b 8 4
  must (len == b.length && len % 4 == 0 && decide (len ≤ imageMax))
  let n := fieldLe b 24 4
  must (decide (1 ≤ n ∧ n ≤ 1024) && fieldLe b 28 4 == 0 && decide (64 + 16 * n + 4 ≤ len))
  must (fieldLe b (len - 4) 4 == crc32c (b.take (len - 4)))
  let d := directory b
  must (d.all fun e => (decide (1 ≤ e.1 ∧ e.1 ≤ 0xC) && e.2.1 == 1) || decide (0xF000 ≤ e.1))
  must (d.all fun e => decide (64 + 16 * n ≤ e.2.2.1 ∧ e.2.2.1 + e.2.2.2.1 ≤ len - 4))
  must (apart (d.map fun e => (e.2.2.1, e.2.2.2.1)))
  return d.map fun e => (e.1, e.2.2.2.2, slice b e.2.2.1 e.2.2.2.1)

/-! ### Sections -/

/-- A schedule entry of 12 bytes (R205). -/
def parseSched (b : List Byte) : Chk Sched := do
  let s : Sched := { mode := fieldLe b 0 1, div := fieldLe b 2 2, phase := fieldLe b 4 2, ivl := fieldLe b 6 2, trig := fieldLe b 8 4 }
  must (schedForm s && fieldLe b 1 1 == 0)
  return s
where
  /-- The field limits of R205. -/
  schedForm (s : Sched) : Bool :=
    if s.mode ≤ 1 then s.div == 0 && s.phase == 0 && s.ivl == 0 && s.trig == 0
    else if s.mode = 2 then decide (2 ≤ s.div ∧ s.phase < s.div) && s.ivl == 0 && s.trig == 0
    else s.mode == 3 && s.div == 0 && s.phase == 0 && decide (s.trig < 2 ^ 25)

/-- Period, margin and offset in their ranges (R202, R203). -/
def cycRange (p m o : Nat) : Bool := decide (1000 ≤ p ∧ p ≤ 10000000 ∧ 100 ≤ m ∧ m + 100 ≤ p ∧ o < p)

/-- The cycle section (R204). -/
def parseCycle (b : List Byte) : Chk CycCfg := do
  must (b.length == 224 && cycRange (fieldLe b 0 4) (fieldLe b 4 4) (fieldLe b 8 4) && decide (fieldLe b 12 4 < 4) && allZero (slice b 18 14))
  let sch ← (recordsOf 12 16 (b.drop 32)).mapM parseSched
  return { period := fieldLe b 0 4, margin := fieldLe b 4 4, offset := fieldLe b 8 4, ebb := bitOf (fieldLe b 12 4) 0
           ebbBudget := bitOf (fieldLe b 12 4) 1, ovrLimit := fieldLe b 16 2, scheds := sch }

/-- The places of R485 that a point of a range may lie in, for one address. -/
def rangePlace (a : Nat) : Bool :=
  if a < 0x1000000 then decide (0x1C0 ≤ a % 0x200)
  else if 0x1400000 ≤ a ∧ a < 0x1800000 then decide (0x100 ≤ a % 0x400)
  else decide (0x1800000 ≤ a ∧ a < 0x1C00000)

/-- Every point of a range lies in one of the places: within the program-defined offsets of one lamp block, within those of one zone block (those of zone 4095 adjoin
the user region), or in the user region. -/
def rangeInPlace (first count : Nat) : Bool :=
  let last := first + count - 1
  rangePlace first && rangePlace last &&
    (if first < 0x1000000 then first / 0x200 == last / 0x200
     else if first < 0x17FFC00 then first / 0x400 == last / 0x400 else decide (last < 0x1C00000))

/-- The point defaults section (R485). -/
def parsePoints (b : List Byte) : Chk (List PtRange × List Nat) := do
  let n := fieldLe b 4 4
  let k := fieldLe b 8 4
  must (decide (32 ≤ b.length) && fieldLe b 0 2 == 1 && fieldLe b 2 2 == 0 && allZero (slice b 12 20) && decide (n ≤ 65536))
  demand (decide (k ≤ 1048576)) St.noSpace
  must (b.length == 32 + 16 * n + 4 * k)
  let rs := (recordsOf 16 n (b.drop 32)).map fun e =>
    ({ first := fieldLe e 0 4, count := fieldLe e 4 4, typ := fieldLe e 8 1, input := bitOf (fieldLe e 9 1) 0, output := bitOf (fieldLe e 9 1) 1
       enumMax := fieldLe e 10 2, dflt := BitVec.ofNat 32 (fieldLe e 12 4) } : PtRange)
  must ((recordsOf 16 n (b.drop 32)).all fun e => decide (fieldLe e 9 1 < 4))
  must (rs.all fun r => decide (1 ≤ r.count ∧ r.count ≤ 4194304 ∧ 1 ≤ r.typ ∧ r.typ ≤ 8 ∧ r.first + r.count ≤ 2 ^ 25) && !(r.input && r.output)
    && (r.typ == 8 || r.enumMax == 0) && codingOk r.typ r.enumMax r.dflt && rangeInPlace r.first r.count)
  must ((List.range (n - 1)).all fun i =>
    match rs[i]?, rs[i + 1]? with | some x, some y => decide (x.first + x.count ≤ y.first) | _, _ => true)
  let ret := (recordsOf 4 k (b.drop (32 + 16 * n))).map fun e => fieldLe e 0 4
  must (ret.all (fun a => decide (a < 2 ^ 25)) && distinct ret)
  return (rs, ret)

/-- The points that may be retained (R168). -/
def checkRetain (c : RunCfg) : Chk Unit :=
  must (c.retain.all fun a =>
    (c.ptInfo a).typ != 0 && ((c.ptInfo a).typ != 10 || c.retain.contains (a - 1)) && (!inSystem a || decide (0x1E40000 ≤ a ∧ a < 0x1F00000)))

/-- A luminaire record (R253). -/
def parseLum (b : List Byte) : Chk (Nat × LumRec) := do
  let r : LumRec := { mode := fieldLe b 2 1, emerg := bitOf (fieldLe b 3 1) 0, noProbe := bitOf (fieldLe b 3 1) 1, zoneSource := bitOf (fieldLe b 3 1) 2
                      fitted := fieldLe b 4 1, curve := fieldLe b 5 1, zone := fieldLe b 6 2, fluxRef := fieldLe b 8 2, emergLevel := fieldLe b 10 2
                      bins := (List.range 4).map fun i => fieldLe b (12 + i) 1, tKnee := sext 16 (fieldLe b 16 2), tMax := sext 16 (fieldLe b 18 2)
                      derateMin := fieldLe b 20 2, maintMin := fieldLe b 22 2, maintSlope := fieldLe b 24 4 }
  must (decide (fieldLe b 0 2 < 32768 ∧ r.mode ≤ 1 ∧ fieldLe b 3 1 < 8 ∧ r.fitted < 16 ∧ r.curve ≤ 63 ∧ 1 ≤ r.fluxRef ∧ r.tKnee < r.tMax)
    && (decide (r.zone ≤ 4095) || r.zone == 0xFFFF) && fieldLe b 28 4 == 0)
  return (fieldLe b 0 2, r)

/-- A TUNABLE record's channels and colours (R253). -/
def checkTunable (bins : List (Nat × Nat)) (r : LumRec) : Chk Unit :=
  let w := (bins.getD (r.bins.getD 0 0) (0, 0)).2
  let c := (bins.getD (r.bins.getD 1 0) (0, 0)).2
  demand (r.mode == 0 || (r.fitted % 4 == 3 && w != 0 && decide (w < c))) St.binOrder

/-- The lamp section (R252, R253). -/
def parseLamp (b : List Byte) : Chk LampCfg := do
  let nl := fieldLe b 4 2
  let nn := fieldLe b 6 2
  let nc := fieldLe b 8 1
  let ns := fieldLe b 9 1
  must (fieldLe b 0 2 == 1 && decide (10 ≤ fieldLe b 2 2 ∧ fieldLe b 2 2 ≤ 200 ∧ nl ≤ 32768 ∧ nn ≤ 2048 ∧ nc ≤ 60 ∧ fieldLe b 10 2 < 4)
    && allZero (slice b 16 16) && b.length == 32 + 8 * nn + 32 * nl + 1024 + 514 * nc + 8 * ns)
  let nodes := (recordsOf 8 nn (b.drop 32)).map fun e =>
    ({ n := fieldLe e 0 2, width := fieldLe e 2 1, dither := fieldLe e 3 1, probe := fieldLe e 4 2 } : LampNode)
  must ((recordsOf 8 nn (b.drop 32)).all fun e => fieldLe e 6 2 == 0)
  must (nodes.all (fun x => decide (x.n < 2048 ∧ 8 ≤ x.width ∧ x.width ≤ 16)) && risingBy (·.n) nodes)
  let lums ← (recordsOf 32 nl (b.drop (32 + 8 * nn))).mapM parseLum
  must (risingBy (·.1) lums && lums.all fun x => nodes.any (·.n == x.1 / 16))
  let o := 32 + 8 * nn + 32 * nl
  let bins := (recordsOf 4 256 (b.drop o)).map fun e => (fieldLe e 0 2, fieldLe e 2 2)
  must (bins.all (fun x => decide (1 ≤ x.1)) && bins.head? == some (32768, 0))
  let _ ← lums.mapM fun x => checkTunable bins x.2
  let curves := (recordsOf 514 nc (b.drop (o + 1024))).map fun e => (recordsOf 2 257 e).map (fieldLe · 0 2)
  let scenes := (recordsOf 8 ns (b.drop (o + 1024 + 514 * nc))).map fun e => (fieldLe e 0 2, fieldLe e 2 2, fieldLe e 4 4)
  return { tick := fieldLe b 2 2, probeEn := bitOf (fieldLe b 10 2) 0, ditherEn := bitOf (fieldLe b 10 2) 1, emFade := fieldLe b 12 4
           nodes := nodes, lums := lums, bins := bins, curves := curves, scenes := scenes }

/-- The gate list of a trunk record. -/
def TrunkPortCfg.list (t : TrunkPortCfg) : GateList :=
  { mult := t.mult, entries := (t.gates.take t.len).map fun g => (bitsOf g 0 20, bitsOf g 24 5) }

/-- The trunk section (R486), at the tick of the same configuration. -/
def parseTrunks (tick : Nat) (b : List Byte) : Chk (List TrunkPortCfg × List Bool) := do
  must (b.length == 16920 && fieldLe b 0 2 == 1 && allZero (slice b 2 14))
  let rs := recordsOf 264 64 (b.drop 16)
  let ts := rs.map fun e =>
    ({ enable := fieldLe e 0 1 == 1, mult := fieldLe e 1 1, len := fieldLe e 2 1, gates := (recordsOf 4 64 (e.drop 8)).map (fieldLe · 0 4) } : TrunkPortCfg)
  must (rs.all fun e => decide (fieldLe e 0 1 ≤ 1) && allZero (slice e 3 5))
  must (ts.all fun t => decide (1 ≤ t.mult ∧ t.mult * tick ≤ 1000 ∧ 1 ≤ t.len ∧ t.len ≤ 64) && (t.gates.drop t.len).all (· == 0)
    && t.gates.all (fun g => g == bitsOf g 0 20 + bitsOf g 24 5 * 2 ^ 24)
    && ((t.gates.take t.len).drop 1).all fun g => decide (1 ≤ bitsOf g 0 20 ∧ bitsOf g 0 20 ≤ 1000000))
  let es := recordsOf 4 2 (b.drop (16 + 264 * 64))
  must (es.all fun e => decide (fieldLe e 0 1 ≤ 1) && allZero (slice e 1 3))
  demand (ts.all fun t => t.list.ok tick) St.gateInvalid
  return (ts, es.map fun e => fieldLe e 0 1 == 1)

/-- A node entry of the Carzon table (R309). -/
def parseCznEntry (profiles : Nat) (b : List Byte) : Chk CznEntry := do
  let e : CznEntry := { n := fieldBe b 0 2, profile := fieldBe b 2 1, minVersion := fieldBe b 3 1, uid := fieldBe b 4 8, hold := fieldBe b 12 4
                        fallback := fieldBe b 16 2, reportLen := fieldBe b 18 2 }
  must (decide (e.n < 2048 ∧ e.profile < profiles ∧ 2 ≤ e.minVersion ∧ e.minVersion ≤ 3 ∧ 8 ≤ e.reportLen ∧ e.reportLen ≤ 1478) && fieldBe b 20 4 == 0)
  return e

/-- The Carzon section (R309). -/
def parseCzn (b : List Byte) : Chk CznCfg := do
  let nn := fieldBe b 2 2
  let np := fieldBe b 4 2
  must (fieldBe b 0 2 == 1 && decide (nn ≤ 2048 ∧ 1 ≤ np ∧ np ≤ 64 ∧ fieldBe b 6 2 < 2 ∧ 50 ≤ fieldBe b 8 2 ∧ fieldBe b 8 2 ≤ 1000)
    && allZero (slice b 10 6) && b.length == 16 + 768 * np + 24 * nn)
  let ps := (recordsOf 768 np (b.drop 16)).map nibbles
  must (ps.all fun p => p.all fun c => decide (c ≤ 10))
  let es ← (recordsOf 24 nn (b.drop (16 + 768 * np))).mapM (parseCznEntry np)
  must (risingBy (·.n) es && distinct (es.map (·.uid)))
  return { v2 := bitOf (fieldBe b 6 2) 0, timeMs := fieldBe b 8 2, profiles := ps, nodes := es }

/-- Channel numbers of a mode (R314): the highest, by band (1: 868, 2: 915). -/
def chanMax (band mode : Nat) : Nat := if band = 2 then (if mode = 0 then 128 else 63) else (if mode = 0 then 33 else 16)

/-- A node entry of the radio table (R337). -/
def parseRadioEntry (profiles : Nat) (b : List Byte) : Chk RadioEntry := do
  let e : RadioEntry := { n := fieldBe b 0 2, profile := fieldBe b 2 1, wakeOnOutput := bitOf (fieldBe b 3 1) 0, uid := fieldBe b 4 8
                          heartbeat := fieldBe b 12 2, listen := fieldBe b 14 2, eventMin := fieldBe b 16 2, drift := fieldBe b 18 2, wakeMax := fieldBe b 20 1 }
  must (decide (e.n ≤ 8191 ∧ e.profile < profiles ∧ fieldBe b 3 1 < 2 ∧ 10 ≤ e.heartbeat ∧ e.heartbeat ≤ 3600) && (e.listen == 0 || decide (10 ≤ e.listen ∧ e.listen ≤ 3600))
    && decide (1 ≤ e.eventMin ∧ e.eventMin ≤ 3600 ∧ 1 ≤ e.drift ∧ e.drift ≤ 1000 ∧ 1 ≤ e.wakeMax) && allZero (slice b 21 3))
  return e

/-- Air time in ns of a frame: preamble, 2 SFD octets, 2 PHR octets and the PSDU, at the rate of a mode (R314). -/
def airNs (mode preamble psdu : Nat) : Nat :=
  let bitNs := if mode = 0 then 20000 else if mode = 2 then 5000 else 10000
  (psdu + preamble + 4) * 8 * bitNs

/-- The beacon reserve in 0.01 %: one hour of beacons, a BEACON PSDU being 56 bytes, rounded up (R332). -/
def beaconReserve (mode preamble beaconMs : Nat) : Nat :=
  if beaconMs = 0 then 0 else (airNs mode preamble 56 + 100 * beaconMs - 1) / (100 * beaconMs)

/-- The nodes of a channel. -/
def RadioCfg.onChan (c : RadioCfg) (r : Nat) : List RadioEntry := c.nodes.filter fun e => e.n / 2048 == r

/-- Beacon period and budget of a channel (R329, R331). -/
def chanRules (c : RadioCfg) (r : Nat) (ch : RadioChanCfg) : Chk Unit := do
  let es := c.onChan r
  must (es.all fun e => e.listen == 0 || decide (2 * ch.beaconMs ≤ e.listen * 1000))
  demand (decide ((es.map fun e => (1 : Rat) / e.heartbeat).sum ≤ 20)) St.radioBudget
  demand (ch.limit == 0 || decide (beaconReserve ch.phymode ch.preamble ch.beaconMs < ch.limit)) St.dutyReserve

/-- A power of −10 to 27 dBm. -/
def powerOk (x : Nat) : Bool := decide (-10 ≤ sext 8 x ∧ sext 8 x ≤ 27)

/-- The radio section (R337). -/
def parseRadio (ident : Ident) (b : List Byte) : Chk RadioCfg := do
  let nn := fieldBe b 2 2
  let np := fieldBe b 4 2
  must (fieldBe b 0 2 == 1 && decide (nn ≤ 8192 ∧ 1 ≤ np ∧ np ≤ 64) && allZero (slice b 8 8) && b.length == 16 + 64 + 112 * np + 24 * nn)
  demand (decide (ident.radios ≠ 0 ∨ nn = 0)) St.refused
  let crs := recordsOf 16 4 (b.drop 16)
  let chs := crs.map fun e =>
    ({ enable := fieldBe e 0 1 == 1, phymode := fieldBe e 1 1, channel := fieldBe e 2 1, wakech := fieldBe e 3 1, power := fieldBe e 4 1
       wakePower := fieldBe e 5 1, preamble := fieldBe e 6 1, beaconMs := fieldBe e 8 4, limit := fieldBe e 12 2 } : RadioChanCfg)
  must (crs.all fun e => decide (fieldBe e 0 1 ≤ 1) && fieldBe e 7 1 == 0 && fieldBe e 14 2 == 0)
  must (chs.all fun x => decide (x.phymode ≤ 2 ∧ x.channel ≤ chanMax ident.band x.phymode ∧ x.wakech ≤ chanMax ident.band 0) && powerOk x.power && powerOk x.wakePower
    && decide (4 ≤ x.preamble ∧ x.preamble ≤ 32 ∧ 1000 ≤ x.beaconMs ∧ x.beaconMs ≤ 300000))
  let ps := (recordsOf 112 np (b.drop 80)).map nibbles
  must (ps.all fun p => p.all fun c => decide (c ≤ 10))
  let es ← (recordsOf 24 nn (b.drop (80 + 112 * np))).mapM (parseRadioEntry np)
  must (risingBy (·.n) es && distinct (es.map (·.uid)))
  let c : RadioCfg := { segId := fieldBe b 6 2, chans := chs, profiles := ps, nodes := es }
  let _ ← (List.range 4).mapM fun r => match chs[r]? with | some ch => chanRules c r ch | none => pure ()
  return c

/-- A pulse output cannot exceed its rate (R392): full scale of every masked channel at the nominal voltage. -/
def pulseRateOk (cs : List MtrCCfg) (p : MtrPulseCfg) : Bool :=
  let watts := (((List.range 32).filter (bitOf p.mask ·)).map fun k =>
    match cs[k]? with | some c => Config.nominalVolts * (35355 : Rat) / 100000 * ratAbs (f32Val c.scale) | none => 0).sum
  decide (watts * 10 / 36 / p.const ≤ (800 : Rat) / (p.width + p.gap))

/-- A voltage record (R395). -/
def parseVolt (b : List Byte) : Chk MtrVCfg := do
  let g : MtrVCfg := { enable := fieldLe b 0 1 == 1, scale := BitVec.ofNat 32 (fieldLe b 4 4), gain := BitVec.ofNat 32 (fieldLe b 8 4)
                       phase := sext 16 (fieldLe b 12 2), vMin := fieldLe b 14 2 }
  must (decide (fieldLe b 0 1 ≤ 1) && allZero (slice b 1 3) && finiteWord g.scale && finiteWord g.gain && decide (g.phase.natAbs ≤ 5000))
  return g

/-- The metering section (R395). -/
def parseMeter (b : List Byte) : Chk MtrCfg := do
  let nz := fieldLe b 4 2
  let np := fieldLe b 6 1
  must (fieldLe b 0 2 == 1 && [1, 5, 10, 15, 30, 60].contains (fieldLe b 2 2) && decide (nz ≤ 4096 ∧ np ≤ 8) && allZero (slice b 7 9)
    && b.length == 16 + 64 + 1024 + 16 * np + 4 * nz)
  let vs ← (recordsOf 16 4 (b.drop 16)).mapM parseVolt
  let cs ← (recordsOf 32 32 (b.drop 80)).mapM fun e => match parseCurrent e with | some g => pure g | none => throw { status := St.badFormat }
  let prs := recordsOf 16 np (b.drop 1104)
  let ps := prs.map fun e =>
    ({ out := fieldLe e 0 1, reg := fieldLe e 1 1, mask := fieldLe e 4 4, const := fieldLe e 8 4, width := fieldLe e 12 2, gap := fieldLe e 14 2 } : MtrPulseCfg)
  must (prs.all (fun e => fieldLe e 2 2 == 0) && distinct (ps.map (·.out)) && ps.all fun p =>
    decide (p.out < 8 ∧ p.reg < 8 ∧ 1 ≤ p.const ∧ 10 ≤ p.width ∧ p.width ≤ 1000 ∧ 10 ≤ p.gap ∧ p.gap ≤ 1000))
  demand (ps.all (pulseRateOk cs)) St.pulseRate
  let zrs := recordsOf 4 nz (b.drop (1104 + 16 * np))
  let zs := zrs.map fun e => (fieldLe e 0 2, fieldLe e 2 1)
  must (zrs.all (fun e => fieldLe e 3 1 == 0) && risingBy (·.1) zs && zs.all fun z => decide (z.1 ≤ 4095 ∧ z.2 < 32))
  return { interval := fieldLe b 2 2, volts := vs, currents := cs, pulses := ps, zones := zs }

/-- The recorder section (R487). -/
def parseRecorder (b : List Byte) : Chk (Nat × Nat × Nat) := do
  must (b.length == 16 && fieldLe b 0 2 == 1 && decide (fieldLe b 2 1 ≤ 3 ∧ fieldLe b 3 1 ≤ 3 ∧ 1 ≤ fieldLe b 4 2) && allZero (slice b 6 10))
  return (fieldLe b 2 1, fieldLe b 3 1, fieldLe b 4 2)

/-- The redundancy section (R438). -/
def parseRdn (b : List Byte) : Chk RdnCfg := do
  let n := fieldLe b 42 2
  let c : RdnCfg := { mode := fieldLe b 2 1, proto := fieldLe b 3 1, selfGrant := bitOf (fieldLe b 4 1) 0, radioRotate := bitOf (fieldLe b 4 1) 1
                      yieldStuck := bitOf (fieldLe b 4 1) 2, lag := fieldLe b 5 1, pairId := fieldLe b 6 2, beaconMs := fieldLe b 8 1, lossMs := fieldLe b 9 1
                      isolateMs := fieldLe b 10 2, rotateS := fieldLe b 12 4, peerUid := fieldLe b 16 8, witnessUid := fieldLe b 24 8
                      witnessAddr := slice b 32 6, etype := fieldLe b 38 2, peerSlot := fieldLe b 40 1, witnessSlot := fieldLe b 41 1
                      pairs := (recordsOf 32 n (b.drop 48)).map fun e =>
                        { pairId := fieldLe e 0 2, slot := fieldLe e 2 1, uids := [fieldLe e 4 8, fieldLe e 12 8], addrs := [slice e 20 6, slice e 26 6] } }
  must (decide (48 ≤ b.length) && fieldLe b 0 2 == 1 && decide (c.mode ≤ 2) && (c.proto == 3 || c.proto == 4) && decide (fieldLe b 4 1 < 8)
    && decide (1 ≤ c.lag ∧ c.lag ≤ 16 ∧ 1 ≤ c.pairId ∧ 1 ≤ c.beaconMs ∧ c.beaconMs ≤ 50 ∧ 3 * c.beaconMs ≤ c.lossMs ∧ 100 ≤ c.isolateMs ∧ c.isolateMs ≤ 60000)
    && (c.rotateS == 0 || decide (3600 ≤ c.rotateS ∧ c.rotateS ≤ 2592000)) && decide (c.peerSlot < 256 ∧ c.witnessSlot < 256 ∧ n ≤ 16)
    && (c.mode == 2 || n == 0) && fieldLe b 44 4 == 0 && b.length == 48 + 32 * n)
  must ((recordsOf 32 n (b.drop 48)).all fun e => fieldLe e 3 1 == 0)
  return c

/-! ### The whole image -/

/-- An image that has been read: its configuration, programs and tables. -/
structure Image where
  cfg : RunCfg
  progs : List (Nat × Prog)
  tables : List (Nat × List Byte)
  deriving DecidableEq, Repr

/-- A section's content, or a default where the configuration carries none. -/
def withSect {α : Type} (ss : List Sect) (t : Nat) (d : α) (f : List Byte → Chk α) : Chk α :=
  match sectOf ss t 0 with | some b => f b | none => pure d

/-- Load programs in ladle order; each must not write what an earlier one writes (R173). -/
def loadPrograms (info : Nat → PtInfo) : List (Nat × List Byte) → List Nat → Chk (List (Nat × Prog))
  | [], _ => pure []
  | (n, b) :: rest, taken => do
    let p ← loadProgram b n info taken
    let ps ← loadPrograms info rest (taken ++ p.writes)
    return (n, p) :: ps

/-- Words of a table section (R199). -/
def tableWords (b : List Byte) : List (Nat × Word) :=
  ((recordsOf 4 ((b.length + 3) / 4) b).zipIdx).foldl (fun m x => mapSet (fun _ => 0) m x.2 (BitVec.ofNat 32 (fieldLe x.1 0 4))) []

/-- A TRIGGERED schedule names a point of its ladle's footprint; a ladle without a program has none (R205). -/
def trigOk (progs : List (Nat × Prog)) (c : CycCfg) : Bool :=
  ((List.range 16).all fun n =>
    match c.scheds[n]? with
    | some s => s.mode != 3 || (match progs.find? (·.1 == n) with | some p => p.2.slots.any (·.1 == s.trig) | none => false)
    | none => true)

/-! ### The budget (R208, R211, R215, R421) -/

/-- Sums over the programs: slots, writable slots, instances that carry state (Q), lamp calls, worst-case counts. -/
structure Load where
  slots : Nat
  writes : Nat
  q : Nat
  calls : Nat
  units : List Nat
  deriving DecidableEq, Repr

/-- The load of a set of programs (R208, R211). -/
def loadOf (ps : List Prog) : Load :=
  { slots := (ps.map fun p => p.slots.length).sum, writes := (ps.map fun p => p.writes.length).sum
    q := (ps.map fun p => p.timers.length + p.counters.length + p.mems + (p.edges + 127) / 128).sum
    calls := (ps.map (·.wcCalls)).sum, units := ps.map (·.wcu) }

/-- ⌈a ÷ b⌉. -/
def ceilDiv (a b : Nat) : Nat := (a + b - 1) / b

/-- T_ch, T_ex in FULL and EBB, T_cm in µs (R208, R211, R215); `fettle` is MEM_FETTLE.PERIOD in µs, 0 when fettling is off. -/
def Load.tch (l : Load) : Nat := 20 + ceilDiv l.slots 256
def Load.tex (l : Load) (rate p fettle : Nat) : Nat :=
  (l.units.map fun u => ceilDiv u rate).foldl max 0 + (if fettle = 0 then 0 else 2 * (1 + ceilDiv p fettle))
def Load.tcm (l : Load) : Nat := 30 + ceilDiv (l.writes + l.q) 256 + ceilDiv l.calls 50

/-- Does the budget hold in a core-voltage state (R215)? -/
def Load.holds (l : Load) (rate p m fettle : Nat) : Bool := decide (l.tch + l.tex rate p fettle ≤ p - m) && decide (l.tcm ≤ m)

/-- Units per µs in FULL and in EBB (R215). -/
def rateFull : Nat := 360
def rateEbb : Nat := 180

/-- The budget that a configuration must hold: FULL always, EBB with EBB_BUDGET (R215); the peer link's allowance in mode PAIR (R421). -/
def checkBudget (l : Load) (c : CycCfg) (fettle : Nat) (paired : Bool) : Chk Unit := do
  demand (l.holds rateFull c.period c.margin fettle && (!c.ebbBudget || l.holds rateEbb c.period c.margin fettle)) St.overBudget
  demand (!paired || decide ((1024 + 20 * l.writes + 16 * l.q) * 1000 ≤ 96000 * c.period)) St.peerBudget

/-- The content of one section, whichever of its type and index it is (R64). Of sections that bear one type and index the first is used (log entry 16). -/
def checkSection (ident : Ident) (cfg : RunCfg) (progs : List (Nat × Prog)) (x : Sect) : Chk Unit :=
  let b := x.2.2
  match x.1 with
  | 1 => (parseCycle b).map fun _ => ()
  | 2 => (loadProgram b x.2.1 cfg.ptInfo []).map fun _ => ()
  | 3 => must (match progs.find? (·.1 == x.2.1) with | some p => decide (b.length ≤ 4 * p.2.tableWords) && b.length % 4 == 0 | none => false)
  | 4 => (parsePoints b).map fun _ => ()
  | 5 => (parseLamp b).map fun _ => ()
  | 6 => (parseTrunks cfg.lamp.tick b).map fun _ => ()
  | 7 => (parseCzn b).map fun _ => ()
  | 8 => (parseRadio ident b).map fun _ => ()
  | 9 => must (parseTime b).isSome
  | 0xA => (parseMeter b).map fun _ => ()
  | 0xB => (parseRecorder b).map fun _ => ()
  | 0xC => (parseRdn b).map fun _ => ()
  | _ => pure ()

/-- Read and check a whole image on a module (R64): structure, sections, programs; the schedules and the budget are checked with the cycle settings that would result,
which `upon` makes of the image's own (R218). -/
def readImageWith (upon : CycCfg → CycCfg) (ident : Ident) (fettle : Nat) (b : List Byte) : Chk Image := do
  let ss ← imageSections b
  let cyc ← withSect ss 1 {} parseCycle
  let pts ← withSect ss 4 ([], []) parsePoints
  let lamp ← withSect ss 5 {} parseLamp
  let trk ← withSect ss 6 ([], [true, true]) (parseTrunks lamp.tick)
  let czn ← withSect ss 7 {} parseCzn
  let radio ← withSect ss 8 {} (parseRadio ident)
  let time ← withSect ss 9 {} fun x => match parseTime x with | some t => pure t | none => throw { status := St.badFormat }
  let meter ← withSect ss 0xA {} parseMeter
  let rec_ ← withSect ss 0xB none fun x => (parseRecorder x).map some
  let rdn ← withSect ss 0xC {} parseRdn
  let cfg : RunCfg := { gen := fieldLe b 12 4, layout := slice b 48 16, ranges := pts.1, retain := pts.2, time := time, cycle := cyc, lamp := lamp, trunks := trk.1, eths := trk.2
                        czn := czn, radio := radio, meter := meter, rdn := rdn, sections := ss, recorder := rec_ }
  checkRetain cfg
  let raw := (List.range 16).filterMap fun n => (sectOf ss 2 n).map fun x => (n, x)
  must (ss.all fun x => (x.1 != 2 && x.1 != 3) || decide (x.2.1 < 16))
  let progs ← loadPrograms cfg.ptInfo raw []
  let tabs := (List.range 16).filterMap fun n => (sectOf ss 3 n).map fun x => (n, x)
  must (tabs.all fun t => match progs.find? (·.1 == t.1) with | some p => decide (t.2.length ≤ 4 * p.2.tableWords) && t.2.length % 4 == 0 | none => false)
  let _ ← ss.mapM (checkSection ident cfg progs)
  must (trigOk progs (upon cyc))
  checkBudget (loadOf (progs.map (·.2))) (upon cyc) fettle (rdn.mode == 1)
  return { cfg := cfg, progs := progs, tables := tabs }

/-- Read and check a whole image by itself (R64). -/
def readImage (ident : Ident) (fettle : Nat) (b : List Byte) : Chk Image := readImageWith id ident fettle b

/-- The format version that an image's directory gives a section, 1 for a section it does not hold. -/
def sectVersion (b : List Byte) (x : Sect) : Nat :=
  match (directory b).find? fun e => (e.1, e.2.2.2.2, slice b e.2.2.1 e.2.2.2.1) == x with | some e => e.2.1 | none => 1

/-- Build an image from sections (R61, R62), with a header taken from another image's informative fields. -/
def buildImage (ver : Sect → Nat) (gen : Nat) (ident : List Byte) (built : Nat) (layout : List Byte) (ss : List Sect) : List Byte :=
  let n := ss.length
  let start := 64 + 16 * n
  let body := ss.foldl (fun (acc : List Byte × List Byte × Nat) x =>
    let len := x.2.2.length
    let pad := (4 - len % 4) % 4
    (acc.1 ++ (le 2 x.1 ++ le 2 (ver x) ++ le 4 acc.2.2 ++ le 4 len ++ le 4 x.2.1), acc.2.1 ++ x.2.2 ++ List.replicate pad 0, acc.2.2 + len + pad)) ([], [], start)
  let total := start + body.2.1.length + 4
  let b := le 4 0x47464337 ++ le 2 2 ++ le 2 64 ++ le 4 total ++ le 4 gen ++ le 8 built ++ le 4 n ++ le 4 0 ++ padTo 16 ident ++ padTo 16 layout
    ++ body.1 ++ body.2.1
  b ++ le 4 (crc32c b)

end Sys2Proof.Machine
end

