-- ==== Sys2Proof/Machine/LadleExec.lean ====
section
/-!
DEFINITION. The operations that ladle instructions are made of (R170 to R192): each takes the program's context and the ladle's working state to
its working state. The program counter has already moved to the next instruction.
-/
set_option linter.unusedVariables false
namespace Sys2Proof.Machine

/-- What an instruction sees beyond the ladle's working state: the program, its table, the cycle instant, the running configuration. -/
structure LCtx where
  prog : Prog
  table : List (Nat × Word)
  /-- The cycle instant t_c in ns (R186). -/
  tc : Nat
  cfg : RunCfg

/-- An operation of an instruction. -/
abbrev LOp := LCtx → LRun → LRun

/-- BAD (R148). -/
def lBad : Nat := 5

/-! ### Operands (R174, R175) -/

/-- The slot of a point operand; none through an invalid base (R174, R175). -/
def LCtx.slotOf (c : LCtx) (r : LRun) (b off : Nat) : Option Nat :=
  if b = 0 then some off
  else match r.bases.getD b none with
    | none => none
    | some x =>
      if x.valid then
        match c.prog.ranges[x.range]? with
        | some g => some (g.start + x.window.toNat * g.width + off)
        | none => none
      else none

/-- An access through an invalid base (R175). -/
def LRun.fault (r : LRun) : LRun := { r with idxFault := r.idxFault + 1 }

/-- Load a slot: value, quality, type; value 0 with quality BAD through an invalid base (R175). -/
def LCtx.load (c : LCtx) (r : LRun) (b off : Nat) : Word × Nat × Nat × LRun :=
  match (c.slotOf r b off).bind fun k => r.slots[k]? with
  | some x => (x.value, x.quality, (c.cfg.ptInfo x.addr).typ, r)
  | none => (0, lBad, 0, r.fault)

/-- Store into a slot and mark it dirty; discarded through an invalid base (R175, R209). -/
def LCtx.store (c : LCtx) (r : LRun) (b off : Nat) (f : Slot → PtInfo → Word × Nat) : LRun :=
  match c.slotOf r b off with
  | none => r.fault
  | some k =>
    match r.slots[k]? with
    | none => r.fault
    | some x =>
      let v := f x (c.cfg.ptInfo x.addr)
      { r with slots := r.slots.set k { x with value := v.1, quality := v.2, dirty := true } }

/-- The instance an instruction names: the immediate plus its base's window (R189); none through an invalid base. -/
def LRun.instOf (r : LRun) (k b : Nat) : Option Nat :=
  if b = 0 then some k
  else match r.bases.getD b none with
    | some x => if x.valid then some (k + x.window.toNat) else none
    | none => none

/-- Run an instance instruction; through an invalid base it does nothing but set LA to 0 and LQ to BAD (R175). -/
def withInst (k b : Nat) (f : Nat → LRun → LRun) (r : LRun) : LRun :=
  match r.instOf k b with
  | some j => f j r
  | none => { r.fault with la := false, lq := lBad }

/-- A scratch word with its quality. -/
def LRun.w (r : LRun) (n : Nat) : Word × Nat := r.ws.getD n (0, 0)

/-! ### Bit logic (R177 to R179) -/

/-- The bit a bit load takes, with its quality: inverted by N (bit 7 of the mod field). -/
def LCtx.bitIn (c : LCtx) (r : LRun) (b off md : Nat) : Bool × Nat × LRun :=
  let x := c.load r b off
  (bitOf x.1.toNat (md % 32) != bitOf md 7, x.2.1, x.2.2.2)

/-- LD. -/
def opLd (b off md : Nat) : LOp := fun c r =>
  let x := c.bitIn r b off md
  { x.2.2 with la := x.1, lq := x.2.1 }

/-- AND, OR, XOR: the result takes the higher quality (R176). -/
def opCombine (f : Bool → Bool → Bool) (b off md : Nat) : LOp := fun c r =>
  let x := c.bitIn r b off md
  { x.2.2 with la := f r.la x.1, lq := max r.lq x.2.1 }

/-- Write a bit into a slot with the accumulator's quality, or GOOD under G (R176). -/
def bitStore (v : Bool) (b off md : Nat) : LOp := fun c r =>
  c.store r b off fun x _ =>
    (BitVec.ofNat 32 (putBits x.value.toNat (md % 32) 1 (bit v)), if bitOf md 6 then 0 else r.lq)

/-- ST. -/
def opSt (b off md : Nat) : LOp := fun c r => bitStore (r.la != bitOf md 7) b off md c r

/-- SET and RST: only when LA is 1. -/
def opSetRst (v : Bool) (b off md : Nat) : LOp := fun c r => if r.la then bitStore v b off md c r else r

/-- LDQ (R177). -/
def opLdq (b off md : Nat) : LOp := fun c r =>
  let x := c.load r b off
  { x.2.2.2 with la := decide (x.2.1 ≤ md % 16) != bitOf md 7, lq := 0 }

/-- LAOP. -/
def opLaop (k : Nat) : LOp := fun _ r => { r with la := if k = 0 then false else if k = 1 then true else !r.la }

/-- BOPEN (R179). -/
def opBopen : LOp := fun _ r => { r with branch := (r.la, r.lq) :: r.branch, la := true, lq := 0 }

/-- BAND, BOR, BDROP: a pop takes the higher of the two qualities (R179). -/
def opPop (f : Bool → Bool → Bool) : LOp := fun _ r =>
  match r.branch with
  | [] => r
  | x :: xs => { r with branch := xs, la := f x.1 r.la, lq := max x.2 r.lq }

/-- BPEEK (R179). -/
def opBpeek : LOp := fun _ r =>
  match r.branch with
  | [] => r
  | x :: _ => { r with la := x.1, lq := x.2 }

/-! ### Edges, timers, counters, memory words (R186 to R188) -/

/-- EDGE (R188). -/
def opEdge (k b md : Nat) : LOp := fun _ r => withInst k b (fun j r =>
  let p := r.priv.edges.getD j false
  let q := if md = 0 then r.la && !p else if md = 1 then !r.la && p else r.la != p
  { r with la := q, priv := { r.priv with edges := r.priv.edges.set j r.la } }) r

/-- Elapsed whole milliseconds. -/
def elapsedMs (tc : Nat) (start : Int) : Nat := (((tc : Int) - start) / 1000000).toNat

/-- One evaluation of a timer (R186). -/
def evalTimer (kind preset : Nat) (tc : Nat) (inp : Bool) (t : Tmr) : Bool × Tmr :=
  let start (t : Tmr) : Tmr := if t.run then t else { t with start := tc, run := true }
  let r : Bool × Tmr :=
    if kind = 0 then
      if inp then let u := start t; (decide (preset ≤ elapsedMs tc u.start), u) else (false, { t with run := false })
    else if kind = 1 then
      if inp then (true, { t with run := false, q := true })
      else if t.q then
        let u := start t
        let v := if preset ≤ elapsedMs tc u.start then { u with q := false, run := false } else u
        (v.q, v)
      else (false, t)
    else if kind = 2 then
      let u := if inp && !t.prev && !t.run then { t with start := tc, run := true } else t
      let v := if u.run && decide (preset ≤ elapsedMs tc u.start) then { u with run := false } else u
      (v.run, v)
    else
      let u := if inp then start t
        else if t.run then { t with acc := min (2 ^ 32 - 1) (t.acc + elapsedMs tc t.start), run := false } else t
      (decide (preset ≤ u.acc + (if u.run then elapsedMs tc u.start else 0)), u)
  (r.1, { r.2 with prev := inp, q := r.1 })

/-- TMR (R186): the preset of the table, or WA under P, where 0 acts as 1 ms. -/
def opTmr (k b md : Nat) : LOp := fun c r => withInst k b (fun j r =>
  let d := c.prog.timers.getD j (0, 1)
  let preset := if md = 1 then max 1 r.wa.toNat else d.2
  let x := evalTimer d.1 preset c.tc r.la (r.priv.timers.getD j {})
  { r with la := x.1, priv := { r.priv with timers := r.priv.timers.set j x.2 } }) r

/-- CTU and CTD (R187). -/
def opCount (up : Bool) (k b : Nat) : LOp := fun c r => withInst k b (fun j r =>
  let x := r.priv.counters.getD j {}
  let prev := if up then x.up else x.down
  let v := if r.la && !prev then (if up then min (2 ^ 31 - 1 : Int) (x.value + 1) else max (-(2 ^ 31 : Int)) (x.value - 1)) else x.value
  let q := if up then decide (c.prog.counters.getD j 0 ≤ v) else decide (v ≤ 0)
  let y : Ctr := if up then { x with value := v, up := r.la, q := q } else { x with value := v, down := r.la, q := q }
  { r with la := q, priv := { r.priv with counters := r.priv.counters.set j y } }) r

/-- TCR with LA 1 clears the timer, or the counter's value and previous inputs (R187). -/
def opTcr (k b md : Nat) : LOp := fun _ r => withInst k b (fun j r =>
  if !r.la then r
  else if md = 0 then { r with priv := { r.priv with timers := r.priv.timers.set j {} } }
  else { r with priv := { r.priv with counters := r.priv.counters.set j { r.priv.counters.getD j {} with value := 0, up := false, down := false } } }) r

/-- A timer's elapsed time in ms: 0 when not running, except for TONR (R187). -/
def timerElapsed (kind tc : Nat) (t : Tmr) : Nat :=
  let run := if t.run then elapsedMs tc t.start else 0
  min (2 ^ 32 - 1) (if kind = 3 then t.acc + run else run)

/-- TCLD (R187). -/
def opTcld (k b md : Nat) : LOp := fun c r => withInst k b (fun j r =>
  if md = 0 then
    { r with wa := BitVec.ofNat 32 (timerElapsed (c.prog.timers.getD j (0, 1)).1 c.tc (r.priv.timers.getD j {})), wq := 0 }
  else if md = 1 then { r with wa := BitVec.ofNat 32 (ofInt 32 (r.priv.counters.getD j {}).value), wq := 0 }
  else if r.la then
    { r with priv := { r.priv with counters := r.priv.counters.set j { r.priv.counters.getD j {} with value := sext 32 r.wa.toNat } } }
  else r) r

/-- LDM (R188). -/
def opLdm (k b : Nat) : LOp := fun _ r => withInst k b (fun j r =>
  let x := r.priv.mems.getD j (0, 0)
  { r with wa := x.1, wq := x.2 }) r

/-- STM (R188): under C only when LA is 1. -/
def opStm (k b md : Nat) : LOp := fun _ r => withInst k b (fun j r =>
  if md = 0 || r.la then { r with priv := { r.priv with mems := r.priv.mems.set j (r.wa, r.wq) } } else r) r

/-! ### Words (R177, R180 to R183, R194) -/

/-- LDW with its quality gate (R177). -/
def opLdw (b off md : Nat) : LOp := fun c r =>
  let x := c.load r b off
  let thr := md / 16
  if thr = 15 then { x.2.2.2 with wa := x.1, wq := x.2.1 }
  else if thr < x.2.1 then { x.2.2.2 with wa := (r.w (md % 16)).1, wq := 2, la := true, lq := 0 }
  else { x.2.2.2 with wa := x.1, wq := x.2.1, la := false, lq := 0 }

/-- WA converted to a point's type, saturating (R182). -/
def convert (typ enumMax : Nat) (w : Word) : Word :=
  let u := w.toNat
  if typ = 1 then (if u = 0 then 0 else 1)
  else if typ = 2 then BitVec.ofNat 32 (min 255 u)
  else if typ = 3 then BitVec.ofNat 32 (ofInt 32 (clampInt (-0x8000) 0x7FFF (sext 32 u)))
  else if typ = 4 then BitVec.ofNat 32 (min 65535 u)
  else if typ = 8 then BitVec.ofNat 32 (min enumMax u)
  else w

/-- Is the word a NaN? -/
def isNan (w : Word) : Bool := F32.ofWord w == .nan

/-- STW (R182): under C only when LA is 1; a NaN stores 0 with quality BAD and counts. -/
def opStw (b off md : Nat) : LOp := fun c r =>
  if bitOf md 5 && !r.la then r
  else
    let q := if bitOf md 6 then 0 else r.wq
    let f32 := match (c.slotOf r b off).bind (fun k => r.slots[k]?) with
      | some x => (c.cfg.ptInfo x.addr).typ == 7
      | none => false
    let nan := f32 && isNan r.wa
    let t := c.store r b off fun x i => if nan then (0, lBad) else (convert i.typ i.enumMax r.wa, q)
    if nan then { t with arith := t.arith + 1 } else t

/-- QLD (R177). -/
def opQld (b off : Nat) : LOp := fun c r =>
  let x := c.load r b off
  { x.2.2.2 with wa := BitVec.ofNat 32 x.2.1, wq := 0 }

/-- WBIT: the bit brings the quality of WA, and a bit set takes the higher of the two (R176). -/
def opWbit (dir k : Nat) : LOp := fun _ r =>
  if dir = 0 then { r with la := bitOf r.wa.toNat k, lq := r.wq }
  else { r with wa := BitVec.ofNat 32 (putBits r.wa.toNat k 1 (bit r.la)), wq := max r.wq r.lq }

/-- LDI. -/
def opLdi (imm : Nat) : LOp := fun _ r => { r with wa := BitVec.ofNat 32 (ofInt 32 (sext 24 imm)), wq := 0 }

/-- LDIH. -/
def opLdih (imm : Nat) : LOp := fun _ r => { r with wa := BitVec.ofNat 32 (putBits r.wa.toNat 16 16 imm) }

/-- MOV. -/
def opMov (dir w : Nat) : LOp := fun _ r =>
  let x := r.w w
  if dir = 0 then { r with ws := r.ws.set w (r.wa, r.wq) }
  else if dir = 1 then { r with wa := x.1, wq := x.2 }
  else { r with wa := x.1, wq := x.2, ws := r.ws.set w (r.wa, r.wq) }

/-- SEL. -/
def opSel (w : Nat) : LOp := fun _ r => if r.la then { r with wa := (r.w w).1, wq := (r.w w).2 } else r

/-- Integer saturation to I32. -/
def satI32 (x : Int) : Nat := ofInt 32 (clampInt (-(2 ^ 31 : Int)) (2 ^ 31 - 1) x)

/-- The functions of ALU and ALUI (R180, R195), with whether the divisor was 0. -/
def aluOf (fn : Nat) (x y : Word) : Word × Bool :=
  let a := x.toNat
  let b := y.toNat
  let sa := sext 32 a
  let sb := sext 32 b
  let w (n : Nat) : Word × Bool := (BitVec.ofNat 32 n, false)
  let wi (i : Int) : Word × Bool := (BitVec.ofNat 32 (ofInt 32 i), false)
  match fn with
  | 0x00 => (x + y, false)
  | 0x01 => (x - y, false)
  | 0x02 => w (satI32 (sa + sb))
  | 0x03 => w (satI32 (sa - sb))
  | 0x04 => (x * y, false)
  | 0x05 => wi (sa * sb / 2 ^ 32)
  | 0x06 => w (satI32 (sa * sb / 2 ^ 16))
  | 0x07 => if b = 0 then (if 0 ≤ sa then (0x7FFFFFFF, true) else (0x80000000, true)) else w (satI32 (Int.tdiv sa sb))
  | 0x08 => if b = 0 then (0xFFFFFFFF, true) else w (a / b)
  | 0x09 => if b = 0 then (0, true) else wi (Int.tmod sa sb)
  | 0x0A => if b = 0 then (0, true) else w (a % b)
  | 0x0B => (x &&& y, false)
  | 0x0C => (x ||| y, false)
  | 0x0D => (x ^^^ y, false)
  | 0x0E => (x <<< (b % 32), false)
  | 0x0F => (x >>> (b % 32), false)
  | 0x10 => wi (sa / 2 ^ (b % 32))
  | 0x11 => wi (min sa sb)
  | 0x12 => wi (max sa sb)
  | 0x13 => w (min a b)
  | 0x14 => w (max a b)
  | 0x15 => w (satI32 sa.natAbs)
  | 0x16 => w (satI32 (-sa))
  | _ => (x, false)

/-- ALU and ALUI with their operand and its quality: the higher quality, BAD and a count for a division by zero (R176, R180). -/
def aluWith (fn : Nat) (y : Word) (q : Nat) (r : LRun) : LRun :=
  let x := aluOf fn r.wa y
  let q := if fn = 0x15 || fn = 0x16 then r.wq else max r.wq q
  if x.2 then { r with wa := x.1, wq := lBad, arith := r.arith + 1 } else { r with wa := x.1, wq := q }

/-- ALU. -/
def opAlu (fn w : Nat) : LOp := fun _ r => aluWith fn (r.w w).1 (r.w w).2 r

/-- ALUI. -/
def opAlui (fn imm : Nat) : LOp := fun _ r => aluWith fn (BitVec.ofNat 32 (ofInt 32 (sext 21 imm))) r.wq r

/-- The functions of FPU (R181, R195); none is a NaN result. -/
def fpuOf (fn : Nat) (x y : Word) : Option Word :=
  let a := F32.ofWord x
  let b := F32.ofWord y
  match fn with
  | 0x00 => f32Add a b
  | 0x01 => f32Add a b.negate
  | 0x02 => f32Mul a b
  | 0x03 => f32Div a b
  | 0x04 => f32MinMax true a b x y
  | 0x05 => f32MinMax false a b x y
  | 0x06 => match a with | .nan => none | .inf _ => some (infWord false) | .fin _ m e => some (F32.fin false m e).toWord
  | 0x07 => match a.negate with | .nan => none | z => some z.toWord
  | 0x08 => some (f32OfInt x)
  | 0x0A => f32Sqrt a
  | _ => some x

/-- FPU (R181): one-operand functions keep the quality of WA; a NaN leaves 0x7FC00000 (FTOI: 0) with BAD and counts. -/
def opFpu (fn w : Nat) : LOp := fun _ r =>
  let y := r.w w
  let q := if 6 ≤ fn then r.wq else max r.wq y.2
  if fn = 9 then
    match f32ToInt (F32.ofWord r.wa) with
    | some v => { r with wa := v, wq := q }
    | none => { r with wa := 0, wq := lBad, arith := r.arith + 1 }
  else
    match fpuOf fn r.wa y.1 with
    | some v => { r with wa := v, wq := q }
    | none => { r with wa := nanWord, wq := lBad, arith := r.arith + 1 }

/-- The conditions of CMP and CMPI (R181, R195). -/
def condOf (cond : Nat) (x y : Word) : Bool :=
  let a := x.toNat
  let b := y.toNat
  let sa := sext 32 a
  let sb := sext 32 b
  let nan := isNan x || isNan y
  let o := f32Order (F32.ofWord x) (F32.ofWord y)
  match cond with
  | 0x0 => x == y
  | 0x1 => x != y
  | 0x2 => decide (sa < sb)
  | 0x3 => decide (sa ≤ sb)
  | 0x4 => decide (sb < sa)
  | 0x5 => decide (sb ≤ sa)
  | 0x6 => decide (a < b)
  | 0x7 => decide (a ≤ b)
  | 0x8 => decide (b < a)
  | 0x9 => decide (b ≤ a)
  | 0xA => !nan && o == 0
  | 0xB => !nan && decide (o < 0)
  | 0xC => !nan && decide (o ≤ 0)
  | 0xD => !nan && decide (0 < o)
  | 0xE => !nan && decide (0 ≤ o)
  | _ => false

/-- Combine a comparison into LA: LD, AND, OR, with the quality of the operands (R176, R195). -/
def cmpWith (cond comb : Nat) (y : Word) (q : Nat) (r : LRun) : LRun :=
  let v := condOf cond r.wa y
  let q := max r.wq q
  if comb = 0 then { r with la := v, lq := q }
  else if comb = 1 then { r with la := r.la && v, lq := max r.lq q }
  else { r with la := r.la || v, lq := max r.lq q }

/-- CMP. -/
def opCmp (cond comb w : Nat) : LOp := fun _ r => cmpWith cond comb (r.w w).1 (r.w w).2 r

/-- CMPI. -/
def opCmpi (cond comb imm : Nat) : LOp := fun _ r => cmpWith cond comb (BitVec.ofNat 32 (ofInt 32 (sext 16 imm))) r.wq r

/-- A table word; words not supplied read 0 (R199). -/
def LCtx.tab (c : LCtx) (i : Nat) : Word := mapGet (fun _ => 0) c.table i

/-- The x and y of a curve's points (R183). -/
def LCtx.cx (c : LCtx) (base i : Nat) : Int := sext 32 (c.tab (base + 1 + 2 * i)).toNat
def LCtx.cy (c : LCtx) (base i : Nat) : Int := sext 32 (c.tab (base + 2 + 2 * i)).toNat

/-- The bisection of R183: `lo` and `hi` until they are neighbours. -/
def LCtx.bisect (c : LCtx) (base : Nat) (v : Int) : Nat → Nat → Nat → Nat × Nat
  | 0, lo, hi => (lo, hi)
  | k + 1, lo, hi =>
    if hi - lo ≤ 1 then (lo, hi)
    else
      let mid := (lo + hi) / 2
      if c.cx base mid ≤ v then LCtx.bisect c base v k mid hi else LCtx.bisect c base v k lo mid

/-- The interpolation of R183. The int64 product wraps as the pseudocode's types have it. -/
def LCtx.interp (c : LCtx) (v : Int) (base : Nat) : Int :=
  let n := (c.tab base).toNat
  if v ≤ c.cx base 0 then c.cy base 0
  else if c.cx base (n - 1) ≤ v then c.cy base (n - 1)
  else
    let lh := c.bisect base v 12 0 (n - 1)
    let x0 := c.cx base lh.1
    let y0 := c.cy base lh.1
    let dx := c.cx base lh.2 - x0
    if dx ≤ 0 then y0
    else
      let prod := sext 64 (ofInt 64 ((v - x0) * (c.cy base lh.2 - y0)))
      sext 32 (ofInt 32 (y0 + sext 32 (ofInt 32 (Int.tdiv prod dx))))

/-- TBL (R183). DESIGN CHOICE (log entry 50): the sum base + WA does not wrap, so a sum of 2^32 or more is an index beyond the table. -/
def opTbl (mode base : Nat) : LOp := fun c r =>
  let tw := c.prog.tableWords
  let bad : LRun := { r.fault with wa := 0, wq := lBad }
  if mode = 0 then
    if base + r.wa.toNat < tw then { r with wa := c.tab (base + r.wa.toNat) } else bad
  else
    let n := (c.tab base).toNat
    if base < tw && 2 ≤ n && n ≤ 4096 && base + 1 + 2 * n ≤ tw then
      { r with wa := BitVec.ofNat 32 (ofInt 32 (c.interp (sext 32 r.wa.toNat) base)) }
    else bad

/-! ### Control flow (R184, R185) -/

/-- Does the condition of a J format hold (R193)? -/
def jumps (cond : Nat) (r : LRun) : Bool := cond == 0 || (cond == 1 && r.la) || (cond == 2 && !r.la)

/-- JMP. -/
def opJmp (cond target : Nat) : LOp := fun _ r => if jumps cond r then { r with pc := target } else r

/-- CALL: the return index is that of the next instruction. -/
def opCall (cond target : Nat) : LOp := fun _ r => if jumps cond r then { r with rets := r.pc :: r.rets, pc := target } else r

/-- RET. -/
def opRet : LOp := fun _ r => match r.rets with | [] => r | x :: xs => { r with pc := x, rets := xs }

/-- The pairs of LOOP and ENDL of the program. -/
def Prog.pairs (p : Prog) : List (Nat × Nat) := match pairLoops p.ins 0 [] [] with | .ok l => l | .error _ => []

/-- Bind a base to window 0 of the range it holds (R184). -/
def LRun.rewind (r : LRun) (b : Nat) : LRun :=
  if b = 0 then r
  else match r.bases.getD b none with
    | some x => { r with bases := r.bases.set b (some { x with window := 0, valid := true }) }
    | none => r

/-- LOOP (R184): count times, or in W mode min(WA, count) times; 0 skips the body. -/
def opLoop (b w count : Nat) : LOp := fun c r =>
  let n := if w = 1 then min r.wa.toNat (count + 1) else count + 1
  let here := r.pc - 1
  let r := r.rewind b
  if n = 0 then { r with pc := endOf c.prog.pairs here + 1 }
  else { r with loops := { at_ := here, left := n, base := b } :: r.loops }

/-- Set a base's window; outside the range's count the base becomes invalid (R175). `keep` is whether the base may be valid afterwards. DESIGN CHOICE (log entry 48): an
invalid base holds the window it was given, out of range or not; a later addition starts from it and BLD reads it. -/
def LCtx.moveBase (c : LCtx) (r : LRun) (b : Nat) (keep : Base → Bool) (f : Int → Int) : LRun :=
  match r.bases.getD b none with
  | none => r
  | some x =>
    let w := f x.window
    let n := match c.prog.ranges[x.range]? with | some g => g.count | none => 0
    { r with bases := r.bases.set b (some { x with window := w, valid := keep x && decide (0 ≤ w) && decide (w < n) }) }

/-- ENDL (R184): back to the loop's start with the base advanced, or on. An invalid base stays invalid (R175). -/
def opEndl : LOp := fun c r =>
  match r.loops with
  | [] => r
  | l :: ls =>
    if l.left ≤ 1 then { r with loops := ls }
    else
      let t := if l.base = 0 then r else c.moveBase r l.base Base.valid (· + 1)
      { t with loops := { l with left := l.left - 1 } :: ls, pc := l.at_ + 1 }

/-- BRK with LA 1 leaves the innermost loop (R184). -/
def opBrk : LOp := fun c r =>
  if !r.la then r
  else match r.loops with
    | [] => r
    | l :: ls => { r with loops := ls, pc := endOf c.prog.pairs l.at_ + 1 }

/-! ### Base registers and lamp calls (R175, R191) -/

/-- SETB. -/
def opSetb (b range window : Nat) : LOp := fun _ r =>
  { r with bases := r.bases.set b (some { range := range, window := window, valid := true }) }

/-- BIDX: the window from WA as a signed number, or moved by a signed immediate. -/
def opBidx (b mode imm : Nat) : LOp := fun c r =>
  c.moveBase r b (fun _ => true) fun w => if mode = 0 then sext 32 r.wa.toNat else w + sext 16 imm

/-- BLD. -/
def opBld (b : Nat) : LOp := fun _ r =>
  match r.bases.getD b none with
  | some x => { r with wa := BitVec.ofNat 32 (ofInt 32 x.window), wq := 0 }
  | none => r

/-- The greatest scene number (R145). -/
def sceneMax : Nat := 255

/-- LCALL (R191). -/
def opLcall (fn wt wf : Nat) : LOp := fun c r =>
  let z := (r.w wt).1.toNat
  if c.cfg.lamp.zoneOk z then
    { r with calls := r.calls ++ [{ fn := fn, zone := z, value := min (if fn = 2 then sceneMax else 65535) r.wa.toNat, fade := (r.w wf).1.toNat }] }
  else { r with lcDiscard := r.lcDiscard + 1 }

/-! ### A step of a ladle -/

/-- A ladle. -/
def State.ladle (s : State) (n : Nat) : Ladle := mapGet (fun _ => {}) s.ladles n

/-- Store a ladle. -/
def State.setLadle (s : State) (n : Nat) (x : Ladle) : State := { s with ladles := mapSet (fun _ => {}) s.ladles n x }

/-- The context of ladle `n` in the cycle in progress. -/
def State.lctx (s : State) (x : Ladle) (p : Prog) : LCtx := { prog := p, table := x.table, tc := s.cyc.boundary, cfg := s.cfg }

/-- Is `i` the instruction that ladle `n` executes next? -/
def Ladle.fetches (x : Ladle) (i : LIns) : Option Prog :=
  if x.phase = .executing then
    match x.prog with
    | some p => if p.ins[x.run.pc]? = some i then some p else none
    | none => none
  else none

/-- Ladle `n` executes instruction `i` by operation `f`: the counter moves to the next instruction first. A ladle that is not executing, or whose next
instruction is another one, executes nothing. -/
def ladleDo (n : Nat) (i : LIns) (f : LOp) (s : State) : Answer :=
  let x := s.ladle n
  match x.fetches i with
  | none => .next s
  | some p =>
    let r := f (s.lctx x p) { x.run with pc := x.run.pc + 1, units := x.run.units + i.cost }
    .next (s.setLadle n { x with run := r })

end Sys2Proof.Machine
end

