-- ==== Sys2Proof/Machine/LadleIns.lean ====
section
/-!
DEFINITION. The ladle instructions (R194): each is a step of ladle `n`, with the fields of its format (R193).
-/
set_option linter.unusedVariables false
namespace Sys2Proof.Machine

/-- LD on ladle `n` (R194). -/
def execLiLd (n b off m : Nat) (s : State) : Answer := ladleDo n (.pt .ld b off m) (opLd b off m) s

/-- AND on ladle `n` (R194). -/
def execLiAnd (n b off m : Nat) (s : State) : Answer := ladleDo n (.pt .and_ b off m) (opCombine (fun x y => x && y) b off m) s

/-- OR on ladle `n` (R194). -/
def execLiOr (n b off m : Nat) (s : State) : Answer := ladleDo n (.pt .or_ b off m) (opCombine (fun x y => x || y) b off m) s

/-- XOR on ladle `n` (R194). -/
def execLiXor (n b off m : Nat) (s : State) : Answer := ladleDo n (.pt .xor_ b off m) (opCombine (fun x y => x != y) b off m) s

/-- ST on ladle `n` (R194). -/
def execLiSt (n b off m : Nat) (s : State) : Answer := ladleDo n (.pt .st b off m) (opSt b off m) s

/-- SET on ladle `n` (R194). -/
def execLiSet (n b off m : Nat) (s : State) : Answer := ladleDo n (.pt .set b off m) (opSetRst true b off m) s

/-- RST on ladle `n` (R194). -/
def execLiRst (n b off m : Nat) (s : State) : Answer := ladleDo n (.pt .rst b off m) (opSetRst false b off m) s

/-- LDQ on ladle `n` (R194). -/
def execLiLdq (n b off m : Nat) (s : State) : Answer := ladleDo n (.pt .ldq b off m) (opLdq b off m) s

/-- LDW on ladle `n` (R194). -/
def execLiLdw (n b off m : Nat) (s : State) : Answer := ladleDo n (.pt .ldw b off m) (opLdw b off m) s

/-- STW on ladle `n` (R194). -/
def execLiStw (n b off m : Nat) (s : State) : Answer := ladleDo n (.pt .stw b off m) (opStw b off m) s

/-- QLD on ladle `n` (R194). -/
def execLiQld (n b off m : Nat) (s : State) : Answer := ladleDo n (.pt .qld b off m) (opQld b off) s

/-- EDGE on ladle `n` (R194). -/
def execLiEdge (n k b m : Nat) (s : State) : Answer := ladleDo n (.inst .edge k b m) (opEdge k b m) s

/-- TMR on ladle `n` (R194). -/
def execLiTmr (n k b m : Nat) (s : State) : Answer := ladleDo n (.inst .tmr k b m) (opTmr k b m) s

/-- CTU on ladle `n` (R194). -/
def execLiCtu (n k b m : Nat) (s : State) : Answer := ladleDo n (.inst .ctu k b m) (opCount true k b) s

/-- CTD on ladle `n` (R194). -/
def execLiCtd (n k b m : Nat) (s : State) : Answer := ladleDo n (.inst .ctd k b m) (opCount false k b) s

/-- TCR on ladle `n` (R194). -/
def execLiTcr (n k b m : Nat) (s : State) : Answer := ladleDo n (.inst .tcr k b m) (opTcr k b m) s

/-- TCLD on ladle `n` (R194). -/
def execLiTcld (n k b m : Nat) (s : State) : Answer := ladleDo n (.inst .tcld k b m) (opTcld k b m) s

/-- LDM on ladle `n` (R194). -/
def execLiLdm (n k b m : Nat) (s : State) : Answer := ladleDo n (.inst .ldm k b m) (opLdm k b) s

/-- STM on ladle `n` (R194). -/
def execLiStm (n k b m : Nat) (s : State) : Answer := ladleDo n (.inst .stm k b m) (opStm k b m) s

/-- BOPEN on ladle `n` (R194). -/
def execLiBopen (n : Nat) (s : State) : Answer := ladleDo n (.z .bopen) (opBopen) s

/-- BAND on ladle `n` (R194). -/
def execLiBand (n : Nat) (s : State) : Answer := ladleDo n (.z .band) (opPop (fun x y => x && y)) s

/-- BOR on ladle `n` (R194). -/
def execLiBor (n : Nat) (s : State) : Answer := ladleDo n (.z .bor) (opPop (fun x y => x || y)) s

/-- BPEEK on ladle `n` (R194). -/
def execLiBpeek (n : Nat) (s : State) : Answer := ladleDo n (.z .bpeek) (opBpeek) s

/-- BDROP on ladle `n` (R194). -/
def execLiBdrop (n : Nat) (s : State) : Answer := ladleDo n (.z .bdrop) (opPop (fun _ y => y)) s

/-- RET on ladle `n` (R194). -/
def execLiRet (n : Nat) (s : State) : Answer := ladleDo n (.z .ret) (opRet) s

/-- ENDL on ladle `n` (R194). -/
def execLiEndl (n : Nat) (s : State) : Answer := ladleDo n (.z .endl) (opEndl) s

/-- BRK on ladle `n` (R194). -/
def execLiBrk (n : Nat) (s : State) : Answer := ladleDo n (.z .brk) (opBrk) s

/-- NOP on ladle `n` (R194). -/
def execLiNop (n : Nat) (s : State) : Answer := ladleDo n (.z .nop) (fun _ r => r) s

/-- LAOP on ladle `n` (R194). -/
def execLiLaop (n k : Nat) (s : State) : Answer := ladleDo n (.laop k) (opLaop k) s

/-- WBIT on ladle `n` (R194). -/
def execLiWbit (n dir k : Nat) (s : State) : Answer := ladleDo n (.wbit dir k) (opWbit dir k) s

/-- LDI on ladle `n` (R194). -/
def execLiLdi (n imm : Nat) (s : State) : Answer := ladleDo n (.ldi imm) (opLdi imm) s

/-- LDIH on ladle `n` (R194). -/
def execLiLdih (n imm : Nat) (s : State) : Answer := ladleDo n (.ldih imm) (opLdih imm) s

/-- MOV on ladle `n` (R194). -/
def execLiMov (n dir w : Nat) (s : State) : Answer := ladleDo n (.mov dir w) (opMov dir w) s

/-- SEL on ladle `n` (R194). -/
def execLiSel (n w : Nat) (s : State) : Answer := ladleDo n (.sel w) (opSel w) s

/-- ALU on ladle `n` (R194). -/
def execLiAlu (n fn w : Nat) (s : State) : Answer := ladleDo n (.alu fn w) (opAlu fn w) s

/-- ALUI on ladle `n` (R194). -/
def execLiAlui (n fn imm : Nat) (s : State) : Answer := ladleDo n (.alui fn imm) (opAlui fn imm) s

/-- FPU on ladle `n` (R194). -/
def execLiFpu (n fn w : Nat) (s : State) : Answer := ladleDo n (.fpu fn w) (opFpu fn w) s

/-- CMP on ladle `n` (R194). -/
def execLiCmp (n cond comb w : Nat) (s : State) : Answer := ladleDo n (.cmp cond comb w) (opCmp cond comb w) s

/-- CMPI on ladle `n` (R194). -/
def execLiCmpi (n cond comb imm : Nat) (s : State) : Answer := ladleDo n (.cmpi cond comb imm) (opCmpi cond comb imm) s

/-- TBL on ladle `n` (R194). -/
def execLiTbl (n mode base : Nat) (s : State) : Answer := ladleDo n (.tbl mode base) (opTbl mode base) s

/-- JMP on ladle `n` (R194). -/
def execLiJmp (n cond target : Nat) (s : State) : Answer := ladleDo n (.jmp cond target) (opJmp cond target) s

/-- CALL on ladle `n` (R194). -/
def execLiCall (n cond target : Nat) (s : State) : Answer := ladleDo n (.call cond target) (opCall cond target) s

/-- LOOP on ladle `n` (R194). -/
def execLiLoop (n b w count : Nat) (s : State) : Answer := ladleDo n (.loop b w count) (opLoop b w count) s

/-- SETB on ladle `n` (R194). -/
def execLiSetb (n b range window : Nat) (s : State) : Answer := ladleDo n (.setb b range window) (opSetb b range window) s

/-- BIDX on ladle `n` (R194). -/
def execLiBidx (n b mode imm : Nat) (s : State) : Answer := ladleDo n (.bidx b mode imm) (opBidx b mode imm) s

/-- BLD on ladle `n` (R194). -/
def execLiBld (n b : Nat) (s : State) : Answer := ladleDo n (.bld b) (opBld b) s

/-- LCALL on ladle `n` (R194). -/
def execLiLcall (n fn wt wf : Nat) (s : State) : Answer := ladleDo n (.lcall fn wt wf) (opLcall fn wt wf) s

/-- END (R185): the ladle is done for the cycle; its units, time and calls show in its registers (LDL registers). -/
def execLiEnd (n : Nat) (s : State) : Answer :=
  let x := s.ladle n
  match x.fetches (.z .fin) with
  | none => .next s
  | some p =>
    let units := x.run.units + (LIns.z .fin).cost
    let t := s.setLadle n { x with run := { x.run with units := units }, phase := .done, endAt := s.now }
    let ns := s.now - x.chargeEnd
    let t := (t.wrN (Reg.LDL_LASTU n) units).wrN (Reg.LDL_LASTNS n) (min (2 ^ 32 - 1) ns)
    let t := t.wrN (Reg.LDL_MAXNS n) (max (t.rdN (Reg.LDL_MAXNS n)) (min (2 ^ 32 - 1) ns))
    .next (t.setF (Reg.LDL_CALLS n) F.LDL_CALLS_LAST x.run.calls.length)

/-- A read of LDL[n]_MAXNS returns it and reloads it with 0 (R479). -/
def execLdlMaxnsRead (n : Nat) (s : State) : Answer :=
  .next (if n < 16 && s.answers (Reg.LDL_MAXNS n) then ({ s with rdData := [s.rd (Reg.LDL_MAXNS n)] } : State).wr (Reg.LDL_MAXNS n) 0
    else { s with rdData := [0] })

end Sys2Proof.Machine
end

