-- ==== Sys2Proof/Machine/LadleCmd.lean ====
section
/-!
DEFINITION. Placing programs and tables in a ladle, and the ladle commands (R131, R171, R172, R190, R199, R200).
-/
set_option linter.unusedVariables false
namespace Sys2Proof.Machine

/-! ### Programs in place (R190, R199) -/

/-- Private state with every element cleared (R171). -/
def Prog.cleared (p : Prog) : Priv :=
  { timers := List.replicate p.timers.length {}, counters := List.replicate p.counters.length {}, edges := List.replicate p.edges false
    mems := List.replicate p.mems (0, 0) }

/-- Private state that carries over to a new program (R190). -/
def carryPriv (old : Option Prog) (x : Priv) (p : Prog) : Priv :=
  match old with
  | none => p.cleared
  | some o =>
    { timers := (List.range p.timers.length).map fun k =>
        if k < o.timers.length && (o.timers.getD k (0, 0)).1 == (p.timers.getD k (0, 0)).1 then x.timers.getD k {} else {}
      counters := (List.range p.counters.length).map fun k => x.counters.getD k {}
      edges := (List.range p.edges).map fun k => x.edges.getD k false
      mems := (List.range p.mems).map fun k => x.mems.getD k (0, 0) }

/-- Show a ladle's program in its registers. -/
def State.showProg (s : State) (n : Nat) (p : Option Prog) : State :=
  match p with
  | none =>
    [Reg.LDL_PROG n, Reg.LDL_FOOT n, Reg.LDL_WFOOT n, Reg.LDL_WCU n, Reg.LDL_TCUSE n, Reg.LDL_EMUSE n, Reg.LDL_PROGID n].foldl (fun t a => t.wrN a 0)
      (s.setF (Reg.LDL_CALLS n) F.LDL_CALLS_WC 0)
  | some p =>
    let t := (s.wrN (Reg.LDL_PROG n) p.ins.length).setF (Reg.LDL_FOOT n) F.LDL_FOOT_RANGES p.ranges.length
    let t := (t.setF (Reg.LDL_FOOT n) F.LDL_FOOT_SLOTS p.slots.length).wrN (Reg.LDL_WFOOT n) p.writes.length
    let t := (t.wrN (Reg.LDL_WCU n) p.wcu).setF (Reg.LDL_CALLS n) F.LDL_CALLS_WC p.wcCalls
    let t := (t.setF (Reg.LDL_TCUSE n) F.LDL_TCUSE_TIMERS p.timers.length).setF (Reg.LDL_TCUSE n) F.LDL_TCUSE_COUNTERS p.counters.length
    let t := (t.setF (Reg.LDL_EMUSE n) F.LDL_EMUSE_EDGES p.edges).setF (Reg.LDL_EMUSE n) F.LDL_EMUSE_MEMWORDS p.mems
    t.wrN (Reg.LDL_PROGID n) (fieldLe p.image 32 4)

/-- Load or replace a ladle's program, or unload it; the table starts with every word at 0 (R190, R199). -/
def State.placeProgram (s : State) (n : Nat) (p : Option Prog) : State :=
  let x := s.ladle n
  let y : Ladle := match p with
    | some q => { prog := some q, priv := carryPriv x.prog x.priv q, phase := .idle }
    | none => {}
  (s.setLadle n y).showProg n p

/-- Words of a table load: byte offset and bytes. -/
def putWords (tab : List (Nat × Word)) (first : Nat) (b : List Byte) : List (Nat × Word) :=
  ((recordsOf 4 (b.length / 4) b).zipIdx).foldl (fun m x => mapSet (fun _ => 0) m (first + x.2) (BitVec.ofNat 32 (fieldLe x.1 0 4))) tab

/-- The cycle in progress uses the ladle's table: the ladle is charging or executing. -/
def Ladle.usesTable (x : Ladle) : Bool := x.phase == .charging || x.phase == .executing

/-- Write words of a ladle's table: at once, or into the table that its next charge takes (R114). -/
def State.writeTable (s : State) (n first : Nat) (b : List Byte) : State :=
  let x := s.ladle n
  let t := putWords (x.tableNext.getD x.table) first b
  s.setLadle n (if x.usesTable then { x with tableNext := some t } else { x with table := t, tableNext := none })

/-! ### The proposed configuration -/

/-- The complete configuration load of a transaction. -/
def PatLoad.image? (l : PatLoad) : Option (List Byte) :=
  let b := l.blocks.foldr (fun x (acc : List Byte) => acc.take x.1 ++ List.replicate (x.1 - acc.length) 0 ++ x.2 ++ acc.drop (x.1 + x.2.length)) []
  if (l.blocks.map fun x => x.2.length).sum = l.total then some b else none

/-- The configuration that point types are judged by while a transaction is filled: that of its complete image, or else the running one. -/
def State.proposedInfo (s : State) (k : Nat) : Nat → PtInfo :=
  match (s.txn k).load.bind PatLoad.image? with
  | none => s.cfg.ptInfo
  | some b =>
    match (do
      let ss ← imageSections b
      let pts ← withSect ss 4 ([], []) parsePoints
      let lamp ← withSect ss 5 {} parseLamp
      let czn ← withSect ss 7 {} parseCzn
      let radio ← withSect ss 8 {} (parseRadio s.ident)
      pure ({ ranges := pts.1, lamp := lamp, czn := czn, radio := radio } : RunCfg) : Chk RunCfg) with
    | .ok c => c.ptInfo
    | .error _ => s.cfg.ptInfo

/-- The program that a transaction stages for a ladle: nothing staged, unloaded, or an image. -/
def TxnSlot.staged (t : TxnSlot) (n : Nat) : Option (Option (List Byte)) :=
  t.changes.findSome? fun c => match c with | .program m i => if m = n then some i else none | _ => none

/-- Write footprints of the other ladles as the transaction would leave them (R173). -/
def State.takenBy (s : State) (k n : Nat) : List Nat :=
  ((List.range 16).filter (· ≠ n)).flatMap fun m =>
    match (s.txn k).staged m with
    | some none => []
    | some (some img) => match parseProg img m with | .ok p => p.writes | .error _ => []
    | none => match (s.ladle m).prog with | some p => p.writes | none => []

/-! ### Commands (R200) -/

/-- The open ONLINE transaction that an entry names. -/
def State.onlineTxn (s : State) (e : CmdEntry) : Option Nat :=
  match s.txnOf e.txn.toNat with
  | some k => if (s.txn k).online && (s.txn k).phase == .opened then some k else none
  | none => none

/-- A piece overlaps another, or disagrees about the total (R200). -/
def pieceBad (ps : List (Nat × Nat × Nat × List Byte)) (n total off len : Nat) : Bool :=
  ps.any fun x => x.1 == n && (x.2.1 != total || (decide (off < x.2.2.1 + x.2.2.2.length) && decide (x.2.2.1 < off + len)))

/-- The bytes of a ladle's pieces once they are complete. -/
def assemble (ps : List (Nat × Nat × Nat × List Byte)) (total : Nat) : List Byte :=
  ps.foldl (fun acc x => acc.take x.2.2.1 ++ x.2.2.2 ++ acc.drop (x.2.2.1 + x.2.2.2.length)) (List.replicate total 0)

/-- A piece of a program: kept, or the last one, with which the image is checked and staged (R200). Result0 of the last is U; of an image refused before U is computed no rule
states it, and the value is free (log entry 52). -/
def State.loadPiece (s : State) (k n off total : Nat) (b : List Byte) : Res :=
  let t := s.txn k
  if b.isEmpty || total < off + b.length || pieceBad t.pieces n total off b.length then .stat St.badFormat s
  else
    let ps := (n, total, off, b) :: t.pieces
    let mine := ps.filter (·.1 == n)
    if (mine.map fun x => x.2.2.2.length).sum < total then .staged 0 (s.setTxn k { t with pieces := ps, named := s.now })
    else
      let img := assemble mine total
      let t := { t with pieces := t.pieces.filter (·.1 ≠ n), named := s.now }
      match loadProgram img n (s.proposedInfo k) (s.takenBy k n) with
      | .ok p => .done St.ok p.wcu 0xFFFFFFFF 2 [] (s.setTxn k { t with changes := addChange t.changes (.program n (some img)) })
      | .error x => .done x.status (x.units.getD (Config.freeWord s.free).toNat) x.index 0 [] (if x.units.isSome then s.setTxn k t else (s.setTxn k t).nextFree)

/-- LDL_LOAD (R200). -/
def execLdlLoad (e : CmdEntry) (s : State) : Answer :=
  runCmd Op.ldlLoad (.ldlLoad e) e (fun _ s =>
    match s.onlineTxn e with
    | none => .stat St.refused s
    | some k =>
      let n := e.param 0 1
      if 16 ≤ n || e.param 4 4 % 4 ≠ 0 || e.bufOut then .stat St.badFormat s
      else if s.conflicts (some k) [.ladle n] then Res.conflict s
      else s.loadPiece k n (e.param 4 4) (e.param 8 4) e.buf) s

/-- LDL_UNLOAD (R200). -/
def execLdlUnload (e : CmdEntry) (s : State) : Answer :=
  runCmd Op.ldlUnload (.ldlUnload e) e (fun _ s =>
    match s.onlineTxn e with
    | none => .stat St.refused s
    | some k => if 16 ≤ e.param 0 1 then .stat St.badFormat s else s.stageChanges k [.program (e.param 0 1) none] 0) s

/-- Table words of the program that a table load is for: staged in the same transaction, or running. -/
def State.tableRoom (s : State) (slot : Option Nat) (n : Nat) : Nat :=
  let run := match (s.ladle n).prog with | some p => p.tableWords | none => 0
  match slot with
  | none => run
  | some k =>
    match (s.txn k).staged n with
    | some none => 0
    | some (some img) => fieldLe img 48 4
    | none =>
      match (s.txn k).load.bind PatLoad.image? with
      | none => run
      | some b => match imageSections b with
        | .ok ss => match sectOf ss 2 n with | some p => fieldLe p 48 4 | none => 0
        | .error _ => run

/-- LDL_TABLE (R131, R199, R200). -/
def execLdlTable (e : CmdEntry) (s : State) : Answer :=
  runCmd Op.ldlTable (.ldlTable e) e (fun _ s =>
    let n := e.param 0 1
    let first := e.param 4 4
    let slot := s.txnOf e.txn.toNat
    if slot.isNone && s.defaulted then .stat St.defaulted s
    else if 16 ≤ n || e.bufLen.toNat % 4 ≠ 0 || e.bufLen = 0 || e.bufOut || s.tableRoom slot n < first + e.bufLen.toNat / 4 then .stat St.badFormat s
    else
      let c : Change := .table (.ladle n) (4 * first) e.buf
      match slot with
      | some k => s.stageChanges k [c] 0
      | none =>
        if s.conflicts none c.targets then Res.conflict s
        else .wait (.ldlTable n first e.buf s.now) (s.setF (Reg.LDL_STATUS n) F.LDL_STATUS_TABLE_PENDING 1)) s

/-- The ladle makes no access to its banks: from the end of a commit until the next charge (R131). -/
def State.ladleIdle (s : State) (n : Nat) : Bool :=
  match (s.ladle n).phase with | .charging => false | .executing => false | .done => false | _ => true

/-- A table load that waits for ladle `n`. -/
def Wait.table? (n : Nat) (w : Wait) : Option (Nat × List Byte × Nat) :=
  match w.kind with | .ldlTable m first b since => if m = n then some (first, b, since) else none | _ => none

/-- LDL_TABLE_IDLE_APPLY: untagged table loads of a ladle are applied in its idle interval, or time out after TXN_CFG.WAIT (R131, R200). -/
def execLdlTableIdleApply (n : Nat) (s : State) : Answer :=
  let t := s.waits.foldl (fun t w =>
    match w.table? n with
    | none => t
    | some (first, b, since) =>
      if s.ladleIdle n then (t.writeTable n first b).finish w St.ok 0 0
      else if since + ms (s.fld Reg.TXN_CFG F.TXN_CFG_WAIT) ≤ s.now then t.finish w St.timeout 0 0
      else t) s
  .next (if n < 16 then t.setF (Reg.LDL_STATUS n) F.LDL_STATUS_TABLE_PENDING (bit (t.waits.any fun w => (w.table? n).isSome)) else s)

/-- The age of a timer that has never run, in a PRIVATE record (DESIGN CHOICE, log entry 53). -/
def neverRan : Nat := 2 ^ 64 - 1

/-- One committed state entry of 16 bytes (R200). `base` is what a timer's start instant is told from: none for the instant itself, an instant for its
age (R172). -/
def stateEntry (p : Prog) (x : Priv) (kind i : Nat) (base : Option Nat) : List Byte :=
  if kind = 0 then
    let t := x.timers.getD i {}
    let st := match base with
      | none => ofInt 64 t.start
      | some b => if t.start = 0 then neverRan else ofInt 64 ((b : Int) - t.start)
    le 1 (bit t.run + 2 * bit t.q + 4 * bit t.prev) ++ [0, 0, 0] ++ le 4 t.acc ++ le 8 st
  else if kind = 1 then
    let c := x.counters.getD i {}
    le 1 (bit c.q + 2 * bit c.up + 4 * bit c.down) ++ [0, 0, 0] ++ le 4 (ofInt 32 c.value) ++ le 4 (ofInt 32 (p.counters.getD i 0)) ++ [0, 0, 0, 0]
  else if kind = 2 then padTo 16 (le 1 (bit (x.edges.getD i false)))
  else
    let m := x.mems.getD i (0, 0)
    padTo 16 (le 4 m.1.toNat ++ le 1 (m.2 * 16))

/-- Declared count of a kind. -/
def Prog.declared (p : Prog) (kind : Nat) : Nat :=
  if kind = 0 then p.timers.length else if kind = 1 then p.counters.length else if kind = 2 then p.edges else p.mems

/-- LDL_STATE (R200). -/
def execLdlState (e : CmdEntry) (s : State) : Answer :=
  runCmd Op.ldlState (.ldlState e) e (fun _ s =>
    let n := e.param 0 1
    let kind := e.param 1 1
    let first := e.param 4 2
    let count := e.param 6 2
    if s.defaulted then .stat St.defaulted s
    else if 16 ≤ n || 4 ≤ kind || count < 1 || 4096 < count || !e.bufOut || e.bufLen.toNat ≠ 16 * count then .stat St.badFormat s
    else match (s.ladle n).prog with
      | none => .stat St.notFound s
      | some p =>
        if p.declared kind < first + count then .stat St.badFormat s
        else
          let b := (List.range count).flatMap fun i => stateEntry p (s.ladle n).priv kind (first + i) none
          .done St.ok count 0 0 [(e.bufAddr.toNat, b)] s) s

/-- Ascending numbers cut into runs of consecutive ones. -/
def runsOf : List Nat → List (List Nat)
  | [] => []
  | a :: as_ =>
    match runsOf as_ with
    | (b :: r) :: rs => if b = a + 1 then (a :: b :: r) :: rs else [a] :: (b :: r) :: rs
    | rs => [a] :: rs

/-- The private state of two commits differs in element `i` of a kind. -/
def Priv.differs (x y : Priv) (kind i : Nat) : Bool :=
  if kind = 0 then x.timers[i]? != y.timers[i]? else if kind = 1 then x.counters[i]? != y.counters[i]?
  else if kind = 2 then x.edges[i]? != y.edges[i]? else x.mems[i]? != y.mems[i]?

/-- PRIVATE records of a ladle's committed state, with ages relative to a cycle instant: what has changed since `old`, or all of it (R172, R418, R432). -/
def State.privateRecords (s : State) (tc n : Nat) (old : Option Priv) : List (List Byte) :=
  match (s.ladle n).prog with
  | none => []
  | some p =>
    [0, 1, 2, 3].flatMap fun kind =>
      let per := max 1 ((s.partRoom - 12) / 16)
      let is := (List.range (p.declared kind)).filter fun i => match old with | some o => o.differs (s.ladle n).priv kind i | none => true
      (runsOf is).flatMap fun run => (chunks per run.length run).map fun is =>
        peerRecord 2 (be 1 n ++ be 1 kind ++ be 2 (is.headD 0) ++ be 2 is.length ++ [0, 0] ++ is.flatMap fun i => stateEntry p (s.ladle n).priv kind i (some tc))

end Sys2Proof.Machine
end

