-- ==== Sys2Proof/Machine/Mem.lean ====
section
/-!
DEFINITION. On-chip memory (R128 to R136): chill, fettling, remapping, and the budget registers that the fettling period enters (R215).
-/
set_option linter.unusedVariables false
namespace Sys2Proof.Machine

/-! ### Budget (R215) -/

/-- MEM_FETTLE.PERIOD in µs. -/
def State.fettleUs (s : State) : Nat := 1000 * s.fld Reg.MEM_FETTLE F.MEM_FETTLE_PERIOD

/-- The load of the programs in place. -/
def State.load (s : State) : Load := loadOf ((List.range 16).filterMap fun n => (s.ladle n).prog)

/-- Slack in a core-voltage state: P − M less the charge and the execution, signed. -/
def Load.slack (l : Load) (rate p m fettle : Nat) : Int := (p - m : Nat) - (l.tch + l.tex rate p fettle : Nat)

/-- Show the budget of the running configuration. -/
def State.showBudget (s : State) : State :=
  let l := s.load
  let p := s.rdN Reg.CYC_PERIOD
  let m := s.rdN Reg.CYC_MARGIN
  let f := s.fettleUs
  let t := (s.wrN Reg.CYC_BUD_FULL (min 0xFFFFFFFF (l.tch + l.tex rateFull p f))).wrN Reg.CYC_BUD_EBB (min 0xFFFFFFFF (l.tch + l.tex rateEbb p f))
  let t := t.wrN Reg.CYC_BUD_COMMIT (min 0xFFFFFFFF l.tcm)
  (t.setF Reg.CYC_STATUS F.CYC_STATUS_BUDGET_FULL (bit (l.holds rateFull p m f))).setF Reg.CYC_STATUS F.CYC_STATUS_BUDGET_EBB
    (bit (l.holds rateEbb p m f))

/-- MEM_FETTLE_WRITE: the period enters the budget; a budget that holds no longer is recorded (R215). -/
def State.writeFettle (s : State) (v : Word) : State :=
  let t := (s.setF Reg.MEM_FETTLE F.MEM_FETTLE_ENABLE (F.MEM_FETTLE_ENABLE.get v)).setF Reg.MEM_FETTLE F.MEM_FETTLE_PERIOD
    (clampNat 1 1000 (F.MEM_FETTLE_PERIOD.get v))
  let u := t.showBudget
  let lost (f : Fld) := s.flag Reg.CYC_STATUS f && !u.flag Reg.CYC_STATUS f
  if lost F.CYC_STATUS_BUDGET_FULL || lost F.CYC_STATUS_BUDGET_EBB then
    let p := u.rdN Reg.CYC_PERIOD
    let m := u.rdN Reg.CYC_MARGIN
    u.event 0x0B06 1 noInst (le 4 (ofInt 32 (u.load.slack rateFull p m u.fettleUs)) ++ le 4 (ofInt 32 (u.load.slack rateEbb p m u.fettleUs))
      ++ le 4 (u.fettleUs / 1000))
  else u

/-! ### Chill (R132) -/

/-- The ladle that a bank belongs to (R128). -/
def bankLadle (b : Nat) : Option Nat :=
  if b < 16 then some b else if b < 48 then some ((b - 16) / 2) else if b < 64 then some (b - 48) else none

/-- MEM_BANK[b].CHILL_OK: a bank of a ladle without a program, or a lamp bank that the configuration does not use. -/
def State.chillOk (s : State) (b : Nat) : Bool :=
  match bankLadle b with
  | some n => (s.ladle n).prog.isNone
  | none => decide (64 ≤ b ∧ b < 128) && Config.lampBankUnused b s.cfg.lamp.lums.length

/-- The bank's state as MEM_BANK shows it. -/
def State.setBank (s : State) (b v : Nat) : State := s.setF (Reg.MEM_BANK b) F.MEM_BANK_STATE v
def State.bank (s : State) (b : Nat) : Nat := s.fld (Reg.MEM_BANK b) F.MEM_BANK_STATE

/-- The state of a bank that is awake and under no test. -/
def State.bankAtRest (s : State) (b : Nat) : Nat :=
  if s.fettle.degraded.contains b then 5 else if s.flag (Reg.MEM_BANK b) F.MEM_BANK_CHILL then 1 else 0

/-- A write of MEM_BANK[b].CHILL: ignored where the bank may not be chilled; a bank under test is chilled when the test ends. -/
def State.writeChill (s : State) (b : Nat) (on : Bool) : State :=
  if on && !s.chillOk b then s
  else
    let t := s.setF (Reg.MEM_BANK b) F.MEM_BANK_CHILL (bit on)
    if t.bank b = 3 || t.bank b = 4 then t else t.setBank b (t.bankAtRest b)

/-- Loading a program wakes the ladle's banks (R132). -/
def State.wakeLadle (s : State) (n : Nat) : State := [n, 16 + 2 * n, 17 + 2 * n, 48 + n].foldl (fun t b => t.writeChill b false) s

/-- An access to a chilled bank wakes it, and it stays awake (R132). -/
def State.wakeBank (s : State) (b : Nat) : State := if b < 192 && s.flag (Reg.MEM_BANK b) F.MEM_BANK_CHILL then s.writeChill b false else s

/-- Lamp banks that the configuration uses are accessed, and so awake (R132). -/
def State.wakeLamp (s : State) : State :=
  (List.range 64).foldl (fun t i => if t.chillOk (64 + i) then t else t.wakeBank (64 + i)) s

/-! ### Fettling (R133, R134) -/

/-- The next region of the walk. -/
def nextRegion (b r : Nat) : Nat × Nat := if r < 255 then (b, r + 1) else ((b + 1) % 192, 0)

/-- Show where the walk stands. -/
def State.setWalk (s : State) (b r : Nat) : State :=
  (s.setF Reg.MEM_FETTLEPOS F.MEM_FETTLEPOS_BANK b).setF Reg.MEM_FETTLEPOS F.MEM_FETTLEPOS_REGION r

/-- A pass has ended: its aborts count no more. Regions that wait for a retry keep it; those left for the next pass are walked in it. -/
def State.endPass (s : State) : State :=
  let t := s.bumpF Reg.MEM_FETTLEPOS F.MEM_FETTLEPOS_PASS
  { t with fettle := { t.fettle with retries := (t.fettle.retries.filter (·.aborts < 4)).map fun x => { x with aborts := 0 } } }

/-- Move the walk past chilled banks, counting each skip; at most every bank once. -/
def State.skipChilled (s : State) : Nat → State
  | 0 => s
  | k + 1 =>
    let b := s.fld Reg.MEM_FETTLEPOS F.MEM_FETTLEPOS_BANK
    let r := s.fld Reg.MEM_FETTLEPOS F.MEM_FETTLEPOS_REGION
    if s.bank b = 1 then
      let t := (s.bumpF Reg.MEM_FETTLE_ABORTS F.MEM_FETTLE_ABORTS_SKIPS (256 - r)).setWalk ((b + 1) % 192) 0
      State.skipChilled (if b = 191 then t.endPass else t) k
    else s

/-- Is a bank being copied to a spare? -/
def State.copying (s : State) (b : Nat) : Bool := match s.fettle.remap with | some (c, _) => c == b | none => false

/-- A bank whose test or copy has ended shows its state at rest; one that is being copied still shows that. -/
def State.restBank (s : State) (b : Nat) : State := if s.copying b then s else s.setBank b (s.bankAtRest b)

/-- Begin the test of a region. A bank that is being copied to a spare goes on showing REMAPPING. -/
def State.testRegion (s : State) (b r : Nat) (retry : Bool) : State :=
  let t := if s.copying b then s else s.setBank b 3
  { t with fettle := { t.fettle with test := some (b, r), retry := retry, at_ := t.now + ms (t.fld Reg.MEM_FETTLE F.MEM_FETTLE_PERIOD)
                                     retries := t.fettle.retries.map fun x => { x with left := x.left - 1 } } }

/-- The copy of a bank to a spare begins; with no spare free the bank stays in service degraded (R135). -/
def State.startRemap (s : State) (b cause : Nat) : State :=
  if s.flash.sparesUsed < 8 then
    let t := s.setBank b 4
    { t with fettle := { t.fettle with remap := some (b, cause) } }
  else
    let t : State := { s with fettle := { s.fettle with degraded := b :: s.fettle.degraded } }
    ((t.setBank b 5).setF Reg.MEM_STATUS F.MEM_STATUS_NO_SPARE 1).event 0x0802 2 noInst (le 1 b)

/-- A bank needs a spare (R135): its copy begins, or waits for the copy under way to end. -/
def State.needSpare (s : State) (b cause : Nat) : State :=
  if s.copying b || s.fettle.degraded.contains b || s.fettle.needs.any (·.1 == b) then s
  else if s.fettle.remap.isSome then { s with fettle := { s.fettle with needs := s.fettle.needs ++ [(b, cause)] } }
  else s.startRemap b cause

/-- The banks that wait for a spare are served in turn, until one is being copied. -/
def State.nextRemap (s : State) : State :=
  s.fettle.needs.foldl (fun t x => if t.fettle.remap.isSome then t
    else ({ t with fettle := { t.fettle with needs := t.fettle.needs.drop 1 } } : State).startRemap x.1 x.2) s

/-- FETTLE_REGION_START: a region that waits for its retry, or the next of the walk (R133, R134). -/
def execFettleRegionStart (s : State) : Answer :=
  .next (if s.sup.inReset || !s.flag Reg.MEM_FETTLE F.MEM_FETTLE_ENABLE || s.outage || s.fettle.test.isSome || s.now < s.fettle.at_ then s
    else
      match s.fettle.retries.find? fun x => x.left == 0 && decide (x.aborts < 4) && s.bank x.bank != 1 with
      | some x => s.testRegion x.bank x.region true
      | none =>
        let t := s.skipChilled 192
        t.testRegion (t.fld Reg.MEM_FETTLEPOS F.MEM_FETTLEPOS_BANK) (t.fld Reg.MEM_FETTLEPOS F.MEM_FETTLEPOS_REGION) false)

/-- Move the walk on after a region of its own. -/
def State.walkOn (s : State) (b r : Nat) : State :=
  let n := nextRegion b r
  let t := s.setWalk n.1 n.2
  if b = 191 && r = 255 then t.endPass else t

/-- A test was aborted by a write (R134): the region is retried after 16 further regions, and left for the next pass after 4 aborts. -/
def State.abortTest (s : State) (b r : Nat) : State :=
  let old := s.fettle.retries.find? fun x => x.bank == b && x.region == r
  let n := (match old with | some x => x.aborts | none => 0) + 1
  let t : State := { s with fettle := { s.fettle with
    retries := (s.fettle.retries.filter fun x => !(x.bank == b && x.region == r)) ++ [{ bank := b, region := r, aborts := n, left := 16 }] } }
  if n = 4 then t.bumpF Reg.MEM_FETTLE_ABORTS F.MEM_FETTLE_ABORTS_DEFERRED else t

/-- FETTLE_REGION_END: the region is restored. A fault posts FETTLE_FAULT and asks for a spare; a write into the region has aborted the test
(R133 to R135, R138). -/
def execFettleRegionEnd (r : FettleEnd) (s : State) : Answer :=
  .next (match s.fettle.test with
  | none => s
  | some (b, g) =>
    let t : State := { s with fettle := { s.fettle with test := none, retry := false } }
    let t := t.restBank b
    let t := if s.fettle.retry then t else t.walkOn b g
    let drop (u : State) : State :=
      { u with fettle := { u.fettle with retries := u.fettle.retries.filter fun x => !(x.bank == b && x.region == g) } }
    match r with
    | .passed => drop t
    | .aborted => t.abortTest b g
    | .faulted off expected got =>
      ((drop t).postDia 0x0205 b (le 1 g ++ le 2 off ++ le 4 expected.toNat ++ le 4 got.toNat)).needSpare b 1)

/-! ### Corrected errors and remapping (R135) -/

/-- Corrected errors of a bank in the last 24 h. -/
def State.ce24 (s : State) (b : Nat) : Nat := (s.fettle.ce.filter fun x => x.1 == b && decide (s.now < x.2 + secs 86400)).length

/-- A corrected error of a bank: counted; the count that reaches MEM_CETHR.LIMIT within 24 h asks for a spare (R135). A limit of 0 never does. -/
def State.sramCorrected (s : State) (b : Nat) : State :=
  if 192 ≤ b then s
  else
    let t := (s.wakeBank b).bumpSat Reg.MEM_ECC F.MEM_ECC_CE
    let t : State := { t with fettle := { t.fettle with ce := (b, t.now) :: t.fettle.ce.filter fun x => decide (t.now < x.2 + secs 86400) } }
    let limit := t.fld Reg.MEM_CETHR F.MEM_CETHR_LIMIT
    if 0 < limit && limit ≤ t.ce24 b then t.needSpare b 3 else t

/-- The bank's content stands in the spare and the mapping switches (R135). Spares are taken in rising order of their physical number from 192 (DESIGN CHOICE: the spec says
"a free spare"; log entry 44). The errors counted are those of the physical bank given up (DESIGN CHOICE, log entry 44). -/
def State.switchBank (s : State) (b cause : Nat) : State :=
  let spare := 192 + s.flash.sparesUsed
  let old := s.fld (Reg.MEM_BANK b) F.MEM_BANK_PHYS
  let t : State := { s with
    flash := { s.flash with remap := mapPut s.flash.remap b spare, sparesUsed := s.flash.sparesUsed + 1 }
    fettle := { s.fettle with remap := none, ce := s.fettle.ce.filter (·.1 ≠ b) } }
  let t := t.setF (Reg.MEM_BANK b) F.MEM_BANK_PHYS spare
  let t := t.setBank b (match t.fettle.test with | some (c, _) => if c = b then 3 else t.bankAtRest b | none => t.bankAtRest b)
  let t := t.setF Reg.MEM_STATUS F.MEM_STATUS_SPARES_FREE (8 - t.flash.sparesUsed)
  ((t.postDia 0x0204 b (le 1 old ++ le 1 spare ++ le 1 cause)).event 0x0801 1 noInst (le 1 b ++ le 1 old ++ le 1 spare ++ le 1 cause)).nextRemap

/-- BANK_REMAP_DONE: the copy that is under way ends. Abandoned at a power-fail warning (R135). -/
def execBankRemapDone (b cause : Nat) (s : State) : Answer :=
  .next (if !s.outage && !s.sup.inReset && s.fettle.remap = some (b, cause) then s.switchBank b cause else s)

/-- A power-fail warning stops fettling at once and abandons a remap (R134, R135). -/
def State.stopFettle (s : State) : State :=
  let tested := s.fettle.test.map (·.1)
  let copied := s.fettle.remap.map (·.1)
  let t : State := { s with fettle := { s.fettle with test := none, retry := false, remap := none, needs := [] } }
  let t := match tested with | some b => t.restBank b | none => t
  match copied with | some b => t.restBank b | none => t

end Sys2Proof.Machine
end

