-- ==== Sys2Proof/Machine/Burst.lean ====
section
/-!
DEFINITION. RUNNER_BURST (R117, R118, R121), with the errors of on-chip memory that a burst meets (R126, R136).
-/
set_option linter.unusedVariables false
namespace Sys2Proof.Machine

/-- The pointer copies of a tundish disagree and it is reset (R126): commands complete QUEUE_RESET as if never taken, entries to the host are lost. A
flush that coincides is dropped; nothing is left for it to discard (R127). -/
def State.resetTundish (s : State) (n : Nat) : State :=
  let r := s.ring n
  let count := if hostToModule n then s.tunPackets n else r.tundish.length
  let bytes := if hostToModule n then s.tunBytes n + s.tunPackets n * s.entrySize n
    else (r.tundish.map fun p => p.bytes + (match p.entry with | some e => e.length | none => 0)).sum
  let t := s.setRing n { r with flushReq := false }
  let t := if hostToModule n then t.discardPackets n St.queueReset else t.discardOut n
  let t := t.bump (Reg.TUN_RESETS n)
  let t := (t.event 0x0601 2 n (le 2 count)).postDia 0x0203 n (le 2 count ++ le 4 bytes)
  let t := t.finishAll (fun w => w.kind == .tunFlush n) St.ok 0 0
  t.syncPass t.waits.length

/-- An uncorrectable SRAM error of a bank: counted, recorded, and the bank asks for a spare (R135, R136, R138). -/
def State.sramError (s : State) (bank addr : Nat) : State :=
  let t := (s.wakeBank bank).bumpSat Reg.MEM_ECC F.MEM_ECC_SRAM_UE
  let t := (t.event 0x0803 2 noInst ([1] ++ le 8 addr)).postDia 0x0206 bank ([1] ++ le 8 addr)
  if bank < 192 then t.needSpare bank 2 else t

/-- The entry at the front of a module-to-host tundish is discarded and counted as lost (R136). -/
def State.dropFront (s : State) (n : Nat) : State :=
  let r := s.ring n
  match r.outq with
  | [] => s
  | p :: rest =>
    let t := s.setRing n { r with outq := rest, sent := 0 }
    if p.entry.isSome then t.loseEntry n else t

/-- The next burst (R117, R118, R121): a write burst moves bytes of the front packet to host memory; a read burst fetches bytes of the next announced entry or of its input
buffer, which the entry's command row delivers once they are whole. -/
def State.burst (s : State) (n : Nat) (buf : Nat × Nat) : State :=
  let m := if hostToModule n then s.moveIn n buf else s.moveOut n
  let t := m.1
  let share := t.fld (Reg.DMA_CFG n) F.DMA_CFG_SHARE
  let gap := burstGap m.2 share (t.rdN Reg.DMA_LINKRATE)
  let t := if share = 0 then t else t.setRing n { t.ring n with nextOk := t.now + gap }
  { t with rrLast := mapSet (fun _ => 15) t.rrLast (t.fld (Reg.DMA_CFG n) F.DMA_CFG_PRIO) n }

/-- An uncorrectable error of DRAM: counted and recorded (R138). -/
def State.dramError (s : State) (addr : Nat) : State :=
  let t := s.bumpSat Reg.MEM_ECC F.MEM_ECC_DRAM_UE
  (t.event 0x0803 2 noInst ([2] ++ le 8 addr)).postDia 0x0206 0 ([2] ++ le 8 addr)

/-- The cause that a descriptor slagged by a memory error carries: R136 sends it to R122, whose four causes name none of memory; a free one of them. -/
def freeCause (i : Nat) : Nat := 1 + (Config.freeWord i).toNat % 4

/-- An uncorrectable error in the data of the burst that is due (R136): the descriptor being read is slagged; on a module-to-host ring the entry is discarded and counted. -/
def State.burstError (s : State) (entry : Option (Half × CmdEntry)) : State :=
  match s.pickRunner with
  | none => s
  | some n =>
    if hostToModule n then
      s.nextFree.slagNext n (freeCause s.free) (s.ring n).rd (match entry with | some (op, e) => if e.ring = n then some (op, e) else none | none => none)
    else s.dropFront n

/-- RUNNER_BURST: the runner engine starts the next burst, or the memory of the burst fails. -/
def execRunnerBurst (err : BurstErr) (s : State) : Answer :=
  .next (match err with
    | .none buf => (match s.pickRunner with | some n => s.burst n buf | none => s)
    | .pointer n => if n < 16 && !s.sup.inReset then s.resetTundish n else s
    | .uncorrectable bank addr entry => if s.sup.inReset then s else (s.sramError bank addr).burstError entry
    | .corrected bank => if s.sup.inReset then s else s.sramCorrected bank
    | .dram addr corrected =>
      if s.sup.inReset then s else if corrected then s.bumpSat Reg.MEM_ECC F.MEM_ECC_CE else s.dramError addr)

end Sys2Proof.Machine
end

