-- ==== Sys2Proof/Machine/Lamp.lean ====
section
/-!
DEFINITION. The lamp engine (R227 to R250): latch, fades, curves, drives, words, moulds, the pour, status and probes, emergency mode.
-/
set_option linter.unusedVariables false
namespace Sys2Proof.Machine

/-! ### Instants, alignment (R203, R228) -/

/-- The first instant not before `from_` at which the wall time is a whole multiple of a tick in ms (R228), in whole ns. -/
def State.alignTick (s : State) (tick from_ : Nat) : Nat :=
  let u := tick * 1000000 * 2 ^ 32
  let w := (((from_ * 2 ^ 32 : Nat) : Int) + s.clock.wallOff).toNat
  from_ + ((u - w % u) % u + 2 ^ 32 - 1) / 2 ^ 32

/-- The first instant of a grid not before `from_`: the grid through `base` with a step. -/
def gridFrom (base step from_ : Nat) : Nat :=
  if step = 0 then from_ else from_ + ((((base : Int) - from_) % step).toNat)

/-- The cycle offset applies: the tick is a whole multiple of the period, or the period of the tick (R203). -/
def cycAligned (tickMs periodUs : Nat) : Bool := tickMs * 1000 % periodUs == 0 || periodUs % (tickMs * 1000) == 0

/-- The first cycle boundary not before `from_` (R203), through a tick boundary `tb`. -/
def cycFirst (tb tickMs periodUs offsetUs from_ : Nat) : Nat :=
  let tick := ms tickMs
  if !cycAligned tickMs periodUs then gridFrom tb tick from_
  else gridFrom (tb + offsetUs * 1000) (if periodUs * 1000 < tick then periodUs * 1000 else tick) from_

/-- Align the cycle afresh: the cycle under way completes under its timing (R203, R224, R229). -/
def State.cycAlign (s : State) : State :=
  match s.lamp.next with
  | none => s
  | some tb =>
    let p := s.rdN Reg.CYC_PERIOD
    if p = 0 || s.cyc.next.isNone then s
    else
      let from_ := max s.now (if s.cyc.period = 0 then 0 else s.cyc.boundary + s.cyc.period)
      let t : State := { s with cyc := { s.cyc with next := some (cycFirst tb s.lamp.tick p (s.rdN Reg.CYC_OFFSET) from_) } }
      t.setF Reg.CYC_STATUS F.CYC_STATUS_UNALIGNED (bit (!cycAligned s.lamp.tick p))

/-! ### Reconfiguration of point defaults -/

/-- A configuration in place of another: every listed point and the points named keep their records. -/
def State.recfg (s : State) (c : RunCfg) (addrs : List Nat) : State :=
  let keys := (s.points.map (·.1)).foldl (fun l a => insertNat a l) (addrs.foldl (fun l a => insertNat a l) [])
  { s with cfg := c, points := keys.foldl (fun m a => mapSet (ptDefault c s.ident.radios s.restoreStamp) m a (s.pt a)) [] }

/-- The record of a point newly assigned, or of another type than before (R220), stamped at the application (R151). -/
def ptFresh (c : RunCfg) (stamp a : Nat) : PtRec := { value := (c.ptInfo a).dflt, quality := Q.default, pending := false, writer := 0, stamp := stamp }

/-- A configuration in place of another, with the points treated as in R220: those of the same type keep their record, those newly assigned or of another type take the new
default, those no longer assigned are absent; PENDING goes with the OUTPUT marking. `addrs` names the points whose marking may change beside those listed. -/
def State.swapCfg (s : State) (c : RunCfg) (addrs : List Nat) : State :=
  let keys := ((s.points.map (·.1)) ++ c.newPoints s.cfg).foldl (fun l a => insertNat a l) (addrs.foldl (fun l a => insertNat a l) [])
  let d := ptDefault c s.ident.radios s.restoreStamp
  { s with cfg := c, points := keys.foldl (fun m a =>
      let i := c.ptInfo a
      if i.typ = 0 then m
      else if i.typ = (s.info a).typ then mapSet d m a { s.pt a with pending := (s.pt a).pending && i.output }
      else mapSet d m a (ptFresh c s.stamp a)) [] }

/-! ### State of channels, luminaires and nodes -/

/-- The key of channel `c` of luminaire `l`. -/
def chanKey (l c : Nat) : Nat := 4 * l + c
def State.chan (s : State) (l c : Nat) : Chan := mapGet (fun _ => {}) s.lamp.chans (chanKey l c)
def State.setChan (s : State) (l c : Nat) (x : Chan) : State :=
  { s with lamp := { s.lamp with chans := mapSet (fun _ => {}) s.lamp.chans (chanKey l c) x } }
def State.lumSt (s : State) (l : Nat) : Lum := mapGet (fun _ => {}) s.lamp.lums l
def State.setLum (s : State) (l : Nat) (x : Lum) : State := { s with lamp := { s.lamp with lums := mapSet (fun _ => {}) s.lamp.lums l x } }
def State.cznNode (s : State) (n : Nat) : CznNode := mapGet (fun _ => {}) s.czn.nodes n
def State.setCznNode (s : State) (n : Nat) (x : CznNode) : State := { s with czn := { s.czn with nodes := mapSet (fun _ => {}) s.czn.nodes n x } }

/-- The channels of a luminaire that are fitted. -/
def LumRec.channels (r : LumRec) : List Nat := (List.range 4).filter (bitOf r.fitted ·)

/-- The node record of row node `n`. -/
def State.lampNode (s : State) (n : Nat) : LampNode := (s.cfg.lamp.nodes.find? (·.n == n)).getD { n := n, width := 8, dither := 0, probe := 0 }

/-- The widest word a node takes: what it declared, 12 bits under version 2 (R239, R293); 16 before its discovery; on a standby, which takes no HELLO, the width its
active uses (R245). -/
def CznNode.widest (x : CznNode) : Nat := if x.maxWidth = 0 then (if x.width = 0 then 16 else x.width) else if x.version = 2 then min 12 x.maxWidth else x.maxWidth

/-- The word width in use (R239). -/
def State.wordWidth (s : State) (n : Nat) : Nat := min (s.lampNode n).width (s.cznNode n).widest

/-- The lamp engine evaluates (R245). -/
def State.lampRuns (s : State) : Bool := (s.leads || s.role == .standby) && s.sup.roleSettled && !s.defaulted && !s.dark && !s.pausing

/-- Sources of emergency mode as EMERG_SRC shows them (R249). -/
def State.emergSrc (s : State) : Nat :=
  s.fld Reg.GLB_STATUS F.GLB_STATUS_EMERG + 2 * bit s.lamp.asked + 4 * s.fld Reg.LMP_CTL F.LMP_CTL_EMERG_SW

/-- A write of the lamp engine: writer 0x00A0 (R150). -/
def lampWrite (a v q stamp : Nat) : PtOp := .write { addr := a, value := BitVec.ofNat 32 v, quality := q, writer := 0x00A0, stamp := stamp }

/-! ### Ring 6 (R103, R254) -/

/-- Post a ring 6 entry: up to 4,096 entries are held. -/
def State.post6 (s : State) (kind unit channel new old current word stamp detail : Nat) : State :=
  let q := s.lamp.seq6
  let s : State := { s with lamp := { s.lamp with seq6 := addMod32 q 1 } }
  if 4096 ≤ (s.ring 6).outq.length then s.loseEntry 6
  else s.enqueue 6 fun loss =>
    le 4 q ++ le 1 kind ++ le 1 (bit loss) ++ le 2 unit ++ le 1 channel ++ le 1 new ++ le 1 old ++ [0] ++ le 2 current ++ le 2 word ++ le 8 stamp
      ++ le 4 detail ++ [0, 0, 0, 0]

/-! ### Fades (R234) -/

/-- A colour temperature in mired. -/
def mired (k : Nat) : Rat := (1000000 : Rat) / k

/-- The CCT of a luminaire's warm and cool channel, in K (R236). -/
def LampCfg.cctRange (c : LampCfg) (r : LumRec) : Nat × Nat := ((c.bins.getD (r.bins.getD 0 0) (32768, 0)).2, (c.bins.getD (r.bins.getD 1 0) (32768, 0)).2)

/-- A latched CCT, clamped to what the luminaire's channels mix, in mired (R236). -/
def LampCfg.cctMired (c : LampCfg) (r : LumRec) (k : Nat) : Rat := mired (clampNat (c.cctRange r).1 (c.cctRange r).2 k)

/-- What a channel takes at the latch: level, colour temperature in K and the mired it fades to, fade time in ms, curve; a fade begun whatever the targets, and the
colour kept (R250). -/
structure Latched where
  level : Nat
  cct : Option Nat
  mired : Rat
  fade : Nat
  curve : Nat
  anew : Bool
  freeze : Bool

/-- The longest fade in ms. -/
def fadeMax : Nat := 86400000

/-- The fade after the latch: a fade that starts begins at the pour instant `p` from what the segment poured before ends at. -/
def Chan.startFade (x : Chan) (p : Nat) (i : Latched) : Chan :=
  let first := i.cct.isSome && x.cctRaw.isNone
  let m := if i.cct.isSome then i.mired else x.endCct
  let x := if first then { x with cct0 := m, cct1 := m, endCct := m, cctRaw := i.cct } else x
  let x := if i.freeze then { x with cct0 := x.endCct, cct1 := x.endCct } else x
  if i.level ≠ x.target || (!i.freeze && i.cct.isSome && i.cct ≠ x.cctRaw) || i.anew then
    { x with start := x.endLevel, target := i.level, tBeg := p, dur := min i.fade fadeMax, cct0 := x.endCct
             cct1 := if i.freeze then x.endCct else m, cctRaw := if i.freeze || i.cct.isNone then x.cctRaw else i.cct }
  else x

/-- The end of the segment that starts at `p`, with the entry's ramp in ms (R234). -/
def Chan.segment (x : Chan) (p tick : Nat) : Chan × Nat :=
  let d := ms x.dur
  let e := ((p + ms tick : Nat) - x.tBeg).toNat
  let fading := x.dur ≠ 0 && decide ((p : Int) < x.tBeg + d)
  if x.dur = 0 || d ≤ e then
    ({ x with endLevel := x.target, endCct := x.cct1, fading := fading },
      if x.dur = 0 then 0 else if fading then min tick (((x.tBeg + d - p).toNat + 999999) / 1000000) else tick)
  else
    ({ x with endLevel := ((x.start : Int) + (((x.target : Int) - x.start) * e).tdiv d).toNat
              endCct := x.cct0 + (x.cct1 - x.cct0) * e / d, fading := fading }, tick)

/-! ### Curves (R235) -/

/-- Is k × 2^-24 at most 2^-25 above 10^(3 (l/65535 - 1))? -/
def logAtMost (l k : Nat) : Bool := k == 0 || decide ((2 * k - 1) ^ 65535 * 10 ^ (3 * (65535 - l)) ≤ 2 ^ (25 * 65535))

/-- The greatest k below `lo + 2^n` that passes the test, by halving. -/
def logSearch (l : Nat) : Nat → Nat → Nat
  | 0, lo => lo
  | n + 1, lo => if logAtMost l (lo + 2 ^ n) then logSearch l n (lo + 2 ^ n) else logSearch l n lo

/-- A fraction in 2^-24, ties up. -/
def y24 (num den : Nat) : Nat := (2 * num * 2 ^ 24 + den) / (2 * den)

/-- A table curve. -/
def tableCurve (tab : List Nat) (l : Nat) : Nat :=
  let k := min (l / 256) 255
  let x0 := 256 * k
  let x1 := if k = 255 then 65535 else x0 + 256
  let v0 := tab.getD k 0
  let v1 := tab.getD (k + 1) 0
  y24 (v0 * (x1 - l) + v1 * (l - x0)) ((x1 - x0) * 65535)

/-- The curve of an index; none beyond the section's tables. -/
def LampCfg.curveOk (c : LampCfg) (i : Nat) : Bool := decide (i < 4) || decide (i - 4 < c.curves.length)

/-- Output y in 2^-24 of a level. -/
def LampCfg.curve (c : LampCfg) (i l : Nat) : Nat :=
  if i = 1 then y24 (l * l) (65535 * 65535)
  else if i = 2 then y24 (l * l * l) (65535 * 65535 * 65535)
  else if i = 3 then (if l = 0 then 0 else if l = 65535 then 2 ^ 24 else logSearch l 24 0)
  else if 4 ≤ i && i - 4 < c.curves.length then tableCurve (c.curves.getD (i - 4) []) l
  else y24 l 65535

/-! ### Drives (R236 to R238) -/

/-- The relative flux φ of a bin code over 32,768, and its CCT. -/
def LampCfg.bin (c : LampCfg) (code : Nat) : Nat × Nat := c.bins.getD code (32768, 0)

/-- The share of a tunable channel in the mix at a colour temperature in mired: warm 1 − a, cool a. -/
def LampCfg.mix (c : LampCfg) (r : LumRec) (ch : Nat) (m : Rat) : Rat :=
  let mw := mired (c.cctRange r).1
  let mc := mired (c.cctRange r).2
  let m := if m < mc then mc else if mw < m then mw else m
  let a := (mw - m) / (mw - mc)
  if ch = 0 then 1 - a else a

/-- The lumen maintenance factor at a run time in s (R237). -/
def LumRec.maint (r : LumRec) (run : Nat) : Rat :=
  if r.maintSlope = 0 then 1 else ratMax ((r.maintMin : Rat) / 65535) (1 - (r.maintSlope : Rat) / 1000000000 * run / 3600)

/-- The derating factor at a temperature in 0.1 °C (R238). -/
def LumRec.derating (r : LumRec) (t : Int) : Rat :=
  let low : Rat := (r.derateMin : Rat) / 65535
  if t ≤ r.tKnee then 1 else if r.tMax ≤ t then low else 1 - (1 - low) * ((t - r.tKnee : Int) : Rat) / ((r.tMax - r.tKnee : Int) : Rat)

/-! ### Words (R239, R240) -/

/-- The word and the residue (R240), in 1/256: ideal word, residue, periods n, probe equivalent, largest word. Without dither every word is rounded to nearest, a
probe's too, and no residue is kept. -/
def lampWord (ideal : Nat) (res : Int) (n probeEq wmax limit : Nat) (probe dither : Bool) : Nat × Int :=
  let v : Int := if dither then ideal + res else ideal
  let r : Nat × Int :=
    if probe then
      let owed := n * v - probeEq
      let rest := if n ≤ 1 then Config.probeRest owed else owed.tdiv (n - 1 : Nat)
      let w := if rest < 0 then 0 else (if dither then rest.toNat else rest.toNat + 128) / 256
      let left := owed - ((n - 1) * w * 256 : Nat)
      (w, if !dither then 0 else if n = 0 then Config.probeRest left else left.tdiv n)
    else if dither && ideal < limit * 256 then
      let w := if v < 0 then 0 else v.toNat / 256
      (w, v - (w * 256 : Nat))
    else ((ideal + 128) / 256, 0)
  if wmax < r.1 then (wmax, 0) else r

/-- t_meas in 1/256 of a word, rounded to nearest (R240). -/
def probeEq (x : CznNode) (wmax : Nat) : Nat := if x.pwm = 0 then 0 else (2 * x.tMeas * wmax * 256 + x.pwm) / (2 * x.pwm)

/-! ### Status (R246, R247) -/

/-- Probing is enabled for the channels of a luminaire (R247, R293). -/
def State.probing (s : State) (n : Nat) (r : LumRec) : Bool :=
  s.flag Reg.LMP_CTL F.LMP_CTL_PROBE_EN && (s.lampNode n).probe != 0 && !r.noProbe && (s.cznNode n).version != 2

/-- What a node's result says (R298): OK, OPEN, SHORT, OVERTEMP, not measured. -/
def resultStatus (r : Nat) : Nat := if r = 0 then 0 else if r = 1 then 7 else if r = 2 then 6 else if r = 3 then 5 else 2

/-- The status of a fitted channel with its quality. Where no result of the kind R247 asks for has come yet, the other kind's stands (DESIGN CHOICE, log 56). -/
def State.chanStatus (s : State) (l : Nat) (r : LumRec) (x : Chan) : Nat × Nat :=
  let n := l / 16
  let nd := s.cznNode n
  let wmax := 2 ^ s.wordWidth n - 1
  let code :=
    if nd.state = 4 || nd.state = 5 then 4
    else if x.word = 0 then 1
    else match x.resultAt with
      | none => 2
      | some t =>
        let said (a b : Option Nat) : Nat := match a, b with | some v, _ => resultStatus v | none, some v => resultStatus v | none, none => 2
        if nd.tMeas * wmax ≤ x.word * nd.pwm then said x.result x.probed
        else if !s.probing n r || t + 2 * secs (s.lampNode n).probe ≤ s.now then 2
        else said x.probed x.result
  let q := if code = 4 then (if nd.state = 4 then Q.stale else Q.absent) else if code = 1 || code = 2 then Q.unverified else Q.good
  (code, q)

/-- Take a channel's status anew: the point written, the ring 6 entry posted (R247); NOT_FITTED for a channel that is not fitted (R232). `meas` is the stamp of a
measurement that has come: the entry then holds its current and the word that the node drives; otherwise it holds no current. A standby takes what the active wrote. -/
def State.refreshChan (s : State) (meas : Option Nat) (l c : Nat) (r : LumRec) : State × List PtOp :=
  let x := s.chan l c
  if !s.leads then
    let p := s.pt (chanAddr l c 5)
    (s.setChan l c { x with status := p.value.toNat, statusQ := p.quality }, [])
  else
    let n := if bitOf r.fitted c then s.chanStatus l r x else (3, Q.good)
    if n = (x.status, x.statusQ) then (s, [])
    else
      let t := s.setChan l c { x with status := n.1, statusQ := n.2 }
      let t := if n.1 = x.status then t else match meas with
        | some st => t.post6 1 l c n.1 x.status x.current (t.pt (chanAddr l c 4)).value.toNat st 0
        | none => t.post6 1 l c n.1 x.status 0 x.word t.stamp 0
      (t, [lampWrite (chanAddr l c 5) n.1 n.2 t.stamp])

/-- LUM_STATUS: the highest code of the fitted channels, with its quality (R230). -/
def State.lumTop (s : State) (l : Nat) (r : LumRec) : Nat × Nat :=
  if r.channels.isEmpty then (3, Q.good)
  else r.channels.foldl (fun (m : Nat × Nat) c =>
    let x := s.chan l c
    if m.1 ≤ x.status then (x.status, x.statusQ) else m) (0, 0)

/-- Take the status of a luminaire's channels anew, with LUM_STATUS (R230). -/
def State.refreshLum (s : State) (meas : Option Nat) (l : Nat) (r : LumRec) : State × List PtOp :=
  let t := (List.range 4).foldl (fun (p : State × List PtOp) c =>
    let q := p.1.refreshChan meas l c r
    (q.1, p.2 ++ q.2)) (s, [])
  let top := t.1.lumTop l r
  let x := t.1.lumSt l
  let u := t.1.setLum l { x with status := top }
  if top = x.status || !s.leads then (u, t.2) else (u, t.2 ++ [lampWrite (lumAddr l 7) top.1 top.2 u.stamp])

/-! ### PENDING (R161, R242) -/

/-- The lamp target points of a luminaire (R142, R230). -/
def lampTargets (l : Nat) (r : LumRec) : List Nat :=
  [0, 1, 2, 3, 5, 6].map (lumAddr l ·) ++ (List.range 4).flatMap fun c => [chanAddr l c 0, chanAddr l c 1, chanAddr l c 2]

/-- Set or clear PENDING where it is not so yet. -/
def State.pendingOps (s : State) (p : Bool) (as_ : List Nat) : List PtOp := (as_.filter fun a => (s.pt a).pending != p).map fun a => .pending a p

/-! ### The latch and the evaluation (R227, R232, R242, R248 to R250) -/

/-- A point's value as a number. -/
def State.valN (s : State) (a : Nat) : Nat := (s.view a).value.toNat

/-- What a channel takes at the latch (R232, R250), and whether a zone or a curve is missing. In emergency mode a flagged luminaire ignores its lamp targets, the curve
among them: it takes its record's curve (DESIGN CHOICE, log 55). -/
def State.latch (s : State) (l c : Nat) (r : LumRec) (leaving : Bool) (x : Chan) : Latched × Nat :=
  let tun := r.mode == 1 && decide (c < 2)
  let zoned := s.valN (lumAddr l 5) == 1
  let zone := s.valN (lumAddr l 4)
  let noZone := zoned && !s.cfg.lamp.zoneOk zone
  let own := if tun then s.valN (lumAddr l 6) else s.valN (chanAddr l c 2)
  let dark := s.lamp.emerg && r.emerg
  let curve := if dark then r.curve else own
  let noCurve := !s.cfg.lamp.curveOk curve
  let em := s.rdN Reg.LMP_EMFADE
  let i : Latched :=
    let own : Nat × Option Nat × Nat :=
      if noZone then (x.target, x.cctRaw, x.dur)
      else if zoned then (s.valN (zoneAddr zone 0), if tun then some (s.valN (zoneAddr zone 1)) else none, s.valN (zoneAddr zone 2))
      else if tun then (s.valN (lumAddr l 0), some (s.valN (lumAddr l 1)), s.valN (lumAddr l 2))
      else (s.valN (chanAddr l c 0), none, s.valN (chanAddr l c 1))
    if dark then
      { level := r.emergLevel, cct := own.2.1, mired := s.cfg.lamp.cctMired r (own.2.1.getD 0), fade := em, curve := curve, anew := false, freeze := true }
    else
      { level := own.1, cct := own.2.1, mired := s.cfg.lamp.cctMired r (own.2.1.getD 0), fade := if leaving && r.emerg then em else own.2.2, curve := curve, anew := leaving && r.emerg, freeze := false }
  (i, bit (noZone && !dark) + bit noCurve)

/-- The steady on-time of an ideal word lies above 0 and below t_meas (R248). -/
def lowDuty (nd : CznNode) (ideal wmax : Nat) : Bool := decide (0 < ideal) && decide (ideal * nd.pwm < nd.tMeas * wmax * 256)

/-- Probe scheduling of a channel for the segment that starts at `p` (R248): the channel, and whether a probe is made. -/
def Chan.probeDue (x : Chan) (low enabled : Bool) (l c p tick interval : Nat) : Chan × Bool :=
  if !low then ({ x with below := none, probeNow := false }, false)
  else
    let k := max 1 (interval * 1000 / tick)
    let x := match x.below with
      | some _ => x
      | none => { x with below := some p, probeAt := (p + (4 * l + c) % k * ms tick : Nat) }
    let due := enabled && !x.fading && (x.probeNow || decide (x.probeAt ≤ (p : Int)))
    if due then
      ({ x with probeNow := false, probeAt := if x.probeAt ≤ (p : Int) then x.probeAt + (((p : Int) - x.probeAt) / (k * ms tick : Nat) + 1) * (k * ms tick : Nat) else x.probeAt }, true)
    else (x, false)

/-- Evaluate one channel for the pour at `p` (R227): `maint` and `derate` are M and D. -/
def State.evalChan (s : State) (l c p tick : Nat) (r : LumRec) (leaving : Bool) (maint derate : Rat) : State × Option Nat :=
  let n := l / 16
  let nd := s.cznNode n
  let rec_ := s.lampNode n
  let x := s.chan l c
  let li := s.latch l c r leaving x
  let sg := (x.startFade p li.1).segment p tick
  let x := sg.1
  let y : Rat := (s.cfg.lamp.curve li.1.curve x.endLevel : Rat) / (2 ^ 24 : Nat)
  let share : Rat := if r.mode == 1 && decide (c < 2) then s.cfg.lamp.mix r c x.endCct else 1
  let dm := y * share * r.fluxRef / (s.cfg.lamp.bin (r.bins.getD c 0)).1 / maint
  let sat := decide (1 < dm)
  let d := (if sat then 1 else dm) * derate
  let wmax : Nat := 2 ^ s.wordWidth n - 1
  let ideal := quantN (d * (wmax : Rat) * 256)
  let pd := x.probeDue (lowDuty nd ideal wmax) (s.probing n r) l c p tick rec_.probe
  let periods := if nd.pwm = 0 then 0 else tick * 1000 / nd.pwm
  let w := lampWord ideal x.res periods (probeEq nd wmax) wmax rec_.dither pd.2 (s.flag Reg.LMP_CTL F.LMP_CTL_DITHER_EN)
  let x := { pd.1 with word := w.1, res := w.2, ideal := ideal, drive := quantN (d * 65535) }
  let queued := pd.2 || x.last ≠ some w.1
  let x := if queued then
      { x with last := some w.1, poured := none
               pend := if s.leads then some { probe := pd.2, ramp := if pd.2 then 0 else sg.2, word := w.1, level := x.endLevel, pour := p } else none }
    else if s.leads then x else { x with pend := none }
  let t := s.setChan l c x
  let t := t.bump Reg.LMP_CNT_NOZONE li.2
  let t := t.bump Reg.LMP_CNT_SAT (bit sat)
  let t := t.bump Reg.LMP_CNT_PROBE (bit pd.2)
  (t.bump Reg.LMP_CNT_MOVING (bit queued), if sat then some (quantN (dm * 65535)) else none)

/-- Run time of a luminaire: seconds during which a channel has a word above 0 (R237). -/
def Lum.ran (x : Lum) (on : Bool) (tick : Nat) : Lum :=
  if on then { x with run := x.run + (x.runMs + tick) / 1000, runMs := (x.runMs + tick) % 1000 } else x

/-- LUM_RUN as written last. -/
def State.lumRun (s : State) (l : Nat) : Nat := s.valN (lumAddr l 0x147) + s.valN (lumAddr l 0x148) * 2 ^ 32

/-- M as in force: that of the last write of LUM_RUN, whatever has become of the record since (R237). -/
def State.lumMaint (s : State) (l : Nat) (r : LumRec) : Rat :=
  match (s.lumSt l).maint with
  | some m => if m.1 = s.lumRun l then m.2 else r.maint (s.lumRun l)
  | none => r.maint (s.lumRun l)

/-- Evaluate one luminaire: temperature, channels, flags (R230, R232 to R240). -/
def State.evalLum (s : State) (p tick : Nat) (leaving : Bool) (l : Nat) (r : LumRec) : State × List PtOp :=
  let n := l / 16
  let old := s.lumSt l
  let temp := s.view (lumAddr l 0x144)
  let dr := if temp.quality = Q.good then r.derating (sext 16 temp.value.toNat) else old.derate
  let on := r.channels.any fun c => 0 < (s.chan l c).word
  let mt := s.lumMaint l r
  let x := { old with derate := dr, run := max old.run (s.lumRun l), maint := some (s.lumRun l, mt) }.ran on tick
  let e := r.channels.foldl (fun (q : State × Option (Nat × Nat)) c =>
    let z := q.1.evalChan l c p tick r leaving mt dr
    (z.1, match q.2, z.2 with | none, some d => some (c, d) | o, _ => o)) (s, none)
  let fl := bit e.2.isSome + 2 * bit (decide (dr < 1)) + 4 * bit (s.lamp.emerg && r.emerg)
    + 8 * bit (decide (s.wordWidth n < (s.lampNode n).width))
  let t := e.1
  if !t.leads then
    ((t.setLum l { x with flags := s.valN (lumAddr l 0x149), wroteD := dr, status := ((s.pt (lumAddr l 7)).value.toNat, (s.pt (lumAddr l 7)).quality) }), [])
  else
    let t := match e.2 with
      | some (c, d) => if bitOf old.flags 0 then t else t.post6 4 l c 0 0 0 0 t.stamp d
      | none => t
    let t := if bitOf fl 1 && !bitOf old.flags 1 then t.post6 5 l 0xFF 0 0 0 0 t.stamp (quantN (dr * 65535)) else t
    let wd := decide ((1 : Rat) / 256 < ratAbs (dr - x.wroteD))
    let ops := (if fl = old.flags then [] else [lampWrite (lumAddr l 0x149) fl Q.good t.stamp])
      ++ (if wd then [lampWrite (lumAddr l 0x145) (quantN (dr * 65535)) Q.good t.stamp] else [])
    let u := (t.setLum l { x with flags := fl, wroteD := if wd then dr else x.wroteD }).refreshLum none l r
    let late := if (s.cznNode n).state = 4 || (s.cznNode n).state = 5 then
        (if r.channels.any fun c => (u.1.chan l c).pend.isSome then u.1.pendingOps true (lampTargets l r) else []) else []
    (u.1, ops ++ u.2 ++ late)

/-- Luminaire records take effect (R255): their points of bins and zone take the record's values, their other points stay. -/
def State.takeRecords (s : State) : State :=
  if s.lamp.records.isEmpty then s
  else
    let c := { s.cfg with lamp := { s.cfg.lamp with lums := s.lamp.records.foldl (fun m e => mapPut m e.1 e.2) s.cfg.lamp.lums } }
    let addrs := s.lamp.records.flatMap fun e => (List.range 8).map (lumAddr e.1 ·) ++ [0x140, 0x141, 0x142, 0x143].map (lumAddr e.1 ·)
    let t := (({ s with lamp := { s.lamp with records := [] } } : State).recfg c addrs).wakeLamp
    let ops := s.lamp.records.flatMap fun e =>
      lampWrite (lumAddr e.1 4) e.2.zone Q.good t.stamp :: (List.range 4).map fun i => lampWrite (lumAddr e.1 (0x140 + i)) (e.2.bins.getD i 0) Q.good t.stamp
    if t.leads then t.applyM ops else t

/-- A new tick takes effect: boundaries and cycles are aligned afresh (R229). -/
def State.takeTick (s : State) (t0 : Nat) : State :=
  match s.lamp.newTick with
  | none => s
  | some k =>
    let old := s.lamp.tick
    let t : State := { s with lamp := { s.lamp with newTick := none } }
    if k = old then t
    else
      let u : State := { t with lamp := { t.lamp with tick := k, next := some (t.alignTick k (t0 + 1)) } }
      (u.event 0x0C04 0 noInst (le 1 old ++ le 1 k)).cycAlign

/-- Emergency mode at the latch (R249). -/
def State.latchEmerg (s : State) (t0 p : Nat) : State :=
  let want := s.emergSrc != 0
  if want && !s.lamp.emerg then
    ({ s with lamp := { s.lamp with emerg := true, emergAt := t0 } } : State).event 0x0C01 1 noInst (le 1 s.emergSrc ++ le 8 (s.stampAt p))
  else if !want && s.lamp.emerg then
    ({ s with lamp := { s.lamp with emerg := false } } : State).event 0x0C02 0 noInst (le 8 (s.stampAt p) ++ le 4 ((t0 - s.lamp.emergAt) / 1000000))
  else s

/-! ### The pour (R231, R242) -/

/-- Figures of a zone: members, faults, unverified, drive (R231). -/
def State.zoneFigures (s : State) (z : Nat) : List Nat :=
  let ls := s.cfg.lamp.lums.filter fun e => e.2.zone == z
  let xs := ls.flatMap fun e => e.2.channels.map fun c => s.chan e.1 c
  [ls.length, (xs.filter fun x => decide (5 ≤ x.status)).length, (xs.filter fun x => x.status == 2).length, (xs.map (·.drive)).sum]

/-- Zones that the configuration names. -/
def State.zoneList (s : State) : List Nat := (s.cfg.lamp.lums.filter fun e => decide (e.2.zone ≤ 4095)).foldl (fun l e => insertNat e.2.zone l) []

/-- Zone state points whose figures changed, as one application (R231), those of a zone that has lost its last member too. -/
def State.writeZones (s : State) : State :=
  let figs := ((s.lamp.zones.map (·.1)).foldl (fun l z => insertNat z l) s.zoneList).map fun z => (z, s.zoneFigures z)
  let ops := figs.flatMap fun e =>
    let old := mapGet (fun _ => [0, 0, 0, 0]) s.lamp.zones e.1
    (List.range 4).filterMap fun i => if old.getD i 0 = e.2.getD i 0 then none else some (lampWrite (zoneAddr e.1 (0x40 + i)) (e.2.getD i 0) Q.good s.stamp)
  ({ s with lamp := { s.lamp with zones := figs.foldl (fun m e => mapSet (fun _ => [0, 0, 0, 0]) m e.1 e.2) s.lamp.zones } } : State).applyM ops

/-- What the nodes applied at the pours up to an instant is written: CH_LEVEL and CH_WORD of every channel whose entry was poured, PENDING cleared where a
luminaire has no entry left (R242, R299). -/
def State.pourWrites (s : State) (p : Nat) : State :=
  let hit := s.cfg.lamp.lums.filter fun e => e.2.channels.any fun c => match (s.chan e.1 c).poured with | some y => y.pour ≤ p | none => false
  let ops := hit.flatMap fun e => e.2.channels.flatMap fun c =>
    match (s.chan e.1 c).poured with
    | some y => if y.pour ≤ p then
        [lampWrite (chanAddr e.1 c 3) y.level Q.good (s.stampAt y.pour), lampWrite (chanAddr e.1 c 4) y.word Q.good (s.stampAt y.pour)] else []
    | none => []
  let clear := hit.flatMap fun e => if e.2.channels.any fun c => (s.chan e.1 c).pend.isSome then [] else s.pendingOps false (lampTargets e.1 e.2)
  let t := hit.foldl (fun (t : State) e => e.2.channels.foldl (fun t c => t.setChan e.1 c { t.chan e.1 c with poured := none }) t) s
  t.applyM (ops ++ clear)

/-- The pour of a sequence at an instant, with the zone figures (R231, R242). -/
def State.makePour (s : State) (p : Nat) : State := (s.pourWrites p).writeZones.mtrPour

/-- Make the pours that are due. -/
def State.duePours (s : State) : State :=
  match s.lamp.pours with
  | [] => s
  | (p, _) :: rest =>
    if p ≤ s.now then
      let t := s.makePour p
      { t with lamp := { t.lamp with pours := rest.filter fun e => decide (s.now < e.1) } }
    else s

/-- POUR (R242). -/
def execPour (s : State) : Answer := .next (if s.leads && s.lampRuns then s.duePours else s)

/-- The latch and the evaluation of every configured channel into the moulds, at the tick boundary `t0` (R227). On a standby, which sends no POUR frame, LMP_POURSEQ
follows the pour that falls at the boundary. -/
def State.lampTick (s : State) (t0 : Nat) : State :=
  let s := if s.leads then s.duePours else s.wrN Reg.LMP_POURSEQ s.lamp.seq
  let was := s.lamp.emerg
  let s : State := s.takeRecords
  let s : State := { s with lamp := { s.lamp with next := some (t0 + ms s.lamp.tick) } }
  let s := s.takeTick t0
  let p := t0 + ms s.lamp.tick
  let s := s.latchEmerg t0 p
  let s := s.wrN Reg.LMP_CNT_MOVING 0
  let leaving := was && !s.lamp.emerg
  let tk := s.lamp.tick
  let r := s.cfg.lamp.lums.foldl (fun (q : State × List PtOp) e =>
    let z := q.1.evalLum p tk leaving e.1 e.2
    (z.1, q.2 ++ z.2)) (s, [])
  let t := r.1
  let seq := addMod32 t.lamp.seq 1
  let t : State := { t.nextFree with lamp := { t.lamp with boundary := t0, evaluating := true, order := t.free, seq := seq, pours := if t.leads then t.lamp.pours ++ [(p, seq)] else [] } }
  if t.leads then t.applyM r.2 else t

/-- The evaluation has ended: LMP_EVAL takes the time in µs (R243). -/
def State.evalEnd (s : State) (us : Nat) : State :=
  let t : State := { s with lamp := { s.lamp with evaluating := false } }
  let u := min us 65535
  (t.setF Reg.LMP_EVAL F.LMP_EVAL_LAST_US u).setF Reg.LMP_EVAL F.LMP_EVAL_MAX_US (max u (t.fld Reg.LMP_EVAL F.LMP_EVAL_MAX_US))

/-- The channels of a luminaire have been evaluated (R243). -/
def State.evaluated (s : State) (l : Nat) : Bool := !s.lamp.evaluating || decide (s.lamp.boundary + Config.evalPos s.lamp.order l ≤ s.now)

/-- Channels that wait for their evaluation. -/
def State.notEvaluated (s : State) : Nat := ((s.cfg.lamp.lums.filter fun e => !s.evaluated e.1).map fun e => e.2.channels.length).sum

/-- The first mould window of the tick opens before the evaluation has ended (R243). -/
def State.evalLate (s : State) : State :=
  if s.lamp.evaluating && s.lampRuns && s.lamp.lateAt ≠ some s.lamp.boundary then
    (({ s with lamp := { s.lamp with lateAt := some s.lamp.boundary } } : State).setF Reg.LMP_STATUS F.LMP_STATUS_EVAL_LATE 1).event 0x0C03 1 noInst
      (le 8 (s.stampAt s.lamp.boundary) ++ le 4 s.notEvaluated ++ le 2 (s.fld Reg.GLB_PACE F.GLB_PACE_PACE))
  else s

/-- An entry waits that no frame has carried for a pour sequence. -/
def Chan.unsent (x : Chan) (seq : Nat) : Bool := match x.pend with | some y => y.sent ≠ some seq | none => false

/-- Entries of some nodes that have not been delivered by the start of the pour window stay pending, counted (R161, R242, R243). -/
def State.lateEntries (s : State) (seq : Nat) (on : Nat → Bool) : State :=
  let ls := s.cfg.lamp.lums.filter fun e => on (e.1 / 16) && e.2.channels.any fun c => (s.chan e.1 c).unsent seq
  let n := (ls.map fun e => (e.2.channels.filter fun c => (s.chan e.1 c).unsent seq).length).sum
  (s.bump Reg.LMP_CNT_LATE n).applyM (s.pendingOps true (ls.flatMap fun e => lampTargets e.1 e.2))

/-- The luminaires whose LUM_RUN is due: those that have run 3,600 s since it was written; all of them at a power-fail flush (R237). -/
def State.lumsDue (s : State) (all : Bool) : List (Nat × LumRec) :=
  s.cfg.lamp.lums.filter fun e => all || decide (s.lumRun e.1 + 3600 ≤ (s.lumSt e.1).run)

/-- The run time of a luminaire: it never falls below what LUM_RUN holds, which a restore brings back (R237). -/
def State.ranFor (s : State) (l : Nat) : Nat := max (s.lumSt l).run (s.lumRun l)

/-- LUM_RUN and LUM_MAINT of the luminaires that are due (R237). -/
def State.lumRunOps (s : State) (all : Bool) : List PtOp :=
  (s.lumsDue all).flatMap fun e =>
    let run := s.ranFor e.1
    [lampWrite (lumAddr e.1 0x147) (run % 2 ^ 32) Q.good s.stamp, lampWrite (lumAddr e.1 0x148) (run / 2 ^ 32) Q.good s.stamp,
      lampWrite (lumAddr e.1 0x146) (quantN (e.2.maint run * 65535)) Q.good s.stamp]

/-- LUM_RUN is written, and M computed anew with it (R237). -/
def State.writeLumRuns (s : State) (all : Bool) : State :=
  let t := (s.lumsDue all).foldl (fun (t : State) e => t.setLum e.1 { t.lumSt e.1 with maint := some (s.ranFor e.1, e.2.maint (s.ranFor e.1)) }) s
  t.applyM (s.lumRunOps all)

/-- LUM_RUN_WRITE (R237). -/
def execLumRunWrite (s : State) : Answer := .next (if s.leads && s.lampRuns then s.writeLumRuns false else s)

/-! ### The tick and the engine's start (R228, R229, R245) -/

/-- The engine begins: the first boundary is aligned; a stopped engine that resumes keeps its grid (R73, R228). -/
def State.lampStart (s : State) : State :=
  let tick := clampNat 10 200 (s.fld Reg.LMP_TICK F.LMP_TICK_MS)
  match s.lamp.next with
  | none => { s with lamp := { s.lamp with tick := tick, next := some (s.alignTick tick s.now) } }
  | some b => { s with lamp := { s.lamp with next := some (if b < s.now then gridFrom b (ms s.lamp.tick) s.now else b), pours := [] } }

/-- A write of LMP_TICK: clamped, effective at the next boundary (R228, R229). -/
def State.writeTick (s : State) (v : Nat) : State :=
  let k := clampNat 10 200 v
  let t := s.setF Reg.LMP_TICK F.LMP_TICK_MS k
  { t with lamp := { t.lamp with newTick := if t.lamp.next.isSome then some k else none } }

/-- LMP_EVAL_READ: the register is read, MAX_US falls to 0 (R479). -/
def execLmpEvalRead (s : State) : Answer :=
  .next (if s.answers Reg.LMP_EVAL then
    ({ s with rdData := [s.rd Reg.LMP_EVAL] } : State).setF Reg.LMP_EVAL F.LMP_EVAL_MAX_US 0 else { s with rdData := [0] })

/-! ### Commands (R255) -/

/-- LMP_EMERG (R249, R255). -/
def execLmpEmerg (e : CmdEntry) (s : State) : Answer :=
  runCmd Op.lmpEmerg (.lmpEmerg e) e (fun _ s =>
    if s.defaulted then .stat St.defaulted s
    else
      let t : State := { s with lamp := { s.lamp with asked := e.param 0 1 == 1 } }
      .okWith (bit (t.emergSrc != 0) + 2 * t.emergSrc) 0 t) s

/-- Probes asked for reach the standby, so that its residues stay those of the active (R245; DESIGN CHOICE, log 54: the rules give no record for them). -/
def State.mirrorProbes (s : State) (ks : List Nat) : State := if ks.isEmpty then s else s.sendDelta [peerRecord 8 (ks.flatMap (be 4 ·))]

/-- LMP_PROBE (R248, R255). -/
def execLmpProbe (e : CmdEntry) (s : State) : Answer :=
  runCmd Op.lmpProbe (.lmpProbe e) e (fun _ s =>
    let l := e.param 0 2
    if s.defaulted then .stat St.defaulted s
    else match s.cfg.lum l with
      | none => .stat St.noLuminaire s
      | some r =>
        let cs := r.channels.filter (bitOf (e.param 2 1) ·)
        .stat St.ok ((cs.foldl (fun (t : State) c => t.setChan l c { t.chan l c with probeNow := true }) s).mirrorProbes (cs.map (chanKey l ·)))) s

/-- The records of a LMP_RECORD buffer, or of a staged one, checked (R253, R255). -/
def State.lampRecords (s : State) (b : List Byte) : Except Nat (List (Nat × LumRec)) :=
  match (do
    let rs ← (recordsOf 32 (b.length / 32) b).mapM parseLum
    must (risingBy (·.1) rs)
    demand (rs.all fun x => (s.cfg.lum x.1).isSome) St.noLuminaire
    let _ ← rs.mapM fun x => checkTunable s.cfg.lamp.bins x.2
    pure rs : Chk (List (Nat × LumRec))) with
  | .ok rs => .ok rs
  | .error x => .error x.status

/-- Records wait for the next latch. -/
def State.queueRecords (s : State) (rs : List (Nat × LumRec)) : State :=
  { s with lamp := { s.lamp with records := rs.foldl (fun m e => mapPut m e.1 e.2) s.lamp.records } }

/-- LMP_RECORD (R255). -/
def execLmpRecord (e : CmdEntry) (s : State) : Answer :=
  runCmd Op.lmpRecord (.lmpRecord e) e (fun _ s =>
    if e.txn = 0 && s.defaulted then .stat St.defaulted s
    else if e.bufOut || e.bufLen.toNat % 32 ≠ 0 || 65536 < e.bufLen.toNat then .stat St.badFormat s
    else match s.lampRecords e.buf with
      | .error st => .stat st s
      | .ok rs => s.stageTable e ((recordsOf 32 rs.length e.buf).map fun b => .table .lampRecord (32 * fieldLe b 0 2) b) rs.length (·.queueRecords rs)) s

/-- The fade time remaining at the end of the last segment, in ms. -/
def State.fadeLeft (s : State) (x : Chan) : Nat :=
  let end_ := s.lamp.boundary + 2 * ms s.lamp.tick
  if x.dur = 0 then 0 else quantN (((x.tBeg + ms x.dur - end_).toNat : Rat) / 1000000)

/-- A channel entry of LMP_CHSTATE (R255). -/
def State.chEntry (s : State) (l c : Nat) : List Byte :=
  let x := s.chan l c
  let due := x.probeNow || (x.below.isSome && decide (x.probeAt ≤ (s.now : Int)))
  le 2 x.endLevel ++ le 2 x.word ++ le 2 x.target ++ le 2 (ofInt 16 x.res) ++ le 4 (s.fadeLeft x) ++ le 1 x.status ++ le 1 (bit due + 2 * bit x.pend.isSome)
    ++ [0, 0]

/-- LMP_CHSTATE (R255). -/
def execLmpChstate (e : CmdEntry) (s : State) : Answer :=
  runCmd Op.lmpChstate (.lmpChstate e) e (fun _ s =>
    let first := e.param 0 2
    let count := e.param 2 2
    if s.defaulted then .stat St.defaulted s
    else if count < 1 || 1024 < count || 32768 < first + count || !e.bufOut || e.bufLen.toNat ≠ 64 * count then .stat St.badFormat s
    else .done St.ok count 0 0 [(e.bufAddr.toNat, (List.range count).flatMap fun i => (List.range 4).flatMap fun c => s.chEntry (first + i) c)] s) s

end Sys2Proof.Machine
end

