-- ==== Sys2Proof/Machine/TrunkBase.lean ====
section
/-!
DEFINITION. Trunk ports and Carzon frames as the commands of both chapters use them: roles of a port (R259), keys and frames (R278 to R284), the transmit
queue under the gate list (R267 to R271), node states and their status points (R307, R308).
-/
set_option linter.unusedVariables false
namespace Sys2Proof.Machine

/-! ### Ports and their roles (R259, R262) -/

def State.port (s : State) (p : Nat) : TrunkPort := mapGet (fun _ => {}) s.czn.ports p
def State.setPort (s : State) (p : Nat) (x : TrunkPort) : State := { s with czn := { s.czn with ports := mapSet (fun _ => {}) s.czn.ports p x } }

/-- The port is enabled. -/
def State.trkOn (s : State) (p : Nat) : Bool := s.flag (Reg.TRK_CTL p) F.TRK_CTL_ENABLE

/-- PLCA is on. -/
def State.plcaOn (s : State) (p : Nat) : Bool := s.flag (Reg.TRK_CTL p) F.TRK_CTL_PLCA_EN

/-- The drivers of every trunk are off: no role yet, the WITNESS role, or a power-fail flush from t0 + 1 ms (R69, R259). -/
def State.trunksDown (s : State) : Bool :=
  s.sup.inReset || decide (s.stage < 6) || s.stage == 0xF || (s.role == .witness && !s.defaulted) || s.dark

/-- TRK[p]_STATUS.ROLE: 0 none, 1 coordinator, 2 follower, 3 CSMA/CD. -/
def State.portRole (s : State) (p : Nat) : Nat :=
  if s.trunksDown || !s.trkOn p then 0 else if !s.plcaOn p then 3 else if (s.port p).beacons then 1 else 2

/-- TRK[p]_PLCA.LOCAL_ID. -/
def State.plcaId (s : State) (p : Nat) : Nat := if s.portRole p = 1 then 0 else if s.portRole p = 2 then 1 else 0xFF

/-- The module's role sends Carzon frames (R259). -/
def State.sendsCarzon (s : State) : Bool := s.leads && !s.defaulted && s.sup.roleSettled && !s.pausing

/-- The port sends Carzon frames now. -/
def State.canSend (s : State) (p : Nat) : Bool := s.sendsCarzon && (s.portRole p == 1 || s.portRole p == 3)

/-- The port's own address (R265). -/
def State.trkMac (s : State) (p : Nat) : List Byte := [2] ++ be 3 s.uid ++ [0] ++ be 1 p

/-- The Carzon group address (R265). -/
def cznGroup : List Byte := [0x03, 0x4E, 0x59, 0x43, 0x5A, 0x00]

/-- The EtherType of Carzon frames. -/
def State.trkEtype (s : State) : Nat := s.fld Reg.TRK_ETYPE F.TRK_ETYPE_ETYPE

/-- Corrected stamps in ns of the monotonic base (R271): transmit and receive on a trunk. -/
def State.txAt (s : State) (p raw : Nat) : Nat := ((raw : Int) + 1520 + sext 16 (s.fld (Reg.TRK_TSADJ p) F.TRK_TSADJ_TX)).toNat
def State.rxAt (s : State) (p : Nat) : Nat := ((s.now : Int) - 1880 + sext 16 (s.fld (Reg.TRK_TSADJ p) F.TRK_TSADJ_RX)).toNat

/-- The wall time, or the monotonic time with heat 0, of a monotonic instant in units of 2^-32 ns (R346, R347). -/
def State.unitsAt (s : State) (ns : Nat) : Nat := if s.heat = 0 then ns * 2 ^ 32 else (((ns * 2 ^ 32 : Nat) : Int) + s.clock.wallOff).toNat

/-- The extension of the stamp of a monotonic instant (R296). -/
def State.extAt (s : State) (ns : Nat) : Nat := fineOf (s.unitsAt ns)

/-! ### Nodes -/

/-- Trunk of a row node and its PLCA node ID (R141). -/
def nodePort (n : Nat) : Nat := n / 32
def nodePlca (n : Nat) : Nat := n % 32 + 2

/-- The node has been admitted and not lost its admission (R291, R307). -/
def CznNode.admitted (x : CznNode) : Bool := decide (1 ≤ x.state ∧ x.state ≤ 5)

/-- K_nr of a row node: kept from its admission, derived from its UID by a module that has not admitted it (R282, R451). -/
def State.cznKey (s : State) (n : Nat) : Option (List Byte) :=
  let x := s.cznNode n
  if !x.key.isEmpty then some x.key
  else match s.cfg.cznEntry n, s.czMaster with
    | some e, some m => some (nodeRootKey m e.uid)
    | _, _ => none

/-- K_d, and K_u of a generation (R282). -/
def derived (knr : List Byte) (label : String) (ctx : Nat) : List Byte :=
  (hmac knr (be 4 1 ++ ascii label ++ [0] ++ be 1 ctx ++ be 4 0x80)).take 16
def keyD (knr : List Byte) : List Byte := derived knr "CZN-D" 0
def keyU (knr : List Byte) (g : Nat) : List Byte := derived knr "CZN-U" g

/-- Key generation, the one being introduced, the phase of the change: 0 STEADY, 1 DISTRIBUTING, 2 ANNOUNCED, 3 GRACE (R285). -/
def State.keyGen (s : State) : Nat := s.fld Reg.TRK_CZNKEY F.TRK_CZNKEY_GEN
def State.keyNext (s : State) : Nat := s.fld Reg.TRK_CZNKEY F.TRK_CZNKEY_NEXT
def State.keyPhase (s : State) : Nat := s.fld Reg.TRK_CZNKEY F.TRK_CZNKEY_PHASE

/-- The generation under which a port sends (R285). -/
def State.portGen (s : State) (p : Nat) : Nat := if (s.port p).lags then (s.keyGen + 255) % 256 else s.keyGen

/-! Receive windows by UID (R287): those of the node that the table holds under it, else a stranger's. -/

def State.cznOfUid (s : State) (uid : Nat) : Option Nat := (s.cfg.czn.nodes.find? (·.uid == uid)).map (·.n)
def State.strangerWindows (s : State) (uid : Nat) : List CznWindow := mapGet (fun _ => []) s.czn.strangers uid
def State.setStranger (s : State) (uid : Nat) (ws : List CznWindow) : State :=
  { s with czn := { s.czn with strangers := mapSet (fun _ => []) s.czn.strangers uid ws } }

/-- Sixteen random bytes. -/
def State.random16 (s : State) : List Byte × State :=
  (be 8 (Config.random s.free).toNat ++ be 8 (Config.random (s.free + 1)).toNat, s.nextFree.nextFree)

/-- The group key of a port and generation, drawn when it is first needed (R282). -/
def State.groupKey (s : State) (p g : Nat) : List Byte × State :=
  match mapFind (s.port p).groupKeys g with
  | some k => (k, s)
  | none =>
    let r := s.random16
    (r.1, r.2.setPort p { r.2.port p with groupKeys := mapPut (r.2.port p).groupKeys g r.1 })

/-! ### Frames (R280, R283) -/

/-- The 18 header bytes. -/
def cznHeader (ver typ flags sel src dst counter claim len : Nat) : List Byte :=
  be 1 ver ++ be 1 typ ++ be 1 flags ++ be 1 sel ++ be 2 src ++ be 2 dst ++ be 4 counter ++ be 4 claim ++ be 2 len

/-- Body types that are authenticated only (R281). -/
def authOnly (typ : Nat) : Bool := [0x01, 0x02, 0x10, 0x11, 0x30, 0x40].contains typ

/-- Bytes of a MIC (R293). -/
def micLen (ver : Nat) : Nat := if ver = 2 then 4 else 8

/-- Body and MIC as they stand in a frame: CCM over header and body (R283). -/
def cznSeal (ver : Nat) (key : List Byte) (uid counter port : Nat) (typ : Nat) (hdr body : List Byte) : List Byte :=
  let f := ccmSeal (micLen ver)
  if authOnly typ then body ++ f key (nonceOf uid counter port) (hdr ++ body) [] else f key (nonceOf uid counter port) hdr body

/-- The body of a frame whose MIC holds: what follows the header is body and MIC (R283). -/
def cznOpen (ver : Nat) (key : List Byte) (uid counter port : Nat) (typ len : Nat) (hdr rest : List Byte) : Option (List Byte) :=
  let f := ccmOpen (micLen ver)
  let body := rest.take len
  let mic := slice rest len (micLen ver)
  if authOnly typ then (f key (nonceOf uid counter port) (hdr ++ body) mic).map fun _ => body
  else f key (nonceOf uid counter port) hdr (body ++ mic)

/-- The module's Carzon address (R279). -/
def State.cznAddr (s : State) : Nat := 0xFF00 + s.unit

/-- Length on the wire, with FCS, of a Carzon frame with a body of `len` bytes. -/
def cznFrameLen (ver len : Nat) : Nat := max 64 (14 + 18 + len + micLen ver + 4)

/-- Room for a body on a port (R258). -/
def State.bodyRoom (s : State) (p ver : Nat) : Nat := s.fld (Reg.TRK_CTL p) F.TRK_CTL_MAXLEN - 36 - micLen ver

/-- Number, seal and wrap a Carzon frame: its bytes from the destination address, padded, and its counter. None where no counter value is left. -/
def State.cznFrame (s : State) (p ver typ flags sel dst : Nat) (key body : List Byte) : Option (List Byte × Nat × State) :=
  match s.takeCounter p (s.rdN (Reg.TRK_CZNTXCTR p)) with
  | none => none
  | some (c, t) =>
    let hdr := cznHeader ver typ flags sel t.cznAddr dst c t.claim body.length
    some (padTo (max 60 (14 + 18 + body.length + micLen ver))
        (cznGroup ++ t.trkMac p ++ be 2 t.trkEtype ++ hdr ++ cznSeal ver key t.uid c p typ hdr body), c, t.wrN (Reg.TRK_CZNTXCTR p) c)

/-! ### Starting a frame (R269, R271) -/

/-- Wire time in ns of a frame of a length with FCS (R269). -/
def wireNs (len : Nat) : Nat := (len + 20) * 800

/-- The body of TIME (R301). -/
def State.timeBody (s : State) (p : Nat) : List Byte :=
  let x := s.port p
  be 4 x.timeSeq ++ be 8 (match x.prevTx with | some r => r.1 | none => 0) ++ be 2 (match x.prevTx with | some r => r.2 | none => 0)
    ++ be 2 (ofInt 16 s.utcOff) ++ be 1 (bit (bitOf s.clock.steppedTrunks p)) ++ [0, 0, 0] ++ be 2 (s.fld Reg.TRK_CZNCFG F.TRK_CZNCFG_TIME_MS) ++ [0, 0]

/-- The version of frames to a node (R291). -/
def CznNode.ver (x : CznNode) : Nat := if x.version = 2 then 2 else 3

/-- The length on the wire of a frame that waits. -/
def State.txLen (s : State) (f : TxFrame) : Nat :=
  match f.kind with
  | .host b _ => b.length + 4
  | .again b => b.length + 4
  | .node n _ _ _ _ body _ => cznFrameLen (s.cznNode n).ver body.length
  | .time => cznFrameLen 3 24

/-- A frame is on the wire: the port is busy, it counts. -/
def State.onWire (s : State) (p cls at_ : Nat) (b : List Byte) : State :=
  let t := (s.emit (.trunk p cls b)).bump (Reg.TRK_TXFRAMES p)
  t.setPort p { t.port p with busyTo := at_ + wireNs (b.length + 4) }

/-- Put a group frame on the wire under the port's group key (R281, R282). -/
def State.sendGroup (s : State) (p cls typ at_ : Nat) (body : List Byte) : State :=
  let g := s.portGen p
  let k := s.groupKey p g
  match k.2.cznFrame p 3 typ 0 (16 + g % 16) 0xFFFF k.1 body with
  | some (b, _, t) => t.onWire p cls at_ b
  | none => k.2

/-- The key of a class and generation of a node. -/
def State.nodeKey (s : State) (n kcls gen : Nat) : Option (List Byte) :=
  (s.cznKey n).map fun k => if kcls = 2 then keyD k else keyU k gen

/-- Send a frame to a node at an instant; with ACK_REQ it waits for its acknowledgement (R288). -/
def State.sendNode (s : State) (p cls at_ n typ kcls : Nat) (gen : Option Nat) (flags : Nat) (body : List Byte) (carries : List Nat) : State :=
  let g := gen.getD (s.portGen p)
  let x := s.cznNode n
  match s.nodeKey n kcls g with
  | none => s
  | some key =>
    match s.cznFrame p x.ver typ flags (kcls * 16 + g % 16) (if typ = 0x02 then 0xFFFE else n) key body with
    | none => s
    | some (b, c, t) =>
      let t := t.onWire p cls at_ b
      if bitOf flags 0 then
        let y := t.cznNode n
        t.setCznNode n { y with unacked := y.unacked ++ [{ counter := c, typ := typ, cls := cls, frame := b, sentAt := at_, tries := 1, carries := carries }] }
      else t

/-- Start one frame of the queue at an instant. -/
def State.startFrame (s : State) (p at_ : Nat) (f : TxFrame) : State :=
  match f.kind with
  | .host b tag =>
    let st := s.stampAt (s.txAt p at_)
    (s.onWire p f.cls at_ b).finishAll (fun w => w.tag == tag) St.ok (st % 2 ^ 32) (st / 2 ^ 32)
  | .again b => s.onWire p f.cls at_ b
  | .node n typ kcls gen flags body carries => s.sendNode p f.cls at_ n typ kcls gen flags body carries
  | .time =>
    let t := s.sendGroup p f.cls 0x30 at_ (s.timeBody p)
    let x := t.port p
    let tx := t.txAt p at_
    let t : State := { t with clock := { t.clock with steppedTrunks := putBits t.clock.steppedTrunks p 1 0 } }
    t.setPort p { x with timeSeq := addMod32 x.timeSeq 1, prevTx := some (t.stampAt tx, t.extAt tx) }

/-- The instant at which a port may start a frame: the medium wait is free; the POUR frame waits at most one empty PLCA cycle (R270). -/
def State.mediumAt (s : State) (p : Nat) (pour : Bool) : Nat :=
  let d := Config.mediumDelay s.free
  let d := if pour && s.plcaOn p then
      min d ((20 + s.fld (Reg.TRK_PLCA p) F.TRK_PLCA_NCNT * s.fld (Reg.TRK_PLCA p) F.TRK_PLCA_TO_TIMER) * 100) else d
  max s.now (s.port p).busyTo + d

/-- Start and length in µs of the first POUR entry of a list. -/
def GateList.firstPour (g : GateList) (tickMs : Nat) : Option (Nat × Nat) :=
  ((g.spans tickMs).find? fun e => pourEntry e).map fun e => (e.1, e.2.1 - e.1)

/-- The next POUR entry after entry `e` that opened at `at_`: its start on the monotonic base and its length in µs. -/
def State.nextPourEntry (s : State) (p e at_ : Nat) : Option (Nat × Nat) :=
  let x := s.port p
  let k := s.lamp.tick
  let sp := x.gates.spans k
  let off := (sp.getD e (0, 0, 0)).1
  match (sp.drop (e + 1)).find? fun m => pourEntry m with
  | some m => some (at_ + (m.1 - off) * 1000, m.2.1 - m.1)
  | none =>
    let g := match x.fresh with | some f => f.1 | none => x.gates
    (g.firstPour k).map fun m => (at_ + (x.gates.mult * k * 1000 - off + m.1) * 1000, m.2)

/-- The instant at which the open entry opened. -/
def State.openedAt (s : State) (p : Nat) : Nat :=
  let x := s.port p
  let e := (x.gates.spans s.lamp.tick).getD x.entry (0, 0, 0)
  x.close - (e.2.1 - e.1) * 1000

/-- The beginning of the next quiet interval: LEAD µs before the next POUR entry (R270). -/
def State.quietAt (s : State) (p : Nat) : Option Nat :=
  (s.nextPourEntry p (s.port p).entry (s.openedAt p)).map fun q => q.1 - s.fld (Reg.TRK_POURWIN p) F.TRK_POURWIN_LEAD * 1000

/-- A frame of a length that starts at an instant ends before the open entry closes (R269). -/
def State.endsInEntry (s : State) (p at_ len : Nat) : Bool := decide (at_ + wireNs len < (s.port p).close)

/-- A frame other than POUR also ends before the next quiet interval, in which only beacons and empty transmit opportunities pass (R270). -/
def State.fits (s : State) (p at_ len : Nat) : Bool :=
  s.endsInEntry p at_ len && (match s.quietAt p with | some q => decide (at_ + wireNs len < q) | none => true)

/-- Start the frames of a queue that the open entry admits; each that it does not admit waits (R269). -/
def State.pumpQueue (s : State) (p : Nat) : List TxFrame → State
  | [] => s
  | f :: fs =>
    let x := s.port p
    let at_ := s.mediumAt p false
    if bitOf x.mask f.cls && s.fits p at_ (s.txLen f) then State.pumpQueue (s.nextFree.startFrame p at_ f) p fs
    else
      let t := if bitOf x.mask f.cls then s.bump (Reg.TRK_TXLATE p) else s
      State.pumpQueue (t.setPort p { t.port p with queue := (t.port p).queue ++ [f] }) p fs

/-- Let the queue of a port flow into the entry that is open. -/
def State.pump (s : State) (p : Nat) : State :=
  let x := s.port p
  if s.canSend p && decide (s.now < x.close) then (s.setPort p { x with queue := [] }).pumpQueue p x.queue else s

/-- The entry that is open admits a frame now. -/
def State.startsNow (s : State) (p : Nat) (f : TxFrame) : Bool :=
  let x := s.port p
  s.canSend p && decide (s.now < x.close) && x.queue.isEmpty && bitOf x.mask f.cls && s.fits p (s.mediumAt p false) (s.txLen f)

/-- A frame waits (R269). -/
def State.await (s : State) (p : Nat) (f : TxFrame) : State :=
  (s.bump (Reg.TRK_TXLATE p)).setPort p { s.port p with queue := (s.port p).queue ++ [f] }

/-- A frame joins the queue of a port: it starts at once where the open entry admits it, and otherwise waits (R269). -/
def State.transmit (s : State) (p : Nat) (f : TxFrame) : State :=
  if s.startsNow p f then s.nextFree.startFrame p (s.mediumAt p false) f else s.await p f

/-- Send a frame to a row node. -/
def State.toNode (s : State) (n typ kcls : Nat) (gen : Option Nat) (flags : Nat) (body : List Byte) (carries : List Nat) : State :=
  s.transmit (nodePort n) { cls := if typ = 0x12 then Gate.mould else Gate.ctrl, kind := .node n typ kcls gen flags body carries }

/-! ### Status points and supervision (R160, R161, R308) -/

/-- A write of a trunk's Carzon engine: writer 0x0040 + trunk (R150). -/
def cznWrite (p a v stamp : Nat) (q : Nat := 0) : PtOp := .write { addr := a, value := BitVec.ofNat 32 v, quality := q, writer := 0x0040 + p, stamp := stamp }

/-- The values of the status points of a row node that the module knows of itself (R308); offsets 6 to 8 come from its reports. -/
def State.nodeFigures (s : State) (n : Nat) : List (Nat × Nat) :=
  let x := s.cznNode n
  [(0, x.state), (1, x.version), (2, x.width), (3, match s.cfg.cznEntry n with | some e => e.hold | none => 0), (4, x.tMeas), (5, x.pwm), (9, x.repeats), (0xA, x.authFail), (0xB, x.flags)]

/-- The status points of a node that changed are written, one application (R152, R308). -/
def State.showNode (s : State) (n : Nat) : State :=
  if !s.leads then s
  else s.applyM ((s.nodeFigures n).filterMap fun e =>
    if (s.pt (rowAddr n e.1)).value.toNat = e.2 then none else some (cznWrite (nodePort n) (rowAddr n e.1) e.2 s.stamp))

/-- The luminaires of a node that are configured. -/
def State.nodeLums (s : State) (n : Nat) : List (Nat × LumRec) := s.cfg.lamp.lums.filter fun e => e.1 / 16 == n

/-- A node enters a state: its status points, the status of its channels (R246, R307, R308). -/
def State.nodeState (s : State) (n st : Nat) : State :=
  let t := (s.setCznNode n { s.cznNode n with state := st }).showNode n
  let r := (t.nodeLums n).foldl (fun (q : State × List PtOp) e =>
    let z := q.1.refreshLum none e.1 e.2
    (z.1, q.2 ++ z.2)) (t, [])
  if r.1.leads then r.1.applyM r.2 else r.1

/-- Profile codes of a node. -/
def State.profileOf (s : State) (n : Nat) : List Nat := match s.cfg.cznEntry n with | some e => s.cfg.czn.profiles.getD e.profile [] | none => []

/-- The INPUT points of a row node: declared sensor inputs, diagnostics, luminaire temperatures (R298, R309). -/
def State.nodeInputs (s : State) (n : Nat) : List Nat :=
  let pr := s.profileOf n
  ((List.range 0x400).filter fun o => pr.getD o 0 != 0).map (fun o => rowAddr n (0x100 + o))
    ++ (List.range 0x100).map (fun o => rowAddr n (0x700 + o)) ++ (s.nodeLums n).map fun e => lumAddr e.1 0x144

/-- The output points of a row node. -/
def State.nodeOutputs (s : State) (n : Nat) : List Nat :=
  let pr := s.profileOf n
  ((List.range 0x200).filter fun o => pr.getD (0x400 + o) 0 != 0).map fun o => 0x500 + o

/-- The quality of a point as its source has left it: under a force that of the underlying record, none where no write has been absorbed (R163). -/
def State.sourceQuality (s : State) (a : Nat) : Option Nat :=
  match s.force? a with
  | some f => f.under.map (·.quality)
  | none => some (s.pt a).quality

/-- The quality sweep of a source's inputs, one application (R160). What a force hides is absorbed (R163). -/
def State.sweep (s : State) (addrs : List Nat) (q : Nat) : State :=
  if !s.leads then s
  else s.applyM ((addrs.filter fun a => s.sourceQuality a != some q && !(q == Q.stale && s.sourceQuality a == some Q.absent)).map fun a => .quality a q)

/-- A node has missed a delivery: the output points and the lamp targets concerned take PENDING (R161). -/
def State.missed (s : State) (n : Nat) (outs : List Nat) (lamps : Bool) : State :=
  if !s.leads then s
  else
    let l := if lamps then ((s.nodeLums n).filter fun e => e.2.channels.any fun c => (s.chan e.1 c).pend.isSome).flatMap fun e => lampTargets e.1 e.2 else []
    s.applyM (s.pendingOps true ((outs.map (rowAddr n)) ++ l))

/-- A node is to be reseated (R305): no section goes to it until the image has been applied. -/
def State.reseat (s : State) (n cause : Nat) : State :=
  (s.setCznNode n { s.cznNode n with cause := cause, reseatSeq := none, parts := [] }).nodeState n 2

/-! ### Gate lists in the registers (R267, R268) -/

/-- The list that the registers hold. -/
def State.gateRegs (s : State) (p : Nat) : GateList :=
  { mult := s.fld (Reg.TRK_GATECTL p) F.TRK_GATECTL_MULT
    entries := (List.range (s.fld (Reg.TRK_GATECTL p) F.TRK_GATECTL_LEN)).map fun e =>
      (s.fld (Reg.TRK_GATE p e) F.TRK_GATE_DUR, s.fld (Reg.TRK_GATE p e) F.TRK_GATE_MASK) }

/-- Write a list into the registers. -/
def State.writeGates (s : State) (p : Nat) (g : GateList) : State :=
  let t := (s.setF (Reg.TRK_GATECTL p) F.TRK_GATECTL_MULT g.mult).setF (Reg.TRK_GATECTL p) F.TRK_GATECTL_LEN g.entries.length
  (List.range g.entries.length).foldl (fun (t : State) e =>
    let d := g.entries.getD e (0, 0)
    (t.setF (Reg.TRK_GATE p e) F.TRK_GATE_DUR d.1).setF (Reg.TRK_GATE p e) F.TRK_GATE_MASK d.2) t

/-- A list takes effect: at the next cycle, at once where none runs (R268). -/
def State.useGates (s : State) (p : Nat) (g : GateList) (factory : Bool) : State :=
  let x := s.port p
  if x.nextAt.isNone then s.setPort p { x with gates := g, fallback := factory, fresh := none } else s.setPort p { x with fresh := some (g, factory) }

/-- The check of the list, of MULT and of the tick (R268). -/
def State.checkGates (s : State) (p tickMs : Nat) : State :=
  let g := s.gateRegs p
  let f := g.failing tickMs
  if f = 0 then s.useGates p g false
  else (s.useGates p (factoryGates tickMs) true).event 0x0D02 1 p (le 1 p ++ le 1 f ++ le 1 tickMs ++ le 1 g.mult)

/-! ### Outputs (R300) -/

/-- Outputs of a node as items of OUTPUT and RESEAT: block offset and value (R298). -/
def outItem (e : Nat × Word) : List Byte := be 2 e.1 ++ be 4 e.2.toNat

/-- The OUTPUT frames that carry some outputs of a node: as many items in each as the frame limit and the item count admit (R300). -/
def State.sendOutputs (s : State) (n : Nat) (offs : List Nat) : State :=
  let per := min 255 ((s.bodyRoom (nodePort n) (s.cznNode n).ver - 4) / 6)
  let t := s.setCznNode n { s.cznNode n with outputs := (s.cznNode n).outputs.filter fun o => !offs.contains o }
  (chunks per offs.length offs).foldl (fun (t : State) os =>
    t.toNode n 0x18 0 none 1 (be 1 os.length ++ [0, 0, 0] ++ os.flatMap fun o => outItem (o, (t.view (rowAddr n o)).value)) os) t

end Sys2Proof.Machine
end

