-- ==== Sys2Proof/Machine/RadioBase.lean ====
section
/-!
DEFINITION. The radio channels as every command uses them: keys and frames (R315 to R318), the order of transmissions and the duty limit (R326, R332), what is
sent at a receive opportunity (R322, R336), wake-up calls (R327, R328), node states (R335).
-/
set_option linter.unusedVariables false
namespace Sys2Proof.Machine

/-! ### Channels and nodes -/

def State.radNode (s : State) (n : Nat) : RadioNode := mapGet (fun _ => {}) s.radio.nodes n
def State.setRadNode (s : State) (n : Nat) (x : RadioNode) : State := { s with radio := { s.radio with nodes := mapSet (fun _ => {}) s.radio.nodes n x } }
def State.radChan (s : State) (r : Nat) : RadioChan := mapGet (fun _ => {}) s.radio.chans r
def State.setRadChan (s : State) (r : Nat) (x : RadioChan) : State := { s with radio := { s.radio with chans := mapSet (fun _ => {}) s.radio.chans r x } }

/-- The node table entry of a radio node (R337). -/
def State.radEntry (s : State) (n : Nat) : Option RadioEntry := s.cfg.radio.nodes.find? (·.n == n)

/-- The channel of a radio node, its Carzon address (R333). -/
def radioChan (n : Nat) : Nat := n / 2048
def radioCzn (n : Nat) : Nat := 0x1000 + n

/-- The channel is enabled and its radio powered. -/
def State.radOn (s : State) (r : Nat) : Bool := decide (r < s.ident.radios) && s.flag (Reg.RAD_CTL r) F.RAD_CTL_ENABLE && !s.trunksDown

/-- The channel sends: an ACTIVE or ALONE module (R16, R329). -/
def State.radTx (s : State) (r : Nat) : Bool := s.radOn r && s.sendsCarzon

/-- RAD[r]_STATUS.STATE: 0 OFF, 1 ACTIVE, 2 LISTEN_ONLY. -/
def State.radState (s : State) (r : Nat) : Nat := if !s.radOn r then 0 else if s.radTx r then 1 else 2

/-- STATE follows role and enable; a change is recorded (R341). -/
def State.showRadState (s : State) (r : Nat) : State :=
  let a := Reg.RAD_STATUS r
  let k := s.radState r
  if r < s.ident.radios && s.fld a F.RAD_STATUS_STATE ≠ k then (s.setF a F.RAD_STATUS_STATE k).event 0x0F05 0 r (le 1 r ++ le 1 k) else s

def State.showRadStates (s : State) : State := (List.range 4).foldl (fun (t : State) r => t.showRadState r) s

/-- Longest heartbeat of a channel in s. -/
def State.longestBeat (s : State) (r : Nat) : Nat := (s.cfg.radio.onChan r).foldl (fun m e => max m e.heartbeat) 0

/-! ### Keys (R282, R318) -/

/-- K_nr of a radio node. -/
def State.radKey (s : State) (n : Nat) : Option (List Byte) :=
  let x := s.radNode n
  if !x.key.isEmpty then some x.key
  else match s.radEntry n, s.czMaster with
    | some e, some m => some (nodeRootKey m e.uid)
    | _, _ => none

/-- The key of a class and generation of a radio node. -/
def State.radNodeKey (s : State) (n kcls gen : Nat) : Option (List Byte) :=
  (s.radKey n).map fun k => if kcls = 2 then keyD k else keyU k gen

/-- The generation being introduced on a channel. -/
def RadioChan.next (x : RadioChan) : Nat := (x.gen + 1) % 256

/-- A channel takes a generation, which stands in flash (R284, R318). -/
def State.setRadGen (s : State) (r g : Nat) (x : RadioChan) : State :=
  ({ s with flash := { s.flash with radGens := mapSet (fun _ => 0) s.flash.radGens r g } } : State).setRadChan r { x with gen := g }

/-- Generations whose frames are accepted on a channel (R285, R318). -/
def RadioChan.gens (x : RadioChan) : List Nat := x.gen :: (if x.phase = 2 then [x.next] else if x.phase = 3 then [(x.gen + 255) % 256] else [])

/-- The group key of a channel and generation, drawn when it is first needed. -/
def State.radGroup (s : State) (r g : Nat) : List Byte × State :=
  match mapFind (s.radChan r).groupKeys g with
  | some k => (k, s)
  | none =>
    let q := s.random16
    (q.1, q.2.setRadChan r { q.2.radChan r with groupKeys := mapPut (q.2.radChan r).groupKeys g q.1 })

/-! ### Air time, the duty limit and the beacon (R314, R326, R329, R332) -/

def State.radMode (s : State) (r : Nat) : Nat := s.fld (Reg.RAD_CTL r) F.RAD_CTL_PHYMODE
def State.radPreamble (s : State) (r : Nat) : Nat := s.fld (Reg.RAD_PHY r) F.RAD_PHY_PREAMBLE
def State.radPeriod (s : State) (r : Nat) : Nat := s.rdN (Reg.RAD_BEACON r)

/-- Air time in ns of a PSDU of a length with FCS. -/
def State.radAir (s : State) (r psdu : Nat) : Nat := airNs (s.radMode r) (s.radPreamble r) psdu

/-- From the start of a transmission to the last bit of its SFD (R315). -/
def State.radSfd (s : State) (r : Nat) : Nat := airNs (s.radMode r) 0 0 / 4 * (s.radPreamble r + 2)

/-- Wall time in ms. -/
def State.wallMs (s : State) : Nat := s.wall / (1000000 * 2 ^ 32)

/-- The monotonic instant of a wall time in ms. -/
def State.monoOfMs (s : State) (w : Nat) : Nat := ((((w * 1000000 * 2 ^ 32 : Nat) : Int) - s.clock.wallOff) / ((2 ^ 32 : Nat) : Int)).toNat

/-- The next beacon instant of a channel on the monotonic base, after the present ms. -/
def State.nextBeacon (s : State) (r : Nat) : Nat := s.monoOfMs ((s.wallMs / max 1 (s.radPeriod r) + 1) * max 1 (s.radPeriod r))

/-- The beacon reserve of a channel in 0.01 % (R332). -/
def State.radReserve (s : State) (r : Nat) : Nat := beaconReserve (s.radMode r) (s.radPreamble r) (max 1 (s.radPeriod r))

/-- The module's air time on a channel in the last 3,600 s. -/
def State.radUsed (s : State) (r : Nat) : Nat := (((s.radChan r).sent.filter fun e => decide (s.now < e.1 + secs 3600)).map (·.2)).sum

/-- A transmission of some air time stays within LIMIT less the reserve (R332). -/
def State.dutyOk (s : State) (r air : Nat) : Bool :=
  let lim := s.fld (Reg.RAD_DUTY r) F.RAD_DUTY_LIMIT
  lim == 0 || decide ((s.radUsed r + air) * 10000 ≤ (lim - s.radReserve r) * secs 3600)

/-- A transmission is deferred: counted; the entry to the state is recorded (R332, R341). -/
def State.radHold (s : State) (r : Nat) : State :=
  let t := s.bump (Reg.RAD_DEFERRED r)
  if t.flag (Reg.RAD_STATUS r) F.RAD_STATUS_DUTY_HOLD then t
  else (t.setF (Reg.RAD_STATUS r) F.RAD_STATUS_DUTY_HOLD 1).event 0x0F01 1 r
    (le 1 r ++ le 2 (t.radUsed r * 10000 / secs 3600) ++ le 2 (t.fld (Reg.RAD_DUTY r) F.RAD_DUTY_LIMIT))

/-- The radio sends from an instant on. -/
def State.radSent (s : State) (r at_ air : Nat) : State :=
  let x := s.radChan r
  s.setRadChan r { x with busyTo := at_ + air, sent := (at_, air) :: x.sent.filter fun e => decide (s.now < e.1 + secs 3600) }

/-! ### Frames (R316) -/

/-- PSDU length with FCS of a Carzon body. -/
def radPsdu (len : Nat) : Nat := 4 + 18 + len + 8 + 2

/-- Number, seal and wrap a Carzon frame for a channel: the PSDU without FCS and its counter. None where no counter value is left. -/
def State.radFrame (s : State) (r typ flags sel dst : Nat) (key body : List Byte) : Option (List Byte × Nat × State) :=
  match s.takeCounter (64 + r) (s.rdN (Reg.RAD_CZNTXCTR r)) with
  | none => none
  | some (c, t) =>
    let hdr := cznHeader 3 typ flags sel t.cznAddr dst c t.claim body.length
    some ([0x28] ++ be 2 (t.fld (Reg.RAD_PHY r) F.RAD_PHY_SEGID) ++ [0] ++ hdr ++ cznSeal 3 key t.uid c (64 + r) typ hdr body, c, t.wrN (Reg.RAD_CZNTXCTR r) c)

/-- A PSDU goes on air. -/
def State.onAir (s : State) (r : Nat) (b : List Byte) : State := (s.emit (.radio r b)).bump (Reg.RAD_TXFRAMES r)

/-- Send a frame to a radio node; with ACK_REQ it waits for its acknowledgement (R288). -/
def State.radSend (s : State) (n typ kcls gen flags : Nat) (body : List Byte) (carries : List Nat) (at_ : Nat) : State :=
  let r := radioChan n
  match s.radNodeKey n kcls gen with
  | none => s
  | some key =>
    match s.radFrame r typ flags (kcls * 16 + gen % 16) (if typ = 0x02 then 0xFFFE else radioCzn n) key body with
    | none => s
    | some (b, c, t) =>
      let t := t.onAir r b
      if bitOf flags 0 then
        let y := t.radNode n
        t.setRadNode n { y with unacked := y.unacked ++ [{ counter := c, typ := typ, cls := 0, frame := b, sentAt := at_, tries := 1, carries := carries }] }
      else t

/-- The switch of a channel to the generation announced: its counter restarts, grace begins (R285, R318). -/
def State.radSwitch (s : State) (r : Nat) : State :=
  let x := s.radChan r
  (({ s with flash := { s.flash with counters := mapDel s.flash.counters (64 + r) } } : State).wrN (Reg.RAD_CZNTXCTR r) 0).setRadGen r x.next
    { x with phase := 3, graceAt := s.now + secs (2 * s.longestBeat r + 60) }

/-- A BEACON with the next sequence, to all or to one node (R320, R328). -/
def State.sendBeacon (s : State) (r dst at_ : Nat) : State :=
  let seq := addMod32 (s.rdN (Reg.RAD_BCNSEQ r)) 1
  let x := s.radChan r
  let s := if x.phase = 2 && decide (0 ≤ seqDiff seq x.switchSeq) then s.radSwitch r else s
  let x := s.radChan r
  let k := s.radGroup r x.gen
  let t := k.2
  let ann := x.phase == 2
  let sfd := ((at_ + t.radSfd r : Nat) : Int) + sext 16 (t.fld (Reg.RAD_TSADJ r) F.RAD_TSADJ_TX)
  let body := be 4 seq ++ be 8 (t.stampAt sfd.toNat) ++ be 4 (t.radPeriod r) ++ be 2 (ofInt 16 t.utcOff) ++ be 1 (bit (bitOf t.clock.steppedRadios r) + 2 * bit ann)
    ++ be 1 (if ann then x.next else 0) ++ be 4 (if ann then x.switchSeq else 0)
  match t.radFrame r 0x40 0 (16 + x.gen % 16) dst k.1 body with
  | none => t
  | some (b, _, t) =>
    let t := ((t.onAir r b).wrN (Reg.RAD_BCNSEQ r) seq).radSent r at_ (t.radAir r 56)
    let y := t.radChan r
    t.setRadChan r { y with beacons := ((seq, at_) :: y.beacons).take 256 }

/-! ### Points (R334, R335) -/

/-- A write of a radio channel's engine: writer 0x0080 + channel (R150). -/
def radWrite (n o v stamp : Nat) (q : Nat := 0) : PtOp :=
  .write { addr := radioAddr n o, value := BitVec.ofNat 32 v, quality := q, writer := 0x0080 + radioChan n, stamp := stamp }

/-- Status points written, one application. -/
def State.radPoints (s : State) (n : Nat) (l : List (Nat × Nat)) : State :=
  if s.leads then s.applyM (l.map fun e => radWrite n e.1 e.2 s.stamp) else s

/-- A radio node enters a state (R335). -/
def State.radNodeState (s : State) (n st : Nat) : State :=
  let x := s.radNode n
  if x.state = st then s else (s.setRadNode n { x with state := st }).radPoints n [(0, st)]

/-- Inputs and outputs of a radio node: addresses, and offsets of the outputs (R321, R336). -/
def State.radInputs (s : State) (n : Nat) : List Nat := ((List.range 0xC0).filter fun o => s.cfg.radioCode n (0x20 + o) != 0).map fun o => radioAddr n (0x20 + o)
def State.radOutputs (s : State) (n : Nat) : List Nat := ((List.range 0x20).filter fun o => s.cfg.radioCode n (0xE0 + o) != 0).map fun o => 0xE0 + o

/-! ### What is sent at a receive opportunity (R318, R322, R326, R336) -/

/-- Where a sequence of transmissions stands: the state, the instant of the next, and whether none may follow. -/
structure RadAir where
  s : State
  at_ : Nat
  stop : Bool

/-- One transmission in the sequence: none that would end after the next beacon instant, none beyond the duty limit (R326, R332). -/
def RadAir.put (m : RadAir) (r air : Nat) (f : Nat → State → State) : RadAir :=
  if m.stop then m
  else if m.s.nextBeacon r < m.at_ + air then { m with stop := true }
  else if !m.s.dutyOk r air then { m with s := m.s.radHold r, stop := true }
  else { s := (f m.at_ (m.s.setF (Reg.RAD_STATUS r) F.RAD_STATUS_DUTY_HOLD 0)).radSent r m.at_ air, at_ := m.at_ + air, stop := false }

/-- A frame has been sent five times without acknowledgement (R288, R161). -/
def State.radNotAcked (s : State) (n : Nat) (u : CznUnacked) : State :=
  let x := s.radNode n
  let t := (s.setRadNode n { x with unacked := x.unacked.filter fun v => v ≠ u }).event 0x0D17 1 noInst (le 2 (radioCzn n) ++ le 1 u.typ ++ le 4 u.counter)
  if u.typ = 0x18 && t.leads then t.applyM (t.pendingOps true (u.carries.map (radioAddr n))) else t

/-- Send a frame again whose acknowledgement is overdue (R318). -/
def RadAir.again (m : RadAir) (n : Nat) (u : CznUnacked) : RadAir :=
  let r := radioChan n
  let air := m.s.radAir r (u.frame.length + 2)
  if m.s.now < u.sentAt + air + ms 6 + m.s.radAir r 40 then m
  else if 5 ≤ u.tries then { m with s := m.s.radNotAcked n u }
  else m.put r air fun at_ s =>
    let x := s.radNode n
    (s.setRadNode n { x with unacked := x.unacked.map fun v => if v = u then { v with tries := v.tries + 1, sentAt := at_ } else v }).onAir r u.frame

/-- Send a frame that waits. -/
def RadAir.pend (m : RadAir) (n : Nat) (f : Nat × List Byte) : RadAir :=
  let r := radioChan n
  m.put r (m.s.radAir r (radPsdu f.2.length)) fun at_ s =>
    let x := s.radNode n
    (s.setRadNode n { x with pend := x.pend.drop 1 }).radSend n f.1 (if f.1 = 0x02 then 2 else 0) (s.radChan r).gen 1 f.2 (if f.1 = 0x03 then [fieldBe f.2 0 1] else []) at_

/-- Outputs that wait for delivery: in RESEATING all of the profile in one OUTPUT, and no other until it is acknowledged (R336). -/
def State.radOutDue (s : State) (n : Nat) : Option (List Nat) :=
  let x := s.radNode n
  if x.state = 2 then (if x.unacked.any fun u => u.typ == 0x18 then none else some (s.radOutputs n))
  else if (x.state = 3 || x.state = 4) && !x.outputs.isEmpty then some x.outputs
  else none

/-- Send the outputs that wait. -/
def RadAir.outputs (m : RadAir) (n : Nat) : RadAir :=
  match m.s.radOutDue n with
  | none => m
  | some os =>
    let r := radioChan n
    let body := be 1 os.length ++ [0, 0, 0] ++ os.flatMap fun o => outItem (o, (m.s.view (radioAddr n o)).value)
    m.put r (m.s.radAir r (radPsdu body.length)) fun at_ s =>
      let x := s.radNode n
      (s.setRadNode n { x with outputs := x.outputs.filter fun o => !os.contains o }).radSend n 0x18 0 (s.radChan r).gen 1 body os at_

/-- Everything that waits for a node, at one of its receive opportunities. -/
def RadAir.serve (m : RadAir) (n : Nat) : RadAir :=
  let x := m.s.radNode n
  if 1 ≤ x.state && x.state ≤ 4 then
    let m := x.unacked.foldl (fun m u => m.again n u) m
    (((m.s.radNode n).pend).foldl (fun m f => m.pend n f) m).outputs n
  else m

/-- Something waits for the node. -/
def State.radWaits (s : State) (n : Nat) : Bool :=
  let x := s.radNode n
  decide (1 ≤ x.state ∧ x.state ≤ 4) && (!x.unacked.isEmpty || !x.pend.isEmpty || (s.radOutDue n).isSome)

/-- A frame joins what waits for a node. -/
def State.radPend (s : State) (n typ : Nat) (body : List Byte) : State :=
  let x := s.radNode n
  s.setRadNode n { x with pend := x.pend ++ [(typ, body)] }

/-- KEYS of a generation waits for a node (R294). -/
def State.radKeys (s : State) (n g : Nat) : State :=
  let k := s.radGroup (radioChan n) g
  k.2.radPend n 0x03 (be 1 g ++ [0, 0, 0] ++ k.1)

/-- The body of RSETUP (R321, R322). -/
def State.rsetupBody (s : State) (e : RadioEntry) : List Byte :=
  be 2 e.heartbeat ++ be 2 e.listen ++ be 4 (e.n % 2048 * e.listen * 1000 / 2048) ++ be 2 e.eventMin ++ be 2 e.drift ++ be 1 e.wakeMax ++ be 1 (bit e.wakeOnOutput)
    ++ be 4 (s.radPeriod (radioChan e.n)) ++ [0, 0]

/-! ### Guard (R323) -/

/-- The module's guard in µs, and its Δt in ms. -/
def State.radDelta (s : State) (n : Nat) : Nat := (s.now - (s.radNode n).contact) / 1000000
def guardUs (drift dt : Nat) : Nat := min 1000000 (2000 + (drift + 25) * dt / 10000)
def State.radGuard (s : State) (n : Nat) : Nat := match s.radEntry n with | some e => guardUs e.drift (s.radDelta n) | none => 1000000

/-- The node is reached by wake-up calls alone: recorded when the module learns it (R324, R341). -/
def State.radWakeOnly (s : State) (n : Nat) : State :=
  let x := s.radNode n
  if x.listen = 2 then s
  else ((s.setRadNode n { x with listen := 2 }).event 0x0F04 1 noInst (le 2 (radioCzn n) ++ le 4 (s.radDelta n / 1000))).radPoints n [(4, 2)]

/-! ### Wake-up calls (R327, R328) -/

/-- One bit, and one byte, of the CRC-8 with polynomial 0x07. -/
def crc8Bit (c : Nat) : Nat := if 128 ≤ c then (c * 2 % 256) ^^^ 7 else c * 2
def crc8Byte (c : Nat) (b : Byte) : Nat := crc8Bit (crc8Bit (crc8Bit (crc8Bit (crc8Bit (crc8Bit (crc8Bit (crc8Bit (c ^^^ b.toNat))))))))
def crc8 (bs : List Byte) : Nat := bs.foldl crc8Byte 0

/-- The 48 bits of a call (R327). -/
def wakeCall (address command seq : Nat) : List Byte :=
  let b := be 2 address ++ be 1 (command * 16 + seq % 16)
  be 2 0xAAAA ++ b ++ be 1 (crc8 b)

/-- The wall-clock hour. -/
def State.wallHour (s : State) : Nat := s.wallSec / 3600

/-- Calls sent to a node in this wall-clock hour. -/
def State.radWakes (s : State) (n : Nat) : Nat := let x := s.radNode n; if x.wakeHour = s.wallHour then x.wakes else 0

/-- wake_max of this hour is spent. -/
def State.wakeSpent (s : State) (n : Nat) : Bool := match s.radEntry n with | some e => decide (e.wakeMax ≤ s.radWakes n) | none => true

/-- A call on air: counted for the node's hour. -/
def State.callOut (s : State) (n cmd : Nat) : State :=
  let r := radioChan n
  let x := s.radNode n
  let y : RadioNode := { x with wakes := s.radWakes n + 1, wakeHour := s.wallHour, wakeSeq := (x.wakeSeq + 1) % 16, wakeHeld := none, calls := x.calls + 1 }
  (((s.setRadNode n y).emit (.wake r (wakeCall (radioCzn n) cmd x.wakeSeq))).bump (Reg.RAD_WAKES r)).radPoints n [(9, y.calls)]

/-- A BEACON to one node that hears no other (R328). -/
def RadAir.beacon (m : RadAir) (n : Nat) : RadAir :=
  let r := radioChan n
  let air := m.s.radAir r 56
  if m.s.nextBeacon r < m.at_ + air then { m with stop := true }
  else { s := m.s.sendBeacon r (radioCzn n) m.at_, at_ := m.at_ + air, stop := false }

/-- What follows a LISTEN call (R328). -/
def RadAir.afterCall (m : RadAir) (n : Nat) : RadAir := (if (m.s.radNode n).listen = 2 then m.beacon n else m).serve n

/-- A call of 6 ms goes out; after LISTEN the first frame follows 10 ms after its end, to a node in WAKE_ONLY a BEACON first (R328). -/
def State.radCall (s : State) (n cmd : Nat) : State :=
  let r := radioChan n
  let s := s.setRadNode n { s.radNode n with wakeHeld := some cmd }
  if s.wakeSpent n || !s.radTx r then s
  else
    let m : RadAir := { s := s, at_ := max s.now (s.radChan r).busyTo, stop := false }
    let m := m.put r (ms 6) fun _ t => t.callOut n cmd
    if m.stop || cmd ≠ 0 then m.s else (RadAir.afterCall { s := m.s, at_ := m.at_ + ms 10, stop := false } n).s

/-- Calls that are held and may now be sent, on one channel (R328, R336). -/
def State.radCalls (s : State) (r : Nat) : State :=
  if !s.radTx r then s
  else (s.radio.nodes.filter fun e => radioChan e.1 == r && e.2.wakeHeld.isSome).foldl (fun (t : State) e =>
    if t.wakeSpent e.1 then t else t.radCall e.1 (e.2.wakeHeld.getD 0)) s

def State.allCalls (s : State) : State := (List.range 4).foldl (fun (t : State) r => t.radCalls r) s

/-! ### Key generations on the channels (R285, R318) -/

/-- A change of the generation to `h` begins on every channel that has not made it; one that is disabled, which no node hears, takes it at once. -/
def State.radRekey (s : State) (h : Nat) : State :=
  (List.range s.ident.radios).foldl (fun (t : State) r =>
    let x := t.radChan r
    if x.gen = h then t
    else if !t.radTx r then t.setRadGen r h x
    else
      let t := t.setRadChan r { x with phase := 1, rekeyAt := t.now }
      (t.radio.nodes.filter fun e => radioChan e.1 == r && decide (1 ≤ e.2.state ∧ e.2.state ≤ 5)).foldl (fun (t : State) e =>
        (t.setRadNode e.1 { t.radNode e.1 with keysAcked := false }).radKeys e.1 x.next) t) s

/-- A change of the generation is in progress on a channel. -/
def State.radRekeying (s : State) : Bool := s.radio.chans.any fun e => e.2.phase != 0

/-- A counter of the radio has passed 0x8000_0000 (R285). -/
def State.radCounterHigh (s : State) : Bool :=
  (List.range 4).any (fun r => decide (0x80000000 < s.rdN (Reg.RAD_CZNTXCTR r)))
    || s.radio.nodes.any fun e => e.2.windows.any fun w => !w.disc && w.gen == (s.radChan (radioChan e.1)).gen && decide (0x80000000 < w.hi)

/-- The announcement, once every SERVING node of a channel has acknowledged or twice its longest heartbeat has passed. -/
def State.radAnnounce (s : State) (r : Nat) : State :=
  let x := s.radChan r
  let all := s.radio.nodes.all fun e => radioChan e.1 != r || e.2.state != 3 || e.2.keysAcked
  if x.phase = 1 && s.radTx r && (all || decide (x.rekeyAt + secs (2 * s.longestBeat r) ≤ s.now)) then
    s.setRadChan r { x with phase := 2, switchSeq := addMod32 (s.rdN (Reg.RAD_BCNSEQ r)) 4 }
  else s

/-- The end of a channel's grace: frames of the old generation are discarded. -/
def State.radGraceEnd (s : State) (r : Nat) : State :=
  let x := s.radChan r
  if x.phase = 3 && decide (x.graceAt ≤ s.now) then s.setRadChan r { x with phase := 0, groupKeys := x.groupKeys.filter fun k => k.1 == x.gen } else s

end Sys2Proof.Machine
end

