-- ==== Sys2Proof/Machine/Roles.lean ====
section
/-!
DEFINITION. Roles (R411 to R417, R423): claims and epochs, and what a change of role does to trunks, cycles, lamp engine, energy engine and timekeeper.
-/
set_option linter.unusedVariables false
namespace Sys2Proof.Machine

/-! ### Epochs and claims (R412, R417) -/

/-- An epoch is written to flash before the first frame that carries it (R412). -/
def State.setEpoch (s : State) (e : Nat) : State :=
  let t : State := { s with flash := { s.flash with epoch := e }, rdn := { s.rdn with epoch := e, highest := max s.rdn.highest e } }
  t.wrN Reg.RDN_CLAIM t.claim

/-- An epoch that another party holds has been seen (R417). -/
def State.sawEpoch (s : State) (e : Nat) : State := { s with rdn := { s.rdn with highest := max s.rdn.highest e } }

/-! ### What a role change does (R411) -/

/-- Commands that wait for what the role no longer does: Carzon, radio and cycle commands (R224, R310, R339). -/
def Wait.needsLead (w : Wait) : Bool :=
  match w.kind with
  | .cycSetup _ _ _ _ | .cycSched _ _ | .cycHold | .cznReseat _ _ | .cznRekey | .radWake _ _ | .trkSend _ _ => true
  | _ => false

/-- A port as a role leaves it: nothing waits, no gate cycle runs. -/
def TrunkPort.quiet (x : TrunkPort) : TrunkPort :=
  { x with queue := [], entry := 0, mask := 0, close := 0, nextE := 0, nextAt := none, rollCall := false, heard := 0 }

/-- The trunk ports take the module's role (R259, R261): a coordinator goes on, a port that becomes one listens first, others follow. -/
def State.roleTrunks (s : State) (was : Bool) : State :=
  (List.range 64).foldl (fun (t : State) p =>
    let x := t.port p
    let y := if was && !t.leads then x.quiet else x
    t.setPort p (if t.leads then (if y.beacons then y else { y with listen := some t.now })
      else if t.role == .seeding then { y with beacons := false, listen := some t.now }
      else { y with beacons := false, listen := none })) s

/-- Cycles stop: the cycle in progress commits nothing (R223, R411). -/
def State.stopCycles (s : State) : State :=
  let t := s.applyDeferred.wrN Reg.CYC_HOLDLEFT 0
  { t with
    cyc := { t.cyc with next := none, phase := .between, hold := none, held := false, skipNext := false }
    ladles := t.ladles.map fun e => (e.1, { e.2 with phase := if e.2.prog.isSome then .idle else .noProgram }) }

/-- Cycles begin: the first boundary through the tick grid (R203, R223). -/
def State.startCycles (s : State) : State :=
  let p := s.rdN Reg.CYC_PERIOD
  match s.lamp.next with
  | some tb =>
    if s.leads && !s.defaulted && decide (s.stage = 7) && s.cyc.next.isNone && decide (0 < p) then
      let t : State := { s with cyc := { s.cyc with next := some (cycFirst tb s.lamp.tick p (s.rdN Reg.CYC_OFFSET) s.now) } }
      t.setF Reg.CYC_STATUS F.CYC_STATUS_UNALIGNED (bit (!cycAligned s.lamp.tick p))
    else s
  | none => s

/-- The lamp engine stops outside ACTIVE, ALONE and STANDBY, where it runs or shadows (R245). -/
def State.roleLamp (s : State) : State :=
  if s.leads || s.role == .standby then (if s.sup.roleSettled && !s.defaulted then s.lampStart else s)
  else { s with lamp := { s.lamp with next := none, evaluating := false, pours := [] } }

/-- The energy engine meters in ALONE, ACTIVE and STANDBY and idles in the other roles (R394); its pulse outputs are driven in ACTIVE and ALONE (R391). -/
def State.roleMeter (s : State) : State :=
  let t := if s.mtrRole then (if s.mtrState = 0 && s.meter.opened then s.setF Reg.MTR_STATUS F.MTR_STATUS_STATE 1 else s)
    else if s.mtrState = 1 then s.setF Reg.MTR_STATUS F.MTR_STATUS_STATE 0 else s
  s.cfg.meter.pulses.foldl (fun (t : State) g => t.showPulse g) t

/-- A radio node as a module that does not lead holds it: nothing waits to be sent. -/
def RadioNode.quiet (x : RadioNode) : RadioNode := { x with pend := [], unacked := [], wakeHeld := none }

/-- The radio channels take the module's role: nothing waits to be sent where it no longer leads, and missed beacons count in STANDBY (R330, R341). -/
def State.roleRadio (s : State) : State :=
  let t := if s.leads then s else s.radio.nodes.foldl (fun (t : State) e => t.setRadNode e.1 e.2.quiet) s
  ((List.range t.ident.radios).foldl (fun (t : State) r => t.setF (Reg.RAD_STATUS r) F.RAD_STATUS_BCNMISS 0) t).showRadStates

/-- A change of role (R107, R411, R441). -/
def State.enterRole (s : State) (r : Role) : State :=
  if s.role == r then s
  else
    let old := s.role
    let was := s.leads
    let t := s.abortForRole r
    let t := if was && !(r == .active || r == .alone) then (t.stopCycles).finishAll Wait.needsLead St.refused 0 0 else t
    let t : State := { t with role := r, rdn := { t.rdn with roleAt := t.now, postponed := 0, yielding := false, confirmed := false } }
    let t := t.setF Reg.RDN_STATUS F.RDN_STATUS_ROLE r.code
    let t := t.wrN Reg.RDN_CLAIM t.claim
    let t := (t.roleTrunks was).roleLamp.roleMeter.roleRadio.refreshServo
    (t.event 0x1401 0 noInst (le 1 old.code ++ le 1 r.code ++ le 4 t.claim)).setCause 4

/-- The module is in service: GLB_STATUS.RUN, with the event "autonomous run" (R54). -/
def State.inService (s : State) : State :=
  if s.flag Reg.GLB_STATUS F.GLB_STATUS_RUN then s
  else (s.setF Reg.GLB_STATUS F.GLB_STATUS_RUN 1).event 0x0101 0 noInst
    (le 4 (s.rdN Reg.GLB_CFGGEN) ++ le 4 (s.rdN Reg.GLB_PATVER) ++ le 2 s.heat)

/-- SEEDING begins: the peer port listens for 100 ms (R416). A handover in progress has failed for this unit (R439). -/
def State.enterSeeding (s : State) : State :=
  let t := (if s.rdn.hand.isSome then s.finishAll (fun w => w.kind == .rdnRotate) St.handoverFailed 0 0 else s).enterRole .seeding
  ({ t with rdn := { t.rdn with listenAt := t.now, req := none, hand := none, mirror := false, unacked := [], seed := none, seeded := false, rx := []
                                applied := none } } : State).setF Reg.RDN_STATUS F.RDN_STATUS_SEEDING_ACT 0

/-- YIELD is sent, and the heartbeats say so (R422, R434): cause 1 power-fail, 2 thermal, 3 stuck, 4 command. -/
def State.sendYield (s : State) (cause : Nat) : State :=
  let t := s.sendPeer 9 (be 1 cause ++ [0, 0, 0])
  { t with rdn := { t.rdn with yielding := true } }

/-- The new active's first commit after a handover: CONFIRM, and CONFIRMED in the heartbeats (R425). -/
def State.confirmHandover (s : State) : State :=
  match s.rdn.hand with
  | some h =>
    if h.old || !h.passed then s
    else
      let t := (s.sendPeer 8 (be 4 (s.rdN Reg.CYC_COUNT) ++ be 4 s.lamp.seq)).bump Reg.RDN_CNT_HANDOVER
      { t with rdn := { t.rdn with hand := none, confirmed := true } }
  | none => s

/-- A handover's instant has come and the module has not acted on it yet, or its new active still waits for the last DELTA (R425, R426). -/
def State.handPending (s : State) (t : Nat) : Bool :=
  match s.rdn.hand with
  | some h => decide (h.t ≤ t) && (!h.passed || (!h.old && !h.delta))
  | none => false

/-- The old active charges no cycle from the instant of a handover on (R425). -/
def State.handStops (s : State) (t : Nat) : Bool := match s.rdn.hand with | some h => h.old && !h.passed && decide (h.t ≤ t) | none => false

/-- An ACTIVE module that learns of a higher claim becomes SEEDING (R414): cause 1 witness, 2 peer, 3 node. -/
def State.demote (s : State) (cause claim : Nat) : State :=
  if s.role == .active then
    ((s.bump Reg.RDN_CNT_DEMOTE).event 0x1406 2 noInst (le 1 cause ++ le 4 claim)).enterSeeding
  else s

/-- The module becomes ACTIVE under an epoch (R412, R416, R423). -/
def State.enterActive (s : State) (epoch : Nat) : State :=
  let t := s.setEpoch epoch
  let t : State := { t with rdn := { t.rdn with lastActive := epoch, req := none, rx := [], seed := none, contactAt := t.now } }
  ((t.enterRole .active).finishAll (fun w => w.kind == .rdnOther) St.refused 0 0).startCycles

/-- A handover ends without effect for the command that asked for it. -/
def State.endRotate (s : State) (status : Nat) : State :=
  ({ s with rdn := { s.rdn with hand := none } } : State).finishAll (fun w => w.kind == .rdnRotate) status 0 0

/-- The old active takes the segment back (R427). -/
def State.revert (s : State) (epoch : Nat) : State :=
  let t := ((s.enterActive epoch).bump Reg.RDN_CNT_REVERT).event 0x1404 2 noInst (le 4 epoch)
  ({ t with rdn := { t.rdn with mirror := false, unacked := [] } } : State).endRotate St.handoverFailed

/-- The old active becomes ACTIVE again at its next cycle boundary (R427); at once where no boundary is known. -/
def State.planRevert (s : State) (q : RdnReq) (epoch : Nat) : State :=
  let p := s.rdN Reg.CYC_PERIOD
  match s.lamp.next with
  | some tb =>
    if p = 0 then s.revert epoch
    else { s with rdn := { s.rdn with req := some { q with granted := some (epoch, cycFirst tb s.lamp.tick p (s.rdN Reg.CYC_OFFSET) s.now) } } }
  | none => s.revert epoch

/-- The boundary of a granted REVERT has come: the old active commands again, and its first cycle charges there (R427). -/
def State.revertNow (s : State) : State :=
  match s.cyc.next, s.rdn.req.bind (·.granted) with
  | none, some (e, b) =>
    if b ≤ s.now && s.role == .standby then
      let t := s.revert e
      if t.cyc.next.isSome then { t with cyc := { t.cyc with next := some b } } else t
    else s
  | _, _ => s

/-- A node or a radio node echoes a claim above the module's own (R289): recorded; an ALONE module takes the epoch above it, an ACTIVE one is demoted
(R413, R414). -/
def State.claimHigher (s : State) (node claim : Nat) : State :=
  let s := s.sawEpoch (claim / 2)
  if s.leads && decide (s.claim < claim) then
    let t := s.event 0x0D15 2 noInst (le 2 node ++ le 4 claim)
    if t.role == .alone then t.setEpoch (claim / 2 + 1) else t.demote 3 claim
  else s

end Sys2Proof.Machine
end

