-- ==== Sys2Proof/Machine/Trunk.lean ====
section
/-!
DEFINITION. Trunk ports (R258 to R277): tick and gate cycle, moulds and the POUR frame (R269, R295, R296, R306), roll call, the receive path and ring 9, the
trunk commands, PAUSE and link of the gigabit ports.
-/
set_option linter.unusedVariables false
namespace Sys2Proof.Machine

/-! ### Reseat images (R306) -/

/-- What a node's reseat image holds of its lamps: channel, word and level of the current segment for every fitted channel (R242). -/
def State.imageOf (s : State) (n : Nat) : List (Nat × Nat × Nat) :=
  (s.nodeLums n).flatMap fun e => e.2.channels.map fun c => (chanKey e.1 c, (s.chan e.1 c).word, (s.chan e.1 c).endLevel)

/-- The entries of a node's reseat image: RAMP 0 with the word (R242). -/
def State.imageEntries (s : State) (n : Nat) : List (List Byte) := (s.imageOf n).map fun e => be 1 (e.1 % 64) ++ [0] ++ be 2 e.2.1

/-- Entries, then items, cut into parts of at most `room` bytes with at most 255 of each: pairs of entries and items. -/
def imageParts (room : Nat) : List (List Byte) → List (List Byte) → List (List Byte) → List (List Byte) → Nat → List (List (List Byte) × List (List Byte))
  | [], [], es, is, _ => [(es, is)]
  | e :: l, m, es, is, used =>
    if used + 4 ≤ room && es.length < 255 then imageParts room l m (es ++ [e]) is (used + 4)
    else (es, is) :: imageParts room l m [e] [] 4
  | [], i :: m, es, is, used =>
    if used + 6 ≤ room && is.length < 255 then imageParts room [] m es (is ++ [i]) (used + 6)
    else (es, is) :: imageParts room [] m [] [i] 6

/-- The bodies of the RESEAT frames of a node for a pour (R306); an image of more than 16 parts cannot be carried. -/
def State.imageBodies (s : State) (n seq : Nat) : List (List Byte) :=
  let items := (s.nodeOutputs n).map fun o => outItem (o, (s.view (rowAddr n o)).value)
  let ps := imageParts (s.bodyRoom (nodePort n) (s.cznNode n).ver - 8) (s.imageEntries n) items [] [] 0
  if 16 < ps.length then []
  else (List.range ps.length).map fun i =>
    let p := ps.getD i ([], [])
    be 4 seq ++ be 1 i ++ be 1 (ps.length - 1) ++ be 1 p.1.length ++ be 1 p.2.length ++ p.1.flatten ++ p.2.flatten

/-- At the latch each node under reseat takes a new image naming the pour that was ordered (R305, R306). -/
def State.latchImages (s : State) : State :=
  let seq := s.lamp.seq
  (s.czn.nodes.filter fun e => e.2.state == 2).foldl (fun (t : State) e =>
    let x := t.cznNode e.1
    t.setCznNode e.1 { x with parts := t.imageBodies e.1 seq, image := t.imageOf e.1, reseatSeq := some seq, outputs := [], unacked := x.unacked.filter fun u => u.typ ≠ 0x12 }) s

/-- Once per tick every served node is sent its changed outputs (R300). -/
def State.tickOutputs (s : State) : State :=
  (s.czn.nodes.filter fun e => (e.2.state == 3 || e.2.state == 4) && !e.2.outputs.isEmpty).foldl (fun (t : State) e => t.sendOutputs e.1 (t.cznNode e.1).outputs) s

/-! ### Key generations (R285) -/

/-- KEYS of a generation to a node (R294). -/
def State.sendKeys (s : State) (n g : Nat) : State :=
  let k := s.groupKey (nodePort n) g
  k.2.toNode n 0x03 0 none 1 (be 1 g ++ [0, 0, 0] ++ k.1) [g]

/-- A change of the key generation begins (R285). -/
def State.startRekey (s : State) : State :=
  if s.keyPhase ≠ 0 || s.radRekeying || !s.sendsCarzon then s
  else
    let h := (s.keyGen + 1) % 256
    let t := (s.setF Reg.TRK_CZNKEY F.TRK_CZNKEY_NEXT h).setF Reg.TRK_CZNKEY F.TRK_CZNKEY_PHASE 1
    let t : State := { t with czn := { t.czn with rekeyAt := t.now } }
    ((t.czn.nodes.filter fun e => e.2.admitted).foldl (fun (t : State) e => (t.setCznNode e.1 { t.cznNode e.1 with keysAcked := false }).sendKeys e.1 h) t).radRekey h

/-- KEY_ANNOUNCE: every admitted node has acknowledged, or 10 s have passed: the change is announced for the pour 40 ahead (R285); on a radio
channel, for the beacon 4 ahead (R318). -/
def execKeyAnnounce (s : State) : Answer :=
  let all := s.czn.nodes.all fun e => !e.2.admitted || e.2.keysAcked
  let s := (List.range 4).foldl (fun (t : State) r => t.radAnnounce r) s
  .next (if s.keyPhase = 1 && s.sendsCarzon && (all || decide (s.czn.rekeyAt + secs 10 ≤ s.now)) then
    (s.setF Reg.TRK_CZNKEY F.TRK_CZNKEY_PHASE 2).wrN Reg.TRK_CZNSWITCH (addMod32 s.lamp.seq 40)
  else s)

/-- GENERATION_GRACE_END: ten seconds after the switch frames of the old generation are discarded (R285). -/
def execGenerationGraceEnd (s : State) : Answer :=
  let s := (List.range 4).foldl (fun (t : State) r => t.radGraceEnd r) s
  .next (if s.keyPhase = 3 && decide (s.czn.graceAt ≤ s.now) then
    let t := ((s.setF Reg.TRK_CZNKEY F.TRK_CZNKEY_PHASE 0).setF Reg.TRK_CZNKEY F.TRK_CZNKEY_NEXT 0).wrN Reg.TRK_CZNSWITCH 0
    (List.range 64).foldl (fun (t : State) p => t.setPort p { t.port p with groupKeys := (t.port p).groupKeys.filter fun k => k.1 == t.keyGen }) t
  else s)

/-- A counter has passed 0x8000_0000 (R285). -/
def State.counterHigh (s : State) : Bool :=
  (List.range 64).any (fun p => decide (0x80000000 < s.rdN (Reg.TRK_CZNTXCTR p))) || s.radCounterHigh || s.czn.nodes.any fun e => e.2.windows.any fun w => !w.disc && w.gen == s.keyGen && decide (0x80000000 < w.hi)

/-! ### Tick boundary (R227, R267, R285) -/

/-- The generation change takes effect (R285): KEY_SWITCH, and ten seconds of grace. Each port sends under the old generation until its own POUR frame of the switch. -/
def State.keySwitch (s : State) : State :=
  let g := s.keyGen
  let h := s.keyNext
  let t := (s.setF Reg.TRK_CZNKEY F.TRK_CZNKEY_GEN h).setF Reg.TRK_CZNKEY F.TRK_CZNKEY_PHASE 3
  let t := (List.range 64).foldl (fun (t : State) p => t.setPort p { t.port p with lags := true }) t
  let t : State := { t with czn := { t.czn with graceAt := t.now + secs 10 } }
  let t := t.event 0x0D16 0 noInst (le 1 g ++ le 1 h ++ le 4 (t.rdN Reg.TRK_CZNSWITCH))
  t.finishAll (fun w => w.kind == .cznRekey) St.ok 0 0

/-- A port begins to send under the generation of the switch: its counter restarts (R285). -/
def State.portFresh (s : State) (p : Nat) : State :=
  if (s.port p).lags then
    (({ s with flash := { s.flash with counters := mapDel s.flash.counters p } } : State).wrN (Reg.TRK_CZNTXCTR p) 0).setPort p { s.port p with lags := false }
  else s

/-- A POUR frame of a sequence is about to leave a port: the switch begins with the first one that names it, and each port takes part with its own (R285). -/
def State.portSwitch (s : State) (p seq : Nat) : State :=
  let t := if s.keyPhase = 2 && s.rdN Reg.TRK_CZNSWITCH = seq then s.keySwitch else s
  if t.rdN Reg.TRK_CZNSWITCH = seq then t.portFresh p else t

/-- At the tick that follows the pour of the switch, every port has changed, with its POUR frame or without (R285). -/
def State.endSwitch (s : State) : State :=
  let t := if s.leads && s.keyPhase == 2 && decide (0 ≤ seqDiff s.lamp.seq (s.rdN Reg.TRK_CZNSWITCH)) then s.keySwitch else s
  (List.range 64).foldl State.portFresh t

/-- A node of the trunk has 3 missed cycles in a row: SERVING becomes STALE, and its inputs go STALE, those of a node under reseat too (R160, R263, R307). -/
def State.nodeStale (s : State) (n : Nat) : State :=
  (if (s.cznNode n).state = 3 then s.nodeState n 4 else s).sweep (s.nodeInputs n) Q.stale

/-- One cycle that a node ID has missed (R263). -/
def State.missedCycle (s : State) (p i : Nat) : State :=
  let a := Reg.TRK_NODEMISS p i
  let t := (s.bumpSat a F.TRK_NODEMISS_CONSEC).bumpF a F.TRK_NODEMISS_TOTAL
  if 3 ≤ t.fld a F.TRK_NODEMISS_CONSEC then t.nodeStale (32 * p + i) else t

/-- The row-node IDs of a port. -/
def State.nodeIds (s : State) (p : Nat) : List Nat := List.range (min 32 (s.fld (Reg.TRK_PLCA p) F.TRK_PLCA_NCNT - 2))

/-- Missed cycles are counted per node ID, for the IDs that were not heard (R263). -/
def State.countMissed (s : State) (p heard : Nat) : State :=
  let t := (s.setPort p { s.port p with heard := 0 }).wrN (Reg.TRK_NODEMAP p) heard
  (s.nodeIds p).foldl (fun (t : State) i => if bitOf heard i then t.setF (Reg.TRK_NODEMISS p i) F.TRK_NODEMISS_CONSEC 0 else t.missedCycle p i) t

/-- The nodes whose roll-call REPORT has not come have missed the delivery of what the POUR frame of a sequence named (R299). -/
def State.missedReports (s : State) (p : Nat) (pour : Option Nat) : State :=
  (s.nodeIds p).foldl (fun (t : State) i =>
    let n := 32 * p + i
    let y := t.cznNode n
    if y.reported then t.setCznNode n { y with reported := false }
    else if y.state = 3 && pour.isSome && y.sentSeq == pour then t.missed n [] true else t) s

/-- The tick that ends at a port: with PLCA off it is the cycle of R263; on a disabled port every node in service misses it (R263, R275). -/
def State.tickMissed (s : State) (p : Nat) : State :=
  if !s.trkOn p then
    (s.czn.nodes.filter fun e => nodePort e.1 == p && decide (1 ≤ e.2.state ∧ e.2.state ≤ 4)).foldl (fun (t : State) e => t.missedCycle p (e.1 % 32)) s
  else if s.portRole p = 3 then s.countMissed p (s.port p).heard
  else s

/-- The ports at a tick boundary: missed cycles that count by the tick (R263); a port without a gate cycle starts one; after a change of the tick its list is checked and its
cycle starts afresh (R267, R268). -/
def State.tickGates (s : State) (t0 oldTick : Nat) : State :=
  let k := s.lamp.tick
  let start := match s.lamp.next with | some n => if n = t0 + ms k then t0 else n | none => t0
  (List.range 64).foldl (fun (t : State) p =>
    let t := t.tickMissed p
    if k ≠ oldTick then
      let t := t.setPort p { t.port p with nextAt := none, mask := 0, close := 0 }
      let t := t.checkGates p k
      t.setPort p { t.port p with nextE := 0, nextAt := some start }
    else if (t.port p).nextAt.isNone && !(t.portRole p == 0) then t.setPort p { t.port p with nextE := 0, nextAt := some t0 }
    else t) s

/-- TICK_BOUNDARY (R227, R285, R306). -/
def execTickBoundary (s : State) : Answer :=
  match s.lamp.next with
  | none => .next s
  | some t0 =>
    if !s.lampRuns || s.now < t0 || s.handPending t0 then .next s
    else
      let s := s.endSwitch
      let k := s.lamp.tick
      let t := s.lampTick t0
      let t := t.tickGates t0 k
      .next (if t.leads then
        let t := t.latchImages.tickOutputs
        if t.counterHigh then t.startRekey else t
      else t)

/-! ### Moulds (R241, R269, R295) -/

/-- The entry of a channel as a frame carries it (R241). -/
def entryBytes (l c : Nat) (y : LampEntry) : List Byte := be 1 (bit y.probe * 64 + l % 16 * 4 + c) ++ be 1 y.ramp ++ be 2 y.word

/-- A node's entries that no frame has carried for a pour. -/
def State.sectionOf (s : State) (n seq : Nat) : List (List Byte) :=
  (s.nodeLums n).flatMap fun e => e.2.channels.flatMap fun c =>
    match (s.chan e.1 c).pend with
    | some y => if y.sent = some seq then [] else [entryBytes e.1 c y]
    | none => []

/-- A frame has carried a node's entries for a pour. -/
def State.markSent (s : State) (n seq : Nat) : State :=
  let t := (s.nodeLums n).foldl (fun (t : State) e => e.2.channels.foldl (fun (t : State) c =>
    match (t.chan e.1 c).pend with
    | some y => t.setChan e.1 c { t.chan e.1 c with pend := some { y with sent := some seq } }
    | none => t) t) s
  let t := t.setCznNode n { t.cznNode n with sentSeq := some seq }
  let x := t.port (nodePort n)
  t.setPort (nodePort n) { x with maskSeq := seq, nodeMask := putBits (if x.maskSeq = seq then x.nodeMask else 0) (n % 32) 1 1 }

/-- Where the release of moulds stands: the state, the sections of the frame being filled with their nodes, and whether the entry has no more room. -/
structure Moulds where
  s : State
  nodes : List Nat
  bytes : List Byte
  full : Bool

/-- Send the frame being filled (R295). -/
def Moulds.flush (m : Moulds) (p seq : Nat) : Moulds :=
  if m.nodes.isEmpty || m.full then m
  else
    let body := be 4 seq ++ be 1 m.nodes.length ++ [0] ++ m.bytes
    let at_ := m.s.mediumAt p false
    if m.s.fits p at_ (cznFrameLen 3 body.length) then
      { s := m.nodes.foldl (fun (t : State) n => t.markSent n seq) (m.s.nextFree.sendGroup p Gate.mould 0x10 at_ body), nodes := [], bytes := [], full := false }
    else { m with s := m.s.bump (Reg.TRK_TXLATE p), full := true }

/-- Send one part of a reseat image (R306). -/
def Moulds.part (m : Moulds) (p seq n : Nat) (body : List Byte) : Moulds :=
  if m.full then m
  else
    let at_ := m.s.mediumAt p false
    if m.s.fits p at_ (cznFrameLen (m.s.cznNode n).ver body.length) then
      let t := m.s.nextFree.sendNode p Gate.mould at_ n 0x12 0 none 1 body []
      let x := t.cznNode n
      let t := t.setCznNode n { x with parts := x.parts.drop 1 }
      { m with s := if x.parts.length ≤ 1 then t.markSent n seq else t }
    else { m with s := m.s.bump (Reg.TRK_TXLATE p), full := true }

/-- The mould of a node is ready: its channels have been evaluated (R243). -/
def State.mouldReady (s : State) (n : Nat) : Bool := (s.nodeLums n).all fun e => s.evaluated e.1

/-- One node of the trunk, in ascending order: its section, or its reseat image. -/
def Moulds.node (m : Moulds) (p seq n : Nat) : Moulds :=
  if m.full || !m.s.mouldReady n then m
  else
    let x := m.s.cznNode n
    if x.state = 2 && x.reseatSeq = some seq && !x.parts.isEmpty then
      x.parts.foldl (fun (m : Moulds) b => m.part p seq n b) (m.flush p seq)
    else if x.state = 3 || x.state = 4 then
      let es := m.s.sectionOf n seq
      let sec := be 1 (nodePlca n) ++ be 1 es.length ++ es.flatten
      let room := m.s.bodyRoom p 3 - 6
      if es.isEmpty || room < sec.length then m
      else
        let m := if room < m.bytes.length + sec.length then m.flush p seq else m
        if m.full then m else { m with nodes := m.nodes ++ [n], bytes := m.bytes ++ sec }
    else m

/-- Release the moulds of a trunk that are ready into the MOULD entry that is open (R243, R269). -/
def State.releaseMoulds (s : State) (p : Nat) : State :=
  if s.canSend p && decide (s.now < (s.port p).close) && bitOf (s.port p).mask Gate.mould && s.lampRuns then
    let seq := s.lamp.seq
    let m : Moulds := { s := s, nodes := [], bytes := [], full := false }
    (((List.range 32).foldl (fun m i => m.node p seq (32 * p + i)) m).flush p seq).s
  else s

/-- LAMP_EVALUATION_END: the moulds are ready, and those whose MOULD entry is open leave (R243). -/
def execLampEvaluationEnd (us : Nat) (s : State) : Answer :=
  .next (if s.lamp.evaluating then (List.range 64).foldl (fun (t : State) p => t.releaseMoulds p) (s.evalEnd us) else s)

/-! ### The POUR frame (R244, R285, R296) -/

/-- The node table entries of a trunk. -/
def State.portEntries (s : State) (p : Nat) : List CznEntry := s.cfg.czn.nodes.filter fun e => e.n / 32 == p

/-- A value that POUR gives all nodes of a trunk: theirs where they agree; no rule says which where they differ. -/
def State.common (s : State) (vs : List Nat) (w : Nat) : Nat :=
  match vs with
  | [] => (Config.freeWord s.free).toNat % 2 ^ w
  | v :: r => if r.all (· == v) then v else (Config.freeWord s.free).toNat % 2 ^ w

/-- The body of POUR for the pour of a sequence at an instant (R296). -/
def State.pourBody (s : State) (p e at_ seq pour : Nat) : List Byte :=
  let x := s.port p
  let next := pour + ms s.lamp.tick
  let lead := s.fld (Reg.TRK_POURWIN p) F.TRK_POURWIN_LEAD
  let q := (s.nextPourEntry p e at_).getD (next, 0)
  let es := s.portEntries p
  let ann := s.keyPhase == 2 || (s.keyPhase == 3 && s.rdN Reg.TRK_CZNSWITCH == seq)
  be 8 (s.stampAt pour) ++ be 2 (s.extAt pour) ++ be 2 s.lamp.tick ++ be 4 seq ++ be 1 (bit s.lamp.emerg + 2 * bit ann)
    ++ be 1 (if ann then s.keyNext else 0) ++ be 2 (s.common (es.map (·.reportLen)) 16) ++ be 4 (if x.maskSeq = seq then x.nodeMask else 0)
    ++ be 4 ((next - q.1) / 1000 + lead) ++ be 4 (lead + q.2) ++ be 4 (s.common (es.map (·.hold)) 32)
    ++ be 4 (if ann then s.rdN Reg.TRK_CZNSWITCH else 0) ++ be 8 (s.stampAt next) ++ be 2 (s.extAt next) ++ [0, 0]

/-- The POUR frame that an open POUR entry is to carry starts, where the port sends and the frame ends before the entry closes (R244, R269). -/
def State.sendPour (s : State) (p : Nat) : State :=
  match (s.port p).pourDue with
  | none => s
  | some (pour, seq) =>
    let start := s.mediumAt p true
    if s.canSend p && decide (s.now < (s.port p).close) && s.endsInEntry p start 96 then
      let t := s.portSwitch p seq
      let body := t.pourBody p (t.port p).entry (t.openedAt p) seq pour
      let u := t.nextFree.sendGroup p Gate.pour 0x11 start body
      (u.wrN Reg.LMP_POURSEQ seq).setPort p { u.port p with pourFor := some seq, pourDue := none }
    else s.nextFree

/-- The POUR entry opens: entries that no frame has carried stay pending, and the POUR frame goes out as soon as the port sends (R243, R244, R269). -/
def State.pourEntryOpens (s : State) (p : Nat) : State :=
  match s.lamp.pours.getLast? with
  | none => s
  | some (pour, seq) =>
    let t := s.lateEntries seq fun n => n / 32 == p && !((s.cznNode n).reseatSeq == some seq && (s.cznNode n).parts.isEmpty)
    (t.setPort p { t.port p with pourDue := some (pour, seq) }).sendPour p

/-- The POUR entry closes: a POUR frame that has not started is missed (R269). -/
def State.pourEntryCloses (s : State) (p : Nat) : State :=
  match (s.port p).pourDue with
  | none => s
  | some (pour, _) =>
    let t := s.setPort p { s.port p with pourDue := none }
    if t.sendsCarzon then (t.bump (Reg.TRK_POURMISS p)).event 0x0D03 1 p (le 1 p ++ le 8 (t.stampAt pour)) else t

/-- GATE_ENTRY_START: the entry due opens; moulds, the POUR frame and the frames that wait start as it admits them. A new list takes effect with
entry 0; the end of a POUR entry begins the roll call (R263, R267 to R269). -/
def execGateEntryStart (p : Nat) (s : State) : Answer :=
  match (s.port p).nextAt with
  | none => .next s
  | some at_ =>
    if 64 ≤ p || s.now < at_ || s.portRole p = 0 || !s.lampRuns then .next s
    else
      let call := (s.port p).mask == 1
      let s := if call then s.pourEntryCloses p else s
      let x := s.port p
      let x := match (if x.nextE = 0 then x.fresh else none) with | some f => { x with gates := f.1, fallback := f.2, fresh := none } | none => x
      let sp := (x.gates.spans s.lamp.tick).getD x.nextE (0, 0, 0)
      let close := at_ + (sp.2.1 - sp.1) * 1000
      let e := x.nextE
      let s := if e = 0 then s.finishAll (fun w => w.kind == .trkGates p) St.ok 0 0 else s
      let x := { x with entry := e, mask := sp.2.2, close := close, nextE := (e + 1) % max 1 x.gates.entries.length, nextAt := some close
                        rollCall := call || x.rollCall, heard := if call && s.plcaOn p then 0 else x.heard }
      let t := s.setPort p x
      let t := if x.mask = 1 && t.sendsCarzon then t.pourEntryOpens p else t
      .next (if !t.canSend p then t else (if bitOf x.mask Gate.mould then t.evalLate.releaseMoulds p else t).pump p)

/-! ### PLCA (R259 to R263) -/

/-- A port's PLCA role changed: recorded (R277). -/
def State.portStateEvent (s : State) (p : Nat) : State := s.event 0x0D04 0 p (le 1 p ++ le 1 (bit (s.trkOn p)) ++ le 1 (s.portRole p))

/-- The first beacon of a coordinator; a POUR frame that waited for it starts. -/
def State.beaconStart (s : State) (p : Nat) : State :=
  (((s.setPort p { s.port p with beacons := true, listen := none }).emit (.plca p)).portStateEvent p).sendPour p

/-- COORDINATOR_LISTEN_END: no beacon heard for 2 × (node count × timer + 20) bit times (R261). -/
def execCoordinatorListenEnd (p : Nat) (s : State) : Answer :=
  let x := s.port p
  let wait := 2 * (s.fld (Reg.TRK_PLCA p) F.TRK_PLCA_NCNT * s.fld (Reg.TRK_PLCA p) F.TRK_PLCA_TO_TIMER + 20) * 100
  .next (match x.listen with
    | some t => if p < 64 && s.sendsCarzon && s.portRole p == 2 && decide (t + wait ≤ s.now) then s.beaconStart p else s
    | none => s)

/-- SEEDING_LISTEN_END: a SEEDING port that has heard no beacon for LISTEN ms coordinates (R259); until the role is settled trunks only receive (R54). -/
def execSeedingListenEnd (p : Nat) (s : State) : Answer :=
  .next (match (s.port p).listen with
    | some t => if p < 64 && s.role == .seeding && s.sup.roleSettled && !s.defaulted && s.portRole p == 2 && decide (t + ms (s.fld (Reg.TRK_PLCA2 p) F.TRK_PLCA2_LISTEN) ≤ s.now)
      then s.beaconStart p else s
    | none => s)

/-- FOREIGN_BEACON: a beacon that the port did not send (R261). A port that listens starts its listening afresh. -/
def execForeignBeacon (p : Nat) (s : State) : Answer :=
  if 64 ≤ p || s.portRole p = 0 then .next s
  else
    let x := s.port p
    let x := { x with heardAt := s.now :: (x.heardAt.filter fun t => decide (s.now < t + 1000000)), listen := x.listen.map fun _ => s.now }
    let t := s.setPort p x
    if s.portRole p ≠ 1 then .next t
    else
      let t := t.bumpSat (Reg.TRK_STATUS p) F.TRK_STATUS_DUALCOORD
      let recent := s.lately x.foreign
      let said := s.mayRecord x.foreignAt
      let t := t.setPort p { x with foreign := recent, foreignAt := if said then some s.now else x.foreignAt }
      let t := if said then t.event 0x0D01 2 p (le 1 p ++ le 1 s.role.code ++ le 2 (min 65535 recent.length)) else t
      .next (if s.role == .seeding then (t.setPort p { t.port p with beacons := false, listen := some s.now }).portStateEvent p else t)

/-- ROLL_CALL_CYCLE_END: a node whose roll-call REPORT has not come has missed the delivery of the entries sent to it (R299); under PLCA, missed cycles are counted per
node ID (R263). -/
def execRollCallCycleEnd (p : Nat) (s : State) : Answer :=
  let x := s.port p
  if 64 ≤ p || !x.rollCall then .next s
  else
    let t := (s.setPort p { x with rollCall := false }).missedReports p x.pourFor
    .next (if t.plcaOn p then t.countMissed p x.heard else t)

/-! ### The receive path (R264) -/

/-- The frame as the port keeps it: cut at MAXLEN. -/
def State.keptFrame (s : State) (f : TrunkFrame) : List Byte := f.bytes.take (s.fld (Reg.TRK_CTL f.port) F.TRK_CTL_MAXLEN)

/-- The frame is longer than MAXLEN: it is marked TRUNC. -/
def State.truncated (s : State) (f : TrunkFrame) : Bool := decide (s.fld (Reg.TRK_CTL f.port) F.TRK_CTL_MAXLEN < f.bytes.length)

/-- The destination passes the filter: a valid entry, or broadcast while BCAST is 1. -/
def State.destOk (s : State) (f : TrunkFrame) : Bool :=
  let d := f.bytes.take 6
  (List.range 8).any (fun i => s.addrMatch (Reg.TRK_ADDRLO f.port i) (Reg.TRK_ADDRHI f.port i) d)
    || (d == List.replicate 6 (0xFF : Byte) && s.flag (Reg.TRK_CTL f.port) F.TRK_CTL_BCAST)

/-- The frame passes every check of R264 and reaches the Carzon engine whole. -/
def State.reachesCarzon (s : State) (f : TrunkFrame) : Bool :=
  decide (f.port < 64) && s.portRole f.port != 0 && f.room && (s.truncated f || (f.fcsOk && decide (64 ≤ f.bytes.length))) && s.destOk f
    && fieldBe f.bytes 12 2 == s.trkEtype

/-- The node number of a frame's transmit opportunity; with PLCA off, of its learnt MAC address (R260, R286). -/
def State.frameNode (s : State) (f : TrunkFrame) : Option Nat :=
  if s.plcaOn f.port then (if 2 ≤ f.plcaId && f.plcaId < 34 then some (32 * f.port + f.plcaId - 2) else none)
  else (s.czn.nodes.find? fun e => nodePort e.1 == f.port && !e.2.mac.isEmpty && e.2.mac == slice f.bytes 6 6).map (·.1)

/-- A frame with a valid FCS has come from a node: the roll call hears it (R263). -/
def State.hearNode (s : State) (f : TrunkFrame) : State :=
  match s.frameNode f with
  | some n => s.setPort f.port { s.port f.port with heard := putBits (s.port f.port).heard (n % 32) 1 1 }
  | none => s

/-- A Carzon frame fails its form or sender check (R286): counted, with CAP_REJ copied. -/
def State.cznReject (s : State) (f : TrunkFrame) (reason : Nat) : State :=
  let t := s.bump (if reason = 5 then Reg.TRK_CZNAUTH f.port else Reg.TRK_CZNREJ f.port)
  if t.flag Reg.TRK_CZNCFG F.TRK_CZNCFG_CAP_REJ then t.post9 f.port f.plcaId reason (t.stampAt (t.rxAt f.port)) (s.keptFrame f) f.bytes else t

/-- The types a frame may have (R281). -/
def cznTypes : List Nat := [0x01, 0x02, 0x03, 0x08, 0x10, 0x11, 0x12, 0x18, 0x20, 0x30, 0x31, 0x32]

/-- The form check of R286. -/
def State.formOk (s : State) (f : TrunkFrame) : Bool :=
  let ver := fieldBe f.bytes 14 1
  !s.truncated f && (ver == 2 || ver == 3) && cznTypes.contains (fieldBe f.bytes 15 1) && decide (fieldBe f.bytes 16 1 < 2)
    && decide (32 + fieldBe f.bytes 30 2 + micLen ver + 4 ≤ f.bytes.length)

/-- TRUNK_FRAME_RECEIVED (R264). HELLO, ACK, REPORT and DELAY_REQ frames go on by rows of their own; what the Carzon engine discards at the form check, and
every other type, whose sender is no admitted node, is discarded here. -/
def execTrunkFrameReceived (f : TrunkFrame) (s : State) : Answer :=
  let p := f.port
  if 64 ≤ p || s.portRole p = 0 then .next s
  else if !f.room || s.pausing then .next (s.bump (Reg.TRK_RXDROP p))
  else if !s.truncated f && (!f.fcsOk || f.bytes.length < 64) then .next (s.bump (Reg.TRK_RXFCS p))
  else
    let st := s.stampAt (s.rxAt p)
    let t := if s.truncated f then s.bump (Reg.TRK_RXTRUNC p) else (s.bump (Reg.TRK_RXFRAMES p)).hearNode f
    let t := if t.flag (Reg.TRK_CTL p) F.TRK_CTL_CAP_ALL then t.post9 p f.plcaId 2 st (s.keptFrame f) f.bytes else t
    if !s.destOk f then .next (t.bump (Reg.TRK_RXFILTER p))
    else if fieldBe f.bytes 12 2 ≠ s.trkEtype then
      .next (if t.flag (Reg.TRK_CTL p) F.TRK_CTL_CAP_FOREIGN then t.post9 p f.plcaId 1 st (s.keptFrame f) f.bytes else t.bump (Reg.TRK_RXFILTER p))
    else if !s.formOk f then .next (t.cznReject f 3)
    else if [0x01, 0x08, 0x20, 0x31].contains (fieldBe f.bytes 15 1) then .next t
    else .next (t.cznReject f 4)

/-! ### Commands (R275) -/

/-- TRK_SEND (R275): one second for a MGMT entry. -/
def execTrkSend (e : CmdEntry) (s : State) : Answer :=
  runCmd Op.trkSend (.trkSend e) e (fun g s =>
    let p := e.param 0 1
    if s.defaulted then .stat St.defaulted s
    else if 63 < p || e.bufOut then .stat St.badFormat s
    else if !s.sendsCarzon || fieldBe e.buf 12 2 = s.trkEtype then .stat St.refused s
    else if !s.trkOn p then .stat St.portDown s
    else if e.bufLen.toNat < 60 || s.fld (Reg.TRK_CTL p) F.TRK_CTL_MAXLEN < e.bufLen.toNat + 4 then .stat St.frameSize s
    else
      let f : TxFrame := { cls := Gate.mgmt, kind := .host (e.buf.take e.bufLen.toNat) g }
      if s.startsNow p f then
        let st := s.stampAt (s.txAt p (s.mediumAt p false))
        .okWith (st % 2 ^ 32) (st / 2 ^ 32) (s.nextFree.startFrame p (s.mediumAt p false) f)
      else .wait (.trkSend p (s.now + secs 1)) (s.await p f)) s

/-- TRK_SEND_TIMEOUT: no MGMT entry has admitted the frame within 1 s; it is not sent (R275). -/
def execTrkSendTimeout (p : Nat) (s : State) : Answer :=
  let late := s.waits.filter fun w => match w.kind with | .trkSend q u => q == p && decide (u ≤ s.now) | _ => false
  .next (late.foldl (fun (t : State) w =>
    let x := t.port p
    (t.setPort p { x with queue := x.queue.filter fun f => match f.kind with | .host _ g => g ≠ w.tag | _ => true }).finish w St.timeout 0 0) s)

/-- Enable or disable a port (R275): a disabled port is high-impedance at once, what waits on it stays, and it listens anew when it is enabled. -/
def State.setPortOn (s : State) (p : Nat) (on : Bool) : State :=
  if s.trkOn p == on then s
  else
    let t := s.setF (Reg.TRK_CTL p) F.TRK_CTL_ENABLE (bit on)
    let x := t.port p
    let t := t.setPort p (if on then { x with listen := some t.now } else { x with beacons := false, listen := none, nextAt := none, mask := 0, close := 0, rollCall := false })
    t.portStateEvent p

/-- TRK_PORT (R275). -/
def execTrkPort (e : CmdEntry) (s : State) : Answer :=
  runCmd Op.trkPort (.trkPort e) e (fun _ s =>
    let p := e.param 0 1
    if s.defaulted then .stat St.defaulted s
    else if 63 < p then .stat St.badFormat s
    else s.freeRegs [Reg.TRK_CTL p] (.stat St.ok (s.setPortOn p (e.param 1 1 == 1)))) s

/-- A gate list of a buffer. -/
def gatesOf (mult : Nat) (b : List Byte) : GateList :=
  { mult := mult, entries := (List.range (b.length / 4)).map fun i => (bitsOf (fieldLe b (4 * i) 4) 0 20, bitsOf (fieldLe b (4 * i) 4) 24 5) }

/-- Reserved bits of the entries are 0. -/
def gatesClean (b : List Byte) : Bool := (List.range (b.length / 4)).all fun i => bitsOf (fieldLe b (4 * i) 4) 20 4 == 0 && bitsOf (fieldLe b (4 * i) 4) 29 3 == 0

/-- The registers that a list occupies. -/
def gateRegsOf (p : Nat) (g : GateList) : List Nat := Reg.TRK_GATECTL p :: (List.range g.entries.length).map (Reg.TRK_GATE p ·)

/-- TRK_GATES (R268, R275). -/
def execTrkGates (e : CmdEntry) (s : State) : Answer :=
  runCmd Op.trkGates (.trkGates e) e (fun _ s =>
    let p := e.param 0 1
    let b := e.buf.take e.bufLen.toNat
    if e.txn = 0 && s.defaulted then .stat St.defaulted s
    else if 63 < p || e.bufOut || b.length % 4 ≠ 0 || b.isEmpty || !gatesClean b then .stat St.badFormat s
    else
      let g := gatesOf (e.param 1 1) b
      let c := Change.table (.gates p) 0 (be 1 g.mult ++ b)
      if !g.ok s.lamp.tick then .stat St.gateInvalid s
      else match s.txnOf e.txn.toNat with
        | some k => s.stageChanges k [c] 0
        | none =>
          if s.conflicts none (c.targets ++ (gateRegsOf p g).map .reg) then Res.conflict s
          else
            let t := (s.writeGates p g).useGates p g false
            if (t.port p).fresh.isSome then .wait (.trkGates p) t else .stat St.ok t) s

/-- GATECTL_WRITE: a direct write of TRK[p]_GATECTL or TRK[p]_GATE[e] is checked with the list (R268). -/
def State.setGatectl (s : State) (p : Nat) (entry : Option Nat) (v : Word) : State :=
  match entry with
    | none => (s.setF (Reg.TRK_GATECTL p) F.TRK_GATECTL_MULT (F.TRK_GATECTL_MULT.get v)).setF (Reg.TRK_GATECTL p) F.TRK_GATECTL_LEN (F.TRK_GATECTL_LEN.get v)
    | some i => if i < 64 then
        (s.setF (Reg.TRK_GATE p i) F.TRK_GATE_DUR (F.TRK_GATE_DUR.get v)).setF (Reg.TRK_GATE p i) F.TRK_GATE_MASK (F.TRK_GATE_MASK.get v) else s

/-- A write of TRK[p]_GATECTL or one of its entries by itself: the list it leaves is judged (R268). -/
def State.writeGatectl (s : State) (p : Nat) (entry : Option Nat) (v : Word) : State := (s.setGatectl p entry v).checkGates p s.lamp.tick

/-! ### Gigabit ports (R272, R273, R277) -/

/-- Transmission of a gigabit port resumes: what waited leaves in order, messages that carry their own transmit time take it anew. -/
def State.ethResume (s : State) (g : Nat) : State :=
  let q := (s.eth g).queue
  let t := (s.setEth g { s.eth g with pausedTo := none, queue := [] }).setF (Reg.ETH_STATUS g) F.ETH_STATUS_PAUSED 0
  q.foldl (fun (t : State) o => t.ethOut g (match o with | .ptp p k u => if k = 4 || k = 6 then o else .ptp p k (t.ethTx g) | _ => o)) t

/-- PAUSE_FRAME_RECEIVED: transmission stops for the quanta of 512 ns, at most CAP_US (R273). -/
def execPauseFrameReceived (g quanta : Nat) (s : State) : Answer :=
  if 2 ≤ g || 65535 < quanta || !s.flag (Reg.ETH_CTL g) F.ETH_CTL_ENABLE || !s.flag (Reg.ETH_STATUS g) F.ETH_STATUS_LINK then .next s
  else
    let t := s.bump (Reg.ETH_RXFRAMES g)
    if !t.flag (Reg.ETH_PAUSE g) F.ETH_PAUSE_RX_EN then .next t
    else
      let cap := t.fld (Reg.ETH_PAUSE g) F.ETH_PAUSE_CAP_US
      let capped := cap != 0 && decide (cap * 1000 < quanta * 512)
      let stop := if capped then cap * 1000 else quanta * 512
      let t := if capped then t.bump (Reg.ETH_PAUSECAPPED g) else t
      let due := match (t.eth g).cappedAt with | some a => decide (a + secs 1 ≤ t.now) | none => true
      let t := if capped && due then (t.setEth g { t.eth g with cappedAt := some t.now }).event 0x0E01 1 g (le 1 g ++ le 2 quanta) else t
      .next (if stop = 0 then t.ethResume g
        else (t.setEth g { t.eth g with pausedTo := some (t.now + stop) }).setF (Reg.ETH_STATUS g) F.ETH_STATUS_PAUSED 1)

/-- PAUSE_QUANTA_END (R273). -/
def execPauseQuantaEnd (g : Nat) (s : State) : Answer :=
  .next (match (s.eth g).pausedTo with
    | some t => if g < 2 && decide (t ≤ s.now) then s.ethResume g else s
    | none => s)

/-- LINK_CHANGE (R272, R277): with the link down nothing waits to be sent. A port in its reset state takes no link (R49). -/
def execLinkChange (g : Nat) (up : Bool) (s : State) : Answer :=
  .next (if 2 ≤ g || (up && s.linkOff) || s.flag (Reg.ETH_STATUS g) F.ETH_STATUS_LINK == up then s
    else
      let t := s.setF (Reg.ETH_STATUS g) F.ETH_STATUS_LINK (bit up)
      let t := if up then t else (t.setEth g { t.eth g with pausedTo := none, queue := [] }).setF (Reg.ETH_STATUS g) F.ETH_STATUS_PAUSED 0
      t.event 0x0E02 0 g (le 1 g ++ le 1 (bit up)))

end Sys2Proof.Machine
end

