-- ==== Sys2Proof/Machine/Czn.lean ====
section
/-!
DEFINITION. The Carzon engine's receiving side (R286 to R292, R298 to R302, R305 to R307) and its commands (R310).
-/
set_option linter.unusedVariables false
namespace Sys2Proof.Machine

/-! ### Receiving (R286, R287) -/

/-- A Carzon frame whose MIC has verified. -/
structure CznIn where
  node : Nat
  ver : Nat
  ackReq : Bool
  kcls : Nat
  /-- Full generation of a unicast key; the generation bits of a discovery frame. -/
  gen : Nat
  counter : Nat
  claim : Nat
  body : List Byte
  deriving DecidableEq, Repr

/-- Generations whose frames are accepted (R285). -/
def State.heldGens (s : State) : List Nat :=
  s.keyGen :: (if s.keyPhase = 2 then [s.keyNext] else if s.keyPhase = 3 then [(s.keyGen + 255) % 256] else [])

/-- A frame fails at key or MIC: counted, recorded at most once per second and port, attributed to the node of its transmit opportunity (R286, R308, R312). -/
def State.authFailed (s : State) (f : TrunkFrame) : State :=
  let t := s.cznReject f 5
  let x := t.port f.port
  let recent := t.lately x.auth
  let said := t.mayRecord x.authAt
  let t := t.setPort f.port { x with auth := recent, authAt := if said then some t.now else x.authAt }
  let t := if said then t.event 0x0D14 1 f.port (le 1 f.port ++ le 2 (min 65535 recent.length)) else t
  match (s.frameNode f).filter fun n => (s.cfg.cznEntry n).isSome with
  | some n => (t.setCznNode n { t.cznNode n with authFail := addMod32 (t.cznNode n).authFail 1 }).showNode n
  | none => t

/-- The sender check of R286 for a node's frame. A module that has not admitted nodes itself takes the node table. -/
def State.senderOk (s : State) (f : TrunkFrame) (n ver : Nat) : Bool :=
  let x := s.cznNode n
  s.frameNode f == some n && (s.cfg.cznEntry n).isSome && (x.admitted || !s.leads) && (x.version == ver || (x.version == 0 && !s.leads))

/-- Read, check and open a frame of one type (R286 up to the MIC check); HELLO is read on its own. -/
def State.openFrame (s : State) (f : TrunkFrame) (typ : Nat) : State × Option CznIn :=
  let b := f.bytes
  if !s.reachesCarzon f || !s.formOk f || fieldBe b 15 1 ≠ typ then (s, none)
  else
    let ver := fieldBe b 14 1
    let n := fieldBe b 18 2
    if 2048 ≤ n || !s.senderOk f n ver then (s.cznReject f 4, none)
    else
      let sel := fieldBe b 17 1
      let kcls := sel / 16
      let gen := if kcls = 2 && typ = 0x08 then some (sel % 16) else if kcls = 0 then s.heldGens.find? fun g => g % 16 == sel % 16 else none
      match gen, s.cfg.cznEntry n with
      | some g, some e =>
        match s.nodeKey n kcls g with
        | none => (s.authFailed f, none)
        | some key =>
          let len := fieldBe b 30 2
          match cznOpen ver key e.uid (fieldBe b 22 4) f.port typ len (slice b 14 18) (slice b 32 (len + micLen ver)) with
          | none => (s.authFailed f, none)
          | some body =>
            (s, some { node := n, ver := ver, ackReq := bitOf (fieldBe b 16 1) 0, kcls := kcls, gen := g, counter := fieldBe b 22 4, claim := fieldBe b 26 4, body := body })
      | _, _ => (s.authFailed f, none)

/-- ACK of a node's frame (R281, R288). -/
def State.ackFrame (s : State) (c : CznIn) (typ status : Nat) : State :=
  if c.ackReq && s.sendsCarzon then s.toNode c.node 0x08 c.kcls (some c.gen) 0 (be 4 c.counter ++ be 1 typ ++ be 1 status ++ [0, 0]) [] else s

/-- An authenticated frame of a node has come (R160, R305, R307): a silent node returns, a STALE one by its roll-call frame. -/
def State.nodeHeard (s : State) (f : TrunkFrame) (n counter : Nat) : State :=
  let x := s.cznNode n
  let t := s.setCznNode n { x with lastHeard := s.now, lastStamp := s.stampAt (s.rxAt f.port), hiCounter := max x.hiCounter counter }
  if x.state = 5 then (if t.leads then t.reseat n 2 else t.nodeState n 2)
  else if x.state = 4 && (t.port f.port).rollCall then t.nodeState n 3
  else t

/-- The window check and the claim a node echoes (R286, R287, R289): what is left to apply. -/
def State.takeFrame (s : State) (f : TrunkFrame) (typ : Nat) : State × Option CznIn :=
  match s.openFrame f typ with
  | (t, none) => (t, none)
  | (t, some c) =>
    let x := t.cznNode c.node
    let r := acceptCounter x.windows (c.kcls == 2) c.gen c.counter
    match r.1 with
    | .old => (t.bump (Reg.TRK_CZNOLD f.port), none)
    | .repeat_ =>
      let t := (t.bump (Reg.TRK_CZNREPEAT f.port)).nodeHeard f c.node c.counter
      let t := t.setCznNode c.node { t.cznNode c.node with repeats := addMod32 (t.cznNode c.node).repeats 1 }
      ((t.showNode c.node).ackFrame c typ 1, none)
    | .new => (((t.setCznNode c.node { x with windows := r.2 }).nodeHeard f c.node c.counter).claimHigher c.node c.claim, some c)

/-- A body out of range (R286, R288). -/
def State.badContent (s : State) (f : TrunkFrame) (c : CznIn) (typ : Nat) : State := (s.bump (Reg.TRK_CZNREJ f.port)).ackFrame c typ 2

/-! ### Discovery (R290 to R292) -/

/-- The fallback word of a channel: the entry's level through curve, bin and maintenance, without dither and derating (R292). -/
def State.fallbackWord (s : State) (n level u c : Nat) : Nat :=
  let l := 16 * n + u
  match s.cfg.lum l with
  | none => 0
  | some r =>
    if !bitOf r.fitted c then 0
    else
      let tun := r.mode == 1 && decide (c < 2)
      let curve := if tun then s.valN (lumAddr l 6) else s.valN (chanAddr l c 2)
      let y : Rat := (s.cfg.lamp.curve curve level : Rat) / (2 ^ 24 : Nat)
      let share : Rat := if tun then s.cfg.lamp.mix r c (s.cfg.lamp.cctMired r (s.valN (lumAddr l 1))) else 1
      let dm := y * share * r.fluxRef / (s.cfg.lamp.bin (r.bins.getD c 0)).1 / s.lumMaint l r
      let wmax : Nat := 2 ^ s.wordWidth n - 1
      (quantN ((if 1 < dm then 1 else dm) * (wmax : Rat) * 256) + 128) / 256

/-- The body of WELCOME (R292). -/
def State.welcomeBody (s : State) (n : Nat) (e : CznEntry) : List Byte :=
  let x := s.cznNode n
  be 8 s.uid ++ be 8 e.uid ++ be 8 (if s.paired then s.cfg.rdn.peerUid else 0) ++ be 2 n ++ be 1 (nodePort n) ++ be 1 x.version ++ be 1 (s.portGen (nodePort n))
    ++ be 1 (s.wordWidth n) ++ be 2 e.reportLen ++ be 4 e.hold ++ be 1 (4 * x.lums) ++ [0, 0, 0]
    ++ (List.range (4 * x.lums)).flatMap fun k => be 2 (s.fallbackWord n e.fallback (k / 4) (k % 4))

/-- A node is refused (R291, R307): recorded. A node in service stays there. -/
def State.refuseNode (s : State) (p id reason uid : Nat) : State :=
  let n := 32 * p + id - 2
  let t := s.event 0x0D11 1 noInst (le 1 p ++ le 1 id ++ le 1 reason ++ le 8 uid)
  let st := (t.cznNode n).state
  if 2 ≤ id && id < 34 && (t.cfg.cznEntry n).isSome && (st = 0 || st = 6 || reason = 3) then t.nodeState n 6 else t

/-- The node's body of HELLO is in range (R290). -/
def helloOk (b : List Byte) : Bool :=
  b.length == 28 && decide (2 ≤ fieldBe b 9 1 ∧ fieldBe b 9 1 ≤ 33) && decide (fieldBe b 10 1 ≤ 16) && decide (8 ≤ fieldBe b 11 1 ∧ fieldBe b 11 1 ≤ 16) && fieldBe b 14 2 == 0 && decide (fieldBe b 24 1 < 2)
    && allZero (slice b 25 3)

/-- The version both sides may use (R291); 0 for none. -/
def State.commonVersion (s : State) (e : CznEntry) (versions : Nat) : Nat :=
  if bitOf versions 3 then 3
  else if bitOf versions 2 && s.flag Reg.TRK_CZNCFG F.TRK_CZNCFG_V2_EN && e.minVersion = 2 then 2 else 0

/-- Admit a node (R291, R292). -/
def State.admitNode (s : State) (n ver : Nat) (e : CznEntry) (key mac : List Byte) (ws : List CznWindow) (counter stamp : Nat) (b : List Byte) : State :=
  let x := s.cznNode n
  let y : CznNode := { x with
    state := 1, version := ver, maxWidth := fieldBe b 11 1, tMeas := fieldBe b 12 2, pwm := fieldBe b 16 4, lums := fieldBe b 10 1, key := key, windows := ws
    hiCounter := max x.hiCounter counter, lastHeard := s.now, lastStamp := stamp, unacked := [], cause := 0, reseatSeq := none, parts := []
    keysAcked := false, sentSeq := none, reported := false, mac := mac, flags := 8 * fieldBe b 24 1 }
  let t := s.setCznNode n y
  let want := (t.lampNode n).width
  let t := if t.wordWidth n < want then t.event 0x0C05 1 noInst (le 2 n ++ le 1 want ++ le 1 (t.wordWidth n)) else t
  let t := t.setCznNode n { y with width := t.wordWidth n }
  let t := (t.event 0x0D10 0 noInst (le 2 n ++ le 1 ver ++ le 8 e.uid)).nodeState n 1
  t.toNode n 0x02 2 none 1 (t.welcomeBody n e) []

/-- The discovery windows of a row node's UID, and what they become (R287). -/
def State.helloWindows (s : State) (uid : Nat) : List CznWindow := match s.cznOfUid uid with | some n => (s.cznNode n).windows | none => s.strangerWindows uid
def State.setHelloWindows (s : State) (uid : Nat) (ws : List CznWindow) : State :=
  match s.cznOfUid uid with | some n => s.setCznNode n { s.cznNode n with windows := ws } | none => s.setStranger uid ws

/-- The key of HELLO: K_d of the UID that its body names (R282, R283); none where its key class is another or the module has no master. -/
def State.helloKey (s : State) (sel uid : Nat) : Option (List Byte) := if sel / 16 = 2 then s.czMaster.map fun m => nodeRootKey m uid else none

/-- The node ID of HELLO: that of its transmit opportunity, with PLCA off that of its body (R260, R290). -/
def State.helloId (s : State) (f : TrunkFrame) (body : List Byte) : Nat := if s.plcaOn f.port then f.plcaId else fieldBe body 9 1

/-- A HELLO that has passed every check of R286: the conditions of admission (R291). -/
def State.judgeHello (s : State) (f : TrunkFrame) (key body : List Byte) : State :=
  let p := f.port
  let uid := fieldBe body 0 8
  let id := s.helloId f body
  let n := 32 * p + id - 2
  if id < 2 || 33 < id then s.refuseNode p id 4 uid
  else match s.cfg.cznEntry n with
    | none => s.refuseNode p id 1 uid
    | some e =>
      if e.uid ≠ uid then s.refuseNode p id 2 uid
      else
        let v := s.commonVersion e (fieldBe body 8 1)
        if v = 0 then s.refuseNode p id 3 uid
        else (s.admitNode n v e key (slice f.bytes 6 6) (s.helloWindows uid) (fieldBe f.bytes 22 4) (s.stampAt (s.rxAt p)) body).claimHigher n (fieldBe f.bytes 26 4)

/-- HELLO (R286, R291): key, MIC, window and content are checked before the conditions of admission. -/
def execHello (f : TrunkFrame) (s : State) : Answer :=
  let b := f.bytes
  let p := f.port
  let len := fieldBe b 30 2
  let uid := fieldBe (slice b 32 len) 0 8
  if !s.sendsCarzon || !s.reachesCarzon f || !s.formOk f || fieldBe b 15 1 ≠ 0x01 then .next s
  else if fieldBe b 18 2 ≠ 0xFFFE then .next (s.cznReject f 4)
  else match s.helloKey (fieldBe b 17 1) uid with
    | none => .next (s.authFailed f)
    | some key =>
      let ver := fieldBe b 14 1
      match cznOpen ver (keyD key) uid (fieldBe b 22 4) p 0x01 len (slice b 14 18) (slice b 32 (len + micLen ver)) with
      | none => .next (s.authFailed f)
      | some body =>
        let r := acceptCounter (s.helloWindows uid) true (fieldBe b 17 1 % 16) (fieldBe b 22 4)
        match r.1 with
        | .old => .next (s.bump (Reg.TRK_CZNOLD p))
        | .repeat_ => .next (s.bump (Reg.TRK_CZNREPEAT p))
        | .new =>
          let t := s.setHelloWindows uid r.2
          .next (if !helloOk body then t.bump (Reg.TRK_CZNREJ p) else t.judgeHello f key body)

/-! ### Acknowledgements (R288) -/

/-- What an acknowledged frame brings about (R285, R292, R300). -/
def State.acked (s : State) (n : Nat) (u : CznUnacked) (status : Nat) : State :=
  if u.typ = 0x02 then
    if (s.cznNode n).state ≠ 1 then s
    else if status = 2 then s.nodeState n 0
    else
      let t := (s.reseat n 1).sendKeys n (s.portGen (nodePort n))
      if t.keyPhase = 1 || t.keyPhase = 2 || (t.port (nodePort n)).lags then t.sendKeys n t.keyNext else t
  else if u.typ = 0x03 then
    if status ≠ 2 && u.carries.contains s.keyNext then s.setCznNode n { s.cznNode n with keysAcked := true } else s
  else if u.typ = 0x18 then
    if status = 2 then s.missed n u.carries false
    else
      let x := s.cznNode n
      let still := x.outputs ++ x.unacked.flatMap fun v => if v.typ = 0x18 then v.carries else []
      s.applyM (s.pendingOps false ((u.carries.filter fun o => !still.contains o).map (rowAddr n)))
  else s

/-- ACK (R288). -/
def execAck (f : TrunkFrame) (s : State) : Answer :=
  match s.takeFrame f 0x08 with
  | (t, none) => .next t
  | (t, some c) =>
    if c.body.length ≠ 8 || fieldBe c.body 6 2 ≠ 0 || 2 < fieldBe c.body 5 1 then .next (t.badContent f c 0x08)
    else
      let x := t.cznNode c.node
      match x.unacked.find? fun u => u.counter == fieldBe c.body 0 4 && u.typ == fieldBe c.body 4 1 && (u.typ == 0x02) == (c.kcls == 2) with
      | none => .next t
      | some u =>
        let t := t.setCznNode c.node { x with unacked := x.unacked.filter fun v => v ≠ u }
        .next (if t.sendsCarzon then t.acked c.node u (fieldBe c.body 5 1) else t)

/-- RETRANSMIT_TIMEOUT: frames of a node unacknowledged for 3 ticks are sent again, five times at most; then NOT_ACKED is recorded and the delivery counts
as missed (R288). -/
def execRetransmitTimeout (n : Nat) (s : State) : Answer :=
  let due := (s.cznNode n).unacked.filter fun u => decide (u.sentAt + 3 * ms s.lamp.tick ≤ s.now)
  .next (if !s.sendsCarzon then s
    else due.foldl (fun (t : State) u =>
      let x := t.cznNode n
      if u.tries < 5 then
        (t.setCznNode n { x with unacked := x.unacked.map fun v => if v = u then { v with tries := v.tries + 1, sentAt := t.now } else v }).transmit (nodePort n)
          { cls := u.cls, kind := .again u.frame }
      else
        let t := (t.setCznNode n { x with unacked := x.unacked.filter fun v => v ≠ u }).event 0x0D17 1 noInst (le 2 n ++ le 1 u.typ ++ le 4 u.counter)
        if u.typ = 0x02 then (if x.state = 1 then t.nodeState n 0 else t)
        else if u.typ = 0x18 then t.missed n u.carries false
        else t.missed n [] (u.typ == 0x12)) s)

/-! ### Reports (R298, R299, R306) -/

/-- The 6-byte items of a report: address and value. -/
def itemsOf (n : Nat) (b : List Byte) : List (Nat × Word) :=
  (List.range n).map fun i => (fieldBe b (6 * i) 2, BitVec.ofNat 32 (fieldBe b (6 * i + 2) 4))

/-- What an item says (R298). -/
inductive Item where
  /-- The value of a point, with its quality. -/
  | point (a : Nat) (v : Word) (q : Nat)
  /-- A measurement of a channel: result and current in mA. -/
  | meas (l c : Nat) (probe : Bool) (result ma : Nat)
  /-- An address that is no item of the node. -/
  | stray
  /-- A field out of range. -/
  | bad
  deriving DecidableEq, Repr

/-- A point item: the value is coded as the point's type, whether the item is BAD or not (R147, R298). -/
def State.pointItem (s : State) (a : Nat) (v : Word) (bad : Bool) : Item :=
  let i := s.info a
  if i.typ = 0 then .stray
  else if codingOk i.typ i.enumMax v then .point a v (if bad then Q.bad else Q.good) else .bad

/-- Read an item of node `n` (R156, R298). -/
def State.readItem (s : State) (n : Nat) (it : Nat × Word) : Item :=
  let bad := bitOf it.1 15
  let o := it.1 % 4096
  if bitsOf it.1 12 3 ≠ 0 then .bad
  else if (6 ≤ o && o ≤ 8) || (0x100 ≤ o && o ≤ 0x4FF) || (0x700 ≤ o && o ≤ 0x7FF) then s.pointItem (rowAddr n o) it.2 bad
  else if 0x800 ≤ o && o < 0x840 then
    let l := 16 * n + (o - 0x800) / 4
    let v := it.2.toNat
    match s.cfg.lum l with
    | some r =>
      if !bitOf r.fitted (o % 4) then .stray
      else if bitsOf v 0 12 ≠ 0 || 4 < bitsOf v 13 3 then .bad else .meas l (o % 4) (bitOf v 12) (bitsOf v 13 3) (bitsOf v 16 16)
    | none => .stray
  else if 0x840 ≤ o && o < 0x850 then
    let l := 16 * n + (o - 0x840)
    if (s.cfg.lum l).isSome then s.pointItem (lumAddr l 0x144) it.2 bad else .stray
  else .stray

/-- The writes of an item. -/
def Item.ops (p stamp : Nat) : Item → List PtOp
  | .point a v q => [cznWrite p a v.toNat stamp q]
  | .meas l c _ _ ma => [cznWrite p (chanAddr l c 6) ma stamp]
  | _ => []

/-- Take the measurements of a report (R247). -/
def State.takeMeas (s : State) (items : List Item) : State :=
  items.foldl (fun (t : State) i =>
    match i with
    | .meas l c probe r ma =>
      let x := t.chan l c
      t.setChan l c { x with result := if probe then x.result else some r, probed := if probe then some r else x.probed, current := ma, resultAt := some t.now }
    | _ => t) s

/-- The instant of the pour of a sequence that the module has ordered: none when it is made or not known. -/
def State.pourOf (s : State) (seq : Nat) : Option Nat := (s.lamp.pours.find? fun e => e.2 == seq).map (·.1)

/-- The entries of a node that a test picks have been delivered for the pour at `p` (R242, R299). -/
def State.deliver (s : State) (n p : Nat) (pick : LampEntry → Bool) : State :=
  (s.nodeLums n).foldl (fun (t : State) e => e.2.channels.foldl (fun (t : State) c =>
    let x := t.chan e.1 c
    match x.pend with
    | some y => if pick y then t.setChan e.1 c { x with pend := none, poured := some { y with pour := p } } else t
    | none => t) t) s

/-- The reseat image of a node has been poured: every channel in it (R242). -/
def State.imagePoured (s : State) (n p : Nat) : State :=
  (s.cznNode n).image.foldl (fun (t : State) e =>
    let x := t.chan (e.1 / 4) (e.1 % 4)
    t.setChan (e.1 / 4) (e.1 % 4) { x with poured := some { probe := false, ramp := 0, word := e.2.1, level := e.2.2, pour := p } }) s

/-- The reseat of a node has been applied (R306). -/
def State.reseated (s : State) (n seq : Nat) : State :=
  let x := s.cznNode n
  let t := s.setCznNode n { x with cause := 0, reseatSeq := none, parts := [], image := [] }
  let clear := (t.nodeLums n).flatMap fun e => if e.2.channels.any fun c => (t.chan e.1 c).pend.isSome then [] else lampTargets e.1 e.2
  let t := t.applyM (t.pendingOps false ((t.nodeOutputs n).map (rowAddr n) ++ clear))
  let t := t.post6 3 n 0xFF 0 0 0 0 t.stamp 0
  let t := (t.event 0x0D13 0 noInst (le 2 n ++ le 4 seq ++ le 1 x.cause)).nodeState n 3
  t.finishAll (fun w => match w.kind with | .cznReseat m _ => m == n | _ => false) St.ok 0 0

/-- The mould flags of a report (R299, R305, R306). -/
def State.mouldFlags (s : State) (n seq flags : Nat) : State :=
  let x := s.cznNode n
  let late := (s.pourOf seq).isNone
  let p := (s.pourOf seq).getD s.lamp.boundary
  let t :=
    if bitOf flags 0 && x.state = 2 && x.reseatSeq = some seq && x.parts.isEmpty then
      ((s.deliver n p fun y => decide (y.pour ≤ p)).imagePoured n p).reseated n seq
    else if bitOf flags 0 && (x.state = 3 || x.state = 4) then s.deliver n p fun y => y.sent == some seq
    else if bitOf flags 1 || bitOf flags 2 then s.missed n [] true
    else s
  let t := if late then t.pourWrites p else t
  if bitOf flags 3 && (x.state = 3 || x.state = 4) then t.reseat n 3 else t

/-- What a report says, beyond its items (R284, R285, R299, R305). -/
def State.reportFlags (s : State) (n seq flags : Nat) : State :=
  let x := s.cznNode n
  let t := s.setCznNode n { x with flags := flags, reported := true }
  let t := (t.mouldFlags n seq flags).showNode n
  let t := if bitOf flags 5 && !((t.cznNode n).unacked.any fun u => u.typ == 0x03) then t.sendKeys n t.keyGen else t
  if bitOf flags 6 then t.startRekey else t

/-- REPORT (R298, R299). A standby's windows and supervision take it, its points do not (R419). -/
def execReport (f : TrunkFrame) (s : State) : Answer :=
  match s.takeFrame f 0x20 with
  | (t, none) => .next t
  | (t, some c) =>
    let b := c.body
    let flags := fieldBe b 4 2
    let stamped := bitOf flags 7
    let head := if stamped then 16 else 8
    let k := fieldBe b 6 1
    let items := (itemsOf k (b.drop head)).map (t.readItem c.node)
    if b.length ≠ head + 6 * k || 255 < flags || fieldBe b 7 1 ≠ 0 || items.contains .bad then .next (t.badContent f c 0x20)
    else if !t.sendsCarzon then .next t
    else
      let st := if stamped then fieldBe b 8 8 else t.stampAt (t.rxAt f.port)
      let t := t.bump (Reg.TRK_CZNITEM f.port) (items.filter (· == .stray)).length
      let t := (t.applyM (items.flatMap (Item.ops f.port st))).takeMeas items
      let ls := (t.nodeLums c.node).filter fun e => items.any fun i => match i with | .meas l _ _ _ _ => l == e.1 | _ => false
      let r := ls.foldl (fun (q : State × List PtOp) e =>
        let z := q.1.refreshLum (some st) e.1 e.2
        (z.1, q.2 ++ z.2)) (t, [])
      .next (((r.1.applyM r.2).reportFlags c.node (fieldBe b 0 4) flags).ackFrame c 0x20 0)

/-- DELAY_REQ (R302): answered with the corrected receive stamp; version 2 has none (R293). -/
def execDelayReq (f : TrunkFrame) (s : State) : Answer :=
  match s.takeFrame f 0x31 with
  | (t, none) => .next t
  | (t, some c) =>
    if c.body.length ≠ 8 || fieldBe c.body 4 4 ≠ 0 || c.ver = 2 then .next (t.badContent f c 0x31)
    else if !t.sendsCarzon then .next t
    else
      let at_ := t.rxAt f.port
      .next (t.toNode c.node 0x32 0 none 0 (be 4 (fieldBe c.body 0 4) ++ be 8 (t.stampAt at_) ++ be 2 (t.extAt at_) ++ [0, 0]) [])

/-! ### Time, hold (R160, R301) -/

/-- TIME_FRAME_DUE: every TIME_MS a TIME frame joins the queue of every trunk (R301). -/
def execTimeFrameDue (s : State) : Answer :=
  let period := ms (s.fld Reg.TRK_CZNCFG F.TRK_CZNCFG_TIME_MS)
  .next ((List.range 64).foldl (fun (t : State) p =>
    let x := t.port p
    if t.canSend p && decide (x.timeAt ≤ t.now) then
      (t.setPort p { x with timeAt := if t.now < x.timeAt + period then x.timeAt + period else t.now + period }).transmit p { cls := Gate.time, kind := .time }
    else t) s)

/-- NODE_HOLD_EXPIRY: a row node has sent no authenticated frame for its hold time: ABSENT, with its inputs (R160, R307). -/
def execNodeHoldExpiry (n : Nat) (s : State) : Answer :=
  let x := s.cznNode n
  .next (match s.cfg.cznEntry n with
    | none => s
    | some e =>
      if decide (2 ≤ x.state ∧ x.state ≤ 4) && decide (x.lastHeard + ms e.hold ≤ s.now) then
        let t := (s.setCznNode n { x with cause := 0, reseatSeq := none, parts := [] }).nodeState n 5
        if t.leads then
          ((t.sweep (t.nodeInputs n) Q.absent).post6 2 n 0xFF 0 0 0 0 t.stamp 0).event 0x0D12 1 noInst (le 2 n ++ le 8 x.lastStamp)
        else t
      else s)

/-! ### Commands (R310) -/

/-- CZN_NODE (R310). -/
def execCznNode (e : CmdEntry) (s : State) : Answer :=
  runCmd Op.cznNode (.cznNode e) e (fun _ s =>
    let n := e.param 0 2
    if s.defaulted then .stat St.defaulted s
    else if !s.sendsCarzon then .stat St.refused s
    else if (s.cfg.cznEntry n).isNone then .stat St.noNode s
    else
      let x := s.cznNode n
      .okWith (x.state + x.version * 256 + s.keyGen * 65536) x.hiCounter s) s

/-- CZN_RESEAT (R305, R310): a node that is not admitted cannot be reseated. -/
def execCznReseat (e : CmdEntry) (s : State) : Answer :=
  runCmd Op.cznReseat (.cznReseat e) e (fun _ s =>
    let n := e.param 0 2
    if s.defaulted then .stat St.defaulted s
    else if !s.sendsCarzon then .stat St.refused s
    else if (s.cfg.cznEntry n).isNone then .stat St.noNode s
    else
      let st := (s.cznNode n).state
      if st = 0 || st = 6 then .stat St.refused s
      else .wait (.cznReseat n (s.now + secs 10)) (if st = 3 || st = 4 then s.reseat n 4 else s)) s

/-- CZN_RESEAT_TIMEOUT (R310): the reseat goes on. -/
def execCznReseatTimeout (n : Nat) (s : State) : Answer :=
  .next (s.finishAll (fun w => match w.kind with | .cznReseat m u => m == n && decide (u ≤ s.now) | _ => false) St.timeout 0 0)

/-- CZN_REKEY (R285, R310). -/
def execCznRekey (e : CmdEntry) (s : State) : Answer :=
  runCmd Op.cznRekey (.cznRekey e) e (fun _ s =>
    if s.defaulted then .stat St.defaulted s
    else if !s.sendsCarzon then .stat St.refused s
    else if s.keyPhase ≠ 0 || s.radRekeying then .stat St.rekeyBusy s
    else .wait .cznRekey s.startRekey) s

/-- The node table with entries replaced (R309, R310). -/
def CznCfg.withEntries (c : CznCfg) (es : List CznEntry) : CznCfg := { c with nodes := c.nodes.map fun x => (es.find? fun e => e.n == x.n).getD x }

/-- No UID stands twice. -/
def CznCfg.uidsOk (c : CznCfg) : Bool := (c.nodes.map (·.uid)).Nodup

/-- The node entries of a buffer, checked against the running table (R309, R310). -/
def State.cznEntries (s : State) (b : List Byte) : Except Nat (List CznEntry) :=
  match (recordsOf 24 (b.length / 24) b).mapM (parseCznEntry s.cfg.czn.profiles.length) with
  | .error _ => .error St.badFormat
  | .ok es =>
    if !(es.map (·.n)).Nodup then .error St.badFormat
    else if es.any fun e => (s.cfg.cznEntry e.n).isNone then .error St.noNode
    else if !(s.cfg.czn.withEntries es).uidsOk then .error St.badFormat
    else .ok es

/-- Node entries take effect: a changed UID returns the node to UNKNOWN, a changed profile changes the points of its block (R307, R310). -/
def State.loadCznEntries (s : State) (es : List CznEntry) : State :=
  let old := s.cfg.czn
  let addrs := es.flatMap fun e => match s.cfg.cznEntry e.n with
    | some x => if x.profile = e.profile then [] else (List.range 0x600).map fun o => rowAddr e.n (0x100 + o)
    | none => []
  let t := s.swapCfg { s.cfg with czn := old.withEntries es } addrs
  es.foldl (fun (t : State) e =>
    match s.cfg.cznEntry e.n with
    | some x =>
      if x.uid ≠ e.uid then (t.setCznNode e.n {}).nodeState e.n 0
      else if (t.cznNode e.n).state = 6 then t.nodeState e.n 0 else t
    | none => t) t

/-- CZN_NODETABLE (R310). -/
def execCznNodetable (e : CmdEntry) (s : State) : Answer :=
  runCmd Op.cznNodetable (.cznNodetable e) e (fun _ s =>
    if e.txn = 0 && s.defaulted then .stat St.defaulted s
    else if !s.sendsCarzon && !s.defaulted then .stat St.refused s
    else if e.bufOut || e.bufLen.toNat % 24 ≠ 0 || 24 * 2048 < e.bufLen.toNat then .stat St.badFormat s
    else match s.cznEntries e.buf with
      | .error st => .stat st s
      | .ok es =>
        s.stageTable e ((recordsOf 24 es.length e.buf).map fun b => .table .cznNodes (24 * fieldBe b 0 2) b) es.length (·.loadCznEntries es)) s

end Sys2Proof.Machine
end

