-- ==== Sys2Proof/Machine/Pat.lean ====
section
/-!
DEFINITION. Pattern slots, block transfers and the checks of a pattern image (R462 to R467).
-/
set_option linter.unusedVariables false
namespace Sys2Proof.Machine

/-! ### Block transfers -/

/-- The block that holds byte `i`: the latest one stands (R466). -/
def PatLoad.blockAt (l : PatLoad) (i : Nat) : Option (Nat × List Byte) :=
  l.blocks.find? fun b => decide (b.1 ≤ i ∧ i < b.1 + b.2.length)

/-- Byte `i` of the load; 0 where it is missing. -/
def PatLoad.byte (l : PatLoad) (i : Nat) : Byte :=
  match l.blockAt i with | some b => b.2.getD (i - b.1) 0 | none => 0

/-- Offsets of the 4-byte words that are missing. -/
def PatLoad.missing (l : PatLoad) : List Nat :=
  ((List.range ((l.total + 3) / 4)).map (4 * ·)).filter fun i => (l.blockAt i).isNone

/-- Bytes missing. -/
def PatLoad.missingBytes (l : PatLoad) : Nat := (l.missing.map fun i => min 4 (l.total - i)).sum

/-- The bytes of a complete load. -/
def PatLoad.bytes (l : PatLoad) : List Byte := (List.range l.total).map l.byte

/-! ### Slots (R464) -/

/-- A pattern slot. -/
def State.pat (s : State) (k : Nat) : PatSlot := mapGet (fun _ => {}) s.flash.pats k

/-- Store a pattern slot, with its version as PAT_VERA or PAT_VERB shows it. -/
def State.setPat (s : State) (k : Nat) (x : PatSlot) : State :=
  { s with flash := { s.flash with pats := mapSet (fun _ => {}) s.flash.pats k x } }

/-- The field of a slot's state in PAT_STATUS. -/
def patFld (k : Nat) : Fld := if k = 0 then F.PAT_STATUS_SLOTA else F.PAT_STATUS_SLOTB

/-- The state code of a slot (R464). -/
def State.patState (s : State) (k : Nat) : Nat := s.fld Reg.PAT_STATUS (patFld k)

/-- Set the state code of a slot. -/
def State.setPatState (s : State) (k v : Nat) : State := s.setF Reg.PAT_STATUS (patFld k) v

/-- The boot slot. -/
def State.bootSlot (s : State) : Nat := s.fld Reg.PAT_STATUS F.PAT_STATUS_BOOT

/-- The slot that runs (GLB_STATUS.PAT_SLOT). -/
def State.runSlot (s : State) : Nat := s.fld Reg.GLB_STATUS F.GLB_STATUS_PAT_SLOT

/-- The other slot. -/
def otherSlot (k : Nat) : Nat := 1 - k

/-- A slot is TRIAL. -/
def State.trialOpen (s : State) : Bool := s.patState 0 == 5 || s.patState 1 == 5

/-- The image of a slot; the shipped image is not in the model's data. -/
def PatSlot.bytes (x : PatSlot) : List Byte := if x.shipped then Config.shippedPattern else x.image

/-- The checks of R463 on an image: none where it verifies, otherwise the status. -/
def State.patCheck (s : State) (img : List Byte) : Option Nat :=
  let f (o n : Nat) : Nat := fieldLe img o n
  let step := s.ident.chipStep
  if !(f 0 4 == 0x47465037 && f 4 2 == 3 && f 6 2 == 64 && f 20 2 == 7 && f 8 4 == img.length && decide (4096 ≤ img.length)
      && img.length % 4 == 0 && decide (img.length ≤ 268435456) && decide (f 23 1 ≤ step) && decide (step ≤ f 24 1) && decide (f 22 1 ≤ 3)
      && f 25 7 == 0 && f 48 16 == 0) then some St.badFormat
  else if !Config.patternSigned img then some St.badSignature
  else if f 16 4 < s.rdN Reg.PAT_FLOOR then some St.belowFloor
  else none

/-- Does a slot verify (R463)? The shipped image does. -/
def State.slotVerifies (s : State) (k : Nat) : Bool :=
  let x := s.pat k
  x.load.isNone && (x.shipped || (s.patCheck x.image).isNone)

/-- The slot a load goes to: the one that does not run (R466). -/
def State.loadSlot (s : State) : Nat := otherSlot s.runSlot

/-! ### Commands (R466, R467) -/

/-- The configuration load's transaction: REFUSED unless open with ONLINE and in a role that takes configuration loads (R467). -/
def State.loadTxn (s : State) (e : CmdEntry) : Except Nat Nat :=
  if s.role == .standby && !s.defaulted then .error St.refused
  else match s.txnOf e.txn.toNat with
    | none => .error St.refused
    | some k => if (s.txn k).online && (s.txn k).phase == .opened then .ok k else .error St.refused

/-- PAT_BEGIN. -/
def execPatBegin (e : CmdEntry) (s : State) : Answer :=
  runCmd Op.patBegin (.patBegin e) e (fun _ s =>
    let total := e.param 4 4
    if e.param 0 1 = 0 then
      if s.trialOpen then .stat St.trialOpen s
      else if total % 4 ≠ 0 || total < 4096 || 268435456 < total then .stat St.badFormat s
      else
        let k := s.loadSlot
        let t := (s.setPat k { load := some { total := total, blocks := [] } }).setPatState k 1
        .stat St.ok (t.wr (if k = 0 then Reg.PAT_VERA else Reg.PAT_VERB) 0)
    else if e.param 0 1 = 1 then
      match s.loadTxn e with
      | .error st => .stat st s
      | .ok k =>
        if total % 4 ≠ 0 || total = 0 || 67108864 < total then .stat St.badFormat s
        else
          let x := s.txn k
          .staged 0 (s.setTxn k { x with load := some { total := total, blocks := [] }, changes := x.changes.filter (fun c => !c.same (.image []))
                                         named := s.now })
    else .stat St.badFormat s) s

/-- A block taken into a load, or the status that refuses it (R466). -/
def PatLoad.take (l : PatLoad) (off : Nat) (buf : List Byte) : Option PatLoad :=
  if off % 4 ≠ 0 || buf.length < 4 || buf.length % 4 ≠ 0 || l.total < off + buf.length then none
  else some { l with blocks := (off, buf) :: l.blocks }

/-- A block of a pattern load: the slot becomes LOADED when every byte is held (R464, R466). -/
def State.patBlock (s : State) (off : Nat) (buf : List Byte) : Res :=
  let k := s.loadSlot
  match (s.pat k).load with
  | none => .stat St.notFound s
  | some l =>
    match l.take off buf with
    | none => .stat St.badFormat s
    | some m =>
      if m.missing.isEmpty then
        let img := m.bytes
        let t := (s.setPat k { image := img, version := fieldLe img 12 4, security := fieldLe img 16 4 }).setPatState k 2
        .okWith 0 0 (t.wrN (if k = 0 then Reg.PAT_VERA else Reg.PAT_VERB) (fieldLe img 12 4))
      else .okWith m.missingBytes 0 (s.setPat k { (s.pat k) with load := some m })

/-- A block of a configuration load: the complete image is a staged change (R467). -/
def State.cfgBlock (s : State) (k off : Nat) (buf : List Byte) : Res :=
  let x := s.txn k
  match x.load with
  | none => .stat St.notFound s
  | some l =>
    match l.take off buf with
    | none => .stat St.badFormat s
    | some m =>
      let cs := if m.missing.isEmpty then addChange x.changes (.image m.bytes) else x.changes
      .staged m.missingBytes (s.setTxn k { x with load := some m, changes := cs, named := s.now })

/-- PAT_BLOCK. -/
def execPatBlock (e : CmdEntry) (s : State) : Answer :=
  runCmd Op.patBlock (.patBlock e) e (fun _ s =>
    if e.bufOut then .stat St.badFormat s
    else if e.param 0 1 = 0 then s.patBlock (e.param 4 4) e.buf
    else if e.param 0 1 = 1 then
      match s.loadTxn e with
      | .error st => .stat st s
      | .ok k => s.cfgBlock k (e.param 4 4) e.buf
    else .stat St.badFormat s) s

/-- What PAT_QUERY returns of a load. -/
def PatLoad.query (l : PatLoad) : Nat × Nat := (l.missingBytes, l.missing.headD 0xFFFFFFFF)

/-- PAT_QUERY. A target without an open load has nothing missing; one that was never opened is not found. -/
def execPatQuery (e : CmdEntry) (s : State) : Answer :=
  runCmd Op.patQuery (.patQuery e) e (fun _ s =>
    let answer : Option PatLoad → Res := fun l => match l with | none => .stat St.notFound s | some l => .okWith l.query.1 l.query.2 s
    if e.param 0 1 = 0 then
      if s.patState s.loadSlot = 0 then .stat St.notFound s
      else match (s.pat s.loadSlot).load with
        | none => .okWith 0 0xFFFFFFFF s
        | some l => .okWith l.query.1 l.query.2 s
    else if e.param 0 1 = 1 then
      match s.txnOf e.txn.toNat with
      | some k => answer (s.txn k).load
      | none => answer ((List.range 4).findSome? fun k => (s.txn k).load)
    else .stat St.badFormat s) s

/-- PAT_VERIFY (R463): the loaded slot becomes VERIFIED. -/
def execPatVerify (e : CmdEntry) (s : State) : Answer :=
  runCmd Op.patVerify (.patVerify e) e (fun _ s =>
    let k := s.loadSlot
    let x := s.pat k
    if s.patState k = 1 then .stat St.incomplete s
    else if s.patState k = 0 then .stat St.notFound s
    else if x.shipped then .stat St.ok s
    else match s.patCheck x.image with
      | some st => .stat st s
      | none =>
        let t := if s.patState k = 2 then s.setPatState k 3 else s
        .stat St.ok (t.event 0x1501 0 noInst (le 1 k ++ le 4 x.version ++ le 4 x.security))) s

end Sys2Proof.Machine
end

