-- ==== Sys2Proof/Machine/KeyCmd.lean ====
section
/-!
DEFINITION. The key commands, the writes of the key registers through BAR2, and attestation (R442 to R461).
-/
set_option linter.unusedVariables false
namespace Sys2Proof.Machine

/-! ### Slots and roots by command (R459) -/

/-- KEY_SLOT_SET (R447 to R449, R459). -/
def execKeySlotSet (e : CmdEntry) (s : State) : Answer :=
  runCmd Op.keySlotSet (.keySlotSet e) e (fun _ s =>
    let k := e.param 0 1
    let attr := BitVec.ofNat 32 (e.param 4 4)
    if e.bufOut then .stat St.badFormat s
    else match s.keyWriteCheck (attrLock (s.keySlot k).attr) (attrOk (s.fld Reg.KEY_MODE F.KEY_MODE_MODE) attr e.buf) with
      | some r => .stat r.2 s
      | none => s.stageOr e (.key k (.set attr (e.param 2 2) e.buf)) fun s => .stat St.ok (s.keySet k attr (e.param 2 2) e.buf)) s

/-- KEY_SLOT_CLEAR (R447 to R449, R459). -/
def execKeySlotClear (e : CmdEntry) (s : State) : Answer :=
  runCmd Op.keySlotClear (.keySlotClear e) e (fun _ s =>
    let k := e.param 0 1
    match s.keyWriteCheck (attrLock (s.keySlot k).attr) true with
    | some r => .stat r.2 s
    | none =>
      if !attrValid (s.keySlot k).attr then .stat St.keyEmpty s
      else s.stageOr e (.key k .clear) fun s => .stat St.ok (s.keyClear k)) s

/-- KEY_ROOT_SET (R442, R445, R447, R459): never staged. -/
def execKeyRootSet (e : CmdEntry) (s : State) : Answer :=
  runCmd Op.keyRootSet (.keyRootSet e) e (fun _ s =>
    let r := e.param 0 1
    let good := decide (r ≤ 7) && e.buf.length == 32 && !e.bufOut && s.fld Reg.KEY_MODE F.KEY_MODE_MODE != 0
    if e.txn ≠ 0 then .stat St.refused s
    else match s.keyWriteCheck (attrLock (s.keyRoot r).attr) good with
      | some x => .stat x.2 s
      | none => .stat St.ok (s.keyRootSet r (bitOf (e.param 4 1) 0) e.buf)) s

/-! ### Writes through BAR2 (R446, R447) -/

/-- The key data written to KEY_WRDATA, `n` words. -/
def State.wrData (s : State) (n : Nat) : List Byte := (List.range n).flatMap fun i => le 4 (s.rdN (Reg.KEY_WRDATA i))

/-- KEY_WRDATA is zeroed and WR_DONE set after a write (R446). -/
def State.wrDone (s : State) : State :=
  ((List.range 8).foldl (fun t i => t.wr (Reg.KEY_WRDATA i) 0) s).setF Reg.KEY_STATUS F.KEY_STATUS_WR_DONE 1

/-- The write that KEY_WRGO.GO applies (R446, R447). -/
def State.keyGo (s : State) : State :=
  let root := s.flag Reg.KEY_WRSEL F.KEY_WRSEL_ROOT
  let k := s.fld Reg.KEY_WRSEL F.KEY_WRSEL_INDEX
  let attr := s.rd Reg.KEY_WRATTR &&& attrFields
  let mode := s.fld Reg.KEY_MODE F.KEY_MODE_MODE
  if root then
    match s.keyWriteCheck (attrLock (s.keyRoot k).attr) (decide (k ≤ 7) && mode != 0) with
    | some r => s.keyReject 2 k r.1
    | none => (s.keyRootSet k (attrLock attr) (s.wrData 8)).wrDone
  else
    let data := s.wrData (if attrKind attr = 1 then 4 else 8)
    match s.keyWriteCheck (attrLock (s.keySlot k).attr) (attrKind attr != 3 && attrOk mode attr data) with
    | some r => s.keyReject 1 k r.1
    | none => ((s.doomKey k).keySet k attr 0 data).wrDone

/-- Some valid slot is of a kind that a mode forbids (R442). -/
def State.modeForbids (s : State) (mode : Nat) : Bool :=
  s.keys.slots.any fun e => attrValid e.2.attr && !modeAllows mode (attrKind e.2.attr)

/-- A write of KEY_MODE (R442, R447): 3 is ignored. -/
def State.writeKeyMode (s : State) (value : Word) : State :=
  let m := F.KEY_MODE_MODE.get value
  let old := s.fld Reg.KEY_MODE F.KEY_MODE_MODE
  if m = 3 then s
  else match s.keyWriteCheck false (!s.modeForbids m) with
    | some r => (s.setF Reg.KEY_STATUS F.KEY_STATUS_WR_REJ 1).setF Reg.KEY_STATUS F.KEY_STATUS_REJ_CAUSE r.1
    | none =>
      let t := s.setF Reg.KEY_MODE F.KEY_MODE_MODE m
      if m = old then t else t.event 0x1605 3 noInst (le 1 old ++ le 1 m)

/-- A write of KEY_CZNSRC (R447, R450). -/
def State.writeCznSrc (s : State) (value : Word) : State :=
  match s.keyWriteCheck false true with
  | some r => (s.setF Reg.KEY_STATUS F.KEY_STATUS_WR_REJ 1).setF Reg.KEY_STATUS F.KEY_STATUS_REJ_CAUSE r.1
  | none => s.wr Reg.KEY_CZNSRC (value &&& 0x1FF)

/-- A write of KEY_LC.OWNER_LOCK (R455): ignored without MAINT_N. -/
def State.writeOwnerLock (s : State) (value : Word) : State :=
  if s.maint then s.setF Reg.KEY_LC F.KEY_LC_OWNER_LOCK (F.KEY_LC_OWNER_LOCK.get value) else s

/-! ### Replaced keys (R449) -/

/-- KEY_SEND_DELAY_END: the module sends under the new key. -/
def execKeySendDelayEnd (slot : Nat) (s : State) : Answer :=
  let x := s.keySlot slot
  .next (if x.prev.isSome && x.prevSends && decide (x.sendAt ≤ s.now) then s.setKeySlot slot { x with prevSends := false } else s)

/-- OLD_KEY_GRACE_END: the replaced key no longer checks received traffic. -/
def execOldKeyGraceEnd (slot : Nat) (s : State) : Answer :=
  let x := s.keySlot slot
  .next (if x.prev.isSome && decide (x.graceEnd ≤ s.now) then s.setKeySlot slot { attr := x.attr, data := x.data } else s)

/-! ### Life cycle (R452 to R454) -/

/-- The transitions the table allows (R452). -/
def lcAllowed (from_ dest : Nat) : Bool :=
  (from_ == 1 && dest == 2) || (from_ == 2 && dest == 1) || ((from_ == 1 || from_ == 2) && dest == 3)

/-- Abort the transactions that hold key slots (R453). -/
def State.abortKeyTxns (s : State) : State :=
  (List.range 4).foldl (fun t k => if (t.txn k).changes.any Change.isKey then t.abortTxn k St.aborted else t) s

/-- A write of KEY_LCREQ (R453). -/
def State.writeLcReq (s : State) (value : Word) : State :=
  let dest := F.KEY_LCREQ_TARGET.get value
  if F.KEY_LCREQ_CONFIRM.get value == 0x5A17 && s.maint && !s.keyBusy && lcAllowed s.lifeCycle dest then
    let t := (s.setF Reg.KEY_LC F.KEY_LC_PENDING 1).setF Reg.KEY_STATUS F.KEY_STATUS_ZEROISING 1
    ({ t with keys := { t.keys with intent := some dest, lcAt := t.now, zeroised := false } } : State).abortKeyTxns
  else s.setF Reg.KEY_STATUS F.KEY_STATUS_LC_REJ 1

/-! ### Attestation (R456 to R458) -/

/-- A CBOR head: major type and argument in the shortest form (RFC 8949). -/
def cborHead (major n : Nat) : List Byte :=
  if n < 24 then be 1 (major * 32 + n)
  else if n < 256 then be 1 (major * 32 + 24) ++ be 1 n
  else if n < 65536 then be 1 (major * 32 + 25) ++ be 2 n
  else if n < 2 ^ 32 then be 1 (major * 32 + 26) ++ be 4 n
  else be 1 (major * 32 + 27) ++ be 8 n

def cborUint (n : Nat) : List Byte := cborHead 0 n
def cborBytes (b : List Byte) : List Byte := cborHead 2 b.length ++ b
def cborText (b : List Byte) : List Byte := cborHead 3 b.length ++ b
def cborArray (xs : List (List Byte)) : List Byte := cborHead 4 xs.length ++ xs.flatten
/-- A map with the keys 1, 2, 3 … in order. -/
def cborMap1 (xs : List (List Byte)) : List Byte :=
  cborHead 5 xs.length ++ ((List.range xs.length).flatMap fun i => cborUint (i + 1) ++ xs.getD i [])

/-- The order code as text (R1). -/
def orderText : OrderCode → List Byte
  | .gf7_64r4_868 => ascii "GF7-64R4-868"
  | .gf7_64r4_915 => ascii "GF7-64R4-915"
  | .gf7_64r0 => ascii "GF7-64R0"

/-- The image of the running configuration as stored; empty under factory defaults. -/
def State.runImage (s : State) : List Byte := if s.defaulted then [] else (mapFind s.flash.copies s.flash.runCopy).getD []

/-- The attribute words of slots and roots with KEY_MODE (R457). -/
def State.keyAttributes (s : State) : List Byte :=
  le 4 (s.rdN Reg.KEY_MODE) ++ ((List.range 256).flatMap fun k => le 4 (s.keySlot k).attr.toNat)
    ++ ((List.range 8).flatMap fun r => le 4 (s.keyRoot r).attr.toNat)

/-- The measurements (R457). -/
def State.measurements (s : State) : List (List Byte) :=
  let other := otherSlot s.runSlot
  let ms : List (List Byte) := [sha256 Config.bootRom, sha256 (s.pat s.runSlot).bytes,
    if s.patState other ≤ 1 then List.replicate 32 0 else sha256 (s.pat other).bytes,
    sha256 s.runImage, sha256 s.keyAttributes]
  (List.range 5).map fun i => cborArray [cborUint (i + 1), cborBytes (ms.getD i [])]

/-- The payload of a statement (R456). -/
def State.attestPayload (s : State) (nonce : List Byte) : List Byte :=
  cborMap1 [cborBytes nonce, cborUint s.ident.serial.toNat, cborText (orderText s.ident.order), cborUint (s.rdN Reg.GLB_HWREV),
    cborUint (s.rdN Reg.GLB_PATVER), cborUint s.lifeCycle, cborUint s.stamp,
    if s.flag Reg.RTC_STATUS F.RTC_STATUS_INVALID then [0xF6] else cborUint s.cal.sec,
    cborUint (s.rdN Reg.GLB_CFGGEN), cborArray [cborUint s.role.code, cborUint (s.rdN Reg.RDN_CLAIM)], cborArray s.measurements]

/-- The protected header {1: -7} (R456). -/
def coseProtected : List Byte := [0xA1, 0x01, 0x26]

/-- The tagged COSE_Sign1 of a payload (R456). -/
def State.statementOf (s : State) (nonce : List Byte) : List Byte :=
  let payload := s.attestPayload nonce
  let sig := Config.sign Config.identityKey (cborArray [cborText (ascii "Signature1"), cborBytes coseProtected, cborBytes [], cborBytes payload])
  [0xD2] ++ cborArray [cborBytes coseProtected, [0xA1, 0x04] ++ cborBytes (be 8 s.ident.serial.toNat), cborBytes payload,
    cborBytes (sig.take 64)]

/-- The identity key has been destroyed (R452, R453). -/
def State.noIdentity (s : State) : Bool := s.lifeCycle == 3 || (s.keys.zeroised && s.keys.intent == some 3)

/-- A command waiting for its statement. -/
def Wait.attests (w : Wait) : Bool := match w.kind with | .keyAttest _ _ _ => true | _ => false

/-- KEY_ATTEST (R456, R458): statements are signed one at a time, in the order the commands were taken. -/
def execKeyAttest (e : CmdEntry) (s : State) : Answer :=
  runCmd Op.keyAttest (.keyAttest e) e (fun _ s =>
    let n := e.param 32 1
    if 32 < n || !e.bufOut then .stat St.badFormat s
    else if s.noIdentity then .stat St.noIdentity s
    else
      let t : State := { s with keys := { s.keys with statement := [] } }
      .wait (.keyAttest (e.params.take n) e.bufAddr.toNat e.bufLen.toNat) (t.setF Reg.KEY_STATUS F.KEY_STATUS_ATTEST_BUSY 1)) s

/-- STATEMENT_SIGNED: the statement being signed is complete and is placed whole in the buffer and the window (R458); where the identity key has been
destroyed meanwhile the command ends in NO_IDENTITY. -/
def execStatementSigned (s : State) : Answer :=
  match s.waits.find? Wait.attests with
  | none => .next s
  | some w =>
    match w.kind with
    | .keyAttest nonce addr len =>
      if s.noIdentity then .next ((s.setF Reg.KEY_STATUS F.KEY_STATUS_ATTEST_BUSY 0).finish w St.noIdentity 0 0)
      else
      let st := s.statementOf nonce
      let more := (s.waits.filter fun x => x ≠ w).any Wait.attests
      let t := s.setF Reg.KEY_STATUS F.KEY_STATUS_ATTEST_BUSY (bit more)
      let t := t.event 0x1604 0 noInst (le 1 nonce.length ++ le 2 st.length)
      let t : State := { t with keys := { t.keys with statement := if more then [] else st } }
      if len < st.length then .next (t.finish w St.bufferRange 0 0) else .next (t.finish w St.ok st.length 0 [(addr, st)])
    | _ => .next s

/-- KEY_IDCERT (R459). -/
def execKeyIdcert (e : CmdEntry) (s : State) : Answer :=
  runCmd Op.keyIdcert (.keyIdcert e) e (fun _ s =>
    let c := Config.idCert.take 2048
    if !e.bufOut then .stat St.badFormat s
    else if e.bufLen.toNat < c.length then .stat St.bufferRange s
    else .done St.ok c.length 0 0 [(e.bufAddr.toNat, c)] s) s

/-- KEY_NODEKEY (R451, R459). -/
def execKeyNodekey (e : CmdEntry) (s : State) : Answer :=
  runCmd Op.keyNodekey (.keyNodekey e) e (fun _ s =>
    if !e.bufOut || e.bufLen.toNat ≠ 16 then .stat St.badFormat s
    else if !s.maint then .stat St.unauthorised s
    else match s.czMaster with
      | none => .stat St.keyEmpty s
      | some k => .done St.ok 0 0 0 [(e.bufAddr.toNat, nodeRootKey k (e.param 0 8))] (s.touchKey (s.fld Reg.KEY_CZNSRC F.KEY_CZNSRC_SLOT))) s

end Sys2Proof.Machine
end

