-- ==== Sys2Proof/Machine/Witness.lean ====
section
/-!
DEFINITION. Witness messages and the witness itself (R433 to R437).
-/
set_option linter.unusedVariables false
namespace Sys2Proof.Machine

/-- A witness message that has been read (R433). -/
structure WitMsg where
  typ : Nat
  pairId : Nat
  uid : Nat
  counter : Nat
  body : List Byte
  deriving DecidableEq, Repr

/-- The fields of a witness message; none where its form is wrong. -/
def parseWit (f : List Byte) : Option WitMsg :=
  let n := fieldBe f 16 2
  if fieldBe f 0 1 ≠ 0x81 || f.length < 36 + n then none
  else some { typ := fieldBe f 1 1, pairId := fieldBe f 2 2, uid := fieldBe f 4 8, counter := fieldBe f 12 4, body := slice f 20 n }

/-- The tag of a message under a key: the first 16 bytes of the HMAC of bytes 0 to 19 + length (R433). -/
def witTag (key f : List Byte) : List Byte := (hmac key f).take 16

/-- The tag of a received message holds under one of the keys of a slot. -/
def State.witTagOk (s : State) (slot : Nat) (f : List Byte) : Bool :=
  let n := fieldBe f 16 2
  (s.checkKeys slot .hmac).any fun k => witTag k (f.take (20 + n)) == slice f (20 + n) 16

/-- Send a witness message from the site port to an address, under a key slot. -/
def State.sendWit (s : State) (slot : Nat) (addr : List Byte) (pairId typ : Nat) (body : List Byte) : State :=
  match s.sendKey slot .hmac, s.takeCounter 0xFD s.rdn.txWit with
  | some key, some (n, t) =>
    let f := [0x81] ++ be 1 typ ++ be 2 pairId ++ be 8 t.uid ++ be 4 n ++ be 2 body.length ++ [0, 0] ++ body
    let t : State := { t.touchKey slot with rdn := { t.rdn with txWit := n } }
    t.ethOut 1 (.eth 1 (addr ++ ethMac t.uid 1 ++ be 2 t.rdnEtype ++ f ++ witTag key f))
  | _, _ => s

/-! ### The witness (R435, R436) -/

/-- A pair's state, its E, a unit's state. -/
def State.witPair (s : State) (p : Nat) : WitPair := mapGet (fun _ => {}) s.rdn.pairs p
def State.setWitPair (s : State) (p : Nat) (x : WitPair) : State := { s with rdn := { s.rdn with pairs := mapSet (fun _ => {}) s.rdn.pairs p x } }
def State.witE (s : State) (p : Nat) : Nat := mapGet (fun _ => 0) s.flash.witEpochs p
def State.setWitE (s : State) (p e : Nat) : State := { s with flash := { s.flash with witEpochs := mapSet (fun _ => 0) s.flash.witEpochs p e } }
def WitPair.unit (x : WitPair) (u : Nat) : WitUnit := mapGet (fun _ => {}) x.units u
def WitPair.setUnit (x : WitPair) (u : Nat) (y : WitUnit) : WitPair := { x with units := mapSet (fun _ => {}) x.units u y }
def State.setWitUnit (s : State) (p u : Nat) (y : WitUnit) : State := s.setWitPair p ((s.witPair p).setUnit u y)

/-- The units' loss time in ns (R436). -/
def State.lossNs (s : State) : Nat := ms (s.fld Reg.RDN_CFG F.RDN_CFG_LOSS_MS)

/-- A unit is alive while its last HEARTBEAT is less than loss_ms old (R435). -/
def State.witAlive (s : State) (x : WitUnit) : Bool := match x.at_ with | some t => decide (s.now < t + s.lossNs) | none => false

/-- The witness holds after its restart (R436). -/
def State.witHolding (s : State) : Bool := decide (s.now < s.rdn.holdUntil)

/-- Send to one unit of a pair. -/
def State.witSend (s : State) (c : PairCfg) (u typ : Nat) (body : List Byte) : State := s.sendWit c.slot (c.addrs.getD u []) c.pairId typ body

/-- STATUS to both units (R434). -/
def State.witStatus (s : State) (c : PairCfg) : State :=
  let p := s.witPair c.pairId
  let body := be 4 (s.witE c.pairId) ++ be 1 (p.act.getD 0xFF) ++ be 1 (bit s.witHolding) ++ [0, 0]
  (s.witSend c 0 5 body).witSend c 1 5 body

/-- Answer a unit: 1 GRANT with its epoch, 2 DENY with its reason. -/
def State.witAnswer (s : State) (c : PairCfg) (u : Nat) : State :=
  let x := (s.witPair c.pairId).unit u
  let n := x.nonce.getD 0
  if x.answer.1 = 1 then s.witSend c u 3 (be 4 n ++ be 4 x.answer.2)
  else if x.answer.1 = 2 then s.witSend c u 4 (be 4 n ++ be 1 x.answer.2 ++ [0, 0, 0])
  else s

/-- Grant: E rises and is stored before the GRANT goes out; STATUS to both follows (R435, R436). -/
def State.witGrant (s : State) (c : PairCfg) (u : Nat) : State :=
  let e := s.witE c.pairId + 1
  let t := s.setWitE c.pairId e
  let p := t.witPair c.pairId
  let o := p.unit (1 - u)
  let p := (p.setUnit (1 - u) { o with confirmed := false }).setUnit u { p.unit u with answer := (1, e), start := none, confirmed := false }
  ((t.setWitPair c.pairId { p with act := some u }).witAnswer c u).witStatus c

/-- Deny with a reason. -/
def State.witDeny (s : State) (c : PairCfg) (u reason : Nat) : State :=
  let x := (s.witPair c.pairId).unit u
  (s.setWitUnit c.pairId u { x with answer := (2, reason), start := none }).witAnswer c u

/-- Decide the held STARTs of a pair: the unit with the higher last_active_epoch, Cope on a tie (R436). -/
def State.witDecide (s : State) (c : PairCfg) : State :=
  let p := s.witPair c.pairId
  let s := s.setWitPair c.pairId { p with startAt := none }
  match (p.unit 0).start, (p.unit 1).start with
  | some a, some b => if a < b then (s.witGrant c 1).witDeny c 0 1 else (s.witGrant c 0).witDeny c 1 1
  | some _, none => s.witGrant c 0
  | none, some _ => s.witGrant c 1
  | none, none => s

/-- A unit that reports ACTIVE without YIELD and is alive (R435). -/
def State.witActive (s : State) (x : WitUnit) : Bool := s.witAlive x && x.role == 0 && !bitOf x.flags 4

/-- A REQUEST with a nonce that is not known (R435). -/
def State.witRequest (s : State) (c : PairCfg) (u nonce reason lae seen : Nat) : State :=
  let s := if s.witE c.pairId < seen then s.setWitE c.pairId seen else s
  let p := s.witPair c.pairId
  let o := p.unit (1 - u)
  let s := s.setWitUnit c.pairId u { p.unit u with nonce := some nonce, answer := (0, 0), start := none }
  if s.witHolding then s.witDeny c u 4
  else if reason = 1 then
    if s.witActive o then s.witDeny c u 1
    else
      let p := s.witPair c.pairId
      let t := s.setWitPair c.pairId { p.setUnit u { p.unit u with start := some lae } with startAt := some (p.startAt.getD s.now) }
      if o.start.isSome then t.witDecide c else t
  else if reason = 2 then (if s.witActive o then s.witDeny c u 1 else s.witGrant c u)
  else if reason = 3 then
    if p.act = some (1 - u) && s.witAlive o && bitOf o.flags 0 then s.witGrant c u else s.witDeny c u 2
  else if reason = 4 then
    if p.act = some (1 - u) && !o.confirmed then s.witGrant c u else s.witDeny c u 3
  else s

/-- The pair and the unit that a message to this witness comes from, its tag and counter good (R433). The counter is taken. -/
def State.witFrom (s : State) (f : EthFrame) : State × Option (WitMsg × PairCfg × Nat) :=
  match s.ethIn 1 s.rdnEtype f with
  | (t, none) => (t, none)
  | (t, some b) =>
    if !(t.role == .witness) then (t, none)
    else match parseWit b with
      | none => (t, none)
      | some m =>
        match t.cfg.rdn.pairs.find? (·.pairId == m.pairId) with
        | none => (t, none)
        | some c =>
          match [0, 1].find? (fun u => c.uids.getD u 0 == m.uid) with
          | none => (t, none)
          | some u =>
            let x := (t.witPair c.pairId).unit u
            if !t.witTagOk c.slot b || m.counter ≤ x.hi then (t, none)
            else (t.setWitUnit c.pairId u { x with hi := m.counter }, some (m, c, u))

/-- HEARTBEAT (R435, R436): recorded; an epoch above E is learned; a unit that reports ACTIVE below E is revoked. -/
def execHeartbeat (f : EthFrame) (s : State) : Answer :=
  .next (match s.witFrom f with
    | (t, some (m, c, u)) =>
      if m.typ ≠ 1 then t
      else
        let b := m.body
        let role := fieldBe b 0 1
        let fl := fieldBe b 1 1
        let ep := fieldBe b 4 4
        let x := (t.witPair c.pairId).unit u
        let t := t.setWitUnit c.pairId u { x with
          role := role, flags := fl, epoch := ep, at_ := some t.now, confirmed := x.confirmed || bitOf fl 1 }
        let e := t.witE c.pairId
        if e < ep then
          let t := t.setWitE c.pairId ep
          if role = 0 then t.setWitPair c.pairId { t.witPair c.pairId with act := some u } else t
        else if role = 0 && ep < e then t.witSend c u 8 (be 4 e)
        else t
    | (t, none) => t)

/-- REQUEST (R435). -/
def execRequest (f : EthFrame) (s : State) : Answer :=
  .next (match s.witFrom f with
    | (t, some (m, c, u)) =>
      if m.typ ≠ 2 then t
      else
        let nonce := fieldBe m.body 0 4
        if ((t.witPair c.pairId).unit u).nonce = some nonce then t.witAnswer c u
        else t.witRequest c u nonce (fieldBe m.body 4 1) (fieldBe m.body 8 4) (fieldBe m.body 12 4)
    | (t, none) => t)

/-- VOTE: passed to the active unit as NOTICE (R428, R436). -/
def execVote (f : EthFrame) (s : State) : Answer :=
  .next (match s.witFrom f with
    | (t, some (m, c, u)) =>
      if m.typ ≠ 6 then t
      else match (t.witPair c.pairId).act with
        | some a => t.witSend c a 7 (be 1 (2 ^ (fieldBe m.body 0 1 % 8)) ++ [0, 0, 0])
        | none => t
    | (t, none) => t)

/-- WITNESS_START_HOLD_END: 100 ms after the first START of a pair, it is decided (R436). -/
def execWitnessStartHoldEnd (pair : Nat) (s : State) : Answer :=
  .next (if !(s.role == .witness) then s
    else match s.cfg.rdn.pairs.find? (·.pairId == pair), (s.witPair pair).startAt with
      | some c, some t => if t + ms 100 ≤ s.now then s.witDecide c else s
      | _, _ => s)

/-- WITNESS_STATUS_DUE: STATUS to both units of a pair every 50 ms (R434). -/
def execWitnessStatusDue (pair : Nat) (s : State) : Answer :=
  .next (if !(s.role == .witness) then s
    else match s.cfg.rdn.pairs.find? (·.pairId == pair) with
      | some c =>
        if (s.witPair pair).statusAt ≤ s.now then
          (s.witStatus c).setWitPair pair { s.witPair pair with statusAt := s.now + ms 50 }
        else s
      | none => s)

/-- WITNESS_HOLDING_END: two loss times after the restart grants resume (R436). -/
def execWitnessHoldingEnd (s : State) : Answer :=
  .next (if s.role == .witness && decide (s.rdn.holdUntil ≠ 0 ∧ s.rdn.holdUntil ≤ s.now) then { s with rdn := { s.rdn with holdUntil := 0 } } else s)

end Sys2Proof.Machine
end

