-- ==== Sys2Proof/Machine/Radio.lean ====
section
/-!
DEFINITION. The radio (R313 to R341): frames received and what follows them, beacons, listen windows, the standby's watch, the radio commands.
-/
set_option linter.unusedVariables false
namespace Sys2Proof.Machine

/-! ### Receiving (R316 to R319, R338) -/

/-- The stamp of a received frame at its end: the last bit of its SFD, with the receive trim (R315). -/
def State.radRxStamp (s : State) (f : RadioFrame) : Nat :=
  let after := airNs (s.radMode f.chan) 0 0 / 4 * (2 + f.psdu.length)
  s.stampAt ((s.now : Int) - (after : Int) + sext 16 (s.fld (Reg.RAD_TSADJ f.chan) F.RAD_TSADJ_RX)).toNat

/-- Post a ring 7 entry (R338): reason 2 CAPTURE, 3 FORMAT, 4 SENDER, 5 AUTH, 6 SEGMENT. -/
def State.post7 (s : State) (f : RadioFrame) (reason : Nat) : State :=
  let room := s.entrySize 7 - 32
  let q := s.radio.seq7
  let st := s.radRxStamp f
  let held := f.psdu.take room
  let s : State := { s with radio := { s.radio with seq7 := addMod32 q 1 } }
  s.post 7 fun loss =>
    le 4 q ++ le 1 f.chan ++ le 1 (bit (decide (held.length < f.psdu.length)) + 2 * bit loss) ++ le 2 f.psdu.length ++ le 8 st ++ le 2 f.rssi ++ le 1 reason ++ [0]
      ++ le 2 held.length ++ List.replicate 10 0 ++ padTo room held

/-- A frame is discarded at step 2 or 3 of R317: counted, copied while CAP_REJ is set. -/
def State.radReject (s : State) (f : RadioFrame) (reg reason : Nat) : State :=
  let t := s.bump reg
  if t.flag (Reg.RAD_CTL f.chan) F.RAD_CTL_CAP_REJ then t.post7 f reason else t

/-- The measured uplink of the last 60 s sets LOAD_HIGH above 40 frames/s and clears it below 36 (R331). -/
def State.radLoad (s : State) (r : Nat) : State :=
  let x := s.radChan r
  let h := x.heard.filter fun e => decide (s.now < e.1 + secs 60)
  let t := s.setRadChan r { x with heard := h }
  let a := Reg.RAD_STATUS r
  if 2400 < h.length && !t.flag a F.RAD_STATUS_LOAD_HIGH then (t.setF a F.RAD_STATUS_LOAD_HIGH 1).event 0x0F02 1 r (le 1 r ++ le 2 (h.length * 16 / 60))
  else if h.length < 2160 then t.setF a F.RAD_STATUS_LOAD_HIGH 0 else t

/-- The frame fails at key or MIC (R286, R312). -/
def State.radAuthFailed (s : State) (f : RadioFrame) (n : Option Nat) : State :=
  let r := f.chan
  let t := s.radReject f (Reg.RAD_CZNAUTH r) 5
  let x := t.radChan r
  let recent := t.lately x.auth
  let said := t.mayRecord x.authAt
  let t := t.setRadChan r { x with auth := recent, authAt := if said then some t.now else x.authAt }
  let t := if said then t.event 0x0D14 1 noInst (le 1 (64 + r) ++ le 2 (min 65535 recent.length)) else t
  match n with
  | none => t
  | some n =>
    let c := addMod32 (t.radNode n).authFail 1
    (t.setRadNode n { t.radNode n with authFail := c }).radPoints n [(8, c)]

/-- The Carzon frame of a PSDU. -/
def radioCarzon (f : RadioFrame) : List Byte := (f.psdu.drop 4).take (f.psdu.length - 6)

/-- Types used on the radio (R318). -/
def radioTypes : List Nat := [0x01, 0x02, 0x03, 0x08, 0x18, 0x20, 0x40, 0x41]

/-- The form check of R286 as R318 changes it: version 3 alone. -/
def radFormOk (c : List Byte) : Bool :=
  fieldBe c 0 1 == 3 && radioTypes.contains (fieldBe c 1 1) && decide (fieldBe c 2 1 < 2) && decide (18 + fieldBe c 16 2 + 8 ≤ c.length)

/-- The node's opportunity after its uplink: the first frame leaves 5 ms after the uplink ends (R318, R319, R322). -/
def State.postUplink (s : State) (n : Nat) (ack : Option (Nat × Nat × List Byte)) : State :=
  let r := radioChan n
  if !s.radTx r then s
  else
    let start := max (s.now + ms 5) (s.radChan r).busyTo
    if s.now + ms 50 < start then s
    else
      let m : RadAir := { s := s, at_ := start, stop := false }
      let m := match ack with
        | some (kcls, gen, body) => m.put r (m.s.radAir r (radPsdu 8)) fun at_ t => t.radSend n 0x08 kcls gen 0 body [] at_
        | none => m
      (m.serve n).s

/-- An authenticated frame of a node: supervision and status points (R325, R334, R335). A frame that is new names the last contact (R323). -/
def State.radHeard (s : State) (f : RadioFrame) (n counter : Nat) (fresh : Bool) : State :=
  let r := f.chan
  let x := s.radNode n
  let fctl := fieldBe f.psdu 0 1
  let named := ((s.radChan r).beacons.zipIdx.find? fun e => e.1.1 % 256 == fieldBe f.psdu 3 1)
  let st := s.radRxStamp f
  let contact := match named with | some e => if fresh then e.1.2 else x.contact | none => x.contact
  let missed := match named with | some e => e.2 | none => 0
  let y : RadioNode := { x with lastHeard := s.now, lastStamp := st, uplinkAt := s.now, hiCounter := max x.hiCounter counter, contact := contact }
  let t := s.setRadNode n y
  let t := if bitOf fctl 4 then t.radWakeOnly n
    else
      let l := if 3 ≤ missed then 1 else 0
      t.setRadNode n { t.radNode n with listen := l }
  let t := t.radPoints n [(1, bitsOf st 20 32), (2, ofInt 32 (sext 16 f.rssi)), (4, (t.radNode n).listen), (5, t.radGuard n), (0xA, t.radDelta n / 1000)]
  let t := if y.state = 4 then t.radNodeState n 3 else if y.state = 5 then t.radNodeState n 2 else t
  t.finishAll (fun w => match w.kind with | .radWake m _ => m == n | _ => false) St.ok 0 0

/-- A radio node's frame whose MIC has verified. -/
structure RadIn where
  node : Nat
  typ : Nat
  ackReq : Bool
  kcls : Nat
  gen : Nat
  counter : Nat
  claim : Nat
  body : List Byte
  deriving DecidableEq, Repr

/-- The sender of a frame: an admitted radio address of the channel (R318). -/
def State.radSender (s : State) (r : Nat) (c : List Byte) : Option Nat :=
  let a := fieldBe c 4 2
  let n := a - 0x1000
  if 0x1000 ≤ a && a < 0x3000 && radioChan n == r && (s.radEntry n).isSome && (decide (1 ≤ (s.radNode n).state ∧ (s.radNode n).state ≤ 5) || !s.leads)
    && (fieldBe c 1 1 == 0x08 || fieldBe c 1 1 == 0x20) then some n else none

/-- Key and MIC of a node's frame (R286). -/
def State.radOpen (s : State) (n : Nat) (c : List Byte) : Option RadIn :=
  let r := radioChan n
  let typ := fieldBe c 1 1
  let sel := fieldBe c 3 1
  let kcls := sel / 16
  let gen := if kcls = 2 && typ = 0x08 then some (sel % 16) else if kcls = 0 then (s.radChan r).gens.find? fun g => g % 16 == sel % 16 else none
  match gen, s.radEntry n with
  | some g, some e =>
    let len := fieldBe c 16 2
    match s.radNodeKey n kcls g with
    | none => none
    | some key => (cznOpen 3 key e.uid (fieldBe c 8 4) (64 + r) typ len (c.take 18) (slice c 18 (len + 8))).map fun body =>
        { node := n, typ := typ, ackReq := bitOf (fieldBe c 2 1) 0, kcls := kcls, gen := g, counter := fieldBe c 8 4, claim := fieldBe c 12 4, body := body }
  | _, _ => none

/-- What an acknowledged frame brings about (R318, R319, R335, R336). -/
def State.radAcked (s : State) (n : Nat) (u : CznUnacked) (status : Nat) : State :=
  let r := radioChan n
  let x := s.radNode n
  if u.typ = 0x02 then
    if x.state ≠ 1 then s
    else if status = 2 then (s.setRadNode n { x with pend := [], unacked := [] }).radNodeState n 0
    else
      let t := s.radKeys n (s.radChan r).gen
      if (t.radChan r).phase = 1 || (t.radChan r).phase = 2 then t.radKeys n (t.radChan r).next else t
  else if u.typ = 0x03 then
    let t := if status ≠ 2 && u.carries.contains (s.radChan r).next then s.setRadNode n { x with keysAcked := true } else s
    match t.radEntry n with
    | some e => if x.state = 1 && u.carries.contains (t.radChan r).gen then t.radPend n 0x41 (t.rsetupBody e) else t
    | none => t
  else if u.typ = 0x41 then (if x.state = 1 && status ≠ 2 then s.radNodeState n 3 else s)
  else if u.typ = 0x18 then
    if status = 2 then s.applyM (s.pendingOps true (u.carries.map (radioAddr n)))
    else
      let still := x.outputs ++ x.unacked.flatMap fun v => if v.typ = 0x18 then v.carries else []
      let t := s.applyM (s.pendingOps false ((u.carries.filter fun o => !still.contains o).map (radioAddr n)))
      if x.state = 2 then t.radNodeState n 3 else t
  else s

/-- The writes of an item of a REPORT (R298, R321), or that it is stray, or out of range. -/
def State.radItem (s : State) (n st : Nat) (it : Nat × Word) : Item × List PtOp :=
  let bad := bitOf it.1 15
  let o := it.1 % 4096
  if bitsOf it.1 12 3 ≠ 0 then (.bad, [])
  else if o = 3 || (0x20 ≤ o && o ≤ 0xDF) then
    let i := s.pointItem (radioAddr n o) it.2 bad
    match i with
    | .point a v q => (i, [radWrite n o v.toNat st q])
    | _ => (i, [])
  else if 0x700 ≤ o && o ≤ 0x7FF then (.point o it.2 0, [])
  else (.stray, [])

/-- REPORT of a radio node (R298, R321). -/
def State.radReport (s : State) (f : RadioFrame) (c : RadIn) : State :=
  let n := c.node
  let r := f.chan
  let b := c.body
  let flags := fieldBe b 4 2
  let head := if bitOf flags 7 then 16 else 8
  let k := fieldBe b 6 1
  let st := if bitOf flags 7 then fieldBe b 8 8 else s.radRxStamp f
  let items := (itemsOf k (b.drop head)).map (s.radItem n st)
  let answer : Nat → Option (Nat × Nat × List Byte) := fun status =>
    if c.ackReq then some (c.kcls, c.gen, be 4 c.counter ++ be 1 0x20 ++ be 1 status ++ [0, 0]) else none
  if b.length ≠ head + 6 * k || 255 < flags || fieldBe b 7 1 ≠ 0 || fieldBe b 0 4 ≠ 0 || items.any fun i => i.1 == .bad then
    (s.bump (Reg.RAD_CZNREJ r)).postUplink n (answer 2)
  else if !s.radTx r then s
  else
    let t := (s.bump (Reg.RAD_CZNITEM r) (items.filter fun i => i.1 == .stray).length).applyM (items.flatMap (·.2))
    let t := if bitOf flags 5 && !((t.radNode n).pend.any fun p => p.1 == 0x03) && !((t.radNode n).unacked.any fun u => u.typ == 0x03) then t.radKeys n (t.radChan r).gen else t
    let t := if bitOf flags 6 then t.startRekey else t
    t.postUplink n (answer 0)

/-- ACK of a radio node (R288). -/
def State.radAck (s : State) (f : RadioFrame) (c : RadIn) : State :=
  let n := c.node
  let b := c.body
  if b.length ≠ 8 || fieldBe b 6 2 ≠ 0 || 2 < fieldBe b 5 1 then (s.bump (Reg.RAD_CZNREJ f.chan)).postUplink n none
  else
    let x := s.radNode n
    match x.unacked.find? fun u => u.counter == fieldBe b 0 4 && u.typ == fieldBe b 4 1 && (u.typ == 0x02) == (c.kcls == 2) with
    | none => s.postUplink n none
    | some u =>
      let t := s.setRadNode n { x with unacked := x.unacked.filter fun v => v ≠ u }
      (if t.radTx f.chan then t.radAcked n u (fieldBe b 5 1) else t).postUplink n none

/-- A node's frame that reached step 3 of R317: sender, key, MIC, window, claim, then its content. -/
def State.radNodeFrame (s : State) (f : RadioFrame) : State :=
  let r := f.chan
  let c := radioCarzon f
  match s.radSender r c with
  | none => s.radReject f (Reg.RAD_CZNREJ r) 4
  | some n =>
    match s.radOpen n c with
    | none => s.radAuthFailed f (some n)
    | some i =>
      let x := s.radNode n
      let w := acceptCounter x.windows (i.kcls == 2) i.gen i.counter
      match w.1 with
      | .old => s.bump (Reg.RAD_CZNOLD r)
      | .repeat_ =>
        let t := (s.bump (Reg.RAD_CZNREPEAT r)).radHeard f n i.counter false
        let k := addMod32 (t.radNode n).repeats 1
        let t := (t.setRadNode n { t.radNode n with repeats := k }).radPoints n [(7, k)]
        t.postUplink n (if i.ackReq then some (i.kcls, i.gen, be 4 i.counter ++ be 1 i.typ ++ be 1 1 ++ [0, 0]) else none)
      | .new =>
        let t := ((s.setRadNode n { x with windows := w.2 }).radHeard f n i.counter true).claimHigher (radioCzn n) i.claim
        if i.typ = 0x08 then t.radAck f i else t.radReport f i

/-- A radio node is refused: recorded (R319). -/
def State.radRefuse (s : State) (r reason uid : Nat) : State := s.event 0x0D11 1 noInst (le 1 (64 + r) ++ [0] ++ le 1 reason ++ le 8 uid)

/-- The number under which the radio node table holds a UID. -/
def State.radOfUid (s : State) (uid : Nat) : Option Nat := (s.cfg.radio.nodes.find? (·.uid == uid)).map (·.n)

/-- The discovery windows of a radio node's UID, and what they become (R287). -/
def State.radHelloWindows (s : State) (uid : Nat) : List CznWindow := match s.radOfUid uid with | some n => (s.radNode n).windows | none => s.strangerWindows uid
def State.setRadHelloWindows (s : State) (uid : Nat) (ws : List CznWindow) : State :=
  match s.radOfUid uid with | some n => s.setRadNode n { s.radNode n with windows := ws } | none => s.setStranger uid ws

/-- HELLO is in range on the radio: the fields of a row node are 0 (R290, R319). -/
def radHelloOk (b : List Byte) : Bool := b.length == 28 && allZero (slice b 9 5) && fieldBe b 14 2 == 0 && allZero (slice b 16 4) && allZero (slice b 24 4)

/-- The body of WELCOME to a radio node; no rule gives its report_len (R292, R319). -/
def State.radWelcome (s : State) (e : RadioEntry) : List Byte :=
  be 8 s.uid ++ be 8 e.uid ++ be 8 (if s.paired then s.cfg.rdn.peerUid else 0) ++ be 2 (radioCzn e.n) ++ be 1 (64 + radioChan e.n) ++ be 1 3
    ++ be 1 (s.radChan (radioChan e.n)).gen ++ be 1 0 ++ be 2 ((Config.freeWord s.free).toNat % 65536) ++ be 4 0 ++ be 1 0 ++ [0, 0, 0]

/-- A HELLO that has passed every check of R286: the conditions of admission (R319). -/
def State.radJudge (s : State) (f : RadioFrame) (key b : List Byte) : State :=
  let r := f.chan
  let c := radioCarzon f
  let uid := fieldBe b 0 8
  match (s.cfg.radio.onChan r).find? fun e => e.uid == uid with
  | none => s.radRefuse r 1 uid
  | some e =>
    if !bitOf (fieldBe b 8 1) 3 then (s.radRefuse r 3 uid).radNodeState e.n 6
    else
      let y : RadioNode := { s.radNode e.n with key := key, helloAt := s.now, unacked := [], pend := [], keysAcked := false, outputs := [], contact := s.now, listen := 0 }
      let t := (s.setRadNode e.n y).radHeard f e.n (fieldBe c 8 4) false
      let t := ((t.event 0x0D10 0 noInst (le 2 (radioCzn e.n) ++ le 1 3 ++ le 8 uid)).radNodeState e.n 1).claimHigher (radioCzn e.n) (fieldBe c 12 4)
      (t.nextFree.radPend e.n 0x02 (t.radWelcome e)).postUplink e.n none

/-- HELLO of a radio node (R286, R319): key, MIC, window and content are checked before the conditions of admission. -/
def State.radHello (s : State) (f : RadioFrame) : State :=
  let r := f.chan
  let c := radioCarzon f
  let len := fieldBe c 16 2
  let uid := fieldBe c 18 8
  let counter := fieldBe c 8 4
  let failed := s.radAuthFailed f (((s.cfg.radio.onChan r).find? fun e => e.uid == uid).map (·.n))
  if !s.radTx r then s
  else if fieldBe c 4 2 ≠ 0xFFFE then s.radReject f (Reg.RAD_CZNREJ r) 4
  else match s.helloKey (fieldBe c 3 1) uid with
    | none => failed
    | some key =>
      match cznOpen 3 (keyD key) uid counter (64 + r) 0x01 len (c.take 18) (slice c 18 (len + 8)) with
      | none => failed
      | some b =>
        let w := acceptCounter (s.radHelloWindows uid) true (fieldBe c 3 1 % 16) counter
        match w.1 with
        | .old => s.bump (Reg.RAD_CZNOLD r)
        | .repeat_ => s.bump (Reg.RAD_CZNREPEAT r)
        | .new =>
          let t := s.setRadHelloWindows uid w.2
          if !radHelloOk b then t.bump (Reg.RAD_CZNREJ r) else t.radJudge f key b

/-- The peer's claim as a standby knows it: the highest epoch seen, the other unit (R413). -/
def State.peerClaim (s : State) : Nat := s.rdn.highest * 2 + (1 - s.unit)

/-- A standby hears a BEACON: one that is new, carries the active module's claim and whose MIC verifies under the channel's group key is accepted (R286, R287, R330). -/
def State.radHearBeacon (s : State) (f : RadioFrame) : State :=
  let r := f.chan
  let c := radioCarzon f
  let x := s.radChan r
  let len := fieldBe c 16 2
  let key := (x.gens ++ [x.next]).findSome? fun g => if fieldBe c 3 1 == 16 + g % 16 then (mapFind x.groupKeys g).map fun k => (g, k) else none
  match key with
  | none => s.radAuthFailed f none
  | some (g, k) =>
    let w := acceptCounter x.peerWindows false g (fieldBe c 8 4)
    if (cznOpen 3 k s.cfg.rdn.peerUid (fieldBe c 8 4) (64 + r) 0x40 len (c.take 18) (slice c 18 (len + 8))).isNone then s.radAuthFailed f none
    else if w.1 = .old then s.bump (Reg.RAD_CZNOLD r)
    else if w.1 = .repeat_ then s.bump (Reg.RAD_CZNREPEAT r)
    else
      let s := s.setRadChan r { x with peerWindows := w.2 }
      if len ≠ 24 then s.bump (Reg.RAD_CZNREJ r)
      else if fieldBe c 12 4 ≠ s.peerClaim then s
      else
      let seq := fieldBe c 18 4
      let t := (s.wrN (Reg.RAD_BCNSEQ r) seq).setF (Reg.RAD_STATUS r) F.RAD_STATUS_BCNMISS 0
      t.setRadChan r { t.radChan r with heardAt := t.now, voted := false, beacons := ((seq, t.now) :: (t.radChan r).beacons).take 256 }

/-- RADIO_FRAME_RECEIVED (R317). -/
def execRadioFrameReceived (f : RadioFrame) (s : State) : Answer :=
  let r := f.chan
  if !s.radOn r then .next s
  else if !f.ok || f.psdu.length < 8 || 255 < f.psdu.length then .next (s.bump (Reg.RAD_RXFCS r))
  else
    let fctl := fieldBe f.psdu 0 1
    let module := bitOf fctl 3
    let t := s.bump (Reg.RAD_RXFRAMES r)
    let t := if t.flag (Reg.RAD_CTL r) F.RAD_CTL_CAP_ALL then t.post7 f 2 else t
    let t := if module then t
      else (t.setRadChan r { t.radChan r with heard := (t.now, t.radAir r f.psdu.length) :: (t.radChan r).heard }).radLoad r
    if fctl / 32 ≠ 1 || fctl % 8 ≠ 0 || (module && s.role != .standby) || fieldBe f.psdu 1 2 ≠ s.fld (Reg.RAD_PHY r) F.RAD_PHY_SEGID then
      .next (t.radReject f (Reg.RAD_RXSEGID r) 6)
    else
      let c := radioCarzon f
      if !radFormOk c then .next (t.radReject f (Reg.RAD_CZNREJ r) 3)
      else if module then .next (if fieldBe c 1 1 = 0x40 then t.radHearBeacon f else t)
      else if fieldBe c 1 1 = 0x01 then .next (t.radHello f)
      else .next (t.radNodeFrame f)

/-- RADIO_ADMISSION_TIMEOUT: WELCOME or RSETUP has not been acknowledged within 5 s of HELLO (R319). -/
def execRadioAdmissionTimeout (n : Nat) (s : State) : Answer :=
  let x := s.radNode n
  .next (if x.state = 1 && decide (x.helloAt + secs 5 ≤ s.now) then (s.setRadNode n { x with pend := [], unacked := [] }).radNodeState n 0 else s)

/-! ### Beacons and listen windows -/

/-- The BEACON of a channel at its instant, then the calls that wait (R326, R329). -/
def State.radInstant (s : State) (receiving r : Nat) : State :=
  let p := max 1 (s.radPeriod r)
  let x := s.radChan r
  if s.radTx r && s.wallMs % p == 0 && s.wallMs != x.beaconMs then
    let t := s.setRadChan r { x with beaconMs := s.wallMs }
    let t := if bitOf receiving r then t.bump (Reg.RAD_CUT r) else t
    let t := t.sendBeacon r 0xFFFF t.now
    (({ t with clock := { t.clock with steppedRadios := putBits t.clock.steppedRadios r 1 0 } } : State).radLoad r).radCalls r
  else s

/-- BEACON_INSTANT: in the ms of a beacon instant; bit r of `receiving`: channel r is receiving, and the reception is cut (R320, R326, R329). -/
def execBeaconInstant (receiving : Nat) (s : State) : Answer := .next ((List.range 4).foldl (fun (t : State) r => t.radInstant receiving r) s)

/-- The last W_k of a node in wall ms (R322). -/
def State.lastWindow (s : State) (e : RadioEntry) : Option Nat :=
  let phase := e.n % 2048 * e.listen * 1000 / 2048
  if e.listen = 0 || s.wallMs < phase then none else some ((s.wallMs - phase) / (e.listen * 1000) * (e.listen * 1000) + phase)

/-- LISTEN_WINDOW: at W_k the first pending frame leaves, and the others follow it; one that cannot start by W_k + guard stays pending. A node that listens to calls
alone is called instead (R322, R324, R326). -/
def execListenWindow (n : Nat) (s : State) : Answer :=
  match s.radEntry n with
  | none => .next s
  | some e =>
    let r := radioChan n
    match s.lastWindow e with
    | none => .next s
    | some w =>
      let x := s.radNode n
      if !s.radTx r || x.lastWin = w || x.state < 2 || 4 < x.state then .next s
      else
        let g := s.radGuard n
        let s := if 1000000 ≤ g then s.radWakeOnly n else s
        let late := s.monoOfMs w + g * 1000
        let start := max s.now (s.radChan r).busyTo
        let t := s.setRadNode n { s.radNode n with lastWin := w }
        if !t.radWaits n then .next t
        else if (t.radNode n).listen = 2 then .next (t.radCall n 0)
        else if late < start then .next (t.bump (Reg.RAD_DEFERRED r))
        else .next (RadAir.serve { s := t, at_ := start, stop := false } n).s

/-! ### Standby and supervision (R330, R335) -/

/-- STANDBY_BEACON_MISS: no BEACON of the active module was accepted from 10 ms before an instant to 100 ms after it (R330, R428). -/
def execStandbyBeaconMiss (r : Nat) (s : State) : Answer :=
  let p := max 1 (s.radPeriod r)
  let k := (s.wallMs - 100) / p * p
  let at_ := s.monoOfMs k
  let x := s.radChan r
  if !s.radOn r || s.role != .standby || x.beaconMs = k || s.monoOfMs k < s.rdn.roleAt + ms 10 then .next s
  else
    let t := s.setRadChan r { x with beaconMs := k }
    if x.heardAt ≠ 0 && at_ ≤ x.heardAt + ms 10 then .next t
    else
      let a := Reg.RAD_STATUS r
      let t := t.bumpSat a F.RAD_STATUS_BCNMISS
      if t.fld a F.RAD_STATUS_BCNMISS < 3 || x.voted then .next t
      else
        let what := le 4 (t.rdN (Reg.RAD_BCNSEQ r)) ++ le 4 t.peerClaim
        let t := (t.setRadChan r { t.radChan r with voted := true }).event 0x0F03 2 r (le 1 r ++ what)
        let t := t.sendWit t.cfg.rdn.witnessSlot t.cfg.rdn.witnessAddr t.cfg.rdn.pairId 6
          (be 1 r ++ [0, 0, 0] ++ be 4 (t.rdN (Reg.RAD_BCNSEQ r)) ++ be 4 t.peerClaim)
        .next (t.event 0x140C 2 noInst (le 1 r))

/-- RADIO_NODE_STALE: no authenticated frame for 2 × H + 30 s (R335). -/
def execRadioNodeStale (n : Nat) (s : State) : Answer :=
  let x := s.radNode n
  .next (match s.radEntry n with
    | none => s
    | some e =>
      if (x.state = 2 || x.state = 3) && decide (x.lastHeard + secs (2 * e.heartbeat + 30) ≤ s.now) then (s.radNodeState n 4).sweep (s.radInputs n) Q.stale else s)

/-- RADIO_NODE_ABSENT: no authenticated frame for 6 × H (R335). -/
def execRadioNodeAbsent (n : Nat) (s : State) : Answer :=
  let x := s.radNode n
  .next (match s.radEntry n with
    | none => s
    | some e =>
      if decide (2 ≤ x.state ∧ x.state ≤ 4) && decide (x.lastHeard + secs (6 * e.heartbeat) ≤ s.now) then
        let t := (s.setRadNode n { x with pend := [], unacked := [], outputs := [] }).radNodeState n 5
        if t.leads then
          ((t.sweep (t.radInputs n) Q.absent).post6 2 (radioCzn n) 0xFF 0 0 0 0 t.stamp 0).event 0x0D12 1 noInst (le 2 (radioCzn n) ++ le 8 x.lastStamp)
        else t
      else s)

/-! ### Commands (R339) -/

/-- RAD_NODE (R339). -/
def execRadNode (e : CmdEntry) (s : State) : Answer :=
  runCmd Op.radNode (.radNode e) e (fun _ s =>
    let n := e.param 0 2
    if s.defaulted then .stat St.defaulted s
    else if (s.radEntry n).isNone then .stat St.noRadioNode s
    else if !s.flag (Reg.RAD_CTL (radioChan n)) F.RAD_CTL_ENABLE then .stat St.radioOff s
    else
      let x := s.radNode n
      .okWith (x.state + x.listen * 256 + (s.radChan (radioChan n)).gen * 65536) x.hiCounter s) s

/-- RAD_WAKE (R328, R339): a call beyond wake_max is held for the next hour. -/
def execRadWake (e : CmdEntry) (s : State) : Answer :=
  runCmd Op.radWake (.radWake e) e (fun _ s =>
    let n := e.param 0 2
    let cmd := e.param 2 1
    if s.defaulted then .stat St.defaulted s
    else if 1 < cmd then .stat St.badFormat s
    else if !s.leads then .stat St.refused s
    else if (s.radEntry n).isNone then .stat St.noRadioNode s
    else if !s.radTx (radioChan n) then .stat St.radioOff s
    else if s.wakeSpent n then .stat St.wakeLimit (s.radCall n cmd)
    else .wait (.radWake n (s.now + secs 1)) (s.radCall n cmd)) s

/-- RAD_WAKE_TIMEOUT (R339). -/
def execRadWakeTimeout (n : Nat) (s : State) : Answer :=
  .next (s.finishAll (fun w => match w.kind with | .radWake m u => m == n && decide (u ≤ s.now) | _ => false) St.timeout 0 0)

/-- WALL_CLOCK_HOUR: a new hour of the wall clock begins: the calls of the last one count no longer, calls held for it are sent (R328). -/
def execWallClockHour (s : State) : Answer :=
  let h := s.wallHour
  .next ((s.radio.nodes.foldl (fun (t : State) e =>
    let x := t.radNode e.1
    if x.wakeHour = h then t else t.setRadNode e.1 { x with wakes := 0, wakeHour := h }) s).allCalls)

/-- The node table with entries replaced. -/
def RadioCfg.withEntries (c : RadioCfg) (es : List RadioEntry) : RadioCfg := { c with nodes := c.nodes.map fun x => (es.find? fun e => e.n == x.n).getD x }

/-- The node entries of a buffer, checked against the running table (R329, R331, R337, R339). -/
def State.radioEntries (s : State) (b : List Byte) : Except Nat (List RadioEntry) :=
  match (recordsOf 24 (b.length / 24) b).mapM (parseRadioEntry s.cfg.radio.profiles.length) with
  | .error _ => .error St.badFormat
  | .ok es =>
    let c := s.cfg.radio.withEntries es
    if !(es.map (·.n)).Nodup then .error St.badFormat
    else if es.any fun e => (s.radEntry e.n).isNone then .error St.noRadioNode
    else if !(c.nodes.map (·.uid)).Nodup then .error St.badFormat
    else match (List.range 4).mapM fun r => match c.chans[r]? with | some ch => chanRules c r ch | none => pure () with
      | .error x => .error x.status
      | .ok _ => .ok es

/-- Radio node entries take effect: a changed UID returns the node to UNKNOWN, a changed profile changes the points of its block, and a node in service is sent
its new settings (R321, R339). -/
def State.loadRadioEntries (s : State) (es : List RadioEntry) : State :=
  let addrs := es.flatMap fun e => match s.radEntry e.n with
    | some x => if x.profile = e.profile then [] else (List.range 0xE0).map fun o => radioAddr e.n (0x20 + o)
    | none => []
  let t := s.swapCfg { s.cfg with radio := s.cfg.radio.withEntries es } addrs
  es.foldl (fun (t : State) e =>
    match s.radEntry e.n with
    | some x =>
      let st := (t.radNode e.n).state
      if x.uid ≠ e.uid then
        let u := t.setRadNode e.n {}
        if st = 0 then u else u.radPoints e.n [(0, 0)]
      else if st = 6 then t.radNodeState e.n 0
      else if x ≠ e && (st = 2 || st = 3 || st = 4) && t.leads then t.radPend e.n 0x41 (t.rsetupBody e)
      else t
    | none => t) t

/-- RAD_NODETABLE (R339). -/
def execRadNodetable (e : CmdEntry) (s : State) : Answer :=
  runCmd Op.radNodetable (.radNodetable e) e (fun _ s =>
    if e.txn = 0 && s.defaulted then .stat St.defaulted s
    else if e.bufOut || e.bufLen.toNat % 24 ≠ 0 || 24 * 2048 < e.bufLen.toNat then .stat St.badFormat s
    else match s.radioEntries (e.buf.take e.bufLen.toNat) with
      | .error st => .stat st s
      | .ok es =>
        s.stageTable e ((recordsOf 24 es.length e.buf).map fun b => .table .radioNodes (24 * fieldBe b 0 2) b) es.length (·.loadRadioEntries es)) s

/-- Enable or disable a channel (R339). -/
def State.setRadOn (s : State) (r : Nat) (on : Bool) : State :=
  if s.flag (Reg.RAD_CTL r) F.RAD_CTL_ENABLE == on then s
  else
    let t := s.setF (Reg.RAD_CTL r) F.RAD_CTL_ENABLE (bit on)
    let x := t.radChan r
    let t := if !on && (x.phase = 1 || x.phase = 2) then t.setRadGen r x.next { x with phase := 0 } else t
    t.showRadState r

/-- RAD_CHANNEL (R339). -/
def execRadChannel (e : CmdEntry) (s : State) : Answer :=
  runCmd Op.radChannel (.radChannel e) e (fun _ s =>
    let r := e.param 0 1
    if s.defaulted then .stat St.defaulted s
    else if 3 < r || 1 < e.param 1 1 then .stat St.badFormat s
    else s.freeRegs [Reg.RAD_CTL r] (.stat St.ok (s.setRadOn r (e.param 1 1 == 1)))) s

/-- A write of RAD[r]_DUTY.LIMIT: a limit that is neither 0 nor above the reserve loads the reserve and 1 (R332). -/
def State.writeDuty (s : State) (r limit : Nat) : State :=
  let v := limit % 65536
  s.setF (Reg.RAD_DUTY r) F.RAD_DUTY_LIMIT (if v = 0 || s.radReserve r < v then v else s.radReserve r + 1)

end Sys2Proof.Machine
end

