-- ==== Sys2Proof/Machine/RegWrite.lean ====
section
/-!
DEFINITION. The one operation that writes a register (R5, R8, R478, R480), with what a write of each register does beyond its access codes, and the commands that
are direct register writes.
-/
set_option linter.unusedVariables false
namespace Sys2Proof.Machine

/-- The index of a register of a replicated block. -/
def regIdx (base stride n a : Nat) : Option Nat := if base ≤ a && (a - base) % stride == 0 && decide ((a - base) / stride < n) then some ((a - base) / stride) else none

/-- A write by access codes alone. -/
def State.plainReg (s : State) (a : Nat) (v : Word) : State := match regRow? a with | some r => s.wr a (plainWrite r (s.rd a) v) | none => s

/-- A write by access codes with a field held to bounds. -/
def State.plainClamp (s : State) (a : Nat) (v : Word) (f : Fld) (lo hi : Nat) : State := (s.plainReg a v).setF a f (clampNat lo hi (f.get v))

/-! ### Core voltage (R60, R217) -/

/-- The event that EBB is entered while the budget does not hold in EBB: T_ex in EBB and P - M (R197, R215, R226). -/
def State.ebbUnbudgeted (s : State) : State :=
  if s.flag Reg.CYC_STATUS F.CYC_STATUS_BUDGET_EBB then s
  else s.event 0x0B04 1 noInst (le 4 (s.load.tex rateEbb (s.rdN Reg.CYC_PERIOD) s.fettleUs) ++ le 4 (s.rdN Reg.CYC_PERIOD - s.rdN Reg.CYC_MARGIN))

/-- A ramp of the core voltage starts towards EBB or FULL; none where the fabric is there, or on its way. -/
def State.rampTo (s : State) (ebb : Bool) : State :=
  let heading := s.sup.ramp.getD (s.flag Reg.GLB_STATUS F.GLB_STATUS_EBB)
  if heading == ebb then s
  else
    let t : State := { s with sup := { s.sup with ramp := if s.flag Reg.GLB_STATUS F.GLB_STATUS_EBB == ebb && s.sup.ramp.isNone then none else some ebb } }
    if ebb then t.ebbUnbudgeted else t

/-- GLB_VSTATE.EBB takes a value: the voltage follows it, unless EBB is forced by die temperature (R47, R60). -/
def State.requestEbb (s : State) (ebb : Bool) : State :=
  let t := s.setF Reg.GLB_VSTATE F.GLB_VSTATE_EBB (bit ebb)
  if t.flag Reg.GLB_STATUS F.GLB_STATUS_FORCED_EBB then t else t.rampTo ebb

/-- GLB_STATUS.RISER_OK compares the riser with GLB_RISERREADY (R71). -/
def State.showRiser (s : State) : State :=
  s.setF Reg.GLB_STATUS F.GLB_STATUS_RISER_OK (bit (decide (s.fld Reg.GLB_RISERREADY F.GLB_RISERREADY_LEVEL ≤ s.fld Reg.GLB_SUPPLY F.GLB_SUPPLY_RISER)))

/-! ### Block by block -/

/-- GLB, HIF, RNG, DBL, TXN, DMA, TUN and MEM registers. -/
def State.writeLow (s : State) (a : Nat) (v : Word) : Option State :=
  if a = Reg.GLB_VSTATE then some (s.requestEbb (bitOf v.toNat 0))
  else if a = Reg.GLB_RISERREADY then some (s.plainClamp a v F.GLB_RISERREADY_LEVEL 9000 65535).showRiser
  else if a = Reg.HIF_VERSION then some (s.writeVersion v)
  else if 0x1800 ≤ a && a < 0x1A00 then some (s.plainReg a v).sendPending
  else if let some n := regIdx (Reg.RNG_CFG 0) 0x40 16 a then some (s.writeRingCfg n v)
  else if let some n := regIdx (Reg.RNG_BASELO 0) 0x40 16 a then some (s.writeRingAddr a n v)
  else if let some n := regIdx (Reg.RNG_BASEHI 0) 0x40 16 a then some (s.writeRingAddr a n v)
  else if let some n := regIdx (Reg.RNG_WBLO 0) 0x40 16 a then some (s.writeRingAddr a n v)
  else if let some n := regIdx (Reg.RNG_WBHI 0) 0x40 16 a then some (s.writeRingAddr a n v)
  else if let some n := regIdx (Reg.DBL_INDEX 0) 0x100 16 a then some (s.writeDoorbell n v)
  else if a = Reg.TXN_CFG then some (s.plainClamp a v F.TXN_CFG_WAIT 1 65535)
  else if let some n := regIdx (Reg.DMA_CFG 0) 0x20 15 a then
    some (let t := s.plainReg a v
      if F.DMA_CFG_PRIO.get v = 7 then t.setF a F.DMA_CFG_PRIO 6 else t)
  else if a = Reg.DMA_CFG 15 then some (s.setF a F.DMA_CFG_SHARE (F.DMA_CFG_SHARE.get v))
  else if let some n := regIdx (Reg.DMA_CTL 0) 0x20 16 a then some (if bitOf v.toNat 0 then s.resumeRunner n else s)
  else if let some n := regIdx (Reg.TUN_CTL 0) (Reg.TUN_CTL 1 - Reg.TUN_CTL 0) 16 a then some (if bitOf v.toNat 0 then s.requestFlush n else s)
  else if a = Reg.MEM_FETTLE then some (s.writeFettle v)
  else if let some b := regIdx (Reg.MEM_BANK 0) 4 192 a then
    some (if s.flag a F.MEM_BANK_CHILL == bitOf v.toNat 0 then s else s.writeChill b (bitOf v.toNat 0))
  else none

/-- A write of TRK[p]_CTL: a change of PLCA_EN changes the port's role (R262, R275). -/
def State.writeTrkCtl (s : State) (p : Nat) (v : Word) : State :=
  let a := Reg.TRK_CTL p
  let on := s.trkOn p
  let plca := s.plcaOn p
  let t := (s.plainClamp a v F.TRK_CTL_MAXLEN 64 2048).setF a F.TRK_CTL_ENABLE (bit on)
  let t := if t.plcaOn p == plca || !on then t else (t.setPort p { t.port p with beacons := false, listen := some t.now }).portStateEvent p
  t.setPortOn p (F.TRK_CTL_ENABLE.get v == 1)

/-- A write of RAD[r]_CTL: CHANNEL and PHYMODE stand while ENABLE is 1; PHYMODE 3 loads 1. -/
def State.writeRadCtl (s : State) (r : Nat) (v : Word) : State :=
  let a := Reg.RAD_CTL r
  let on := s.flag a F.RAD_CTL_ENABLE
  let mode := F.RAD_CTL_PHYMODE.get v
  let t := (s.plainReg a v).setF a F.RAD_CTL_ENABLE (bit on)
  let t := if on then (t.setF a F.RAD_CTL_CHANNEL (s.fld a F.RAD_CTL_CHANNEL)).setF a F.RAD_CTL_PHYMODE (s.fld a F.RAD_CTL_PHYMODE)
    else t.setF a F.RAD_CTL_PHYMODE (if mode = 3 then 1 else mode)
  t.setRadOn r (F.RAD_CTL_ENABLE.get v == 1)

/-- A power in dBm, −10 to 27; writes beyond load the nearer end. -/
def powerWrite (x : Nat) : Nat := ofInt 8 (clampInt (-10) 27 (sext 8 x))

/-- A write of ETH[g]_CTL: what waits on a port that is disabled is lost (R272). -/
def State.writeEthCtl (s : State) (g : Nat) (v : Word) : State :=
  let t := s.plainReg (Reg.ETH_CTL g) v
  if F.ETH_CTL_ENABLE.get v = 1 then t
  else (t.setEth g { t.eth g with pausedTo := none, queue := [] }).setF (Reg.ETH_STATUS g) F.ETH_STATUS_PAUSED 0

/-- The port and, if it is one, the entry of a gate-list register. -/
def gateReg? (a : Nat) : Option (Nat × Option Nat) :=
  match regIdx (Reg.TRK_GATECTL 0) 0x400 64 a with
  | some p => some (p, none)
  | none =>
    if Reg.TRK_GATE 0 0 ≤ a && a < Reg.TRK_GATE 63 63 + 4 && decide ((a - Reg.TRK_GATE 0 0) % 0x400 < 0x100) then
      some ((a - Reg.TRK_GATE 0 0) / 0x400, some ((a - Reg.TRK_GATE 0 0) % 0x400 / 4))
    else none

/-- CYC, LMP, TRK, ETH and RAD registers. -/
def State.writeMid (s : State) (a : Nat) (v : Word) : Option State :=
  if a = Reg.LMP_TICK then some (s.writeTick (F.LMP_TICK_MS.get v))
  else if a = Reg.TRK_CZNCFG then some (s.plainClamp a v F.TRK_CZNCFG_TIME_MS 50 1000)
  else if let some p := regIdx (Reg.TRK_CTL 0) 0x400 64 a then some (s.writeTrkCtl p v)
  else if let some g := gateReg? a then some (s.writeGatectl g.1 g.2 v)
  else if let some g := regIdx (Reg.ETH_CTL 0) 0x800 2 a then some (s.writeEthCtl g v)
  else if let some r := regIdx (Reg.RAD_CTL 0) 0x400 4 a then some (s.writeRadCtl r v)
  else if let some r := regIdx (Reg.RAD_TXPWR 0) 0x400 4 a then
    some ((s.setF a F.RAD_TXPWR_WAKE (powerWrite (F.RAD_TXPWR_WAKE.get v))).setF a F.RAD_TXPWR_MAIN (powerWrite (F.RAD_TXPWR_MAIN.get v)))
  else if let some r := regIdx (Reg.RAD_DUTY 0) 0x400 4 a then some (s.writeDuty r (F.RAD_DUTY_LIMIT.get v))
  else none

/-- A write of RTC_TRIM: −8,590 to 8,590, in MANUAL alone. -/
def State.writeTrim (s : State) (v : Word) : State :=
  if s.fld Reg.RTC_CTL F.RTC_CTL_TRIMSRC ≠ 0 then s
  else s.setF Reg.RTC_TRIM F.RTC_TRIM_TRIM (ofInt 16 (clampInt (-8590) 8590 (sext 16 (F.RTC_TRIM_TRIM.get v))))

/-- RDN_ROTATE: 0 or 3,600 to 2,592,000 s, the nearer of them; which of two equally near ones is loaded is not stated. -/
def rotateWrite (free v : Nat) : Nat :=
  if v = 0 then 0 else if v < 1800 then 0 else if v = 1800 then (if Config.freeBit free then 3600 else 0) else clampNat 3600 2592000 v

/-- A write of RDN_CFG: LAG 1 to 16, LOSS_MS at least 3 × BEACON_MS. -/
def State.writeRdnCfg (s : State) (v : Word) : State :=
  let a := Reg.RDN_CFG
  let t := s.plainClamp a v F.RDN_CFG_LAG 1 16
  t.setF a F.RDN_CFG_LOSS_MS (max (F.RDN_CFG_LOSS_MS.get v) (3 * t.fld a F.RDN_CFG_BEACON_MS))

/-- TIM, RTC, MTR, EVR, RDN, KEY and PAT registers. -/
def State.writeHigh (s : State) (a : Nat) (v : Word) : Option State :=
  if a = Reg.TIM_CTL then
    some (let t := s.setF a F.TIM_CTL_AUTOSTEP (F.TIM_CTL_AUTOSTEP.get v)
      if 3 < F.TIM_CTL_SRC.get v then t else (t.setF a F.TIM_CTL_SRC (F.TIM_CTL_SRC.get v)).refreshServo.showPorts)
  else if a = Reg.TIM_INCRHI then some (s.writeIncrHi v)
  else if a = Reg.TIM_STEP then some (if bitOf v.toNat 0 then s.goStep else s)
  else if a = Reg.TIM_SERVO then some (s.plainClamp a v F.TIM_SERVO_STEP_US 1 65535)
  else if a = Reg.TIM_UTCOFF then some (if s.utcOwned then s else s.setUtcOff (F.TIM_UTCOFF_OFFSET.get v) (F.TIM_UTCOFF_LEAP.get v))
  else if a = Reg.TIM_PTPCFG then some (s.plainReg a v).showPorts
  else if a = Reg.RTC_CTL then
    some (let t := s.plainReg a v
      if F.RTC_CTL_TRIMSRC.get v = 3 then t.setF a F.RTC_CTL_TRIMSRC 0 else t)
  else if a = Reg.RTC_STG_UTC then some (s.stageTime false v)
  else if a = Reg.RTC_STG_SUBSEC then some (s.stageTime true v)
  else if a = Reg.RTC_COMMIT then
    some (let t := if bitOf v.toNat 0 then s.askGo else s
      if bitOf v.toNat 1 then t.commitFromWall else t)
  else if a = Reg.RTC_TRIM then some (s.writeTrim v)
  else if let some k := regIdx (Reg.RTC_PER_CFG 0) (Reg.RTC_PER_CFG 1 - Reg.RTC_PER_CFG 0) 4 a then some (s.plainClamp a v F.RTC_PER_CFG_PERIOD 1 16777216)
  else if let some k := regIdx (Reg.RTC_PER_PHASE 0) (Reg.RTC_PER_PHASE 1 - Reg.RTC_PER_PHASE 0) 4 a then
    some (s.plainClamp a v F.RTC_PER_PHASE_PHASE 0 (s.fld (Reg.RTC_PER_CFG k) F.RTC_PER_CFG_PERIOD - 1))
  else if a = Reg.MTR_CTL then some (s.cfg.meter.pulses.foldl (fun (t : State) g => t.showPulse g) (s.plainReg a v))
  else if a = Reg.EVR_CFG then some (s.plainClamp a v F.EVR_CFG_FLUSH_S 1 65535)
  else if a = Reg.EVR_CURSOR then some ((s.wr a v).startWindow v.toNat)
  else if a = Reg.EVR_WINCTL then some (if bitOf v.toNat 0 then s.nextWindow else s)
  else if a = Reg.EVR_STREAM then some (if s.ringOn 4 then s else s.wr a v)
  else if a = Reg.RDN_CFG then some (s.writeRdnCfg v)
  else if a = Reg.RDN_ROTATE then some (s.nextFree.wrN a (rotateWrite s.free v.toNat))
  else if a = Reg.RDN_TIMING then some (s.plainClamp a v F.RDN_TIMING_ISOLATE_MS 100 65535)
  else if a = Reg.KEY_MODE then some (s.writeKeyMode v)
  else if a = Reg.KEY_LC then some (s.writeOwnerLock v)
  else if a = Reg.KEY_LCREQ then some (s.writeLcReq v)
  else if a = Reg.KEY_WRGO then some (if bitOf v.toNat 0 then s.keyGo else s)
  else if a = Reg.KEY_CZNSRC then some (s.writeCznSrc v)
  else if a = Reg.PAT_CFG then some (s.plainClamp a v F.PAT_CFG_TRIAL_S 1 65535)
  else if a = Reg.PAT_HALTADDRLO || a = Reg.PAT_HALTADDRHI || a = Reg.PAT_HALTLEN then some (if s.stage = 0xF then s.wr a v else s)
  else if a = Reg.PAT_HALTGO then
    some (if s.stage = 0xF && bitOf v.toNat 0 && s.pcie.bme && s.fld a F.PAT_HALTGO_RESULT ≠ 1 then s.setF a F.PAT_HALTGO_RESULT 1 else s)
  else none

/-- A write of a register as its access codes and its description define (R5, R8). -/
def State.writeReg (s : State) (a : Nat) (v : Word) : State :=
  if (regRow? a).isNone || (0x21000 ≤ a && a < 0x22000 && s.ident.radios == 0) then s
  else match s.writeLow a v with
    | some t => t
    | none => match s.writeMid a v with
      | some t => t
      | none => match s.writeHigh a v with
        | some t => t
        | none => s.plainReg a v

/-- A direct write by the host: discarded where the block does not answer (R480); it dooms a transaction that holds the register (R110). -/
def State.hostReg (s : State) (a : Nat) (v : Word) : State := if s.answers a then (s.doomReg a).writeReg a v else s

/-- A staged masked write takes effect: bits outside the mask keep their value, write-one-to-clear and trigger bits outside it do nothing (R106). A gate list is judged once
its transaction has been applied whole (R113). -/
def State.stagedReg (s : State) (a : Nat) (v m : Word) : State :=
  let wc := match regRow? a with | some r => BitVec.ofNat 32 r.wc | none => 0
  let w := (s.rd a &&& ~~~ m &&& ~~~ wc) ||| (v &&& m)
  match gateReg? a with
  | some g => s.setGatectl g.1 g.2 w
  | none => s.writeReg a w

/-! ### Commands that are register writes -/

/-- A write of configuration space, in the numbering of this model (DESIGN CHOICE, log entry 43): Device Control at `cfgSpace`, the first word of the MSI-X capability at
`cfgSpace + 4`. Nothing answers where PCIe is in its reset state (R49). -/
def cfgSpace : Nat := 0x60000
def State.configWrite (s : State) (addr : Nat) (v : Word) : State :=
  if s.linkOff then s
  else if addr = cfgSpace then s.writeDevCtl v
  else if addr = cfgSpace + 4 then s.writeMsixCtl v
  else s

/-- REGISTER_WRITE: BAR0 offsets below 0x40000, BAR2 from there on, BAR4 from 0x50000 on, configuration space from 0x60000 on; a write of any size but an aligned word is
discarded (R9, R477, R478). -/
def execRegisterWrite (addr size : Nat) (v : Word) (s : State) : Answer :=
  .next (if size = 4 && addr % 4 == 0 then (if cfgSpace ≤ addr then s.configWrite addr v else s.hostReg addr v) else s)

/-- GLB_VSTATE_WRITE (R60). -/
def execGlbVstateWrite (v : Word) (s : State) : Answer := .next (s.hostReg Reg.GLB_VSTATE v)

/-- HIF_VERSION_SELECT_WRITE (R79). -/
def execHifVersionSelectWrite (v : Word) (s : State) : Answer := .next (s.hostReg Reg.HIF_VERSION v)

/-- RING_CFG_WRITE (R84, R85). -/
def execRingCfgWrite (n : Nat) (v : Word) (s : State) : Answer := .next (if n < 16 then s.hostReg (Reg.RNG_CFG n) v else s)

/-- DOORBELL_WRITE (R86, R87). -/
def execDoorbellWrite (n : Nat) (index : Word) (s : State) : Answer := .next (if n < 16 then s.hostReg (Reg.DBL_INDEX n) index else s)

/-- DMA_CTL_RESUME (R123). -/
def execDmaCtlResume (n : Nat) (s : State) : Answer := .next (if n < 16 then s.hostReg (Reg.DMA_CTL n) 1 else s)

/-- TUN_CTL_FLUSH (R127). -/
def execTunCtlFlush (n : Nat) (s : State) : Answer := .next (if n < 16 then s.hostReg (Reg.TUN_CTL n) 1 else s)

/-- MEM_FETTLE_WRITE (R133, R215). -/
def execMemFettleWrite (v : Word) (s : State) : Answer := .next (s.hostReg Reg.MEM_FETTLE v)

/-- MEM_BANK_CHILL_WRITE (R132). -/
def execMemBankChillWrite (b : Nat) (on : Bool) (s : State) : Answer := .next (if b < 192 then s.hostReg (Reg.MEM_BANK b) (BitVec.ofNat 32 (bit on)) else s)

/-- LMP_TICK_WRITE (R229). -/
def execLmpTickWrite (v : Word) (s : State) : Answer := .next (s.hostReg Reg.LMP_TICK v)

/-- LMP_CTL_EMERG_SW (R249). -/
def execLmpCtlEmergSw (on : Bool) (s : State) : Answer := .next (s.hostReg Reg.LMP_CTL (F.LMP_CTL_EMERG_SW.set (s.rd Reg.LMP_CTL) (bit on)))

/-- GATECTL_WRITE: TRK[p]_GATECTL, or one of its entries (R268). -/
def execGatectlWrite (p : Nat) (entry : Option Nat) (v : Word) (s : State) : Answer :=
  .next (if p < 64 then (match entry with | none => s.hostReg (Reg.TRK_GATECTL p) v | some e => if e < 64 then s.hostReg (Reg.TRK_GATE p e) v else s) else s)

/-- RAD_DUTY_WRITE (R332). -/
def execRadDutyWrite (r limit : Nat) (s : State) : Answer := .next (if r < 4 then s.hostReg (Reg.RAD_DUTY r) (BitVec.ofNat 32 limit) else s)

/-- TIM_INCRLO_WRITE: held until the next write of TIM_INCRHI (R343). -/
def execTimIncrloWrite (v : Word) (s : State) : Answer := .next (s.hostReg Reg.TIM_INCRLO v)

/-- TIM_INCRHI_WRITE (R343, R349). -/
def execTimIncrhiWrite (v : Word) (s : State) : Answer := .next (s.hostReg Reg.TIM_INCRHI v)

/-- TIM_STEP_GO (R344). -/
def execTimStepGo (s : State) : Answer := .next (s.hostReg Reg.TIM_STEP 1)

/-- RTC_STG_WRITE (R356). -/
def execRtcStgWrite (subsec : Bool) (v : Word) (s : State) : Answer := .next (s.hostReg (if subsec then Reg.RTC_STG_SUBSEC else Reg.RTC_STG_UTC) v)

/-- RTC_COMMIT_GO (R356). -/
def execRtcCommitGo (s : State) : Answer := .next (s.hostReg Reg.RTC_COMMIT 1)

/-- RTC_COMMIT_FROM_WALL (R356). -/
def execRtcCommitFromWall (s : State) : Answer := .next (s.hostReg Reg.RTC_COMMIT 2)

/-- EVR_CURSOR_WRITE (R404). -/
def execEvrCursorWrite (v : Word) (s : State) : Answer := .next (s.hostReg Reg.EVR_CURSOR v)

/-- EVR_WINCTL_NEXT (R404). -/
def execEvrWinctlNext (s : State) : Answer := .next (s.hostReg Reg.EVR_WINCTL 1)

/-- KEY_WRGO_WRITE (R446). -/
def execKeyWrgo (value : Word) (s : State) : Answer := .next (s.hostReg Reg.KEY_WRGO value)

/-- KEY_MODE_WRITE (R442). -/
def execKeyModeWrite (value : Word) (s : State) : Answer := .next (s.hostReg Reg.KEY_MODE value)

/-- KEY_CZNSRC_WRITE (R447, R450). -/
def execKeyCznsrcWrite (value : Word) (s : State) : Answer := .next (s.hostReg Reg.KEY_CZNSRC value)

/-- OWNER_LOCK_WRITE (R455). -/
def execOwnerLockWrite (value : Word) (s : State) : Answer := .next (s.hostReg Reg.KEY_LC value)

/-- KEY_LCREQ_WRITE (R453). -/
def execKeyLcreqWrite (value : Word) (s : State) : Answer := .next (s.hostReg Reg.KEY_LCREQ value)

end Sys2Proof.Machine
end

