-- ==== Sys2Proof/Machine/Install.lean ====
section
/-!
DEFINITION. A configuration made running: registers whose value is from configuration (R481), programs and tables placed (R190, R199, R219), nodes whose UID changes,
the points of the new configuration (R220), and the image in flash (R67).
-/
set_option linter.unusedVariables false
namespace Sys2Proof.Machine

/-! ### Registers from configuration (R481) -/

/-- The registers of a schedule (R205). -/
def State.showSched (s : State) (n : Nat) (c : Sched) : State :=
  let t := (s.setF (Reg.CYC_SCHED_MODE n) F.CYC_SCHED_MODE_MODE c.mode).setF (Reg.CYC_SCHED_MODE n) F.CYC_SCHED_MODE_DIVISOR c.div
  let t := (t.setF (Reg.CYC_SCHED_PHASE n) F.CYC_SCHED_PHASE_PHASE c.phase).setF (Reg.CYC_SCHED_PHASE n) F.CYC_SCHED_PHASE_INTERVAL c.ivl
  t.setF (Reg.CYC_SCHED_TRIG n) F.CYC_SCHED_TRIG_ADDR c.trig

/-- P, M, O and EBB_BUDGET as running. -/
def State.setTiming (s : State) (p m o : Nat) (budget : Bool) : State :=
  let t := ((s.wrN Reg.CYC_PERIOD p).wrN Reg.CYC_MARGIN m).wrN Reg.CYC_OFFSET o
  { t with cyc := { t.cyc with ebbBudget := budget } }

/-- The cycle section (R204). -/
def State.loadCycle (s : State) (c : CycCfg) : State :=
  let t := (s.setTiming c.period c.margin c.offset c.ebbBudget).setF Reg.CYC_OVR F.CYC_OVR_LIMIT c.ovrLimit
  (List.range 16).foldl (fun (t : State) n => t.showSched n (c.scheds.getD n {})) t

/-- The lamp section (R253). -/
def State.loadLamp (s : State) (c : LampCfg) : State :=
  let t := (s.setF Reg.LMP_CTL F.LMP_CTL_DITHER_EN (bit c.ditherEn)).setF Reg.LMP_CTL F.LMP_CTL_PROBE_EN (bit c.probeEn)
  (t.wrN Reg.LMP_EMFADE c.emFade).writeTick c.tick

/-- The trunk section (R486): without one, every port is enabled with MULT 1 and the factory list. -/
def State.loadTrunks (s : State) (ts : List TrunkPortCfg) (es : List Bool) : State :=
  let tick := s.fld Reg.LMP_TICK F.LMP_TICK_MS
  let t := (List.range 64).foldl (fun (t : State) p =>
    match ts[p]? with
    | some c => ((t.setPortOn p c.enable).writeGates p c.list).checkGates p (if t.lamp.next.isSome then t.lamp.tick else tick)
    | none => ((t.setPortOn p true).writeGates p (factoryGates tick)).checkGates p (if t.lamp.next.isSome then t.lamp.tick else tick)) s
  (List.range 2).foldl (fun (t : State) g =>
    t.writeEthCtl g (F.ETH_CTL_ENABLE.set (t.rd (Reg.ETH_CTL g)) (bit (es.getD g true)))) t

/-- The Carzon section's settings (R309). -/
def State.loadCzn (s : State) (c : CznCfg) : State :=
  (s.setF Reg.TRK_CZNCFG F.TRK_CZNCFG_V2_EN (bit c.v2)).setF Reg.TRK_CZNCFG F.TRK_CZNCFG_TIME_MS c.timeMs

/-- The settings of a radio channel (R337). -/
def State.loadChan (s : State) (seg r : Nat) (c : RadioChanCfg) : State :=
  let a := Reg.RAD_CTL r
  let t := (s.setF a F.RAD_CTL_CHANNEL c.channel).setF a F.RAD_CTL_PHYMODE c.phymode
  let t := (t.setF (Reg.RAD_TXPWR r) F.RAD_TXPWR_MAIN c.power).setF (Reg.RAD_TXPWR r) F.RAD_TXPWR_WAKE c.wakePower
  let t := ((t.setF (Reg.RAD_PHY r) F.RAD_PHY_SEGID seg).setF (Reg.RAD_PHY r) F.RAD_PHY_WAKECH c.wakech).setF (Reg.RAD_PHY r) F.RAD_PHY_PREAMBLE c.preamble
  ((t.wrN (Reg.RAD_BEACON r) c.beaconMs).setF (Reg.RAD_DUTY r) F.RAD_DUTY_LIMIT c.limit).setRadOn r c.enable

/-- The radio section (R337). -/
def State.loadRadio (s : State) (c : RadioCfg) : State :=
  (List.range s.ident.radios).foldl (fun (t : State) r => match c.chans[r]? with | some x => t.loadChan c.segId r x | none => t) s

/-- The metering section: the interval and the channels (R395). A new interval length closes the open intervals with RECONFIG (R383). -/
def State.loadMeter (s : State) : State :=
  let s := if s.mtrState = 1 && s.fld Reg.MTR_INTERVAL F.MTR_INTERVAL_SECONDS != s.cfg.meter.interval * 60 then s.mtrTurn 5 s.mtrOn else s
  let t := s.setF Reg.MTR_INTERVAL F.MTR_INTERVAL_SECONDS (s.cfg.meter.interval * 60)
  let t := (List.range 32).foldl (fun (t : State) k => t.setF (Reg.MTR_CH_STATUS k) F.MTR_CH_STATUS_ENABLED (bit (t.mtrCur k).isSome)) t
  let t := (List.range 4).foldl (fun (t : State) v => t.setF (Reg.MTR_V_STATUS v) F.MTR_V_STATUS_ENABLED (bit (t.mtrVcfg v).isSome)) t
  let t := ((List.range 8).filter fun j => !(t.cfg.meter.pulses.any (·.out == j))).foldl (fun (t : State) j =>
    (t.setF (Reg.MTR_PULSE_STATUS j) F.MTR_PULSE_STATUS_DRIVEN 0).setF (Reg.MTR_PULSE_STATUS j) F.MTR_PULSE_STATUS_OWED 0) t
  let t := t.cfg.meter.pulses.foldl (fun (t : State) g => t.showPulse g) t
  if t.mtrState = 1 then t.mtrSetNext else t

/-- The recorder section; without one the factory values (R487). -/
def State.loadRecorder (s : State) (c : Option (Nat × Nat × Nat)) : State :=
  let x := c.getD (2, 0, 10)
  ((s.setF Reg.EVR_CFG F.EVR_CFG_FLUSH_SEV x.1).setF Reg.EVR_CFG F.EVR_CFG_RING_MIN x.2.1).setF Reg.EVR_CFG F.EVR_CFG_FLUSH_S x.2.2

/-- The redundancy section (R438). -/
def State.loadRdn (s : State) (c : RdnCfg) : State :=
  let a := Reg.RDN_CFG
  let t := ((s.setF a F.RDN_CFG_MODE c.mode).setF a F.RDN_CFG_PROTO c.proto).setF a F.RDN_CFG_LAG c.lag
  let t := ((t.setF a F.RDN_CFG_SELF_GRANT (bit c.selfGrant)).setF a F.RDN_CFG_RADIO_ROTATE (bit c.radioRotate)).setF a F.RDN_CFG_YIELD_STUCK (bit c.yieldStuck)
  let t := (t.setF a F.RDN_CFG_BEACON_MS c.beaconMs).setF a F.RDN_CFG_LOSS_MS c.lossMs
  ((t.wrN Reg.RDN_ROTATE c.rotateS).setF Reg.RDN_ETYPE F.RDN_ETYPE_ETYPE c.etype).setF Reg.RDN_TIMING F.RDN_TIMING_ISOLATE_MS c.isolateMs

/-- Registers of the sections that a configuration carries take their values. -/
def State.loadRegs (s : State) (c : RunCfg) (has : Nat → Bool) : State :=
  let t := s.wrN Reg.GLB_CFGGEN c.gen
  let t := if has 1 then t.loadCycle c.cycle else t
  let t := if has 5 then t.loadLamp c.lamp else t
  let t := if has 6 then t.loadTrunks c.trunks c.eths else t
  let t := if has 7 then t.loadCzn c.czn else t
  let t := if has 8 then t.loadRadio c.radio else t
  let t := if has 9 then t.loadTime c.time else t
  let t := if has 0xA then t.loadMeter else t
  let t := if has 0xB then t.loadRecorder c.recorder else t
  let t := if has 0xC then t.loadRdn c.rdn else t
  let t := t.showBudget
  if has 1 then t.requestEbb c.cycle.ebb else t

/-! ### Programs and tables (R190, R199, R219) -/

/-- A ladle's program and table as an image gives them; a ladle without a program is unloaded. -/
def State.placeFrom (s : State) (img : Image) (n : Nat) : State :=
  match img.progs.find? (·.1 == n) with
  | some p =>
    let t := (s.wakeLadle n).placeProgram n (some p.2)
    match img.tables.find? (·.1 == n) with | some b => t.writeTable n 0 b.2 | none => t
  | none => s.placeProgram n none

/-! ### An online change (R218) -/

/-- What an online change puts in place of what runs: the resulting image, whether the transaction carries it whole, the ladles whose program is placed or unloaded,
and table words for ladles that keep their program. -/
structure Plan where
  bytes : List Byte
  img : Image
  whole : Bool
  ladles : List Nat
  words : List (Nat × Nat × List Byte)
  deriving DecidableEq, Repr

/-- Table words that a transaction stages for a ladle: byte offset and bytes, in order. -/
def TxnSlot.words (t : TxnSlot) (n : Nat) : List (Nat × List Byte) :=
  t.changes.filterMap fun c => match c with | .table (.ladle m) off b => if m = n then some (off, b) else none | _ => none

/-- Bytes laid over others, which zeros extend. -/
def overlay (b : List Byte) (off : Nat) (x : List Byte) : List Byte :=
  let b := b ++ List.replicate (off + x.length - b.length) 0
  b.take off ++ x ++ b.drop (off + x.length)

/-- The sections of an image with a transaction's programs and tables in place of those of their ladles (R66, R218). -/
def TxnSlot.sections (t : TxnSlot) (ss : List Sect) : List Sect :=
  (List.range 16).foldl (fun (ss : List Sect) n =>
    let drop (k : Nat) (l : List Sect) := l.filter fun x => !(x.1 == k && x.2.1 == n)
    let tab := fun (b : List Byte) => (t.words n).foldl (fun b w => overlay b w.1 w.2) b
    let put (l : List Sect) (b : List Byte) := if b.isEmpty then drop 3 l else drop 3 l ++ [(3, n, b)]
    match t.staged n with
    | some none => drop 3 (drop 2 ss)
    | some (some p) => put (drop 2 ss ++ [(2, n, p)]) (tab [])
    | none => if (t.words n).isEmpty then ss else put ss (tab ((sectOf ss 3 n).getD []))) ss

/-- The image that runs, as flash holds it (R67). -/
def State.runningImage (s : State) : List Byte := mapGet (fun _ => []) s.flash.copies s.flash.runCopy

/-- An image with its generation replaced, and its check word with it; every other byte stays (R67). -/
def restamped (b : List Byte) (gen : Nat) : List Byte :=
  let x := b.take 12 ++ le 4 gen ++ slice b 16 (b.length - 20)
  x ++ le 4 (crc32c x)

/-- An image with its generation, and sections, replaced: the image as it was loaded where its sections stay. -/
def regenerate (b : List Byte) (gen : Nat) (ss : List Sect) : List Byte :=
  match imageSections b with
  | .ok old => if old = ss then restamped b gen else buildImage (sectVersion b) gen (slice b 32 16) (fieldLe b 16 8) (slice b 48 16) ss
  | .error _ => buildImage (sectVersion b) gen (slice b 32 16) (fieldLe b 16 8) (slice b 48 16) ss

/-- The configuration part of the transaction is an image (R467). -/
def TxnSlot.image? (t : TxnSlot) : Option (List Byte) := t.load.bind PatLoad.image?

/-- The transaction changes programs, ladle tables or the configuration. -/
def TxnSlot.changesConfig (t : TxnSlot) : Bool :=
  t.online && (t.load.isSome || t.changes.any fun c => match c with | .program _ _ => true | .table (.ladle _) _ _ => true | _ => false)

/-- Forces that the transaction removes. -/
def TxnSlot.removes (t : TxnSlot) (a : Nat) : Bool := t.changes.any fun c => match c with | .unforce b => a == b | _ => false

/-- The change would change the type of a forced point, or leave it unassigned (R221). -/
def State.forcedType (s : State) (t : TxnSlot) (c : RunCfg) : Bool := s.forces.any fun e => !t.removes e.1 && (c.ptInfo e.1).typ ≠ (s.info e.1).typ

/-- The plan for an image and the ladles it changes. -/
def State.planFor (s : State) (b : List Byte) (img : Image) (whole : Bool) (t : TxnSlot) : Plan :=
  let ns := (List.range 16).filter fun n =>
    (t.staged n).isSome || (whole && ((img.progs.any (·.1 == n)) || (s.ladle n).prog.isSome))
  { bytes := b, img := img, whole := whole, ladles := ns
    words := (List.range 16).flatMap fun n => if ns.contains n then [] else (t.words n).map fun w => (n, w.1, w.2) }

/-- The cycle settings as running: those of CYC_SETUP and CYC_SCHED where they have changed the configuration's (R215, R224). -/
def State.runCyc (s : State) : CycCfg :=
  { period := s.rdN Reg.CYC_PERIOD, margin := s.rdN Reg.CYC_MARGIN, offset := s.rdN Reg.CYC_OFFSET, ebb := s.flag Reg.GLB_VSTATE F.GLB_VSTATE_EBB
    ebbBudget := s.cyc.ebbBudget, ovrLimit := s.fld Reg.CYC_OVR F.CYC_OVR_LIMIT
    scheds := (List.range 16).map fun n =>
      { mode := s.fld (Reg.CYC_SCHED_MODE n) F.CYC_SCHED_MODE_MODE, div := s.fld (Reg.CYC_SCHED_MODE n) F.CYC_SCHED_MODE_DIVISOR
        phase := s.fld (Reg.CYC_SCHED_PHASE n) F.CYC_SCHED_PHASE_PHASE, ivl := s.fld (Reg.CYC_SCHED_PHASE n) F.CYC_SCHED_PHASE_INTERVAL
        trig := s.fld (Reg.CYC_SCHED_TRIG n) F.CYC_SCHED_TRIG_ADDR } }

/-- Cycle settings with those that a transaction stages in their place. -/
def TxnSlot.cycle (t : TxnSlot) (c : CycCfg) : CycCfg :=
  t.changes.foldl (fun (c : CycCfg) x =>
    match x with
    | .cycSetup p m o b => { c with period := p, margin := m, offset := o, ebbBudget := b }
    | .cycSched n e => (match parseSched e with | .ok d => { c with scheds := c.scheds.set n d } | .error _ => c)
    | _ => c) c

/-- The cycle settings that would result from an online change: those of its image where it carries a cycle section, else the running ones, with the staged ones in their
place (R218). -/
def State.cycAfter (s : State) (t : TxnSlot) (whole : Bool) (ss : List Sect) (img : CycCfg) : CycCfg :=
  t.cycle (if whole && (sectOf ss 1 0).isSome then img else s.runCyc)

/-- Every check of an online change when it is committed (R66, R218, R221): what it puts in place, or the status of the failing check. A transaction that changes
neither programs nor configuration has none. -/
def State.onlinePlan (s : State) (t : TxnSlot) : Except Nat (Option Plan) :=
  if !t.online then .ok none
  else if s.defaulted && t.image?.isNone then .error St.defaulted
  else if !t.changesConfig then .ok none
  else if s.lifeCycle = 3 then .error St.locked
  else if t.load.isSome && t.image?.isNone then .error St.incomplete
  else
    let base := t.image?.getD s.runningImage
    match imageSections base with
    | .error x => .error x.status
    | .ok ss =>
      let b := regenerate base (addMod32 (s.rdN Reg.GLB_CFGGEN) 1) (t.sections ss)
      match readImageWith (s.cycAfter t t.image?.isSome ss) s.ident s.fettleUs b with
      | .error x => .error x.status
      | .ok img => if s.forcedType t img.cfg then .error St.forcedType else .ok (some (s.planFor b img t.image?.isSome t))

/-- An online change takes effect (R219) with its programs or tables: it skips a cycle. -/
def Plan.skips (p : Plan) : Bool := p.ladles.any (fun n => p.img.progs.any (·.1 == n)) || !p.words.isEmpty

/-! ### Points of a new configuration (R220) -/

/-- Metering settings whose calibration changes wait for the window boundary of their channel while intervals are open (R375). -/
def State.meterCfg (s : State) (m : MtrCfg) : MtrCfg :=
  let o := s.cfg.meter
  if s.mtrState = 1 && o.currents.length == m.currents.length && o.volts.length == m.volts.length then { m with currents := o.currents, volts := o.volts } else m

/-- Entries of a list that differ from another's, with their index. -/
def changed {α : Type} [DecidableEq α] (old new : List α) : List (Nat × α) := (new.zipIdx.filter fun x => old[x.2]? ≠ some x.1).map fun x => (x.2, x.1)

/-- Metering records that wait (R375). -/
def State.queueMeter (s : State) (m : MtrCfg) : State :=
  if s.mtrState = 1 && s.cfg.meter.currents.length == m.currents.length && s.cfg.meter.volts.length == m.volts.length then
    { s with meter := { s.meter with recal := changed s.cfg.meter.currents m.currents, recalV := changed s.cfg.meter.volts m.volts } }
  else { s with meter := { s.meter with recal := [], recalV := [] } }

/-- The state of luminaires that gain or lose their record begins anew. -/
def State.freshLums (s : State) (old : LampCfg) : State :=
  let new := s.cfg.lamp.lums
  let ls := ((old.lums.map (·.1)) ++ (new.map (·.1))).filter fun l => (mapFind old.lums l).isSome != (mapFind new l).isSome
  let t := ls.foldl (fun (t : State) l => (List.range 4).foldl (fun (t : State) c => t.setChan l c {}) (t.setLum l {})) s
  { t with lamp := { t.lamp with records := [] } }

/-- Bins and zones of luminaires whose record changes (R253). -/
def lumRecordOps (old new : LampCfg) (stamp : Nat) : List PtOp :=
  (new.lums.filter fun e => mapFind old.lums e.1 ≠ some e.2 && (mapFind old.lums e.1).isSome).flatMap fun e =>
    lampWrite (lumAddr e.1 4) e.2.zone Q.good stamp :: (List.range 4).map fun i => lampWrite (lumAddr e.1 (0x140 + i)) (e.2.bins.getD i 0) Q.good stamp

/-- Luminaires that lose their record: each channel's status becomes NOT_FITTED (R232), with the ring 6 entry of a change (R247). -/
def lostLums (old new : LampCfg) : List Nat := (old.lums.map (·.1)).filter fun l => (mapFind new.lums l).isNone

def lostLumOps (old new : LampCfg) (stamp : Nat) : List PtOp :=
  (lostLums old new).flatMap fun l => lampWrite (lumAddr l 7) 3 Q.good stamp :: (List.range 4).map fun c => lampWrite (chanAddr l c 5) 3 Q.good stamp

def State.postLostLums (s : State) (new : LampCfg) : State :=
  (lostLums s.cfg.lamp new).foldl (fun (t : State) l => (List.range 4).foldl (fun (t : State) c =>
    let x := t.chan l c
    if x.status = 3 then t else t.post6 1 l c 3 x.status 0 x.word t.stamp 0) t) s

/-- The running configuration gives way to another, points as in R220. -/
def State.swapAll (s : State) (c : RunCfg) : State :=
  let old := s.cfg
  let lums := old.lamp.lums.flatMap fun e => (List.range 0x150).map (lumAddr e.1 ·)
  let addrs := (old.ranges.flatMap fun r => (List.range r.count).map (r.first + ·)) ++ lums
  let p := if s.leads then s.postLostLums c.lamp else s
  let t := ((p.queueMeter c.meter).swapCfg { c with meter := s.meterCfg c.meter } addrs).freshLums old.lamp
  (lumRecordOps old.lamp c.lamp t.stamp ++ lostLumOps old.lamp c.lamp t.stamp).foldl State.ptOp t.wakeLamp

/-- Row nodes and radio nodes whose UID changes, or that go, become UNKNOWN; a refused node is tried anew (R310, R339). -/
def State.renewNodes (s : State) (old : RunCfg) : State :=
  let t := old.czn.nodes.foldl (fun (t : State) e =>
    match s.cfg.cznEntry e.n with
    | none => t.setCznNode e.n {}
    | some x => if x.uid ≠ e.uid then (t.setCznNode e.n {}).nodeState e.n 0 else if (t.cznNode e.n).state = 6 then t.nodeState e.n 0 else t) s
  old.radio.nodes.foldl (fun (t : State) e =>
    match s.radEntry e.n with
    | none => t.setRadNode e.n {}
    | some x => if x.uid ≠ e.uid then
        let st := (t.radNode e.n).state
        let u := t.setRadNode e.n {}
        if st = 0 then u else u.radPoints e.n [(0, 0)]
      else t) t

/-- The part of an online change that belongs to the application: programs, tables, configuration, points. -/
def State.place (s : State) (p : Plan) : State :=
  let t := p.ladles.foldl (fun (t : State) n => t.placeFrom p.img n) s
  let t := p.words.foldl (fun (t : State) w => t.writeTable w.1 (w.2.1 / 4) w.2.2) t
  if p.whole then t.swapAll p.img.cfg
  else { t with cfg := { t.cfg with gen := p.img.cfg.gen, sections := p.img.cfg.sections } }

/-! ### Images in flash (R65, R67) -/

/-- The image is written over the copy that does not run, which then runs; the other copy is to be rewritten from it. -/
def State.writeImage (s : State) (b : List Byte) : State :=
  let k := 1 - s.flash.runCopy
  { s with flash := { s.flash with copies := mapPut s.flash.copies k b, runCopy := k }, sup := { s.sup with rewrite := some (1 - k) } }

/-! ### Orphan forces (R165) -/

/-- The program and configuration give the point a writer: a write footprint holds it, a source feeds it, or it is a lamp target. -/
def State.hasWriter (s : State) (a : Nat) : Bool :=
  (s.info a).input || pointTarget a != .point a
    || (List.range 16).any fun n => match (s.ladle n).prog with | some p => p.writes.contains a | none => false

/-- Forces that become orphans, or cease to be. -/
def State.orphanOps (s : State) : List PtOp := (s.forces.filter fun e => e.2.orphan == s.hasWriter e.1).map fun e => .orphan e.1 (!s.hasWriter e.1)

/-! ### What follows the application -/

/-- A module in mode SINGLE is ALONE with the stored epoch plus 1; one of a pair seeds; a witness is WITNESS (R413, R416, R435). -/
def State.beginRole (s : State) : State :=
  if s.cfg.rdn.mode = 0 then ((s.setEpoch (s.flash.epoch + 1)).enterRole .alone).startCycles
  else if s.cfg.rdn.mode = 1 then s.enterSeeding
  else s.enterRole .witness

/-- Words wider than their node's maximum after a change of configuration: WIDTH_LIMITED (R239). -/
def State.noteWidths (s : State) (old : RunCfg) : State :=
  (s.cfg.lamp.nodes.filter fun x => !old.lamp.nodes.contains x).foldl (fun (t : State) x =>
    let y := t.cznNode x.n
    if y.maxWidth = 0 then t
    else
      let was := (mapFind (old.lamp.nodes.map fun o => (o.n, o.width)) x.n).getD 0
      let t := (t.setCznNode x.n { y with width := t.wordWidth x.n }).showNode x.n
      if t.wordWidth x.n < x.width && was ≠ x.width then t.event 0x0C05 1 noInst (le 2 x.n ++ le 1 x.width ++ le 1 (t.wordWidth x.n)) else t) s

/-- Registers, nodes and the role follow an online change; the image is in flash. -/
def State.afterPlan (s : State) (p : Plan) (old : RunCfg) : State :=
  let t := s.writeImage p.bytes
  if !p.whole then ((t.wrN Reg.GLB_CFGGEN p.img.cfg.gen).showBudget)
  else
    let was := t.defaulted
    let t := t.loadRegs p.img.cfg fun k => p.img.cfg.sections.any (·.1 == k)
    let t := if p.img.cfg.sections.any (·.1 == 9) then t.loadKept p.img.cfg.time else t
    let t := (t.setF Reg.GLB_STATUS F.GLB_STATUS_DEFAULTED 0).renewNodes old
    let t := if t.leads then t.noteWidths old else t
    if was || (p.img.cfg.rdn.mode = 0 && t.role != .alone) then t.beginRole else t.cycAlign

end Sys2Proof.Machine
end

