-- ==== Sys2Proof/Machine/Cycle.lean ====
section
/-!
DEFINITION. The control cycle (R202 to R226): boundaries, charge, commit, overrun and skips; the application of transactions with it and apart from it (R111 to R115), and the
commit of an online change (R218 to R221).
-/
set_option linter.unusedVariables false
namespace Sys2Proof.Machine

/-! ### Changes of a transaction (R105, R108, R114) -/

/-- The point operation of a staged change; host writes of slot `k` have writer 0x0021 + k (R150). -/
def Change.op? (k st : Nat) : Change → Option PtOp
  | .point a v q => some (.write { addr := a, value := v, quality := q, writer := 0x0021 + k, stamp := st })
  | .force a v q => some (.force a v q st)
  | .unforce a => some (.unforce a)
  | _ => none

/-- The point operations of slot `k`, in order of acceptance. -/
def State.txnOps (s : State) (k st : Nat) : List PtOp := (s.txn k).changes.filterMap (Change.op? k st)

/-- Lamp records, node entries and calibration as staged loads of one record. -/
def State.loadTable (s : State) (t : TableId) (off : Nat) (b : List Byte) : State :=
  match t with
  | .ladle n => s.writeTable n (off / 4) b
  | .lampRecord => match s.lampRecords b with | .ok rs => s.queueRecords rs | .error _ => s
  | .gates p =>
    let g := gatesOf (fieldLe b 0 1) (b.drop 1)
    (s.writeGates p g).useGates p g false
  | .calibration => match parseCals (b.length / 36) b with | some cs => s.loadCals cs | none => s
  | .cznNodes => match s.cznEntries b with | .ok es => s.loadCznEntries es | .error _ => s
  | .radioNodes => match s.radioEntries b with | .ok es => s.loadRadioEntries es | .error _ => s

/-- A staged change that is no point change takes effect; ladle tables of an online change are placed with it. -/
def State.applyChange (s : State) (online : Bool) : Change → State
  | .reg off v m => s.stagedReg off v m
  | .table (.ladle n) off b => if online then s else s.writeTable n (off / 4) b
  | .table t off b => s.loadTable t off b
  | .key j (.set a d b) => s.keySet j a d b
  | .key j .clear => s.keyClear j
  | .cycSetup p m o b => ((s.setTiming p m o b).showBudget).cycAlign
  | .cycSched n e => match parseSched e with | .ok c => s.showSched n c | .error _ => s
  | _ => s

/-- Words of a mirrored table load: section type, index, byte offset, bytes (R432). Loads of single records carry an index from 0x8000 on. -/
def Change.mirror : Change → Option (Nat × Nat × Nat × List Byte)
  | .table (.ladle n) off b => some (3, 0x8000 + n, off, b)
  | .table .lampRecord off b => some (5, 0x8000, off, b)
  | .table (.gates p) off b => some (6, 0x8000 + p, off, b)
  | .table .cznNodes off b => some (7, 0x8000, off, b)
  | .table .radioNodes off b => some (8, 0x8000, off, b)
  | .table .calibration off b => some (0xA, 0x8000, off, b)
  | _ => none

/-- TABLE records of some bytes, in pieces that a part can hold (R432). -/
def State.tableRecord (s : State) (x : Nat × Nat × Nat × List Byte) : List (List Byte) :=
  let per := (s.partRoom - 12) / 4 * 4
  let ps := if x.2.2.2.isEmpty then [[]] else chunks per x.2.2.2.length x.2.2.2
  ps.zipIdx.map fun p => peerRecord 4 (be 2 x.1 ++ be 2 x.2.1 ++ be 4 (x.2.2.1 + p.2 * max 1 per) ++ p.1)

/-- Programs, tables and sections that an online change puts in place, as TABLE records; the image's header goes first as type 0, with index 0 where the
image is whole and 1 where it is the running one changed (R115, DESIGN CHOICE). -/
def Plan.mirror (p : Plan) : List (Nat × Nat × Nat × List Byte) :=
  if p.whole then (0, 0, 0, p.bytes.take 64) :: p.img.cfg.sections.map fun x => (x.1, x.2.1, 0, x.2.2)
  else (0, 1, 0, p.bytes.take 64) :: p.ladles.flatMap (fun n =>
      (2, n, 0, (sectOf p.img.cfg.sections 2 n).getD []) :: (match sectOf p.img.cfg.sections 3 n with | some b => [(3, n, 0, b)] | none => []))
    ++ p.words.map fun w => (3, w.1, w.2.1, w.2.2)

/-! ### Lamp calls (R233) -/

/-- A lamp call of ladle `n` as point writes. -/
def State.callOps (s : State) (st n : Nat) (c : LampCall) : List PtOp :=
  let w (o v : Nat) : PtOp := .write { addr := zoneAddr c.zone o, value := BitVec.ofNat 32 v, quality := Q.good, writer := 0x0010 + n, stamp := st }
  if c.fn = 0 then [w 0 c.value, w 2 c.fade]
  else if c.fn = 1 then [w 1 c.value, w 2 c.fade]
  else if c.fn = 2 then
    w 3 c.value :: (match (if c.value = 0 then none else s.cfg.lamp.scenes[c.value - 1]?) with | some x => [w 0 x.1, w 1 x.2.1, w 2 x.2.2] | none => [])
  else
    let occ := decide (c.value ≠ 0)
    w 4 (bit occ) :: (if s.valN (zoneAddr c.zone 5) = 1 then
        [w 0 (s.valN (zoneAddr c.zone (if occ then 6 else 7))), w 2 (s.valN (zoneAddr c.zone (if occ then 8 else 9)))] else [])

/-- The points that a lamp call may write. -/
def LampCall.touches (c : LampCall) : List Nat :=
  (if c.fn = 0 then [0, 2] else if c.fn = 1 then [1, 2] else if c.fn = 2 then [0, 1, 2, 3] else [0, 2, 4]).map (zoneAddr c.zone)

/-! ### Planned skips (R213) -/

/-- A run of planned skips ends: it is recorded. -/
def State.endPlanned (s : State) : State :=
  match s.cyc.planned with
  | none => s
  | some r => ({ s with cyc := { s.cyc with planned := none } } : State).event 0x0B02 0 noInst (le 4 r.first ++ le 1 r.kind ++ le 4 r.count)

/-- A run of online cuts ends: the cycle in progress has not been cut (R213). -/
def State.endCuts (s : State) : State := match s.cyc.planned with | some r => if r.kind = 3 then s.endPlanned else s | none => s

/-- A run of planned skips of another kind than online cuts ends at a boundary that charges; whether an online change cuts the cycle shows at its deadline (R213, R218). -/
def State.endHolds (s : State) : State := match s.cyc.planned with | some r => if r.kind = 3 then s else s.endPlanned | none => s

/-- A run of planned skips begins with the cycle in progress. -/
def State.startRun (s : State) (kind : Nat) : State :=
  let u := s.endPlanned
  { u with cyc := { u.cyc with planned := some { kind := kind, first := u.rdN Reg.CYC_COUNT, count := 1 } } }

/-- A planned skip of a kind: counted, in the run of its kind. -/
def State.notePlanned (s : State) (kind : Nat) : State :=
  let t := s.bump Reg.CYC_CNT_PLANNED
  match t.cyc.planned with
  | some r => if r.kind = kind then { t with cyc := { t.cyc with planned := some { r with count := r.count + 1 } } } else t.startRun kind
  | none => t.startRun kind

/-! ### The cycle in progress -/

/-- A cycle is in progress: its deadline is still to come. -/
def State.inCycle (s : State) : Bool := s.cyc.phase == .charging || s.cyc.phase == .executing

/-- The ladles of the cycle in progress, and those of them that have not reached END. -/
def State.running (s : State) : List Nat :=
  (List.range 16).filter fun n => match (s.ladle n).phase with | .charging => true | .executing => true | .done => true | _ => false
def State.unfinished (s : State) : List Nat := (List.range 16).filter fun n => match (s.ladle n).phase with | .charging => true | .executing => true | _ => false

/-- A mask of numbers. -/
def maskOf (ns : List Nat) : Nat := (ns.map fun n => 2 ^ n).sum

/-- Ladles that have not reached END are cut; those that have are idle; all staging is discarded (R212). -/
def State.cutLadles (s : State) : State :=
  s.running.foldl (fun (t : State) n => let x := t.ladle n; t.setLadle n { x with phase := if x.phase == .done then .idle else .cut }) s

/-- An IMMEDIATE or STAMP online change cuts the cycle in progress, which is skipped as planned (R218). -/
def State.cutCycle (s : State) : State :=
  if !s.inCycle then s
  else
    let t := (s.cutLadles).notePlanned 3
    { t with cyc := { t.cyc with phase := .skipping } }

/-! ### Applying transactions -/

/-- What an application of transactions consists of: the cycle's own writes, the slots in order, the slot with an online change and its plan, the lamp calls. -/
structure Batch where
  own : List PtOp := []
  ks : List Nat := []
  plan : Option Plan := none
  calls : List (Nat × LampCall) := []
  deriving DecidableEq, Repr

/-- The point operations of a batch's transactions: those without and those with an online change (R210, R221). -/
def State.hostOps (s : State) (b : Batch) (st : Nat) : List PtOp × List PtOp :=
  ((b.ks.filter fun k => !(s.txn k).online).flatMap fun k => s.txnOps k st, (b.ks.filter fun k => (s.txn k).online).flatMap fun k => s.txnOps k st)

/-- Points that a batch touches. -/
def State.touchedBy (s : State) (b : Batch) (st : Nat) : List Nat :=
  let h := s.hostOps b st
  (b.own ++ h.1 ++ h.2).map PtOp.addr ++ b.calls.flatMap fun c => c.2.touches

/-- Points whose notices an online change can post: those of a subscription, and the forced ones. -/
def State.watched (s : State) : List Nat := (s.subs.flatMap fun e => (List.range e.2.count).map (e.2.first + ·)) ++ s.forces.map (·.1)

/-- The points that an online change itself writes: those that take a new default (R220), those of luminaire records that change or go (R232, R253). -/
def Plan.fresh (p : Plan) (s : State) : List Nat :=
  if p.whole then p.img.cfg.newPoints s.cfg ++ (lumRecordOps s.cfg.lamp p.img.cfg.lamp 0 ++ lostLumOps s.cfg.lamp p.img.cfg.lamp 0).map PtOp.addr else []

/-- The staged removal of a force from a point whose type the online change changes: the underlying record of the old type goes before the new default comes (R220, R221). -/
def State.endsForce (s : State) (b : Batch) : PtOp → Bool
  | .unforce a => match b.plan with | some p => p.whole && (p.img.cfg.ptInfo a).typ != (s.info a).typ | none => false
  | _ => false

/-- The records after a batch: own writes, host transactions, online change, lamp calls, in this order (R210); forces are examined last (R165). -/
def State.batchEffect (b : Batch) (st : Nat) (s : State) : State :=
  let h := s.hostOps b st
  let t := (b.own ++ h.1).foldl State.ptOp s
  let early := h.2.filter (s.endsForce b)
  let t := early.foldl State.ptOp t
  let t := match b.plan with | some p => t.place p | none => t
  let t := (h.2.filter fun o => !s.endsForce b o).foldl State.ptOp t
  let t := b.calls.foldl (fun (t : State) c => (t.callOps st c.1 c.2).foldl State.ptOp t) t
  match b.plan with
  | some _ => t.orphanOps.foldl State.ptOp t
  | none => t

/-- Program writes that a host write of the same commit replaces (R111). -/
def State.overrides (s : State) (b : Batch) : Nat :=
  let own := b.own.map PtOp.addr
  (b.ks.flatMap fun k => (s.txn k).changes.filterMap fun c => match c with | .point a _ _ => if own.contains a then some a else none | _ => none).eraseDups.length

/-- The port whose gate list a staged register write changes. -/
def Change.gatePort : Change → Option Nat
  | .reg a _ _ => (gateReg? a).map (·.1)
  | _ => none

/-- The changes of a slot that are no point changes take effect, in one step (R113): a gate list written register by register is judged once it is whole. -/
def State.applyRest (s : State) (k : Nat) : State :=
  let x := s.txn k
  let t := x.changes.foldl (fun (t : State) c => t.applyChange x.online c) s
  (x.changes.filterMap Change.gatePort).eraseDups.foldl (fun (t : State) p => t.checkGates p t.lamp.tick) t

/-- New orphans are recorded (R165). -/
def State.orphanEvents (s : State) (old : List (Nat × Force)) : State :=
  (s.forces.filter fun e => e.2.orphan && !(match mapFind old e.1 with | some f => f.orphan | none => false)).foldl
    (fun (t : State) e => t.event 0x0901 1 noInst (le 4 e.1)) s

/-- What follows the application of an online change: flash, registers, nodes, the event (R226). -/
def State.settlePlan (s : State) (p : Plan) (old : State) : State :=
  let t := (s.orphanEvents old.forces).afterPlan p old.cfg
  t.event 0x0B05 0 noInst (le 4 p.img.cfg.gen ++ le 2 (maskOf (p.ladles ++ (p.words.map (·.1)).eraseDups)) ++ le 2 (t.forces.filter (·.2.orphan)).length)

/-- The command of a slot that completes with its application. -/
def State.commitCmd (s : State) (k n late : Nat) : List DeltaCmd := (s.waits.filter (Wait.commits k)).map fun w => w.tag.delta n late

/-- Records of a batch beyond its points (R115). -/
def State.batchTables (s : State) (b : Batch) : List (List Byte) :=
  (b.ks.flatMap fun k => if (s.txn k).online then [] else (s.txn k).changes.filterMap Change.mirror).flatMap s.tableRecord
    ++ (match b.plan with | some p => p.mirror.flatMap s.tableRecord | none => [])

/-- One batch is applied as one application, and what follows from it (R113, R114). `more` are further records of its delta. A `quiet` one, of register and key
changes alone, touches no record and is no application to the crucible. -/
def State.applyBatch (s : State) (b : Batch) (st : Nat) (more : State → List (List Byte)) (late : Nat) (cmds : List DeltaCmd) (quiet : Bool) : State :=
  let touched := s.touchedBy b st
  let tabs := s.batchTables b
  let t := if quiet then s else s.applyVia (touched ++ (if b.plan.isSome then s.watched else [])) (State.batchEffect b st)
  let t := b.ks.foldl (fun (t : State) k => t.applyRest k) t
  let t := match b.plan with | some p => t.settlePlan p s | none => t
  let addrs := (touched ++ (match b.plan with | some p => p.fresh s | none => [])).foldl (fun l a => insertNat a l) []
  let cs := cmds ++ b.ks.flatMap fun k => s.commitCmd k (s.txn k).changes.length late
  let t := if quiet then t else t.sendDelta (t.pointRecords addrs ++ t.forceRecords addrs ++ more t ++ tabs ++ commandRecords cs)
  let t := b.ks.foldl (fun (t : State) k =>
    let n := (t.txn k).changes.length
    ((t.closeTxn k).bump Reg.TXN_CNT_COMMIT).finishAll (Wait.commits k) St.ok n late) t
  t.allCalls

/-! ### Checks of a commit (R112, R215, R218) -/

/-- The budget under CYC_SETUP values and the programs that would run (R215). -/
def State.setupHolds (s : State) (l : Load) (p m : Nat) (budget : Bool) : Bool :=
  l.holds rateFull p m s.fettleUs && (!budget || l.holds rateEbb p m s.fettleUs)

/-- The programs that would run with an online change. -/
def State.loadWith (s : State) (p : Option Plan) : Load :=
  match p with
  | none => s.load
  | some x => loadOf ((List.range 16).filterMap fun n => if x.ladles.contains n then (x.img.progs.find? (·.1 == n)).map (·.2) else (s.ladle n).prog)

/-- The checks of a transaction when it is committed: those of an online change, and the budget under staged timing. -/
def State.commitPlan (s : State) (k : Nat) : Except Nat (Option Plan) :=
  match s.onlinePlan (s.txn k) with
  | .error st => .error st
  | .ok p =>
    if (s.txn k).changes.all fun c => match c with | .cycSetup a m _ b => s.setupHolds (s.loadWith p) a m b | _ => true then .ok p else .error St.overBudget

/-- A commit that fails its checks when it is applied completes with their status and leaves the transaction OPEN; its idle count starts from zero (log entry 45). -/
def State.reopenTxn (s : State) (k status : Nat) : State :=
  ((s.dropDeferred k).setTxn k { s.txn k with phase := .opened, point := 0, stamp := 0, waitFrom := none, named := s.now }).finishAll (Wait.commits k) status 0 0

/-! ### Applications between commits (R112) -/

/-- 1 when a stamp is more than 100 µs past. -/
def State.lateBy (s : State) (st : Nat) : Nat := bit (decide (100 * 2 ^ 20 < (stampTime s.stamp - stampTime st) * 10 ^ 6))

/-- The transaction of a slot is applied by itself: with an online change the cycle in progress is cut. -/
def State.applyTxn (s : State) (k late : Nat) (cmds : List DeltaCmd) : State :=
  match s.commitPlan k with
  | .error st => s.reopenTxn k st
  | .ok p =>
    let t := if p.isSome then s.cutCycle else s
    t.applyBatch { ks := [k], plan := p } t.stamp (fun _ => []) late cmds (t.txn k).isLocal

/-- The instant of a STAMP commit has come. -/
def State.stampDue (s : State) (st : Nat) : Bool := stampHeat st == s.heat && decide (stampTime st ≤ stampTime s.stamp)

/-- No cycle runs: none is due, or none has begun (R112). -/
def State.noCycle (s : State) : Bool := s.cyc.next.isNone || s.cyc.period == 0

/-- The commit point of a slot has come (R112): the stamp of a STAMP commit; a CYCLE commit is as IMMEDIATE once no cycle runs any more; an IMMEDIATE one that a charge held
up whose cycle has been stopped. -/
def State.pointDue (s : State) (x : TxnSlot) : Bool := if x.point = 3 then s.stampDue x.stamp else if x.point = 2 then s.noCycle else x.point == 1

/-- How late a commit is applied: STAMP alone can be late. -/
def State.lateOf (s : State) (x : TxnSlot) : Nat := if x.point = 3 then s.lateBy x.stamp else 0

/-- TXN_APPLY (R112): the commit point of a waiting commit has come. During a charge it is applied directly after it (R207). -/
def execTxnApply (slot : Nat) (s : State) : Answer :=
  let x := s.txn slot
  .next (if slot < 4 && x.phase == .waiting && s.pointDue x then
      (if s.charging then (if s.deferred.any (·.txn == some slot) then s else { s with deferred := s.deferred ++ [{ ops := [], host := none, txn := some slot }] })
       else s.applyTxn slot (s.lateOf x) [])
    else s)

/-- The transaction of slot `k` waits for its commit point. -/
def State.bindTxn (s : State) (k point st : Nat) : State :=
  ({ s with txnRank := s.txnRank + 1 } : State).setTxn k { s.txn k with phase := .waiting, point := point, stamp := st, rank := s.txnRank, waitFrom := none }

/-- The commit takes effect now: directly, or directly after the charge (R112, R207). -/
def State.commitAtOnce (s : State) (t : CmdTag) (k point st late : Nat) : Res :=
  if s.charging then .wait (.txnCommit k) { s.bindTxn k point st with deferred := s.deferred ++ [{ ops := [], host := none, txn := some k, late := late }] }
  else
    match s.commitPlan k with
    | .error x => .stat x s
    | .ok _ =>
      let n := (s.txn k).changes.length
      .okWith n late (s.applyTxn k late [t.delta n late])

/-- TXN_COMMIT taken (R110, R112, R218). -/
def State.commitTxn (s : State) (t : CmdTag) (k point st : Nat) : Res :=
  let x := s.txn k
  if x.phase != .opened then .stat St.conflict s
  else if point < 1 || 3 < point then .stat St.badFormat s
  else if x.doomed then .stat St.conflict s
  else if point = 3 && stampHeat st ≠ s.heat then .stat St.wrongHeat s
  else if point = 3 && 86400 * 2 ^ 20 < stampTime st - stampTime s.stamp then .stat St.badFormat s
  else match s.commitPlan k with
    | .error e => .stat e s
    | .ok _ =>
      if point = 1 then s.commitAtOnce t k 1 0 0
      else if point = 2 then (if s.noCycle then s.commitAtOnce t k 2 0 0 else .wait (.txnCommit k) (s.bindTxn k 2 0))
      else if s.stampDue st then s.commitAtOnce t k 3 st 1
      else .wait (.txnCommit k) (s.bindTxn k 3 st)

/-- TXN_COMMIT (R104, R112). -/
def execTxnCommit (e : CmdEntry) (s : State) : Answer :=
  runCmd Op.txnCommit (.txnCommit e) e (fun t s =>
    match s.txnOf e.txn.toNat with
    | none => .stat St.notFound s
    | some k => s.commitTxn t k (e.param 0 1) (e.param 8 8)) s

/-- What waited for the end of a charge is applied in the order of arrival (R207). -/
def State.afterCharge (s : State) : State :=
  s.deferred.foldl (fun (t : State) d =>
    match d.txn with
    | none => ({ t with deferred := [d] } : State).applyDeferred
    | some k =>
      if (t.txn k).phase == .waiting && (t.waits.any (Wait.commits k)) then
        t.applyTxn k (if (t.txn k).point == 3 then max d.late (t.lateBy (t.txn k).stamp) else 0) []
      else t) { s with deferred := [] }

/-! ### The boundary (R202 to R207) -/

/-- Value and quality of a point as the ladle's last charge saw it (R205). -/
def Ladle.seenAt (x : Ladle) (a : Nat) : Option (Word × Nat) := (x.seen.find? (·.addr == a)).map fun y => (y.value, y.quality)

/-- Does ladle `n` run in cycle `k` (R205)? -/
def State.runsIn (s : State) (n k : Nat) : Bool :=
  let x := s.ladle n
  let mode := s.fld (Reg.CYC_SCHED_MODE n) F.CYC_SCHED_MODE_MODE
  let ivl := s.fld (Reg.CYC_SCHED_PHASE n) F.CYC_SCHED_PHASE_INTERVAL
  let tr := s.view (s.fld (Reg.CYC_SCHED_TRIG n) F.CYC_SCHED_TRIG_ADDR)
  x.prog.isSome && (mode == 1
    || (mode == 2 && k % max 1 (s.fld (Reg.CYC_SCHED_MODE n) F.CYC_SCHED_MODE_DIVISOR) == s.fld (Reg.CYC_SCHED_PHASE n) F.CYC_SCHED_PHASE_PHASE)
    || (mode == 3 && (x.seenAt (s.fld (Reg.CYC_SCHED_TRIG n) F.CYC_SCHED_TRIG_ADDR) != some (tr.value, tr.quality)
        || (ivl != 0 && decide (ivl ≤ subMod32 k (s.rdN (Reg.CYC_SCHED_LASTRUN n)))))))

/-- A ladle is charged: its slots take the crucible's values, its working copy the committed private state, its table the loads that came since the last charge (R114, R171,
R207). -/
def State.chargeOne (s : State) (k : Nat) (n : Nat) : State :=
  let x := s.ladle n
  match x.prog with
  | none => s
  | some p =>
    let slots := p.slots.map fun y => ({ addr := y.1, value := (s.view y.1).value, quality := (s.view y.1).quality } : Slot)
    (s.setLadle n { x with phase := .charging, run := { slots := slots, priv := x.priv }, seen := slots
                           table := x.tableNext.getD x.table, tableNext := none }).wrN (Reg.CYC_SCHED_LASTRUN n) k

/-- The charge of the cycle begins; with nothing to charge, execution does at once. -/
def State.beginCharge (s : State) (k : Nat) : State :=
  let ns := (List.range 16).filter fun n => s.runsIn n k
  let t := (List.range 16).foldl (fun (t : State) n =>
    let x := t.ladle n
    if x.prog.isSome && x.phase == .cut then t.setLadle n { x with phase := .idle } else t) s
  let t := ns.foldl (fun (t : State) n => t.chargeOne k n) t
  let t := t.wrN Reg.CYC_CHGBATCH t.batch
  let t : State := { t with cyc := { t.cyc with phase := if ns.isEmpty then .executing else .charging, chargedAt := t.now } }
  (if ns.isEmpty then t.wrN Reg.CYC_LASTCHG 0 else t).inService

/-- An untagged CYC_SETUP is applied at the boundary `b`: its budget is checked there (R215, R224). -/
def State.applySetup (s : State) (w : Wait) (p m o : Nat) (budget : Bool) : State :=
  let l := s.load
  let full := ofInt 32 (l.slack rateFull p m s.fettleUs)
  let ebb := ofInt 32 (l.slack rateEbb p m s.fettleUs)
  if s.setupHolds l p m budget then ((s.setTiming p m o budget).showBudget).finish w St.ok full ebb
  else s.finish w St.overBudget full ebb

/-- Untagged setups and schedules are applied at a boundary, in the order they were taken (R224). -/
def State.applyWaiting (s : State) : State :=
  s.waits.foldl (fun (t : State) w =>
    match w.kind with
    | .cycSetup p m o b => t.applySetup w p m o b
    | .cycSched n e => match parseSched e with | .ok c => (t.showSched n c).finish w St.ok 0 0 | .error x => t.finish w x.status 0 0
    | _ => t) s

/-- The boundary after `b`: the period on the grid where `b` is a boundary of the timing in force, the first one of that timing after the old period otherwise (R203,
R224). -/
def State.nextBoundary (s : State) (b oldP : Nat) : State :=
  let p := s.rdN Reg.CYC_PERIOD
  let m := s.rdN Reg.CYC_MARGIN
  match s.lamp.next with
  | none => { s with cyc := { s.cyc with boundary := b, period := p * 1000, margin := m * 1000, next := some (b + p * 1000) } }
  | some tb =>
    let aligned := cycAligned s.lamp.tick p
    let t := s.setF Reg.CYC_STATUS F.CYC_STATUS_UNALIGNED (bit (!aligned))
    if oldP = 0 || (!aligned && oldP = p * 1000) || cycFirst tb s.lamp.tick p (s.rdN Reg.CYC_OFFSET) b = b then
      { t with cyc := { t.cyc with boundary := b, period := p * 1000, margin := m * 1000, next := some (b + p * 1000) } }
    else
      { t with cyc := { t.cyc with boundary := b, next := some (cycFirst tb s.lamp.tick p (s.rdN Reg.CYC_OFFSET) (b + oldP)) } }

/-- A held boundary (R224): the waiting CYC_HOLD completes, the count falls. -/
def State.heldBoundary (s : State) : State :=
  let left := match s.cyc.hold with | some (some n) => some (n - 1) | _ => none
  let t : State := { s with cyc := { s.cyc with held := true, hold := match left with | some 0 => none | some n => some (some n) | none => some none } }
  (t.wrN Reg.CYC_HOLDLEFT (left.getD 0xFFFFFFFF)).finishAll (fun w => w.kind == .cycHold) St.ok 0 0

/-- The skip of the cycle that begins, if it is one: a supply skip, or a planned one of a kind; or the run of planned skips ends and the cycle charges (R213, R219,
R224, R470). -/
def State.beginCycle (s : State) (k : Nat) : State :=
  let supply := s.outage
  let kind := if s.pausing then 1 else if s.cyc.hold.isSome then 4 else if s.cyc.skipNext then 2 else 0
  let t : State := { s with cyc := { s.cyc with held := false, skipNext := false } }
  if supply then
    let u := t.endPlanned.bump Reg.CYC_CNT_SUPPLY
    { u with cyc := { u.cyc with phase := .skipping } }
  else if kind = 0 then t.endHolds.beginCharge k
  else
    let u := (if kind = 4 then t.heldBoundary else t).notePlanned kind
    { u with cyc := { u.cyc with phase := .skipping } }

/-! ### The deadline (R208 to R214) -/

/-- The writes of the ladles that ran, dirty slots in ladle order (R209, R210). -/
def State.dirtyOps (s : State) (st : Nat) (ns : List Nat) : List PtOp :=
  ns.flatMap fun n => ((s.ladle n).run.slots.filter (·.dirty)).map fun x =>
    .write { addr := x.addr, value := x.value, quality := x.quality, writer := 0x0010 + n, stamp := st }

/-- A ladle's working copies become its committed ones, and its counts rise (R171). -/
def State.commitLadle (s : State) (n : Nat) : State :=
  let x := s.ladle n
  let t := ((s.bump (Reg.LDL_IDXFAULT n) x.run.idxFault).bump (Reg.LDL_ARITH n) x.run.arith).bump (Reg.LDL_LCDISCARD n) x.run.lcDiscard
  t.setLadle n { x with priv := x.run.priv, phase := .idle }

/-- Staged changes of a slot as its application time counts them: table data in 4-byte units (R113). -/
def TxnSlot.units (t : TxnSlot) : Nat :=
  (t.changes.map fun c => match c with
    | .table _ _ _ => if t.online && (match c with | .table (.ladle _) _ _ => true | _ => false) then 0 else (c.tableBytes + 3) / 4
    | .program _ _ => 0 | .image _ => 0 | _ => 1).sum

/-- The longest application of a slot in ns (R113). -/
def TxnSlot.cost (t : TxnSlot) : Nat := 50000 + 20 * t.units

/-- Slots bound to the cycle commit, in the order of their TXN_COMMIT (R113). -/
def State.bound (s : State) : List Nat :=
  let ks := (List.range 4).filter fun k => (s.txn k).phase == .waiting && (s.txn k).point == 2
  ks.mergeSort fun a b => (s.txn a).rank ≤ (s.txn b).rank

/-- The bound slots that ride on a commit with `room` ns; the first that does not fit, and every one after it, moves on (R113). -/
def State.riders (s : State) : Nat → List Nat → List Nat × List Nat
  | _, [] => ([], [])
  | room, k :: ks =>
    if (s.txn k).cost ≤ room then
      let r := State.riders s (room - (s.txn k).cost) ks
      (k :: r.1, r.2)
    else ([], k :: ks)

/-- Slots that could not ride on this cycle: their wait counts from its deadline (R112). -/
def State.moveOn (s : State) (ks : List Nat) : State :=
  ks.foldl (fun (t : State) k => let x := t.txn k; if x.waitFrom.isSome then t else t.setTxn k { x with waitFrom := some t.now }) s

/-- Bound slots whose checks fail now complete with the status; the others, with the plan of the online change among them. -/
def State.checkRiders (s : State) (ks : List Nat) : State × List Nat × Option Plan :=
  ks.foldl (fun (r : State × List Nat × Option Plan) k =>
    match r.1.commitPlan k with
    | .error st => (r.1.reopenTxn k st, r.2.1, r.2.2)
    | .ok p => (r.1, r.2.1 ++ [k], if p.isSome then p else r.2.2)) (s, [], none)

/-- CYC_RAN of the cycle that ends. -/
def State.showRan (s : State) (ran cut : List Nat) : State :=
  (s.setF Reg.CYC_RAN F.CYC_RAN_RAN (maskOf ran)).setF Reg.CYC_RAN F.CYC_RAN_CUT (maskOf cut)

/-- The cycle commits (R210). -/
def State.cycleCommit (s : State) : State :=
  let s := s.endCuts
  let st := s.stamp
  let ns := s.running
  let own := s.dirtyOps st ns
  let calls := ns.flatMap fun n => (s.ladle n).run.calls.map fun c => (n, c)
  let t := (ns.foldl (fun (t : State) n => t.commitLadle n) s).showRan ns []
  let t : State := { t with cyc := { t.cyc with phase := .between } }
  let r := t.riders (t.cyc.margin - t.load.tcm * 1000) t.bound
  let c := (t.moveOn r.2).checkRiders r.1
  let b : Batch := { own := own, ks := c.2.1, plan := c.2.2, calls := calls }
  let t := c.1.bump Reg.TXN_CNT_OVERRIDE (c.1.overrides b)
  let tc := c.1.cyc.boundary
  let t := t.applyBatch b st (fun u => ns.flatMap fun n => u.privateRecords tc n (some (s.ladle n).priv)) 0 [] false
  let t := ((t.bump Reg.CYC_CNT_COMMIT).wrN Reg.CYC_CMTBATCH t.batch).setF Reg.CYC_STATUS F.CYC_STATUS_LAST_COMMITTED 1
  let t := (t.setF Reg.CYC_OVR F.CYC_OVR_CONSEC 0).setF Reg.CYC_STATUS F.CYC_STATUS_STUCK 0
  let t : State := { t with sup := { t.sup with committed := true }, cyc := { t.cyc with skipNext := match c.2.2 with | some p => p.skips | none => false } }
  (if t.mtrState = 0 then t.mtrReopen 1 else t).confirmHandover

/-- The PACE floor of the core-voltage state (R59). -/
def State.paceFloor (s : State) : Nat := if s.flag Reg.GLB_STATUS F.GLB_STATUS_EBB then 307 else 614

/-- The budget held for the cycle in progress in the core-voltage state it runs in (R216). -/
def State.budgetHeld (s : State) : Bool :=
  s.load.holds (if s.flag Reg.GLB_STATUS F.GLB_STATUS_EBB then rateEbb else rateFull) (s.cyc.period / 1000) (s.cyc.margin / 1000) s.fettleUs

/-- The lowest PACE of the cycle in progress: of the 1 ms samples that have ended since its boundary (R216). While none has ended, the one sample that overlaps the cycle is not
taken yet, and its value is free (log entry 51). -/
def State.lowestPace (s : State) : Nat := if s.cyc.minPace = 0x10000 then (Config.freeWord s.free).toNat % 65536 else s.cyc.minPace

/-- STUCK is set when the consecutive overruns reach the limit (R214); with YIELD_STUCK the active unit yields (R422). -/
def State.noteStuck (s : State) : State :=
  let n := s.fld Reg.CYC_OVR F.CYC_OVR_CONSEC
  let lim := s.fld Reg.CYC_OVR F.CYC_OVR_LIMIT
  if lim = 0 || n < lim || s.flag Reg.CYC_STATUS F.CYC_STATUS_STUCK then s
  else
    let t := (s.setF Reg.CYC_STATUS F.CYC_STATUS_STUCK 1).event 0x0B03 2 noInst (le 4 (s.rdN Reg.CYC_COUNT) ++ le 4 n)
    if t.role == .active && t.flag Reg.RDN_CFG F.RDN_CFG_YIELD_STUCK then t.sendYield 3 else t

/-- The cycle overruns (R212, R216); with PACE below the floor GLB_FLAGS.SLOW comes with it. -/
def State.overrun (s : State) : State :=
  let ran := s.running
  let cut := s.unfinished
  let slow := decide (s.lowestPace < s.paceFloor)
  let held := s.budgetHeld
  let fault := held && !slow
  let late := cut.any fun n => (s.ladle n).phase == .charging
  let first := cut.headD 0
  let cause := if fault then 3 else if late then 1 else 2
  let t := ((s.endCuts.cutLadles.showRan ran cut).bump Reg.CYC_CNT_OVERRUN).setF Reg.CYC_STATUS F.CYC_STATUS_LAST_COMMITTED 0
  let t := if slow then t.setF Reg.GLB_FLAGS F.GLB_FLAGS_SLOW 1 else t
  let t := t.bumpSat Reg.CYC_OVR F.CYC_OVR_CONSEC
  let t := t.event 0x0B01 (if fault then 2 else 1) noInst
    (le 4 (s.rdN Reg.CYC_COUNT) ++ le 1 cause ++ le 2 (maskOf cut) ++ le 1 first ++ le 2 (s.ladle first).run.pc ++ le 2 s.lowestPace
      ++ le 1 (bit (s.flag Reg.GLB_STATUS F.GLB_STATUS_EBB)) ++ le 1 (bit held))
  let t : State := { (if s.cyc.minPace = 0x10000 then t.nextFree else t) with cyc := { t.cyc with phase := .between } }
  ((if s.charging then t.afterCharge else t).noteStuck).moveOn s.bound

/-- The commit deadline of the cycle in progress. -/
def State.deadline (s : State) : State :=
  match s.cyc.phase with
  | .between => s
  | .skipping =>
    let t := (s.showRan [] []).setF Reg.CYC_STATUS F.CYC_STATUS_LAST_COMMITTED 0
    ({ t with cyc := { t.cyc with phase := .between } } : State).moveOn s.bound
  | _ => if s.unfinished.isEmpty then s.cycleCommit else s.overrun

/-- COMMIT_DEADLINE (R202, R210, R212): b + P − M of the cycle in progress has come. -/
def execCommitDeadline (s : State) : Answer :=
  .next (if s.cyc.phase != .between && decide (s.cyc.boundary + s.cyc.period - s.cyc.margin ≤ s.now) then s.deadline else s)

/-- CYCLE_BOUNDARY (R202): the cycle number rises, what waits for the boundary is applied, the cycle charges or is skipped. A handover that has been
reverted takes effect here (R427). -/
def execCycleBoundary (s : State) : Answer :=
  let s := s.revertNow
  match s.cyc.next with
  | none => .next s
  | some b =>
    if s.now < b || !s.leads || s.defaulted || s.handStops b then .next s
    else
      let t := s.deadline
      let t := t.wrN Reg.CYC_COUNT (t.rdN Reg.CYC_COUNT + 1)
      let t : State := { t.applyWaiting with cyc := { t.applyWaiting.cyc with minPace := 0x10000 } }
      .next ((t.nextBoundary b s.cyc.period).beginCycle (t.rdN Reg.CYC_COUNT))

/-- CHARGE_END (R207, R208): the charge of ladle `n` ends and it begins to execute; with the last one, what waited for the charge is applied. -/
def execChargeEnd (n : Nat) (s : State) : Answer :=
  let x := s.ladle n
  if s.cyc.phase == .charging && x.phase == .charging then
    let t := s.setLadle n { x with phase := .executing, chargeEnd := s.now }
    if (List.range 16).any fun m => (t.ladle m).phase == .charging then .next t
    else
      let u : State := { t with cyc := { t.cyc with phase := .executing, chargedAt := t.now } }
      .next ((u.wrN Reg.CYC_LASTCHG ((u.now - u.cyc.boundary) / 1000)).afterCharge)
  else .next s

/-! ### Commands (R224) -/

/-- No cycles run here: DEFAULTED under factory defaults, REFUSED in the other roles (R66, R223, R224). -/
def State.cycState (s : State) : Option Nat := if s.defaulted then some St.defaulted else if !s.leads then some St.refused else none

/-- CYC_SETUP (R215, R224). -/
def execCycSetup (e : CmdEntry) (s : State) : Answer :=
  runCmd Op.cycSetup (.cycSetup e) e (fun _ s =>
    let p := e.param 0 4
    let m := e.param 4 4
    let o := e.param 8 4
    let b := bitOf (e.param 12 1) 0
    match (if (s.txnOf e.txn.toNat).isSome then none else s.cycState) with
    | some st => .stat st s
    | none =>
      if !cycRange p m o then .stat St.badFormat s
      else match s.txnOf e.txn.toNat with
        | some k => s.stageChanges k [.cycSetup p m o b] 0
        | none => if s.conflicts none [.cycle 16] then Res.conflict s else .wait (.cycSetup p m o b) s) s

/-- The trigger of a schedule is a point of its ladle's footprint; a ladle without a program has none (R205). -/
def State.trigFits (s : State) (slot : Option Nat) (n : Nat) (c : Sched) : Bool :=
  let p := match slot.bind fun k => (s.txn k).staged n with
    | some none => none
    | some (some img) => (match parseProg img n with | .ok q => some q | .error _ => none)
    | none => (s.ladle n).prog
  c.mode != 3 || (match p with | some q => q.slots.any (·.1 == c.trig) | none => false)

/-- CYC_SCHED (R205, R224). -/
def execCycSched (e : CmdEntry) (s : State) : Answer :=
  runCmd Op.cycSched (.cycSched e) e (fun _ s =>
    let n := e.param 0 1
    let b := slice e.params 4 12
    let slot := s.txnOf e.txn.toNat
    match (if slot.isSome then none else s.cycState) with
    | some st => .stat st s
    | none =>
      match parseSched b with
      | .error _ => .stat St.badFormat s
      | .ok c =>
        if 16 ≤ n || !s.trigFits slot n c then .stat St.badFormat s
        else match slot with
          | some k => s.stageChanges k [.cycSched n b] 0
          | none => if s.conflicts none [.cycle n] then Res.conflict s else .wait (.cycSched n b) s) s

/-- CYC_HOLD (R224): the hold is in place from here, and takes effect at the next boundary. -/
def execCycHold (e : CmdEntry) (s : State) : Answer :=
  runCmd Op.cycHold (.cycHold e) e (fun _ s =>
    match s.cycState with
    | some st => .stat st s
    | none =>
      let n := e.param 0 4
      .wait .cycHold (({ s with cyc := { s.cyc with hold := some (if n = 0 then none else some n) } } : State).wrN Reg.CYC_HOLDLEFT (if n = 0 then 0xFFFFFFFF else n))) s

/-- CYC_RELEASE (R224). -/
def execCycRelease (e : CmdEntry) (s : State) : Answer :=
  runCmd Op.cycRelease (.cycRelease e) e (fun _ s =>
    if s.defaulted then .stat St.defaulted s
    else if s.cyc.hold.isNone then .stat St.notHeld s
    else
      let t := ({ s with cyc := { s.cyc with hold := none } } : State).wrN Reg.CYC_HOLDLEFT 0
      .stat St.ok (t.finishAll (fun w => w.kind == .cycHold) St.aborted 0 0)) s

end Sys2Proof.Machine
end

