-- ==== Sys2Proof/Machine/KeyLife.lean ====
section
/-!
DEFINITION. The life cycle of the key store (R452 to R454): zeroisation, the end of a transition, and a module that is DECOMMISSIONED.
-/
set_option linter.unusedVariables false
namespace Sys2Proof.Machine

/-- Group keys and node keys held with node states, of trunks and radio channels (R453). -/
def State.zeroiseNodes (s : State) : State :=
  let t := s.czn.nodes.foldl (fun (t : State) e => t.setCznNode e.1 { t.cznNode e.1 with key := [] }) s
  let t := s.czn.ports.foldl (fun (t : State) e => t.setPort e.1 { t.port e.1 with groupKeys := [] }) t
  let t := s.radio.nodes.foldl (fun (t : State) e => t.setRadNode e.1 { t.radNode e.1 with key := [] }) t
  s.radio.chans.foldl (fun (t : State) e => t.setRadChan e.1 { t.radChan e.1 with groupKeys := [] }) t

/-- The module runs factory defaults (R66): no program, no node, no role that transmits. -/
def State.takeDefaults (s : State) : State :=
  let old := s.cfg
  let t := (List.range 16).foldl (fun (t : State) n => t.placeProgram n none) s
  let t := ((t.swapAll {}).loadRegs {} fun _ => true).setF Reg.GLB_STATUS F.GLB_STATUS_DEFAULTED 1
  (t.renewNodes old).enterRole .seeding

/-- A transition completes: the new state is written and the intent removed (R453); `atStart` where start-up completes it (R454). A
DECOMMISSIONED module runs as under factory defaults (R452). -/
def State.completeLc (s : State) (dest : Nat) (atStart : Bool) : State :=
  let old := s.lifeCycle
  let t := ((s.setF Reg.KEY_LC F.KEY_LC_STATE dest).setF Reg.KEY_LC F.KEY_LC_PENDING 0).setF Reg.KEY_STATUS F.KEY_STATUS_ZEROISING 0
  let t : State := { t with keys := { t.keys with intent := none, zeroised := false } }
  let t := t.event 0x1601 3 noInst (le 1 old ++ le 1 dest ++ le 1 (bit atStart))
  if dest = 3 && !atStart && !t.defaulted then t.takeDefaults else t

/-- Is the zeroisation of a transition due: 1 ms after its request (R453)? -/
def State.zeroiseDue (s : State) : Bool := s.keys.intent.isSome && !s.keys.zeroised && decide (s.keys.lcAt + ms 1 ≤ s.now)

/-- LC_ZEROISE: every key goes at one instant (R453). -/
def execLcZeroise (s : State) : Answer := .next (if s.zeroiseDue then s.zeroiseKeys.zeroiseNodes else s)

/-- LC_TRANSITION_END: 2 s after its request the new state is written (R453). -/
def execLcTransitionEnd (s : State) : Answer :=
  .next (match s.keys.intent with
    | some d => if s.keys.zeroised && decide (s.keys.lcAt + secs 2 ≤ s.now) then s.completeLc d false else s
    | none => s)

end Sys2Proof.Machine
end

