-- ==== Sys2Proof/Machine/Peer.lean ====
section
/-!
DEFINITION. What a standby receives: peer frames as they arrive (R430), the records of DELTA and SEED (R432), and their application (R115, R172, R418, R419).
-/
set_option linter.unusedVariables false
namespace Sys2Proof.Machine

/-! ### Peer frames as received (R430) -/

/-- A peer frame that has been opened. -/
structure PeerMsg where
  typ : Nat
  claim : Nat
  body : List Byte
  deriving DecidableEq, Repr

/-- The module runs as one unit of a pair, from stage 0x6 on (R416). -/
def State.peerReady (s : State) : Bool := s.paired && decide (6 ≤ s.stage ∧ s.stage ≤ 9) && !s.sup.inReset && !s.dark

/-- Form, sender, seal and counter of a peer frame (R430); a frame of the other protocol is recorded once and the peer treated as lost (R429). -/
def State.peerFrom (s : State) (typ : Nat) (e : EthFrame) : State × Option PeerMsg :=
  match s.ethIn 0 s.rdnEtype e with
  | (s, none) => (s, none)
  | (s, some f) =>
    let n := fieldBe f 20 2
    let uid := fieldBe f 4 8
    let c := fieldBe f 12 4
    if !s.peerReady || f.length < 32 + n || uid ≠ s.cfg.rdn.peerUid || fieldBe f 1 1 ≠ typ then (s, none)
    else match openWith (s.checkKeys s.cfg.rdn.peerSlot .ccm) uid c 0xFE (f.take 24) (slice f 24 (n + 8)) with
      | none => (s, none)
      | some body =>
        let r := acceptCounter s.rdn.windows false 0 c
        if r.1 ≠ .new then (s, none)
        else
          let t : State := { s with rdn := { s.rdn with windows := r.2 } }
          let v := fieldBe f 0 1
          if v ≠ t.rdnProto then
            let u := if t.rdn.protoBad then t else t.event 0x140F 2 noInst (le 1 v)
            ({ u with rdn := { u.rdn with protoBad := true, peerAt := none, peerSince := none } }, none)
          else ({ t with rdn := { t.rdn with protoBad := false } }, some { typ := typ, claim := fieldBe f 16 4, body := body })

/-! ### Records (R432) -/

/-- The records of a body: kind and data. None where one is cut off. -/
def peerRecords : Nat → List Byte → Option (List (Nat × List Byte))
  | 0, b => if b.isEmpty then some [] else none
  | k + 1, b =>
    if b.isEmpty then some []
    else
      let n := fieldBe b 2 2
      if b.length < 4 + n then none else (peerRecords k (b.drop (4 + n))).map fun l => (fieldBe b 0 1, slice b 4 n) :: l

/-- A point of a POINTS record with its record (R146). -/
def pointOf (b : List Byte) : Nat × PtRec :=
  (fieldBe b 0 4, { value := BitVec.ofNat 32 (fieldLe b 4 4), quality := bitsOf (fieldLe b 8 1) 4 4, pending := bitOf (fieldLe b 9 1) 3
                    writer := fieldLe b 10 2, stamp := fieldLe b 12 8 })

/-- A force of a FORCES record with its underlying record. -/
def forceOf (b : List Byte) : Nat × Force :=
  let fl := fieldLe b 9 1
  let u : PtRec := { value := BitVec.ofNat 32 (fieldLe b 24 4), quality := bitsOf (fieldLe b 28 1) 4 4, pending := false, writer := fieldBe b 32 2, stamp := fieldBe b 40 8 }
  (fieldLe b 0 4, { value := BitVec.ofNat 32 (fieldLe b 4 4), quality := bitsOf (fieldLe b 8 1) 4 4, orphan := bitOf fl 0
                    under := if bitOf fl 1 then some u else none, absorbed := fieldLe b 12 4, setStamp := fieldLe b 16 8 })

/-- What the records of a DELTA or SEED say, sorted by kind. -/
structure PeerData where
  points : List (Nat × PtRec) := []
  forces : List (Nat × Force) := []
  /-- PRIVATE: ladle, kind, first, entries. -/
  priv : List (Nat × Nat × Nat × List (List Byte)) := []
  /-- TABLE: type, index, offset, bytes. -/
  tables : List (Nat × Nat × Nat × List Byte) := []
  /-- NODES: address, state, version, generation. -/
  nodes : List (Nat × Nat × Nat × Nat) := []
  /-- KEYS: port, generation, key. -/
  keys : List (Nat × Nat × List Byte) := []
  cmds : List (Nat × CmdRec) := []
  /-- Lamp state of a SEED; probes of a DELTA. -/
  lamp : List (List Byte) := []
  deriving DecidableEq, Repr

/-- The entries of a record whose data begins with a count; none where they do not fill it. -/
def counted (size off : Nat) (b : List Byte) : Option (List (List Byte)) :=
  let n := fieldBe b off 4
  if b.length = off + 4 + size * n then some (recordsOf size n (b.drop (off + 4))) else none

/-- Add one record. -/
def PeerData.add (d : PeerData) (r : Nat × List Byte) : Option PeerData :=
  let b := r.2
  if r.1 = 1 then (counted 20 0 b).map fun es => { d with points := d.points ++ es.map pointOf }
  else if r.1 = 2 then
    if 16 ≤ fieldBe b 0 1 || 4 ≤ fieldBe b 1 1 || b.length ≠ 8 + 16 * fieldBe b 4 2 then none
    else some { d with priv := d.priv ++ [(fieldBe b 0 1, fieldBe b 1 1, fieldBe b 2 2, recordsOf 16 (fieldBe b 4 2) (b.drop 8))] }
  else if r.1 = 3 then (counted 48 0 b).map fun es => { d with forces := d.forces ++ es.map forceOf }
  else if r.1 = 4 then if b.length < 8 then none else some { d with tables := d.tables ++ [(fieldBe b 0 2, fieldBe b 2 2, fieldBe b 4 4, b.drop 8)] }
  else if r.1 = 5 then
    if b.length % 8 ≠ 0 then none
    else some { d with nodes := d.nodes ++ (recordsOf 8 (b.length / 8) b).map fun e => (fieldBe e 0 2, fieldBe e 2 1, fieldBe e 3 1, fieldBe e 4 1) }
  else if r.1 = 6 then if b.length ≠ 20 then none else some { d with keys := d.keys ++ [(fieldBe b 0 1, fieldBe b 1 1, b.drop 4)] }
  else if r.1 = 7 then
    (counted 20 4 b).map fun es =>
      { d with cmds := d.cmds ++ es.map fun e =>
          (fieldBe b 0 1, { cmdId := BitVec.ofNat 32 (fieldBe e 0 4), status := fieldBe e 6 1
                            result0 := BitVec.ofNat 32 (fieldBe e 12 4), result1 := BitVec.ofNat 32 (fieldBe e 16 4) }) }
  else if r.1 = 8 then some { d with lamp := d.lamp ++ [b] }
  else none

/-- The records of a whole body. -/
def parsePeer (b : List Byte) : Option PeerData := (peerRecords b.length b).bind fun rs => rs.foldlM PeerData.add {}

/-! ### Taking them (R115, R172, R418, R419) -/

/-- One committed state entry (R200); a timer's age counts back from now, even to before this unit's monotonic base began (R172). -/
def Priv.take (x : Priv) (kind i now : Nat) (e : List Byte) : Priv :=
  let fl := fieldLe e 0 1
  if kind = 0 then
    let age := fieldLe e 8 8
    let start : Int := if age = neverRan then 0 else (now : Int) - age
    { x with timers := x.timers.set i { run := bitOf fl 0, q := bitOf fl 1, prev := bitOf fl 2, acc := fieldLe e 4 4, start := start } }
  else if kind = 1 then { x with counters := x.counters.set i { q := bitOf fl 0, up := bitOf fl 1, down := bitOf fl 2, value := sext 32 (fieldLe e 4 4) } }
  else if kind = 2 then { x with edges := x.edges.set i (bitOf fl 0) }
  else { x with mems := x.mems.set i (BitVec.ofNat 32 (fieldLe e 0 4), bitsOf (fieldLe e 4 1) 4 4) }

/-- A PRIVATE record. -/
def State.takePriv (s : State) (r : Nat × Nat × Nat × List (List Byte)) : State :=
  let x := s.ladle r.1
  s.setLadle r.1 { x with priv := r.2.2.2.zipIdx.foldl (fun (y : Priv) e => y.take r.2.1 (r.2.2.1 + e.2) s.now e.1) x.priv }

/-- The state of a row node or radio node, with its key where it is admitted (R418). The unit takes the key generation that the nodes use. -/
def State.takeNode (s : State) (r : Nat × Nat × Nat × Nat) : State :=
  if r.1 < 0x1000 then
    let x := s.cznNode r.1
    (s.setF Reg.TRK_CZNKEY F.TRK_CZNKEY_GEN r.2.2.2).setCznNode r.1
      { x with state := r.2.1, version := r.2.2.1, key := if x.key.isEmpty then (s.cznKey r.1).getD [] else x.key }
  else
    let n := r.1 - 0x1000
    let x := s.radNode n
    (s.setRadGen (radioChan n) r.2.2.2 (s.radChan (radioChan n))).setRadNode n { x with state := r.2.1, key := if x.key.isEmpty then (s.radKey n).getD [] else x.key }

/-- A group key of a trunk port or radio channel (R418). -/
def State.takeKey (s : State) (r : Nat × Nat × List Byte) : State :=
  if r.1 < 64 then s.setPort r.1 { s.port r.1 with groupKeys := mapPut (s.port r.1).groupKeys r.2.1 r.2.2 }
  else s.setRadChan (r.1 - 64) { s.radChan (r.1 - 64) with groupKeys := mapPut (s.radChan (r.1 - 64)).groupKeys r.2.1 r.2.2 }

/-- A command enters the record of its ring as completed (R98, R115). -/
def State.takeCmd (s : State) (r : Nat × CmdRec) : State :=
  let x := s.ring r.1
  s.setRing r.1 { x with done := (r.2 :: x.done.filter (·.cmdId ≠ r.2.cmdId)).take 1024 }

/-- What the nodes' status points say of them is what the module holds of them (R308, R335, R419). -/
def State.copyNode (s : State) (a : Nat) : State :=
  let v := (s.view a).value.toNat
  if 0x1000000 ≤ a && a < 0x1400000 && a % 0x800 < 6 then
    let n := (a - 0x1000000) / 0x800
    let o := a % 0x800
    let x := s.cznNode n
    let y : CznNode := if o = 0 then { x with state := v } else if o = 1 then { x with version := v } else if o = 2 then { x with width := v }
      else if o = 4 then { x with tMeas := v } else if o = 5 then { x with pwm := v } else x
    s.setCznNode n y
  else if 0x1C00000 ≤ a && a < 0x1E00000 && a % 0x100 = 0 then
    let n := (a - 0x1C00000) / 0x100
    s.setRadNode n { s.radNode n with state := v }
  else s

/-- Pieces of one table put together: type, index, first offset, bytes. -/
def joinTables (ts : List (Nat × Nat × Nat × List Byte)) : List (Nat × Nat × Nat × List Byte) :=
  ts.foldl (fun acc t =>
    match acc.reverse with
    | l :: rest => if l.1 = t.1 && l.2.1 = t.2.1 && l.2.2.1 + l.2.2.2.length = t.2.2.1 then (((l.1, l.2.1, l.2.2.1, l.2.2.2 ++ t.2.2.2) :: rest).reverse) else acc ++ [t]
    | [] => [t]) []

/-- The table that a mirrored load of single records names. -/
def mirroredTable (typ index : Nat) : Option TableId :=
  if typ = 3 then some (.ladle (index - 0x8000)) else if typ = 5 then some .lampRecord else if typ = 6 then some (.gates (index - 0x8000))
  else if typ = 7 then some .cznNodes else if typ = 8 then some .radioNodes else if typ = 0xA then some .calibration else none

/-- The transaction that the TABLE records of a changed image stand for. -/
def tableTxn (ts : List (Nat × Nat × Nat × List Byte)) : TxnSlot :=
  { phase := .applying, online := true
    changes := ts.filterMap fun t =>
      if t.1 = 2 then some (.program t.2.1 (if t.2.2.2.isEmpty then none else some t.2.2.2)) else if t.1 = 3 then some (.table (.ladle t.2.1) t.2.2.1 t.2.2.2) else none }

/-- The resulting image on the standby: with the active's generation and the standby's own redundancy section (R115). -/
def State.mirroredPlan (s : State) (ts : List (Nat × Nat × Nat × List Byte)) : Except Nat (Option Plan) :=
  match ts.find? (·.1 == 0) with
  | none => .ok none
  | some h =>
    let hd := h.2.2.2
    let gen := fieldLe hd 12 4
    let rest := ts.filter (·.1 != 0)
    let whole := h.2.1 == 0
    let t := if whole then ({} : TxnSlot) else tableTxn rest
    let rest' : List Sect := rest.map fun x => (x.1, x.2.1, x.2.2.2)
    let own := match sectOf s.cfg.sections 0xC 0 with | some b => [(0xC, 0, b)] | none => []
    let base : Except Nat (List Byte) :=
      if whole then .ok (regenerate hd gen ((rest.filter (·.1 != 0xC)).map (fun x => (x.1, x.2.1, x.2.2.2)) ++ own))
      else match imageSections s.runningImage with | .ok ss => .ok (regenerate s.runningImage gen (t.sections ss)) | .error e => .error e.status
    match base with
    | .error e => .error e
    | .ok b => match readImageWith (s.cycAfter {} whole rest') s.ident s.fettleUs b with | .ok img => .ok (some (s.planFor b img whole t)) | .error e => .error e.status

/-- The records after a delta or seed. Forces that stand on touched points and are not listed are gone; a seed's list of forces is complete. A seed leaves
the points that local applications write (R152, DEDUCED). -/
def State.peerEffect (d : PeerData) (p : Option Plan) (seed : Bool) (s : State) : State :=
  let t := match p with | some x => s.place x | none => s
  let ps := if seed then d.points.filter fun e => !inSystem e.1 else d.points
  let t : State := { t with forces := if seed then [] else t.forces.filter fun e => !d.points.any (·.1 == e.1) }
  let t : State := d.forces.foldl (fun (t : State) e => { t with forces := mapPut t.forces e.1 e.2 }) t
  let t := ps.foldl (fun (t : State) e => t.setPt e.1 e.2) t
  match p with
  | some _ => t.orphanOps.foldl State.ptOp t
  | none => t

/-- Whole ns by which the wall time stands ahead of the monotonic base: both units of a pair share the wall time. -/
def State.wallShift (s : State) : Int := s.clock.wallOff / 2 ^ 32

/-- A signed value in eight bytes. -/
def beInt (x : Int) : List Byte := be 8 (ofInt 64 x)

/-- Colour temperature in 2^-16 mired. -/
def miredCode (x : Rat) : Nat := (x * 65536).floor.toNat

/-- A channel as a seed carries it (DESIGN CHOICE, log 54: the rules give no layout): key, start, target and end level, whether a CCT is latched and the channel stands low
or is to be probed at once, fade time in ms, its start in ns of wall time, colour temperatures in 2^-16 mired, residue, latched CCT, due instant of the next probe. -/
def State.chanBytes (s : State) (e : Nat × Chan) : List Byte :=
  let x := e.2
  be 4 e.1 ++ be 2 x.start ++ be 2 x.target ++ be 2 x.endLevel ++ be 2 (bit x.cctRaw.isSome + 2 * bit x.below.isSome + 4 * bit x.probeNow) ++ be 4 x.dur
    ++ beInt (x.tBeg + s.wallShift) ++ be 4 (miredCode x.cct0) ++ be 4 (miredCode x.cct1) ++ be 4 (miredCode x.endCct) ++ be 4 (ofInt 32 x.res)
    ++ be 2 (x.cctRaw.getD 0) ++ [0, 0] ++ beInt (x.probeAt + s.wallShift) ++ be 4 x.word

/-- A luminaire as a seed carries it, bit 31 of its key set: run time below a second, derating factor, LUM_RUN and factor of the maintenance in force (log 54). -/
def State.lumBytes (e : Nat × Lum) : List Byte :=
  let m := e.2.maint.getD (2 ^ 63, 1)
  be 4 (2 ^ 31 + e.1) ++ be 4 e.2.runMs ++ be 8 e.2.derate.num.toNat ++ be 8 e.2.derate.den ++ be 8 m.1 ++ be 8 m.2.num.toNat ++ be 8 m.2.den ++ be 8 e.2.run

/-- Bytes of a lamp entry of a seed. -/
def lampEntrySize : Nat := 56

/-- A fraction of two 8-byte fields. -/
def ratBe (b : List Byte) (o : Nat) : Rat := (fieldBe b o 8 : Rat) / (fieldBe b (o + 8) 8 : Nat)

/-- Take a channel or a luminaire of a seed (R245, R418). -/
def State.takeLampEntry (s : State) (b : List Byte) : State :=
  let q (o : Nat) : Rat := (fieldBe b o 4 : Nat) / (65536 : Rat)
  let k := fieldBe b 0 4
  if bitOf k 31 then
    let l := k % 2 ^ 31
    let r := fieldBe b 24 8
    s.setLum l { s.lumSt l with runMs := fieldBe b 4 4, derate := ratBe b 8, maint := if r = 2 ^ 63 then none else some (r, ratBe b 32), run := fieldBe b 48 8 }
  else
    let x := s.chan (k / 4) (k % 4)
    let fl := fieldBe b 10 2
    s.setChan (k / 4) (k % 4) { x with
      start := fieldBe b 4 2, target := fieldBe b 6 2, endLevel := fieldBe b 8 2, dur := fieldBe b 12 4, tBeg := sext 64 (fieldBe b 16 8) - s.wallShift
      cct0 := q 24, cct1 := q 28, endCct := q 32, res := sext 32 (fieldBe b 36 4), cctRaw := if bitOf fl 0 then some (fieldBe b 40 2) else none
      below := if bitOf fl 1 then some s.now else none, probeNow := bitOf fl 2, probeAt := sext 64 (fieldBe b 44 8) - s.wallShift, word := fieldBe b 52 4 }

/-- The lamp record of a seed: pour sequence, the last delta_seq sent before the base, channels and luminaires. -/
def State.takeLamp (s : State) (b : List Byte) : State :=
  let t : State := { s with lamp := { s.lamp with seq := fieldBe b 0 4 } }
  (recordsOf lampEntrySize ((b.length - 8) / lampEntrySize) (b.drop 8)).foldl (fun (t : State) c => t.takeLampEntry c) (t.wrN Reg.LMP_POURSEQ (fieldBe b 0 4))

/-- The lamp record of a DELTA: the channels that LMP_PROBE makes due at once (R245, R248). -/
def State.takeProbes (s : State) (b : List Byte) : State :=
  (recordsOf 4 (b.length / 4) b).foldl (fun (t : State) e =>
    let k := fieldBe e 0 4
    t.setChan (k / 4) (k % 4) { t.chan (k / 4) (k % 4) with probeNow := true }) s

/-- Apply the records of a delta or seed whole, as one application (R152, R419). `none` where it cannot be applied. -/
def State.applyPeer (s : State) (d : PeerData) (seed : Bool) : Option State :=
  let ts := joinTables d.tables
  let singles := ts.filter fun t => decide (0x8000 ≤ t.2.1)
  match s.mirroredPlan (ts.filter fun t => decide (t.2.1 < 0x8000)) with
  | .error _ => none
  | .ok p =>
    if d.points.any (fun e => decide (2 ^ 25 ≤ e.1)) then none
    else
      let addrs := (d.points.map (·.1)) ++ (d.forces.map (·.1)) ++ (if p.isSome || seed then s.watched else [])
      let t := s.applyVia addrs (State.peerEffect d p seed)
      let t := d.priv.foldl State.takePriv t
      let t := singles.foldl (fun (t : State) x => match mirroredTable x.1 x.2.1 with | some k => t.loadTable k x.2.2.1 x.2.2.2 | none => t) t
      let t := match p with | some x => t.settlePlan x s | none => t
      let t := (d.points.map (·.1)).foldl State.copyNode t
      let t := d.nodes.foldl State.takeNode t
      let t := d.keys.foldl State.takeKey t
      let t := d.cmds.foldl State.takeCmd t
      some (d.lamp.foldl (if seed then State.takeLamp else State.takeProbes) t)

/-- The seed's image (R418): every assigned point record, every force, every ladle's private state, node states, group keys, pour sequence and fades. -/
def State.seedRecords (s : State) : List (List Byte) :=
  let pts := (List.range (2 ^ 25)).filter fun a => (s.info a).typ ≠ 0
  let nodes := (s.czn.nodes.map fun e => be 2 e.1 ++ be 1 e.2.state ++ be 1 e.2.version ++ be 1 (s.portGen (nodePort e.1)) ++ [0, 0, 0])
    ++ s.radio.nodes.map fun e => be 2 (0x1000 + e.1) ++ be 1 e.2.state ++ be 1 3 ++ be 1 (s.radChan (radioChan e.1)).gen ++ [0, 0, 0]
  let keys := (s.czn.ports.flatMap fun e => (e.2.groupKeys.filter fun g => g.1 == s.keyGen || g.1 == s.keyNext || g.1 == s.portGen e.1).map fun g => be 1 e.1 ++ be 1 g.1 ++ [0, 0] ++ g.2)
    ++ s.radio.chans.flatMap fun e => (e.2.groupKeys.filter fun g => g.1 == e.2.gen || g.1 == e.2.next).map fun g => be 1 (64 + e.1) ++ be 1 g.1 ++ [0, 0] ++ g.2
  s.pointRecords pts ++ countedRecords s.partRoom 3 48 [] (s.forces.map fun e => s.forceBytes e.1 e.2)
    ++ ((List.range 16).flatMap fun n => s.privateRecords s.now n none)
    ++ (chunks ((s.partRoom - 4) / 8) nodes.length nodes).map (fun es => peerRecord 5 es.flatten)
    ++ keys.map (peerRecord 6)
    ++ (let cs := s.lamp.chans.map s.chanBytes ++ s.lamp.lums.map State.lumBytes
        let head := be 4 s.lamp.seq ++ be 4 (s.rdN Reg.RDN_DELTASENT)
        peerRecord 8 head :: (chunks ((s.partRoom - 12) / lampEntrySize) cs.length cs).map fun es => peerRecord 8 (head ++ es.flatten))

end Sys2Proof.Machine
end

