-- ==== Sys2Proof/Machine/RdnPeer.lean ====
section
/-!
DEFINITION. The peer link: beacons, deltas, seeding, handover frames, yield and health (R414 to R431).
-/
set_option linter.unusedVariables false
namespace Sys2Proof.Machine

/-! ### What a unit knows of the other and of the witness -/

/-- The loss time of the peer and of the witness has not passed since an instant (RDN_STATUS.PEER_SEEN, WITNESS_SEEN). -/
def State.seenSince (s : State) (x : Option Nat) : Bool := match x with | some t => decide (s.now < t + s.lossNs) | none => false
def State.peerSeen (s : State) : Bool := s.seenSince s.rdn.peerAt
def State.witSeen (s : State) : Bool := s.seenSince s.rdn.witAt

/-- Contact with either party ends isolation (R415). -/
def State.contact (s : State) : State := { s with rdn := { s.rdn with contactAt := s.now, isolated := false } }

/-! ### Requests to the witness (R434) -/

/-- Send or repeat a REQUEST. -/
def State.sendRequest (s : State) (q : RdnReq) : State :=
  let t := s.sendWit s.cfg.rdn.witnessSlot s.cfg.rdn.witnessAddr s.cfg.rdn.pairId 2
    (be 4 q.nonce ++ be 1 q.reason ++ be 1 s.unit ++ [0, 0] ++ be 4 s.rdn.lastActive ++ be 4 s.rdn.highest)
  { t with rdn := { t.rdn with req := some { q with last := t.now } } }

/-- A new REQUEST under a random nonce. -/
def State.request (s : State) (reason trigger : Nat) : State :=
  let r := s.random16
  r.2.sendRequest { nonce := fieldBe r.1 0 4, reason := reason, first := s.now, last := s.now, trigger := trigger }

/-! ### Seeding (R416, R418) -/

/-- Ask the active unit for a seed. -/
def State.askSeed (s : State) : State :=
  let t := s.sendPeer 4 []
  ({ t with rdn := { t.rdn with seedAt := t.now, seed := none, req := none } } : State).setF Reg.RDN_STATUS F.RDN_STATUS_SEEDING_ACT 1

/-- The transfer of a seed starts afresh (R418). -/
def State.restartSeed (s : State) : State :=
  let t : State := { s with rdn := { s.rdn with listenAt := s.now, seed := none, rx := [], applied := none, req := none } }
  (t.setF Reg.RDN_STATUS F.RDN_STATUS_SEEDING_ACT 0).setF Reg.RDN_SEED F.RDN_SEED_PCT 0

/-- The unit has caught up: it becomes STANDBY (R418). -/
def State.becomeStandby (s : State) (base : Nat) : State :=
  let t := (s.setF Reg.RDN_STATUS F.RDN_STATUS_SEEDING_ACT 0).setF Reg.RDN_SEED F.RDN_SEED_PCT 100
  let t : State := { t with rdn := { t.rdn with seeded := true, seed := none } }
  let t := (t.enterRole .standby).inService
  let t := t.event 0x1407 0 noInst (le 4 base ++ le 4 ((t.now - t.rdn.seedAt) / 1000000))
  t.finishAll (fun w => w.kind == .rdnOther) St.ok 0 0

/-! ### Deltas (R419, R420) -/

/-- Acknowledge a delta. -/
def State.ackDelta (s : State) (seq status : Nat) : State := (s.sendPeer 3 (be 4 seq ++ be 1 status ++ [0, 0, 0])).wrN Reg.RDN_DELTAACK seq

/-- A delta that cannot be applied: it is reported, and the unit seeds again (R420). -/
def State.cannotApply (s : State) (seq : Nat) : State := (s.sendPeer 3 (be 4 seq ++ be 1 1 ++ [0, 0, 0])).enterSeeding

/-- A part joins the parts received. -/
def addPart (rx : List RdnParts) (seq batch part last : Nat) (b : List Byte) : List RdnParts :=
  match rx.find? (·.seq == seq) with
  | some x => rx.map fun y => if y.seq == seq then { y with parts := mapPut y.parts part b } else y
  | none => rx ++ [{ seq := seq, batch := batch, last := last, parts := [(part, b)] }]

/-- All parts have arrived. -/
def RdnParts.complete (x : RdnParts) : Bool := (List.range (x.last + 1)).all fun i => (mapFind x.parts i).isSome
def RdnParts.bytes (x : RdnParts) : List Byte := x.parts.flatMap (·.2)

/-- The next delta is applied whole and acknowledged; a handover's last delta has come (R426). -/
def State.applyDelta (s : State) (x : RdnParts) : State :=
  let s : State := { s with rdn := { s.rdn with rx := s.rdn.rx.filter (·.seq != x.seq) } }
  match (parsePeer x.bytes).bind fun d => s.applyPeer d false with
  | none => s.cannotApply x.seq
  | some t =>
    let t : State := { t with rdn := { t.rdn with applied := some x.seq, appliedAt := t.now }, sup := { t.sup with committed := true } }
    let t := t.ackDelta x.seq 0
    let t := if t.mtrState = 0 then t.mtrReopen 1 else t
    match t.rdn.hand with
    | some h =>
      if !h.old && h.passed && !h.delta then
        ({ t with rdn := { t.rdn with hand := some { h with delta := true } } } : State).event 0x1403 0 noInst (le 8 h.stamp ++ le 4 (h.epoch.getD 0) ++ le 1 0)
      else t
    | none => t

/-- The complete deltas that follow the last one applied, in order; `fuel` bounds their number. -/
def State.drainDeltas (s : State) : Nat → State
  | 0 => s
  | k + 1 =>
    let next := s.rdn.rx.find? fun x => x.complete && (match s.rdn.applied with | some a => x.seq == addMod32 a 1 | none => true)
    match next with
    | some x => (s.applyDelta x).drainDeltas k
    | none => s

/-- The delta that must come next is not complete while a later one arrives: it is lost (R420). -/
def State.deltaGap (s : State) (seq : Nat) : Bool := match s.rdn.applied with | some a => decide (1 < seqDiff seq a) | none => false

/-- The module takes deltas: a standby, and the new active for the old one's last (R426). -/
def State.takesDeltas (s : State) : Bool :=
  s.role == .standby || (s.role == .active && (match s.rdn.hand with | some h => !h.old && h.passed && !h.delta | none => false))

/-- The old active finds that it holds a commit that the new one lacks: it seeds again, the handover stands (R426). -/
def State.reseedOld (s : State) : State :=
  let t := ({ s with rdn := { s.rdn with hand := none } } : State).enterSeeding
  { t with rdn := { t.rdn with hand := s.rdn.hand } }

/-- A DELTA frame (R419, R426). -/
def State.deltaFrame (s : State) (b : List Byte) : State :=
  let seq := fieldBe b 0 4
  let t : State := { s with rdn := { s.rdn with rx := addPart s.rdn.rx seq (fieldBe b 4 4) (fieldBe b 8 2) (fieldBe b 10 2) (b.drop 12) } }
  if s.role == .seeding then t
  else if !s.takesDeltas then s
  else if (match s.rdn.hand with | some h => h.old && h.passed && !s.rdn.unacked.isEmpty | none => false) then s.reseedOld
  else match s.rdn.applied with
    | some a =>
      if seqDiff seq a ≤ 0 then s.ackDelta seq 0
      else
        let u := t.drainDeltas (t.rdn.rx.length + 1)
        if u.takesDeltas && u.deltaGap seq then u.cannotApply seq else u
    | none => t.drainDeltas (t.rdn.rx.length + 1)

/-- DELTA (R419). -/
def execDelta (f : EthFrame) (s : State) : Answer :=
  .next (match s.peerFrom 2 f with
    | (t, none) => t
    | (t, some m) => if m.body.length < 12 then t else t.deltaFrame m.body)

/-- DELTA_ACK (R420). -/
def execDeltaAck (f : EthFrame) (s : State) : Answer :=
  .next (match s.peerFrom 3 f with
    | (t, none) => t
    | (t, some m) =>
      if m.body.length ≠ 8 || !t.rdn.mirror then t
      else
        let seq := fieldBe m.body 0 4
        if fieldBe m.body 4 1 = 0 then
          (({ t with rdn := { t.rdn with unacked := t.rdn.unacked.filter fun x => decide (0 < seqDiff x seq) } } : State).wrN Reg.RDN_DELTAACK seq).showUnacked
        else t.mirrorLag.showUnacked)

/-- SEED_REQ (R418): the active unit sends its image, taken at once. -/
def execSeedReq (f : EthFrame) (s : State) : Answer :=
  .next (match s.peerFrom 4 f with
    | (t, none) => t
    | (t, some m) =>
      if !(t.role == .active) then t
      else
        let parts := packParts t.partRoom t.seedRecords []
        let base := t.batch
        let u := (List.range parts.length).foldl (fun (u : State) i =>
          u.sendPeer 5 (be 4 base ++ be 4 i ++ be 4 (parts.length - 1) ++ parts.getD i [])) t
        ({ u with rdn := { u.rdn with mirror := true, unacked := [] } } : State).showUnacked)

/-- The whole seed has arrived: it is applied, then the deltas that followed it (R418), by the sequence that its lamp record names or by their batch. -/
def State.applySeed (s : State) (x : RdnParts) : State :=
  match parsePeer x.bytes with
  | none => s.restartSeed
  | some d =>
    match s.applyPeer d true with
    | none => s.restartSeed
    | some t =>
      let sent := match d.lamp with | b :: _ => some (fieldBe b 4 4) | [] => none
      let rx := t.rdn.rx.filter fun y => match sent with | some q => decide (0 < seqDiff y.seq q) | none => decide (0 < seqDiff y.batch x.batch)
      let u : State := { t with rdn := { t.rdn with rx := rx, applied := sent } }
      let u := u.drainDeltas (rx.length + 1)
      if u.role == .seeding && u.flag Reg.RDN_STATUS F.RDN_STATUS_SEEDING_ACT then u.becomeStandby x.batch else u

/-- SEED (R418). -/
def execSeed (f : EthFrame) (s : State) : Answer :=
  .next (match s.peerFrom 5 f with
    | (t, none) => t
    | (t, some m) =>
      if !(t.role == .seeding) || !t.flag Reg.RDN_STATUS F.RDN_STATUS_SEEDING_ACT || m.body.length < 12 then t
      else
        let base := fieldBe m.body 0 4
        let last := fieldBe m.body 8 4
        let old := match t.rdn.seed with | some x => if x.batch = base && x.last = last then x.parts else [] | none => []
        let x : RdnParts := { seq := 0, batch := base, last := last, parts := mapPut old (fieldBe m.body 4 4) (m.body.drop 12) }
        let u := ({ t with rdn := { t.rdn with seed := some x } } : State).setF Reg.RDN_SEED F.RDN_SEED_PCT (min 100 (x.parts.length * 100 / (last + 1)))
        if x.complete then u.applySeed x else u)

/-! ### Beacons (R414, R416, R420) -/

/-- What a peer BEACON says is recorded. -/
def State.noteBeacon (s : State) (claim role flags : Nat) : State :=
  let since := if role = 1 then (if s.rdn.peerRole = 1 && s.rdn.peerSince.isSome then s.rdn.peerSince else some s.now) else none
  let t : State := { s with rdn := { s.rdn with peerAt := some s.now, peerRole := role, peerFlags := flags, peerSince := since } }
  ((t.wrN Reg.RDN_PEERCLAIM claim).sawEpoch (claim / 2)).contact

/-- PEER_BEACON (R414, R416, R418, R420). A seeding whose active unit changes starts afresh. -/
def execPeerBeacon (f : EthFrame) (s : State) : Answer :=
  .next (match s.peerFrom 1 f with
    | (t, none) => t
    | (t, some m) =>
      if m.body.length ≠ 24 then t
      else
        let role := fieldBe m.body 0 1
        let was := t.rdN Reg.RDN_PEERCLAIM
        let t := t.noteBeacon m.claim role (fieldBe m.body 1 1)
        let t := if t.role == .seeding && t.flag Reg.RDN_STATUS F.RDN_STATUS_SEEDING_ACT && (role != 0 || m.claim != was) then t.restartSeed else t
        if role ≠ 0 then t
        else if t.role == .active then (if t.claim < m.claim then t.demote 2 m.claim else t)
        else if t.role == .standby then
          let t : State := { t with lamp := { t.lamp with seq := fieldBe m.body 20 4 } }
          match t.rdn.applied with
          | some a =>
            let d := subMod32 (fieldBe m.body 12 4) a
            if t.fld Reg.RDN_CFG F.RDN_CFG_LAG < d && d < 2 ^ 31 then t.enterSeeding else t
          | none => t
        else if t.role == .seeding && decide (t.rdn.listenAt + ms 100 ≤ t.now) && !t.flag Reg.RDN_STATUS F.RDN_STATUS_SEEDING_ACT then t.askSeed
        else t)

/-! ### The standby's self-test (R429) -/

/-- Tests of the standby, as RDN_HEALTH shows them. -/
def State.healthBits (s : State) : Nat :=
  let trunks := (List.range 64).all fun p => !s.trkOn p || (s.port p).heardAt.any fun t => decide (s.now < t + secs 1)
  let radio := (List.range 4).all fun r => !s.radOn r || decide (s.fld (Reg.RAD_STATUS r) F.RAD_STATUS_BCNMISS < 3)
  let meter := (s.cfg.meter.volts.zipIdx).all fun v => !v.1.enable || s.mtrVq v.2 == Q.good
  let lamp := s.lampRuns && (s.lamp.lateAt ≠ some s.lamp.boundary)
  bit trunks + 2 * bit radio + 4 * bit meter + 8 * bit (s.flag (Reg.ETH_STATUS 0) F.ETH_STATUS_LINK) + 16 * bit lamp
    + 32 * bit (!s.flag Reg.MEM_STATUS F.MEM_STATUS_NO_SPARE)

/-- The self-test is evaluated: each change from passing to failing is recorded (R429). -/
def State.selfTest (s : State) : State :=
  if !(s.role == .standby) then s.setF Reg.RDN_STATUS F.RDN_STATUS_HEALTHY 0
  else
    let h := s.healthBits
    let ok := h == 63
    let t := (s.wrN Reg.RDN_HEALTH h).setF Reg.RDN_STATUS F.RDN_STATUS_HEALTHY (bit ok)
    let u : State := { t with rdn := { t.rdn with healthy := ok } }
    if s.rdn.healthy && !ok then u.event 0x140E 1 noInst (le 4 h) else u

/-- PEER_BEACON_DUE: every BEACON_MS a BEACON to the peer and a HEARTBEAT to the witness (R431, R434). -/
def execPeerBeaconDue (s : State) : Answer :=
  .next (if !s.peerReady || decide (s.now < s.rdn.beaconAt) then s
    else
      let t := s.selfTest
      let h := t.flag Reg.RDN_STATUS F.RDN_STATUS_HEALTHY
      let rot := match t.rdn.hand with | some x => x.old && !x.passed | none => false
      let t := t.sendPeer 1 (be 1 t.role.code ++ be 1 (bit h + 2 * bit t.rdn.confirmed + 4 * bit t.rdn.isolated + 8 * bit rot) ++ be 2 t.heat ++ be 4 (t.rdN Reg.CYC_COUNT)
        ++ be 4 (t.rdN Reg.CYC_CMTBATCH) ++ be 4 (t.rdN Reg.RDN_DELTASENT) ++ be 4 (t.rdN Reg.RDN_DELTAACK) ++ be 4 t.lamp.seq)
      let t := t.sendWit t.cfg.rdn.witnessSlot t.cfg.rdn.witnessAddr t.cfg.rdn.pairId 1
        (be 1 t.role.code ++ be 1 (bit rot + 2 * bit t.rdn.confirmed + 4 * bit t.peerSeen + 8 * bit h + 16 * bit t.rdn.yielding) ++ be 1 t.unit ++ [0] ++ be 4 t.rdn.epoch
          ++ be 4 t.rdn.lastActive ++ be 4 (t.rdN Reg.CYC_COUNT))
      { t with rdn := { t.rdn with beaconAt := t.now + ms (max 1 (t.fld Reg.RDN_CFG F.RDN_CFG_BEACON_MS)) } })

/-- HEALTH_DUE: under protocol 3 the standby tests continuously, with MEM_FETTLE.PERIOD at 1 ms, and reports every 1 s (R429). -/
def execHealthDue (s : State) : Answer :=
  .next (if !s.peerReady || s.rdnProto ≠ 3 || !(s.role == .standby) || decide (s.now < s.rdn.healthAt) then s
    else
      let t := if s.fld Reg.MEM_FETTLE F.MEM_FETTLE_PERIOD = 1 then s else s.writeFettle (F.MEM_FETTLE_PERIOD.set (s.rd Reg.MEM_FETTLE) 1)
      let t := t.selfTest
      let h := t.rdN Reg.RDN_HEALTH
      let t := (t.sendPeer 0xA (be 4 h)).postDia 0x0E01 0 (le 4 h)
      { t with rdn := { t.rdn with healthAt := t.now + secs 1 } })

/-- HEALTH: the active unit shows and reports what its standby's tests say (R429, R441). -/
def execHealth (f : EthFrame) (s : State) : Answer :=
  .next (match s.peerFrom 0xA f with
    | (t, none) => t
    | (t, some m) =>
      if m.body.length ≠ 4 || !(t.role == .active) || t.rdnProto ≠ 3 then t
      else
        let h := fieldBe m.body 0 4
        (t.wrN Reg.RDN_HEALTH h).postDia 0x0E01 0 (le 4 h))

/-! ### Yield and handover frames (R422, R425, R427) -/

/-- A takeover is requested: from STANDBY, with no more than LAG deltas short (R422). -/
def State.requestTakeover (s : State) (trigger : Nat) : State :=
  if s.role == .standby && s.rdn.req.isNone && decide (s.rdn.rx.length ≤ s.fld Reg.RDN_CFG F.RDN_CFG_LAG) then s.request 2 trigger else s

/-- YIELD (R422). -/
def execYield_ (f : EthFrame) (s : State) : Answer :=
  .next (match s.peerFrom 9 f with
    | (t, none) => t
    | (t, some m) => if m.body.length ≠ 4 then t else t.requestTakeover 2)

/-- The tick boundary nearest to a future stamp. -/
def State.boundaryAt (s : State) (stamp : Nat) : Nat :=
  let t := s.now + (stampTime stamp - stampTime s.stamp) * 10 ^ 9 / 2 ^ 20
  match s.lamp.next with
  | some b => let k := ms (max 1 s.lamp.tick); b + (t + k / 2 - b) / k * k
  | none => t

/-- HANDOVER (R425): the standby asks the witness for the epoch. -/
def execHandover (f : EthFrame) (s : State) : Answer :=
  .next (match s.peerFrom 6 f with
    | (t, none) => t
    | (t, some m) =>
      let st := fieldBe m.body 0 8
      if m.body.length ≠ 16 || !(t.role == .standby) || t.rdn.hand.isSome || stampTime st ≤ stampTime t.stamp then t
      else ({ t with rdn := { t.rdn with hand := some { old := false, t := t.boundaryAt st, stamp := st } } } : State).request 3 0)

/-- READY (R426): it counts if it arrives by T − 1 ms. -/
def execReady (f : EthFrame) (s : State) : Answer :=
  .next (match s.peerFrom 7 f with
    | (t, none) => t
    | (t, some m) =>
      match t.rdn.hand with
      | some h =>
        if m.body.length = 4 && h.old && !h.passed && decide (t.now + 1000000 ≤ h.t) then
          { t with rdn := { t.rdn with hand := some { h with epoch := some (fieldBe m.body 0 4) } } }
        else t
      | none => t)

/-- CONFIRM (R425, R427): the handover is complete, unless a REVERT has been granted already. -/
def execConfirm (f : EthFrame) (s : State) : Answer :=
  .next (match s.peerFrom 8 f with
    | (t, none) => t
    | (t, some m) =>
      match t.rdn.hand with
      | some h =>
        if m.body.length = 8 && h.old && h.passed && !(t.rdn.req.any (·.granted.isSome)) then
          let t := (t.bump Reg.RDN_CNT_HANDOVER).event 0x1403 0 noInst (le 8 h.stamp ++ le 4 (h.epoch.getD 0) ++ le 1 (bit (!t.rdn.unacked.isEmpty)))
          ({ t with rdn := { t.rdn with hand := none, req := none } } : State).finishAll (fun w => w.kind == .rdnRotate) St.ok 0 0
        else t
      | none => t)

end Sys2Proof.Machine
end

