-- ==== Sys2Proof/Machine/Reset.lean ====
section
/-!
DEFINITION. Module reset (R7, R49, R72, R481) and the power-fail flush (R69 to R72, R402), once for every step that takes them.
-/
set_option linter.unusedVariables false
namespace Sys2Proof.Machine

/-! ### Module reset -/

/-- A register as module reset leaves it: fields from flash and fields of the backup domain stay, the others take their reset values (R481). -/
def regAfterReset (i : Ident) (a : Nat) (v : Word) : Word :=
  match regRow? a with
  | some r => (v &&& BitVec.ofNat 32 r.keep) ||| (regDefault i a &&& ~~~ (BitVec.ofNat 32 r.keep))
  | none => regDefault i a

/-- The registers after module reset. -/
def State.resetRegs (s : State) : List (Nat × Word) :=
  s.regs.foldl (fun m e => mapSet (regDefault s.ident) m e.1 (regAfterReset s.ident e.1 e.2)) []

/-- The key store after module reset: slots, roots and an intent stand in flash (R442, R453). -/
def KeyStore.afterReset (k : KeyStore) : KeyStore :=
  { slots := k.slots.map fun e => (e.1, { attr := e.2.attr, data := e.2.data }), roots := k.roots, intent := k.intent }

/-- Module reset holds: only flash, backup domain, pins and the outside world keep what they hold (R7, R49). -/
def State.moduleReset (s : State) : State :=
  { State.reset with
    pending := s.pending, ident := s.ident, regs := s.resetRegs, rdData := s.rdData, hostMem := s.hostMem, outs := s.outs, cal := s.cal
    flash := s.flash, keys := s.keys.afterReset, free := s.free
    sup := { powerGood := s.sup.powerGood, perst := s.sup.perst, unitSel := s.sup.unitSel, maintPin := s.sup.maintPin, emergPin := s.sup.emergPin
             riserHeld := s.sup.riserHeld } }

/-- The generation with which a radio channel goes on: its own where the reset has found it ahead of the trunks in a change, else theirs (R285, R318). -/
def State.resumeGen (s : State) (r : Nat) : Nat :=
  let g := mapGet (fun _ => 0) s.flash.radGens r
  if g = (s.keyGen + 1) % 256 then g else s.keyGen

/-- Counters of ports go on from the next unused block (R284, R433). -/
def State.resumeCounters (s : State) : State :=
  let t := (List.range 64).foldl (fun (t : State) p => t.wrN (Reg.TRK_CZNTXCTR p) (t.resumeCounter p)) s
  let t := (List.range t.ident.radios).foldl (fun (t : State) r => (t.wrN (Reg.RAD_CZNTXCTR r) (t.resumeCounter (64 + r))).setRadGen r (t.resumeGen r) (t.radChan r)) t
  { t with rdn := { t.rdn with txPeer := t.resumeCounter 0xFE, txWit := t.resumeCounter 0xFD, epoch := t.flash.epoch, highest := t.flash.epoch
                               lastActive := t.flash.epoch } }

/-- Sequence numbers go on: after the last record of a completed flush without a hold mark, else from the next unreserved block (R400). The first record is
EVR_RESTART, and ring 4 goes on from it (R406). -/
def State.restartEvents (s : State) : State :=
  let f := s.flash.events
  let q := f.cont.getD f.reserved
  (({ s with evr := { s.evr with next := q, first := q } } : State).wrN Reg.EVR_STREAM q).event 0x1301 0 noInst (le 4 f.newest ++ le 4 q ++ le 1 (bit f.cont.isSome))

/-- The pins as GLB_STATUS shows them: UNIT_SEL is latched (R30, R31). -/
def State.latchPins (s : State) : State :=
  let t := s.setF Reg.GLB_STATUS F.GLB_STATUS_UNIT (bit s.sup.unitSel)
  (t.setF Reg.GLB_STATUS F.GLB_STATUS_MAINT (bit s.sup.maintPin)).setF Reg.GLB_STATUS F.GLB_STATUS_EMERG (bit s.sup.emergPin)

/-- Module reset ends: the boot ROM runs at stage 0x1 and the riser's charger starts (R54). -/
def State.endReset (s : State) : State :=
  let t : State := { s with sup := { s.sup with inReset := false, charger := true } }
  t.latchPins.resumeCounters.restartEvents

/-- The module restarts as after module reset. -/
def State.restart (s : State) : State :=
  let t := s.moduleReset
  if t.sup.powerGood && !t.sup.perst then t.endReset else t

/-! ### The flush -/

/-- The cycle in progress commits nothing and is a supply skip (R69, R213). -/
def State.cutSupply (s : State) : State :=
  if !s.inCycle then s
  else
    let charging := s.charging
    let t := s.cutLadles.endPlanned.bump Reg.CYC_CNT_SUPPLY
    let t : State := { t with cyc := { t.cyc with phase := .skipping } }
    if charging then t.afterCharge else t

/-- Service stops: open transactions abort, the cycle in progress is cut, fettling stops (R69, R134). -/
def State.stopService (s : State) : State := ((s.abortAll 2).cutSupply).stopFettle

/-- The slot that a flush writes: not the newest complete one (R70, R74). -/
def State.flushSlot (s : State) : Nat :=
  match (mapGet (fun _ => ({} : FlushSlot)) s.flash.slots 0), (mapGet (fun _ => ({} : FlushSlot)) s.flash.slots 1) with
  | a, b => if !a.complete then 0 else if !b.complete then 1 else if a.age ≤ b.age then 0 else 1

/-- The newest complete slot (R71). -/
def Flash.newestSlot (f : Flash) : Option (Nat × FlushSlot) :=
  let a := mapGet (fun _ => ({} : FlushSlot)) f.slots 0
  let b := mapGet (fun _ => ({} : FlushSlot)) f.slots 1
  if a.complete && (!b.complete || decide (b.age ≤ a.age)) then some (0, a) else if b.complete then some (1, b) else none

/-- The retained points as the slot holds them: of a forced point, what the removal of the force leaves (R167, R168). -/
def State.retained (s : State) : List (Nat × PtRec) :=
  let t := (s.forces.map fun e => PtOp.unforce e.1).foldl State.ptOp s
  (s.cfg.retain.map fun a => (a, t.pt a))

/-- The slot of a flush in progress: without its trailer it does not count (R71). -/
def State.openSlot (s : State) : State :=
  let age := match s.flash.newestSlot with | some x => x.2.age + 1 | none => 1
  let slot : FlushSlot := { complete := false, age := age, layout := s.cfg.layout, points := s.retained, meter := s.mtrSnap }
  { s with flash := { s.flash with slots := mapSet (fun _ => {}) s.flash.slots s.flushSlot slot } }

/-- The trailer is written: the slot counts. -/
def State.closeSlot (s : State) : State :=
  let k := s.flushSlot
  let x := mapGet (fun _ => ({} : FlushSlot)) s.flash.slots k
  { s with flash := { s.flash with slots := mapSet (fun _ => {}) s.flash.slots k { x with complete := true } } }

/-- The flush begins (R69, R70, R237, R386, R402): stage 0x8, outputs off, LUM_RUN written, intervals cut, records held from here on. -/
def State.beginFlush (s : State) (for_ : FlushFor) : State :=
  let t := if s.leads && s.sup.roleSettled && !s.defaulted then s.writeLumRuns true else s
  let t := t.mtrCut
  let t := (t.setF Reg.GLB_BOOTSTAGE F.GLB_BOOTSTAGE_STAGE 8).setF Reg.GLB_STATUS F.GLB_STATUS_FLUSHING 1
  let full := t.sup.committed && !t.defaulted
  let t : State := { t with
    sup := { t.sup with flush := .running, flushFor := for_, flushFull := full }
    evr := { t.evr with holding := true } }
  (if full then t.openSlot else t).showRadStates

/-- The flush of PERST_N and of a hot die begins at once: outputs go to their reset state, metering closes, service stops (R47, R72). -/
def State.flushNow (s : State) (for_ : FlushFor) : State :=
  let t := s.mtrShut.stopService
  let t := ({ t with sup := { t.sup with stageWas := t.stage } } : State).beginFlush for_
  { t with lamp := { t.lamp with next := none, evaluating := false, pours := [] } }

/-- Records held during the flush are numbered in the order in which they were offered (R402). -/
def State.numberHeld (s : State) : State :=
  let held := s.evr.offered
  held.foldl State.offer { s with evr := { s.evr with offered := [], holding := false } }

/-- The flush is complete (R69, R400, R402). -/
def State.endFlush (s : State) : State :=
  let t := s.writeEvents.finishAll Wait.evSync St.ok 0 0
  let t := if t.sup.flushFull then t.closeSlot else t
  let t : State := { t with
    flash := { t.flash with unflushed := none, events := { t.flash.events with cont := some t.evr.next } }
    sup := { t.sup with flush := .done } }
  let t := (t.setF Reg.GLB_STATUS F.GLB_STATUS_FLUSHING 0).setF Reg.GLB_STATUS F.GLB_STATUS_FLUSH_DONE 1
  if t.sup.flushFor == .perst then t else t.numberHeld

/-- Rings that the pause of R69 or R469 stops or lets go on: a flag of their writebacks changes (R88, R89). -/
def State.flagRings (s : State) : State :=
  if s.busOn then (List.range 16).foldl (fun (t : State) n => if t.ringOn n then t.writeback n else t) s else s

/-- What a dark module drives no more comes back: rings, lamp engine and radio channels go on (R73). -/
def State.resumeOutputs (s : State) : State :=
  let t := s.flagRings
  let t := if (t.leads || t.role == .standby) && t.sup.roleSettled && !t.defaulted then t.lampStart else t
  t.showRadStates

end Sys2Proof.Machine
end

