-- ==== Sys2Proof/Machine/PatRun.lean ====
section
/-!
DEFINITION. Pattern activate, trial, confirm and the recovery from HALT (R468 to R473).
-/
set_option linter.unusedVariables false
namespace Sys2Proof.Machine

/-! ### When an activate is refused (R470) -/

/-- The earliest start of a pause: the next tick boundary, in monotonic ns (R469). -/
def State.pauseStart (s : State) : Nat := match s.lamp.next with | some b => if s.lampRuns then max b s.now else s.now | none => s.now

/-- The next interval close, in ns from now (R382). -/
def State.nextClose (s : State) : Option Int :=
  if s.mtrState ≠ 1 then none
  else if s.meter.unaligned then some ((s.meter.nextEnd : Int) - s.now)
  else some ((((s.meter.nextEnd : Int) + s.utcOff) * secUnits - s.wall) / (2 ^ 32 : Nat))

/-- The last interval close under this heat, in ns from now. -/
def State.lastClose (s : State) : Option Int :=
  let r := match s.meter.closed.getLast? with | some r => some r | none => s.flash.archive.getLast?
  r.bind fun r => if stampHeat r.closeStamp = s.heat then
    some (((stampTime r.closeStamp : Int) - stampTime s.stamp) * 1000000000 / (2 ^ 20 : Nat)) else none

/-- Milliseconds until no metering interval close is within 2 s of a pause that starts `start` ns from now; none where none is. -/
def State.meterClose (s : State) (start : Int) : Option Nat :=
  let near (c : Int) : Bool := decide (start < c + 2000000000 ∧ c < start + 2000000000)
  match (s.lastClose.toList ++ s.nextClose.toList).filter near with
  | [] => none
  | cs => some (cs.foldl (fun m c => max m (((c + 2000000000 + 999999) / 1000000).toNat)) 0)

/-- The first condition of R470 that refuses an activate: its status and result1. -/
def State.activateBlock (s : State) (pauseOk : Bool) : Option (Nat × Nat) :=
  let vmin := s.fld Reg.PAT_CFG F.PAT_CFG_VBAK_MIN
  if s.lamp.emerg then some (St.emergency, 0)
  else if !s.flag Reg.GLB_STATUS F.GLB_STATUS_RISER_OK then some (St.lowEnergy, 1)
  else if vmin ≠ 0 && s.fld Reg.GLB_SUPPLY2 F.GLB_SUPPLY2_VBAK < vmin then some (St.lowEnergy, 2)
  else if s.flag Reg.KEY_LC F.KEY_LC_OWNER_LOCK then some (St.locked, 0)
  else if (s.role == .seeding && !s.defaulted) || s.rdn.req.isSome || s.rdn.hand.isSome || s.flag Reg.RDN_STATUS F.RDN_STATUS_SEEDING_ACT then
    some (St.roleChanging, 0)
  else match s.meterClose ((s.pauseStart : Int) - s.now) with
    | some m => some (St.meterClose, m)
    | none =>
      if s.role == .active && !pauseOk then some (St.activeInPair, 0)
      else if (List.range 4).any (fun k => (s.txn k).phase != .free) || s.pfw then some (St.busy, 0)
      else none

/-- PAT_ACTIVATE (R466, R468): checked when it is taken; it waits for the pause. -/
def execPatActivate (e : CmdEntry) (s : State) : Answer :=
  runCmd Op.patActivate (.patActivate e) e (fun _ s =>
    if s.patState (otherSlot s.runSlot) ≠ 3 then .stat St.notVerified s
    else match s.activateBlock (bitOf (e.param 0 1) 0) with
      | some (st, r1) => .done st 0 r1 0 [] s
      | none => .wait (.patActivate (bitOf (e.param 0 1) 0) (bitOf (e.param 0 1) 1)) s) s

/-! ### The pause (R469) -/

/-- A PAT_ACTIVATE that waits: its flags. -/
def Wait.activates (w : Wait) : Option (Bool × Bool) := match w.kind with | .patActivate p r => some (p, r) | _ => none

/-- Slot `k` runs as a trial and is the boot slot; the previous one becomes VERIFIED (R468). -/
def State.runPattern (s : State) (k : Nat) : State :=
  let t := ((s.setPatState (otherSlot k) 3).setPatState k 5).setF Reg.PAT_STATUS F.PAT_STATUS_BOOT k
  (t.setF Reg.GLB_STATUS F.GLB_STATUS_PAT_SLOT k).wrN Reg.GLB_PATVER (t.pat k).version

/-- A pause begins with slot `k`: rings pause, no roll-call cycle goes on (R469). -/
def State.startPause (s : State) (k : Nat) (back : Bool) : State :=
  let t := (s.runPattern k).setF Reg.PAT_STATUS F.PAT_STATUS_PAUSING 1
  let t := (List.range 64).foldl (fun (t : State) p => t.setPort p { t.port p with rollCall := false, heard := 0 }) t
  let t : State := { t with sup := { t.sup with pauseAt := t.now, pauseBack := back, refused := false, pauseWas := s.patState s.runSlot } }
  t.flagRings

/-- ACTIVATE_PAUSE_START (R469, R470): at the tick boundary the image is verified and the conditions are checked again, and the pause begins. -/
def execActivatePauseStart (s : State) : Answer :=
  match s.waits.find? (fun w => w.activates.isSome) with
  | none => .next s
  | some w =>
    if s.pausing || s.outage || decide (s.now < s.pauseStart) then .next s
    else
      let f := w.activates.getD (false, false)
      if s.patState (otherSlot s.runSlot) ≠ 3 || !s.slotVerifies (otherSlot s.runSlot) then .next (s.finish w St.notVerified 0 0)
      else match s.activateBlock f.1 with
      | some (st, r1) => .next (s.finish w st 0 r1)
      | none =>
        let k := otherSlot s.runSlot
        let t := s.startPause k false
        .next (if f.2 then t.event 0x1504 2 noInst (le 1 k ++ [3]) else t)

/-- The running configuration passes the checks of R64 under the pattern of slot `k`. -/
def State.patternTakes (s : State) (k : Nat) : Bool :=
  s.defaulted ||
    ((match readImage s.ident s.fettleUs s.runningImage with | .ok _ => true | .error _ => false)
      && Config.patternAccepts (s.pat k).bytes s.runningImage)

/-- PAT_ACTIVATE completes: OK with the pause, or CONFIG_REJECTED where the previous pattern came back. -/
def State.finishActivate (s : State) : State :=
  match s.waits.find? (fun w => w.activates.isSome) with
  | none => s
  | some w => if s.sup.pauseBack then s.finish w St.configRejected 0 0 else s.finish w St.ok s.sup.pauseMs 0

/-- The refused pattern gives way to the previous slot in a second pause; both slots end in the states they held before the command (R102, R469). -/
def State.pauseAgain (s : State) : State :=
  let k := otherSlot s.runSlot
  ((s.startPause k true).setPatState k s.sup.pauseWas).event 0x1504 2 noInst (le 1 k ++ [2])

/-- What a new pattern does to the role: a STANDBY unit seeds, a witness restarts (R470). -/
def State.pauseRole (s : State) : State :=
  if s.role == .standby then s.enterSeeding
  else if s.role == .witness then { s with rdn := { s.rdn with holdUntil := s.now + 2 * s.lossNs } }
  else s

/-- ACTIVATE_PAUSE_END (R469, R471): the new pattern takes the configuration and service goes on, or the previous slot is activated; a warning during the
pause starts the flush now. -/
def execActivatePauseEnd (s : State) : Answer :=
  if !s.pausing then .next s
  else
    let k := s.runSlot
    let ok := s.sup.pauseBack || s.patternTakes k
    let len := min 65535 ((s.now - s.sup.pauseAt) / 1000000)
    let t := (s.setF Reg.PAT_STATUS F.PAT_STATUS_PAUSING 0).setF Reg.PAT_LASTPAUSE F.PAT_LASTPAUSE_MS len
    let t : State := { t with sup := { t.sup with pauseMs := len, refused := !ok, trialAt := t.now } }
    let t := if ok then (t.event 0x1502 3 noInst (le 1 k ++ le 4 (t.pat k).version ++ le 2 len)).pauseRole else t
    .next (if t.sup.flush == .warned || t.sup.flush == .waiting then t.beginFlush .supply
      else if t.outage then t
      else if !ok then t.pauseAgain
      else t.resumeOutputs.finishActivate)

/-! ### Trial and confirmation (R468) -/

/-- The slot that is TRIAL is confirmed: RUNNING, and the floor rises (R463, R468). -/
def State.confirmPattern (s : State) : State :=
  let k := s.runSlot
  let floor := max (s.rdN Reg.PAT_FLOOR) (s.pat k).security
  ((s.setPatState k 4).wrN Reg.PAT_FLOOR floor).event 0x1503 3 noInst (le 1 k ++ le 4 floor)

/-- PAT_CONFIRM. -/
def execPatConfirm (e : CmdEntry) (s : State) : Answer :=
  runCmd Op.patConfirm (.patConfirm e) e (fun _ s =>
    if s.patState s.runSlot = 5 then .stat St.ok s.confirmPattern else .stat St.noTrial s) s

/-- TRIAL_TIMEOUT: TRIAL_S seconds of running have passed while AUTOCONFIRM is 1 (R468). -/
def execTrialTimeout (s : State) : Answer :=
  .next (if s.patState s.runSlot = 5 && s.flag Reg.PAT_CFG F.PAT_CFG_AUTOCONFIRM && !s.pausing && !s.outage
      && decide (s.sup.trialAt + secs (max 1 (s.fld Reg.PAT_CFG F.PAT_CFG_TRIAL_S)) ≤ s.now)
    then s.confirmPattern else s)

/-! ### Recovery from HALT (R473) -/

/-- PAT_HALTGO: a write of the register. -/
def execPatHaltgo (value : Word) (s : State) : Answer := .next (s.hostReg Reg.PAT_HALTGO value)

/-- HALT_RECOVERY_DONE: the boot ROM has read the image (none where a read failed), checks it and writes it to slot A; the module restarts. -/
def execHaltRecoveryDone (image : Option (List Byte)) (s : State) : Answer :=
  if s.stage ≠ 0xF || s.fld Reg.PAT_HALTGO F.PAT_HALTGO_RESULT ≠ 1 then .next s
  else
    let fail := s.setF Reg.PAT_HALTGO F.PAT_HALTGO_RESULT 2
    match image with
    | none => .next fail
    | some b =>
      if b.length ≠ s.rdN Reg.PAT_HALTLEN || (s.patCheck b).isSome then .next fail
      else
        let t := (s.setPat 0 { image := b, version := fieldLe b 12 4, security := fieldLe b 16 4 }).setPatState 0 3
        let t := t.wrN Reg.PAT_VERA (fieldLe b 12 4)
        .next (t.restart.event 0x1501 0 noInst (le 1 0 ++ le 4 (fieldLe b 12 4) ++ le 4 (fieldLe b 16 4)))

end Sys2Proof.Machine
end

