-- ==== Sys2Proof/Machine/RdnCmd.lean ====
section
/-!
DEFINITION. What a unit does with the witness's answers, takeover, handover and rotation, isolation, and the redundancy commands (R414 to R428, R439).
-/
set_option linter.unusedVariables false
namespace Sys2Proof.Machine

/-! ### Messages from the witness (R433, R434) -/

/-- A witness message of a type for this unit: its body, and the state that has taken its counter. -/
def State.fromWitness (s : State) (typ : Nat) (f : EthFrame) : State × Option (List Byte) :=
  match s.ethIn 1 s.rdnEtype f with
  | (t, none) => (t, none)
  | (t, some b) =>
    if !t.peerReady then (t, none)
    else match parseWit b with
      | none => (t, none)
      | some m =>
        if m.typ ≠ typ || m.pairId ≠ t.cfg.rdn.pairId || m.uid ≠ t.cfg.rdn.witnessUid || !t.witTagOk t.cfg.rdn.witnessSlot b || m.counter ≤ t.rdn.witHi then (t, none)
        else ({ t with rdn := { t.rdn with witHi := m.counter } }, some m.body)

/-- The outstanding request that an answer's nonce names. -/
def State.answered (s : State) (b : List Byte) : Option RdnReq :=
  match s.rdn.req with
  | some q => if q.nonce = fieldBe b 0 4 then some q else none
  | none => none

/-! ### Takeover (R423) -/

/-- The new active sends every SERVING node an OUTPUT with all of its outputs (R423). -/
def State.refreshOutputs (s : State) : State :=
  (s.cfg.czn.nodes.map (·.n)).foldl (fun (t : State) n => if (t.cznNode n).state = 3 then t.sendOutputs n (t.nodeOutputs n) else t) s

/-- The standby takes over under a granted epoch (R423). -/
def State.takeover (s : State) (q : RdnReq) (epoch : Nat) : State :=
  let last := s.rdn.applied.getD 0
  let t := ((s.enterActive epoch).setF Reg.RDN_STATUS F.RDN_STATUS_SELF_GRANTED 0).bump Reg.RDN_CNT_TAKEOVER
  let t : State := { t with rdn := { t.rdn with hand := none, mirror := false, unacked := [] } }
  t.refreshOutputs.event 0x1402 1 noInst (le 1 q.trigger ++ le 4 epoch ++ le 4 last)

/-- GRANT (R416, R423, R425, R427). -/
def execGrant (f : EthFrame) (s : State) : Answer :=
  .next (match s.fromWitness 3 f with
    | (t, none) => t
    | (t, some b) =>
      let e := fieldBe b 4 4
      let t := t.sawEpoch e
      match t.answered b with
      | none => t
      | some q =>
        let t : State := { t with rdn := { t.rdn with req := none } }
        if q.reason = 1 then
          (if t.role == .seeding then (t.enterActive e).setF Reg.RDN_STATUS F.RDN_STATUS_SELF_GRANTED 0 else t)
        else if q.reason = 2 then (if t.role == .standby then t.takeover q e else t)
        else if q.reason = 3 then
          match t.rdn.hand with
          | some h => if h.old then t else ({ t with rdn := { t.rdn with hand := some { h with epoch := some e } } } : State).sendPeer 7 (be 4 e)
          | none => t
        else if t.role == .standby then t.planRevert q e
        else t)

/-- DENY (R416, R423, R425, R427): a denied takeover stays STANDBY and is asked for again; another request ends, or waits for the peer. -/
def execDeny (f : EthFrame) (s : State) : Answer :=
  .next (match s.fromWitness 4 f with
    | (t, none) => t
    | (t, some b) =>
      let reason := fieldBe b 4 1
      match t.answered b with
      | none => t
      | some q =>
        if q.reason = 1 then { t with rdn := { t.rdn with req := some { q with denied := true, trigger := reason } } }
        else if q.reason = 2 then
          let u : State := { t with rdn := { t.rdn with req := some { q with denied := true } } }
          u.event 0x1405 1 noInst (le 4 (u.rdN Reg.RDN_PEERCLAIM) ++ le 1 reason)
        else
          let u : State := { t with rdn := { t.rdn with req := none } }
          if q.reason = 3 then { u with rdn := { u.rdn with hand := none } } else u.endRotate St.witnessDenied)

/-- STATUS (R414, R415, R417). -/
def execStatus (f : EthFrame) (s : State) : Answer :=
  .next (match s.fromWitness 5 f with
    | (t, none) => t
    | (t, some b) =>
      let e := fieldBe b 0 4
      let a := fieldBe b 4 1
      let t := ((t.wrN Reg.RDN_WEPOCH e).sawEpoch e).contact
      let t : State := { t with rdn := { t.rdn with witAt := some t.now, witHolding := bitOf (fieldBe b 5 1) 0 } }
      if t.role == .active && a = 1 - t.unit && t.rdn.epoch < e then t.demote 1 (e * 2 + a) else t)

/-- REVOKE (R414). -/
def execRevoke (f : EthFrame) (s : State) : Answer :=
  .next (match s.fromWitness 8 f with
    | (t, none) => t
    | (t, some b) =>
      let e := fieldBe b 0 4
      let t := t.sawEpoch e
      if t.role == .active && t.rdn.epoch < e then t.demote 1 (e * 2 + (1 - t.unit)) else t)

/-! ### Handover (R425 to R427) -/

/-- The first condition of R425 that fails: 1 age, 2 lag, 3 health, 4 witness. -/
def State.rotateBlock (s : State) (age : Bool) : Option Nat :=
  let ready := s.rdn.peerRole = 1 && s.peerSeen && (match s.rdn.peerSince with | some t => !age || decide (t + secs 60 ≤ s.now) | none => false)
  if !ready then some 1
  else if !s.rdn.mirror || !s.rdn.unacked.isEmpty then some 2
  else if !bitOf s.rdn.peerFlags 0 then some 3
  else if !s.witSeen then some 4
  else none

/-- The handover is named to the standby: T is the first tick boundary at least three ticks on (R425). -/
def State.startHandover (s : State) : State :=
  match s.lamp.next with
  | none => s
  | some b =>
    let t := b + 3 * ms s.lamp.tick
    let p := s.rdN Reg.CYC_PERIOD * 1000
    let more := match s.cyc.next with | some c => if p = 0 || t ≤ c then 0 else (t - c + p - 1) / p | none => 0
    let u := s.sendPeer 6 (be 8 (s.stampAt t) ++ be 4 (addMod32 s.lamp.seq 3) ++ be 4 (addMod32 (s.rdN Reg.CYC_COUNT) more))
    { u with rdn := { u.rdn with hand := some { old := true, t := t, stamp := s.stampAt t } } }

/-- Rotation is put off by an hour (R425). -/
def State.postpone (s : State) (cond : Nat) : State :=
  ({ s with rdn := { s.rdn with postponed := s.now + secs 3600 } } : State).event 0x140B 0 noInst (le 1 cond)

/-- Hand over if the conditions hold, or put it off. -/
def State.tryHandover (s : State) (age : Bool) : State :=
  if s.rdn.hand.isSome then s
  else match s.rotateBlock age with
    | some c => s.postpone c
    | none => s.startHandover

/-- Rotation is due (R425): RDN_ROTATE.SECONDS of monotonic time since the last role change, or since a postponement ended. -/
def State.rotateAt (s : State) : Option Nat :=
  let n := s.rdN Reg.RDN_ROTATE
  if n = 0 || s.rdnProto = 3 || !(s.role == .active) || !s.paired then none else some (max (s.rdn.roleAt + secs n) s.rdn.postponed)

/-- ROTATION_DUE (R425). -/
def execRotationDue (s : State) : Answer :=
  .next (match s.rotateAt with | some t => if s.peerReady && decide (t ≤ s.now) then s.tryHandover true else s | none => s)

/-- NOTICE (R428): radio-silence votes. -/
def execNotice (f : EthFrame) (s : State) : Answer :=
  .next (match s.fromWitness 7 f with
    | (t, none) => t
    | (t, some b) =>
      if !(t.role == .active) then t
      else if t.flag Reg.RDN_CFG F.RDN_CFG_RADIO_ROTATE && t.rdnProto ≠ 3 then t.tryHandover false
      else t.event 0x140D 1 noInst (le 1 (fieldBe b 0 1)))

/-- The old active stops at T if READY has arrived; otherwise it continues (R426). -/
def State.handOver (s : State) (h : Handover) : State :=
  if h.epoch.isSome then
    let t := (s.enterRole .standby).inService
    { t with rdn := { t.rdn with hand := some { h with passed := true }, mirror := false, applied := none, rx := [] } }
  else s.endRotate St.handoverFailed

/-- The standby becomes ACTIVE at T under the epoch it holds; it waits for the last DELTA if none has come since the old active's last deadline (R425, R426). -/
def State.takeHandover (s : State) (h : Handover) : State :=
  match h.epoch with
  | none => { s with rdn := { s.rdn with hand := none, req := none } }
  | some e =>
    let had := decide (h.t ≤ s.rdn.appliedAt + s.rdN Reg.CYC_MARGIN * 1000)
    let rx := s.rdn.rx
    let t := (s.enterActive e).setF Reg.RDN_STATUS F.RDN_STATUS_SELF_GRANTED 0
    let t : State := { t with rdn := { t.rdn with hand := some { h with passed := true, delta := had }, rx := rx, mirror := true, unacked := [] } }
    if had then t.event 0x1403 0 noInst (le 8 h.stamp ++ le 4 e ++ le 1 0) else t

/-- HANDOVER_TICK: T has come (R425, R426). -/
def execHandoverTick (s : State) : Answer :=
  .next (match s.rdn.hand with
    | some h =>
      if h.passed || s.now < h.t then s
      else if h.old then (if s.role == .active then s.handOver h else s.endRotate St.handoverFailed)
      else if s.role == .standby then s.takeHandover h
      else { s with rdn := { s.rdn with hand := none } }
    | none => s)

/-- HANDOVER_DELTA_TIMEOUT: at T + 15 ms the new active goes on from the state it holds; the last commit did not happen (R426). -/
def execHandoverDeltaTimeout (s : State) : Answer :=
  .next (match s.rdn.hand with
    | some h =>
      if !h.old && h.passed && !h.delta && decide (h.t + ms 15 ≤ s.now) then
        ({ s with rdn := { s.rdn with hand := some { h with delta := true }, rx := [] } } : State).event 0x1403 0 noInst (le 8 h.stamp ++ le 4 (h.epoch.getD 0) ++ le 1 1)
      else s
    | none => s)

/-- CONFIRM_TIMEOUT: without CONFIRM by T + tick + P + 20 ms the old active asks to revert (R427). -/
def execConfirmTimeout (s : State) : Answer :=
  .next (match s.rdn.hand with
    | some h =>
      if h.old && h.passed && s.rdn.req.isNone && decide (h.t + ms s.lamp.tick + s.rdN Reg.CYC_PERIOD * 1000 + ms 20 ≤ s.now) then
        (if s.role == .standby then s.request 4 0 else s.endRotate St.handoverFailed)
      else s
    | none => s)

/-! ### Timeouts (R415 to R418, R422, R423) -/

/-- The peer's BEACON has been missing for LOSS_MS. -/
def State.peerLost (s : State) : Bool := !s.peerSeen

/-- PEER_LOSS (R418, R422): a standby asks to take over, a seeding starts afresh. -/
def execPeerLoss (s : State) : Answer :=
  .next (if !s.peerReady || !s.peerLost then s
    else if s.role == .standby then (if decide (s.rdn.roleAt + s.lossNs ≤ s.now) && !(s.rdn.hand.isSome && s.rdn.req.isSome) then s.requestTakeover 1 else s)
    else if s.role == .seeding && s.flag Reg.RDN_STATUS F.RDN_STATUS_SEEDING_ACT then s.restartSeed
    else s)

/-- ISOLATED (R415). -/
def execIsolated (s : State) : Answer :=
  .next (if s.peerReady && s.role == .active && !s.rdn.isolated && decide (s.rdn.contactAt + ms (s.fld Reg.RDN_TIMING F.RDN_TIMING_ISOLATE_MS) ≤ s.now) then
      ({ s with rdn := { s.rdn with isolated := true } } : State).event 0x1409 2 noInst []
    else s)

/-- SEEDING_PEER_LISTEN_END: after 100 ms the unit seeds from an ACTIVE peer, or asks the witness (R416). -/
def execSeedingPeerListenEnd (s : State) : Answer :=
  .next (if !s.peerReady || !(s.role == .seeding) || decide (s.now < s.rdn.listenAt + ms 100) || s.flag Reg.RDN_STATUS F.RDN_STATUS_SEEDING_ACT || s.rdn.req.isSome then s
    else if s.peerSeen && s.rdn.peerRole = 0 then s.askSeed
    else s.request 1 0)

/-- WITNESS_NO_ANSWER: 200 ms without an answer to START; a unit with SELF_GRANT grants itself an epoch (R416, R417). -/
def execWitnessNoAnswer (s : State) : Answer :=
  .next (match s.rdn.req with
    | some q =>
      if s.role == .seeding && q.reason = 1 && !q.denied && decide (q.first + ms 200 ≤ s.now) && s.flag Reg.RDN_CFG F.RDN_CFG_SELF_GRANT then
        let e := s.rdn.highest + 1
        ((s.enterActive e).setF Reg.RDN_STATUS F.RDN_STATUS_SELF_GRANTED 1).event 0x1408 1 noInst (le 4 e)
      else s
    | none => s)

/-- REQUEST_REPEAT: START every 1 s, TAKEOVER every 100 ms while its trigger holds; a denied request is asked anew (R416, R423). -/
def execRequestRepeat (s : State) : Answer :=
  .next (match s.rdn.req with
    | some q =>
      if q.reason = 1 then
        if !(s.role == .seeding) || decide (s.now < q.last + secs 1) then s
        else if !q.denied then s.sendRequest q
        else if q.trigger = 1 then s
        else s.request 1 0
      else if q.reason = 2 then
        if decide (s.now < q.last + ms 100) then s
        else if !(s.role == .standby) || (q.trigger = 1 && !s.peerLost) then { s with rdn := { s.rdn with req := none } }
        else if q.denied then s.request 2 q.trigger else s.sendRequest q
      else s
    | none => s)

/-! ### Commands (R439) -/

/-- RDN_ROTATE (R425, R439). -/
def execRdnRotate (e : CmdEntry) (s : State) : Answer :=
  runCmd Op.rdnRotate (.rdnRotate e) e (fun _ s =>
    if !s.paired then .stat St.notPaired s
    else if !(s.role == .active) || s.rdnProto = 3 then .stat St.refused s
    else if s.rdn.hand.isSome || (s.rotateBlock true).isSome || s.lamp.next.isNone then .stat St.peerNotReady s
    else
      let t := s.startHandover
      .wait .rdnRotate { t with rdn := { t.rdn with hand := t.rdn.hand.map fun h => { h with command := true } } }) s

/-- RDN_YIELD (R422, R439). -/
def execRdnYield (e : CmdEntry) (s : State) : Answer :=
  runCmd Op.rdnYield (.rdnYield e) e (fun _ s =>
    if !s.paired then .stat St.notPaired s
    else if !(s.role == .active) then .stat St.refused s
    else if !s.maint then .stat St.unauthorised s
    else .stat St.ok (s.sendYield 4)) s

/-- RDN_RESEED (R439). -/
def execRdnReseed (e : CmdEntry) (s : State) : Answer :=
  runCmd Op.rdnReseed (.rdnReseed e) e (fun _ s =>
    if !s.paired then .stat St.notPaired s
    else if !(s.role == .standby) then .stat St.refused s
    else .wait .rdnOther s.enterSeeding) s

end Sys2Proof.Machine
end

