-- ==== Sys2Proof/Machine/Supply.lean ====
section
/-!
DEFINITION. Pins, supply, die temperature, PACE and the power-fail flush as commands (R30, R31, R44, R47, R59, R60, R68 to R74).
-/
set_option linter.unusedVariables false
namespace Sys2Proof.Machine

/-! ### Power and reset pins -/

/-- A measured VIN as GLB_SUPPLY shows it. -/
def State.showVin (s : State) (vin : Half) : State := s.setF Reg.GLB_SUPPLY F.GLB_SUPPLY_VIN vin.toNat

/-- POWER_GOOD (R68): VIN rises through 10.5 V; module reset ends if PERST_N is released. -/
def execPowerGood (vin : Half) (s : State) : Answer :=
  if s.sup.powerGood || vin.toNat < 10500 then .next s
  else
    let t : State := { s with sup := { s.sup with powerGood := true } }
    .next ((if t.sup.inReset && !t.sup.perst then t.endReset else t).showVin vin)

/-- The riser takes a measured voltage. While the load switch is open it falls no lower than it stood and rises, once its charger runs, no higher than VIN; on the riser
it only discharges (R42). -/
def State.riserSample (s : State) (vin riser : Nat) : State :=
  let held := s.sup.riserHeld
  let v := if s.onRiser then riser else if s.sup.charger then clampNat held (max held vin) riser else held
  ({ s with sup := { s.sup with riserHeld := if s.onRiser then 0 else v } } : State).setF Reg.GLB_SUPPLY F.GLB_SUPPLY_RISER v |>.showRiser

/-- PERST_N_ASSERT (R51, R72): a running module flushes from VIN and then resets; during a flush that stands the reset waits for its end. -/
def execPerstAssert (s : State) : Answer :=
  let t : State := { s with sup := { s.sup with perst := true, relWaits := false } }
  .next (if s.sup.perst && !s.sup.relWaits || t.sup.inReset then t
    else if t.sup.flush == .done then ({ t with sup := { t.sup with powerGood := s.vinPresent } } : State).restart
    else if t.sup.flush == .running then { t with sup := { t.sup with flushFor := .perst } }
    else t.flushNow .perst)

/-- PERST_N_RELEASE (R68, R72): module reset ends if power is good; a release before the flush ends takes effect when it ends. -/
def execPerstRelease (s : State) : Answer :=
  if !s.sup.perst then .next s
  else if s.sup.flush == .running then .next { s with sup := { s.sup with relWaits := true } }
  else
    let t : State := { s with sup := { s.sup with perst := false } }
    .next (if t.sup.inReset && t.sup.powerGood then t.endReset else t)

/-- UNIT_SEL_CHANGE (R31): recorded; the unit stays until the next module reset. -/
def execUnitSelChange (level : Bool) (s : State) : Answer :=
  let t : State := { s with sup := { s.sup with unitSel := level } }
  .next (if s.sup.unitSel == level || s.sup.inReset then t else t.event 0x010A 1 noInst (le 1 (bit level)))

/-- MAINT_N_CHANGE (R30), after its 20 ms. -/
def execMaintNChange (asserted : Bool) (s : State) : Answer :=
  let t : State := { s with sup := { s.sup with maintPin := asserted } }
  .next (if t.sup.inReset then t else t.setF Reg.GLB_STATUS F.GLB_STATUS_MAINT (bit asserted))

/-- EMERG_N_CHANGE (R30, R32), after its 10 ms; the latch takes it (R249). -/
def execEmergNChange (asserted : Bool) (s : State) : Answer :=
  let t : State := { s with sup := { s.sup with emergPin := asserted } }
  .next (if t.sup.inReset then t
    else
      let u := t.setF Reg.GLB_STATUS F.GLB_STATUS_EMERG (bit asserted)
      if s.sup.emergPin == asserted then u else u.setCause 5)

/-- BACKUP_LOST (R44, R68): VBAK has fallen below 1.8 V while VIN is absent, be the module unpowered or on its riser. -/
def execBackupLost (s : State) : Answer := .next (if s.vinPresent then s else { s with cal := { s.cal with lost := true } })

/-! ### The warning and the flush -/

/-- A warning before service has resumed: the flush of the first stands (R74). -/
def State.warnAgain (s : State) (vin : Nat) : State :=
  { s with sup := { s.sup with restoredAt := none, lowVin := min s.sup.lowVin vin } }

/-- The warning's own effects at t0 (R69, R213, R422): metering closes, the warning is recorded with the run of planned skips that it ends, an ACTIVE unit of a pair yields, service stops. -/
def State.warn (s : State) (vin riser : Nat) : State :=
  let t := (s.setF Reg.GLB_STATUS F.GLB_STATUS_PFW 1).mtrShut
  let t := (t.event 0x0102 1 noInst (le 2 vin ++ le 2 riser)).endPlanned.setCause 2
  let t := if t.role == .active && t.paired then t.sendYield 1 else t
  let t : State := { t with sup := { t.sup with warnStamp := s.stamp, warnAt := s.now, lowVin := vin, restoredAt := none } }
  let t : State := if s.sup.flush == .idle then
      { t with sup := { t.sup with flush := .warned, flushFor := .supply, stageWas := s.stage } } else t
  t.stopService.flagRings

/-- POWER_FAIL_WARNING (R69, R74, R471): VIN has stayed below 10.2 V for 10 µs. While module reset holds there is nothing to save: VIN is good no longer, and reset does
not end until it is again (R68). -/
def execPowerFailWarning (vin riser : Half) (s : State) : Answer :=
  if !s.sup.powerGood || 10200 ≤ vin.toNat then .next s
  else if s.sup.inReset then .next { s with sup := { s.sup with powerGood := false, riserHeld := 0 } }
  else
    let t := ((s.riserSample (s.fld Reg.GLB_SUPPLY F.GLB_SUPPLY_VIN) riser.toNat).showVin vin).setF Reg.GLB_FLAGS F.GLB_FLAGS_PFW_SEEN 1
    .next (if s.pfw then t.warnAgain vin.toNat else t.warn vin.toNat (t.fld Reg.GLB_SUPPLY F.GLB_SUPPLY_RISER))

/-- FLUSH_BEGIN (R69, R471): 1 ms after the warning outputs go off; the flush begins, or waits for the end of an activate pause. -/
def execFlushBegin (s : State) : Answer :=
  if s.sup.flush != .warned || s.now < s.sup.warnAt + ms 1 then .next s
  else if s.pausing then .next ({ s.mtrCut with sup := { s.mtrCut.sup with flush := .waiting } } : State).showRadStates
  else .next (s.beginFlush .supply)

/-- FLUSH_DONE (R69, R47, R72): FLUSH_HOLD, the thermal hold, or module reset. -/
def execFlushDone (s : State) : Answer :=
  if s.sup.flush != .running then .next s
  else
    let t := s.endFlush
    match t.sup.flushFor with
    | .supply => .next (t.setF Reg.GLB_BOOTSTAGE F.GLB_BOOTSTAGE_STAGE 9)
    | .thermal => .next (t.setF Reg.GLB_BOOTSTAGE F.GLB_BOOTSTAGE_STAGE 0xA)
    | .perst =>
      .next ({ t with sup := { t.sup with powerGood := t.vinPresent, perst := t.sup.perst && !t.sup.relWaits } } : State).restart

/-- VIN_RESTORED (R68): VIN is at or above 10.5 V again; the converters return to it and the riser holds what it has left (R42). -/
def execVinRestored (vin : Half) (s : State) : Answer :=
  if vin.toNat < 10500 then .next s
  else
    let t := s.showVin vin
    .next (if s.pfw && s.sup.restoredAt.isNone then { t with sup := { t.sup with restoredAt := some s.now, riserHeld := s.fld Reg.GLB_SUPPLY F.GLB_SUPPLY_RISER } } else t)

/-- Service goes on after a dip (R73). -/
def State.resumeService (s : State) : State :=
  let t := (s.setF Reg.GLB_BOOTSTAGE F.GLB_BOOTSTAGE_STAGE s.sup.stageWas).setF Reg.GLB_STATUS F.GLB_STATUS_PFW 0
  let t := (t.setF Reg.GLB_STATUS F.GLB_STATUS_FLUSH_DONE 0).setF Reg.GLB_FLAGS F.GLB_FLAGS_DIP_RECOVERED 1
  let t : State := { t with sup := { t.sup with flush := .idle, restoredAt := none }, rdn := { t.rdn with yielding := false } }
  let t := t.event 0x0103 1 noInst (le 8 s.sup.warnStamp ++ le 2 s.sup.lowVin ++ le 4 ((s.now - s.sup.warnAt) / 1000000)
    ++ le 2 (s.fld Reg.GLB_SUPPLY F.GLB_SUPPLY_RISER))
  let t := t.setCause 3
  if t.mtrState = 2 then t.mtrReopen 2 else t

/-- SERVICE_RESUME (R68, R73, R471): VIN has been restored for 100 ms and the flush is done. A pattern that has refused the configuration goes back now. -/
def execServiceResume (s : State) : Answer :=
  match s.sup.restoredAt with
  | none => .next s
  | some r =>
    if !s.pfw || s.sup.flush != .done || s.sup.flushFor != .supply || s.now < r + ms 100 then .next s
    else
      let t := s.resumeService
      .next (if t.sup.refused then t.pauseAgain else t.resumeOutputs.finishActivate)

/-- What a flush that the riser cut short has lost: events beyond the first `written`, metering, retentive points; the slot in progress does not count
(R71, R402). -/
def State.cutFlush (s : State) (written : Nat) : State :=
  if s.sup.flush == .done || !s.pfw then s
  else
    let started := s.sup.flush == .running
    let w := if started then (s.evr.buffer.take written) else []
    let full := if started then s.sup.flushFull else s.sup.committed && !s.defaulted
    let lost := bit (decide (w.length < s.evr.buffer.length) || !s.evr.offered.isEmpty) + (if full then 6 else 0)
    { s with flash := { s.flash with events := w.foldl EvFlash.push s.flash.events, unflushed := if lost = 0 then none else some lost } }

/-- RISER_EXHAUSTED (R68, R71): the riser has fallen below 5.0 V; module reset. -/
def execRiserExhausted (written : Nat) (s : State) : Answer :=
  if !s.pfw then .next s
  else
    let t := s.cutFlush written
    .next ({ t with sup := { t.sup with powerGood := false, riserHeld := 0, perst := t.sup.perst && !t.sup.relWaits } } : State).moduleReset

/-- RISER_OK (R41, R42): the riser reaches GLB_RISERREADY. -/
def execRiserOk (s : State) : Answer :=
  let lvl := s.fld Reg.GLB_RISERREADY F.GLB_RISERREADY_LEVEL
  .next (if s.sup.inReset || s.onRiser then s
    else
      let v := max lvl (s.fld Reg.GLB_SUPPLY F.GLB_SUPPLY_RISER)
      (({ s with sup := { s.sup with riserHeld := max v s.sup.riserHeld } } : State).setF Reg.GLB_SUPPLY F.GLB_SUPPLY_RISER v).showRiser)

/-! ### Core voltage, PACE and temperature -/

/-- EBB_RAMP_END (R60): the ramp has ended and GLB_STATUS.EBB changes. -/
def execEbbRampEnd (s : State) : Answer :=
  .next (match s.sup.ramp with
    | none => s
    | some ebb => ({ s with sup := { s.sup with ramp := none } } : State).setF Reg.GLB_STATUS F.GLB_STATUS_EBB (bit ebb))

/-- GLB_PACE_READ (R479): the register is read; PACE_MIN takes PACE. -/
def execGlbPaceRead (s : State) : Answer :=
  .next (if s.answers Reg.GLB_PACE then
    { s with rdData := [s.rd Reg.GLB_PACE] }.setF Reg.GLB_PACE F.GLB_PACE_PACE_MIN (s.fld Reg.GLB_PACE F.GLB_PACE_PACE) else { s with rdData := [0] })

/-- Ten consecutive samples below the floor of the core-voltage state (R59). -/
def State.noteSlow (s : State) (pace : Nat) : State :=
  if s.paceFloor ≤ pace then { s with sup := { s.sup with slowRun := 0, slowMin := 0xFFFF } }
  else
    let n := s.sup.slowRun + 1
    let low := min s.sup.slowMin pace
    let t : State := { s with sup := { s.sup with slowRun := n, slowMin := low } }
    if n = 10 then (t.setF Reg.GLB_FLAGS F.GLB_FLAGS_SLOW 1).event 0x0109 1 noInst (le 2 low ++ le 1 (s.fld Reg.GLB_STATUS F.GLB_STATUS_EBB)) else t

/-- PACE_SAMPLE (R42, R59, R68): PACE over the last 1 ms, with die temperature and supply voltages as measured. A VIN below 10.5 V ends the count of the 100 ms. -/
def execPaceSample (pace die vin riser vbak : Half) (s : State) : Answer :=
  if s.sup.inReset then .next s
  else
    let p := pace.toNat
    let t := (s.setF Reg.GLB_PACE F.GLB_PACE_PACE p).setF Reg.GLB_PACE F.GLB_PACE_PACE_MIN (min p (s.fld Reg.GLB_PACE F.GLB_PACE_PACE_MIN))
    let t := (t.setF Reg.GLB_DIETEMP F.GLB_DIETEMP_TEMP die.toNat).showVin vin
    let t := (t.riserSample vin.toNat riser.toNat).setF Reg.GLB_SUPPLY2 F.GLB_SUPPLY2_VBAK vbak.toNat
    let t : State := { t with cyc := { t.cyc with minPace := min p t.cyc.minPace }
                              sup := { t.sup with lowVin := if t.pfw then min t.sup.lowVin vin.toNat else t.sup.lowVin
                                                  restoredAt := if vin.toNat < 10500 then none else t.sup.restoredAt } }
    .next (t.refreshCharger.noteSlow p)

/-- The THERMAL event (R47): die temperature and action. -/
def State.thermalEvent (s : State) (temp : Half) (action : Nat) : State :=
  (s.setF Reg.GLB_DIETEMP F.GLB_DIETEMP_TEMP temp.toNat).event 0x0108 1 noInst (le 2 temp.toNat ++ le 1 action)

/-- THERMAL_EBB (R47): the die reaches 110 °C and the fabric is forced to EBB. -/
def execThermalEbb (temp : Half) (s : State) : Answer :=
  if s.sup.inReset || temp.toInt < 1760 || s.flag Reg.GLB_STATUS F.GLB_STATUS_FORCED_EBB then .next s
  else
    let t := ((s.setF Reg.GLB_STATUS F.GLB_STATUS_FORCED_EBB 1).setF Reg.GLB_FLAGS F.GLB_FLAGS_THERMAL 1).thermalEvent temp 1
    .next ((t.setCause 6).rampTo true)

/-- THERMAL_EBB_RELEASE (R47, R54): the die falls below 100 °C; the configured state returns, and start-up that waited goes on. -/
def execThermalEbbRelease (temp : Half) (s : State) : Answer :=
  if s.sup.inReset || 1600 ≤ temp.toInt then .next s
  else
    let t : State := if s.sup.hot then { s with sup := { s.sup with hot := false, vcoreReady := true } } else s
    .next (if t.flag Reg.GLB_STATUS F.GLB_STATUS_FORCED_EBB then
        (((t.setF Reg.GLB_STATUS F.GLB_STATUS_FORCED_EBB 0).thermalEvent temp 2).setCause 6).rampTo (t.flag Reg.GLB_VSTATE F.GLB_VSTATE_EBB)
      else t.setF Reg.GLB_DIETEMP F.GLB_DIETEMP_TEMP temp.toNat)

/-- THERMAL_HOLD (R47, R422): the die reaches 125 °C: flush, every output in its reset state, hold. DESIGN CHOICE (log entry 32): while the flush of an assertion of
PERST_N already runs, that flush stands and its end resets the module; R47 and R72 do not say which end comes first. -/
def execThermalHold (temp : Half) (s : State) : Answer :=
  if s.sup.inReset || temp.toInt < 2000 || (s.sup.flushFor == .thermal && s.sup.flush != .idle) then .next s
  else
    let t := if s.role == .active && s.paired then s.sendYield 2 else s
    let t := t.thermalEvent temp 3
    .next (if t.sup.flush == .idle || t.sup.flush == .warned || t.sup.flush == .waiting then t.flushNow .thermal
      else if t.sup.flush == .running then (if t.sup.flushFor == .perst then t else { t with sup := { t.sup with flushFor := .thermal } })
      else ({ t with sup := { t.sup with flushFor := .thermal } } : State).setF Reg.GLB_BOOTSTAGE F.GLB_BOOTSTAGE_STAGE 0xA)

/-- THERMAL_RESTART (R47): the die falls below 100 °C in the hold; the module restarts as after module reset. -/
def execThermalRestart (temp : Half) (s : State) : Answer :=
  if s.stage ≠ 0xA || 1600 ≤ temp.toInt then .next s
  else .next (s.restart.thermalEvent temp 4)

end Sys2Proof.Machine
end

