-- ==== Sys2Proof/Machine/Start.lean ====
section
/-!
DEFINITION. The start-up sequence, stage by stage (R53 to R58, R64 to R67, R71, R135, R347, R364, R454, R465, R483).
-/
set_option linter.unusedVariables false
namespace Sys2Proof.Machine

/-- The sequence stands at a stage and goes on. -/
def State.startingAt (s : State) (n : Nat) : Bool := !s.sup.inReset && s.stage == n && !s.outage

/-- The stage reached. -/
def State.setStage (s : State) (n : Nat) : State := s.setF Reg.GLB_BOOTSTAGE F.GLB_BOOTSTAGE_STAGE n

/-! ### Stages 0x1 and 0x2 (R54, R465) -/

/-- VCORE_READY (R54): VCORE is in regulation and the first PACE sample valid; at 110 °C or more the sequence waits. -/
def execVcoreReady (pace die : Half) (s : State) : Answer :=
  if !s.startingAt 1 || s.sup.vcoreReady || s.sup.hot then .next s
  else
    let t := (s.setF Reg.GLB_PACE F.GLB_PACE_PACE pace.toNat).setF Reg.GLB_DIETEMP F.GLB_DIETEMP_TEMP die.toNat
    let hot := decide (1760 ≤ die.toInt)
    .next { t with sup := { t.sup with hot := hot, vcoreReady := !hot } }

/-- A slot becomes the boot slot. -/
def State.setBoot (s : State) (k : Nat) : State := s.setF Reg.PAT_STATUS F.PAT_STATUS_BOOT k

/-- A reset during a trial: the other slot boots (R465). -/
def State.rollTrial (s : State) : State :=
  let b := s.bootSlot
  if s.patState b = 5 then
    ((s.setPatState b 3).setBoot (otherSlot b)).event 0x1504 2 noInst (le 1 (otherSlot b) ++ [1])
  else s

/-- The slot that boots runs (R464, R481). -/
def State.bootPattern (s : State) (k : Nat) : State :=
  let t := ((s.setBoot k).setPatState k 4).setF Reg.GLB_STATUS F.GLB_STATUS_PAT_SLOT k
  ((t.wrN Reg.GLB_PATVER (t.pat k).version).setStage 2)

/-- STAGE_PATTERN (R54, R56, R465): the boot slot runs if it verifies, else the other one, else the module halts. -/
def execStagePattern (s : State) : Answer :=
  if !s.startingAt 1 || !s.sup.vcoreReady then .next s
  else
    let t := s.rollTrial
    let b := t.bootSlot
    let ready (u : State) : State := { u with sup := { u.sup with stage2 := true } }
    if t.slotVerifies b then .next (ready (t.bootPattern b))
    else if t.slotVerifies (otherSlot b) then
      let u := ((t.setPatState b 2).setF Reg.PAT_STATUS F.PAT_STATUS_BOOT_FALLBACK 1).event 0x1505 2 noInst (le 1 b)
      .next (ready (u.bootPattern (otherSlot b)))
    else .next (t.setStage 0xF)

/-! ### Stage 0x3 (R54, R135, R454) -/

/-- The remap table is applied (R135). -/
def State.applyRemap (s : State) : State :=
  (s.flash.remap.foldl (fun (t : State) e => t.setF (Reg.MEM_BANK e.1) F.MEM_BANK_PHYS e.2) s).setF Reg.MEM_STATUS F.MEM_STATUS_SPARES_FREE
    (8 - s.flash.sparesUsed)

/-- STAGE_MEMORY (R54, R454): memory is initialised; an intent found in flash is completed before any key is used. -/
def execStageMemory (s : State) : Answer :=
  if !s.startingAt 2 then .next s
  else
    let t := (s.applyRemap).setStage 3
    .next (match t.keys.intent with | some d => t.zeroiseKeys.completeLc d true | none => t)

/-! ### Stage 0x4 (R64 to R66) -/

/-- The first check of R64 that a copy fails: 1 header, 2 length, 3 sections, 4 type or version, 5 check word, 6 content. -/
def State.copyCheck (s : State) (b : List Byte) : Option Nat :=
  let n := fieldLe b 24 4
  let len := fieldLe b 8 4
  let d := directory b
  if !(fieldLe b 0 4 == 0x47464337 && fieldLe b 4 2 == 2 && fieldLe b 6 2 == 64) then some 1
  else if !(len == b.length && len % 4 == 0 && decide (len ≤ imageMax)) then some 2
  else if !(decide (1 ≤ n ∧ n ≤ 1024) && fieldLe b 28 4 == 0 && decide (64 + 16 * n + 4 ≤ len)
      && d.all (fun e => decide (64 + 16 * n ≤ e.2.2.1 ∧ e.2.2.1 + e.2.2.2.1 ≤ len - 4)) && apart (d.map fun e => (e.2.2.1, e.2.2.2.1))) then some 3
  else if !(d.all fun e => (decide (1 ≤ e.1 ∧ e.1 ≤ 0xC) && e.2.1 == 1) || decide (0xF000 ≤ e.1)) then some 4
  else if fieldLe b (len - 4) 4 ≠ crc32c (b.take (len - 4)) then some 5
  else match readImage s.ident s.fettleUs b with | .ok _ => none | .error _ => some 6

/-- A configuration copy as flash holds it. -/
def State.copy (s : State) (k : Nat) : List Byte := mapGet (fun _ => []) s.flash.copies k

/-- The CFG_COPY_BAD event: copy and failing check (R65). -/
def State.copyBad (s : State) (k check : Nat) : State :=
  (s.setF Reg.GLB_FLAGS F.GLB_FLAGS_CFG_COPY_BAD 1).event 0x0106 1 noInst (le 1 k ++ le 1 check)

/-- The configuration of a copy runs: its registers, programs, tables and points (R481). -/
def State.runCopy (s : State) (k : Nat) : State :=
  match readImage s.ident s.fettleUs (s.copy k) with
  | .error _ => s
  | .ok img =>
    let t : State := { s with cfg := img.cfg, points := [], flash := { s.flash with runCopy := k } }
    let t := (List.range 16).foldl (fun (t : State) n => t.placeFrom img n) t
    t.loadRegs img.cfg fun _ => true

/-- The module starts under factory defaults (R66). -/
def State.startDefaults (s : State) : State := ((s.loadRegs {} fun _ => true).setF Reg.GLB_STATUS F.GLB_STATUS_DEFAULTED 1)

/-- Copy `k` runs; the other one is rewritten from it (R65). -/
def State.selectCopy (s : State) (k : Nat) (rewrite : Bool) : State :=
  let t := s.runCopy k
  { t with sup := { t.sup with rewrite := if rewrite then some (1 - k) else none } }

/-- Selection of a copy (R65). -/
def State.selectConfig (s : State) : State :=
  match s.copyCheck (s.copy 0), s.copyCheck (s.copy 1) with
  | none, none =>
    let k := if 0 ≤ seqDiff (fieldLe (s.copy 0) 12 4) (fieldLe (s.copy 1) 12 4) then 0 else 1
    s.selectCopy k (s.copy 0 ≠ s.copy 1)
  | none, some c => ((s.selectCopy 0 true).setF Reg.GLB_STATUS F.GLB_STATUS_CFG_ONE_COPY 1).copyBad 1 c
  | some c, none => ((s.selectCopy 1 true).setF Reg.GLB_STATUS F.GLB_STATUS_CFG_ONE_COPY 1).copyBad 0 c
  | some c, some d => ((s.startDefaults.copyBad 0 c).copyBad 1 d).event 0x0107 2 noInst []

/-- STAGE_CONFIG (R54, R55, R65, R452): a copy or factory defaults; the host interface is ready. -/
def execStageConfig (s : State) : Answer :=
  if !s.startingAt 3 then .next s
  else
    let t := if s.lifeCycle = 3 then s.startDefaults else s.selectConfig
    .next (t.setStage 4).becomeReady

/-! ### Stage 0x5 (R58, R71, R347, R364) -/

/-- The next heat of a unit's parity after the last one stored (R347). -/
def nextHeat (unit last : Nat) : Nat :=
  let h := if last % 2 = unit then last + 2 else last + 1
  if 4095 < h then (if unit = 0 then 2 else 1) else h

/-- A new heat is taken and written to flash (R347). -/
def State.newHeat (s : State) : State :=
  let h := nextHeat s.unit s.flash.heat
  let t : State := { s with flash := { s.flash with heat := h } }
  (t.setF Reg.TIM_STATUS F.TIM_STATUS_HEAT h).setF Reg.HIF_STATUS F.HIF_STATUS_HEAT h

/-- The backup domain has lost its contents: calendar invalid, TRIM 0, charger off, TAI − UTC and the kept settings from the configuration, the wall base UNSET
at 0 s (R364). -/
def State.calLost (s : State) : State :=
  let t := ((s.setF Reg.RTC_STATUS F.RTC_STATUS_INVALID 1).setF Reg.RTC_TRIM F.RTC_TRIM_TRIM 0).setF Reg.RTC_CTL F.RTC_CTL_CHG_EN 0
  let t := (t.setF Reg.TIM_UTCOFF F.TIM_UTCOFF_OFFSET t.cfg.time.utcOffset).loadKept t.cfg.time
  let t : State := { t with clock := { t.clock with wallOff := -(t.clock.mono : Int), wallSet := false } }
  t.event 0x1102 2 noInst (le 2 (t.fld Reg.GLB_SUPPLY2 F.GLB_SUPPLY2_VBAK))

/-- The wall base from the calendar (R350, R354). -/
def State.wallFromCal (s : State) : State :=
  let u : Int := ((s.cal.sec : Int) + s.utcOff) * (secUnits : Int) + ((s.cal.acc * secUnits / 2 ^ 40 : Nat) : Int)
  { s with clock := { s.clock with wallOff := u - s.clock.mono, wallSet := true } }

/-- Time at stage 0x5. -/
def State.startTime (s : State) : State := (if s.cal.lost then s.newHeat.calLost else s.newHeat.wallFromCal).refreshServo.refreshCharger

/-- A point that a node or a radio sensor feeds (R58). -/
def State.fedByNode (s : State) (a : Nat) : Bool := (s.info a).sensed

/-- A retained point takes its stored record; one that a node feeds is ABSENT (R58). -/
def State.restorePoint (s : State) (a : Nat) (r : PtRec) : State :=
  if (s.info a).typ = 0 then s
  else s.setPt a { r with pending := false, quality := if s.fedByNode a then Q.absent else r.quality }

/-- Every point takes its default with the restore stamp; then the retained ones of a slot whose layout is the configuration's (R58, R71). -/
def State.restorePoints (s : State) (slot : Option (Nat × FlushSlot)) : State :=
  let t : State := { s with restoreStamp := s.stamp, points := [] }
  match slot with
  | none => t
  | some x =>
    if t.defaulted then t
    else if x.2.layout ≠ t.cfg.layout then
      (t.setF Reg.GLB_FLAGS F.GLB_FLAGS_RETAIN_MISMATCH 1).event 0x0105 1 noInst (padTo 16 x.2.layout)
    else (x.2.points.filter fun e => t.cfg.retained e.1).foldl (fun (u : State) e => u.restorePoint e.1 e.2) t

/-- The metering snapshot of a slot (R386, R387). -/
def State.restoreMeter (s : State) (slot : Option (Nat × FlushSlot)) : State :=
  let cut := match s.flash.unflushed with | some l => bitOf l 1 | none => false
  match slot with
  | none => { s with meter := { s.meter with rebuilt := cut } }
  | some x =>
    let m := x.2.meter
    let t := (List.range 8).foldl (fun (t : State) j =>
      let p := mapGet (fun _ => (0, 0)) m.pulses j
      (t.setMtrPulse j { t.mtrPulse j with acc := p.1 }).wrN (Reg.MTR_PULSE_COUNT j) p.2) (s.wrN Reg.MTR_SEQ m.seq)
    let t : State := { t with meter := { t.meter with snap := some m, seq := m.seq, rebuilt := cut } }
    t.cfg.meter.pulses.foldl (fun (t : State) g => t.showPulse g) t

/-- A flush that did not complete is reported: what it lost and the slot restored (R71); where there was none, the slot number is a free value. -/
def State.reportFlush (s : State) (slot : Option (Nat × FlushSlot)) : State :=
  match s.flash.unflushed with
  | none => s
  | some l =>
    let k := match slot with | some x => x.1 | none => (Config.freeWord s.free).toNat
    let t := if slot.isSome then s else s.nextFree
    let t : State := { t with flash := { t.flash with unflushed := none } }
    (t.setF Reg.GLB_FLAGS F.GLB_FLAGS_FLUSH_INCOMPLETE 1).event 0x0104 2 noInst (le 1 l ++ le 1 k)

/-- STAGE_RESTORE (R54, R58, R71, R347, R364). -/
def execStageRestore (s : State) : Answer :=
  if !s.startingAt 4 then .next s
  else
    let slot := s.flash.newestSlot
    let t := (s.setStage 5).startTime
    .next (((t.restorePoints slot).restoreMeter slot).reportFlush slot)

/-! ### Stages 0x6 and 0x7 (R54, R413, R416, R483) -/

/-- STAGE_ROLE (R54): receivers are enabled and role determination runs. -/
def execStageRole (s : State) : Answer :=
  if !s.startingAt 5 then .next s
  else
    let t := s.setStage 6
    let t := if t.defaulted then t else t.beginRole
    let t : State := if t.role == .witness then { t with rdn := { t.rdn with holdUntil := t.now + 2 * t.lossNs } } else t
    .next ((t.roleTrunks false).showRadStates)

/-- ROLE_SETTLED (R54, R483): transmission, discovery and beacons begin. -/
def execRoleSettled (s : State) : Answer :=
  if !s.startingAt 6 || s.sup.roleSettled then .next s
  else .next (({ s with sup := { s.sup with roleSettled := true } } : State).roleLamp.roleMeter.showRadStates)

/-- STAGE_RUN (R53, R54, R203): the first control cycle is charged at the next boundary; a witness is in service. -/
def execStageRun (s : State) : Answer :=
  if !s.startingAt 6 || !s.sup.roleSettled then .next s
  else
    let t := (s.setStage 7).startCycles
    .next (if t.role == .witness then t.inService else t)

/-- CFG_COPY_REWRITE (R65, R67): the other copy is rewritten from the running one. -/
def execCfgCopyRewrite (s : State) : Answer :=
  if !s.startingAt 7 then .next s
  else match s.sup.rewrite with
    | none => .next s
    | some k =>
      let t : State := { s with flash := { s.flash with copies := mapPut s.flash.copies k s.runningImage }, sup := { s.sup with rewrite := none } }
      .next (t.setF Reg.GLB_STATUS F.GLB_STATUS_CFG_ONE_COPY 0)

end Sys2Proof.Machine
end

