-- ==== Sys2Proof/Machine/Dispatch.lean ====
section
/-!
DEFINITION. The dispatch: one arm per command, each one call of its meaning.
-/
namespace Sys2Proof.Machine

/-- The effect of a command on everything but the queue. -/
def exec (i : Instr) (s : State) : Host.Outcome State Fault Refusal :=
  match i with
  | .powerGood vin => Sys2Proof.Machine.execPowerGood vin s
  | .vcoreReady pace die => Sys2Proof.Machine.execVcoreReady pace die s
  | .powerFailWarning vin riser => Sys2Proof.Machine.execPowerFailWarning vin riser s
  | .vinRestored vin => Sys2Proof.Machine.execVinRestored vin s
  | .riserExhausted written => Sys2Proof.Machine.execRiserExhausted written s
  | .unitSelChange level => Sys2Proof.Machine.execUnitSelChange level s
  | .maintNChange asserted => Sys2Proof.Machine.execMaintNChange asserted s
  | .emergNChange asserted => Sys2Proof.Machine.execEmergNChange asserted s
  | .thermalEbb temp => Sys2Proof.Machine.execThermalEbb temp s
  | .thermalEbbRelease temp => Sys2Proof.Machine.execThermalEbbRelease temp s
  | .thermalHold temp => Sys2Proof.Machine.execThermalHold temp s
  | .thermalRestart temp => Sys2Proof.Machine.execThermalRestart temp s
  | .paceSample pace die vin riser vbak => Sys2Proof.Machine.execPaceSample pace die vin riser vbak s
  | .glbVstateWrite v => Sys2Proof.Machine.execGlbVstateWrite v s
  | .busMasterEnableChange bme d3hot => Sys2Proof.Machine.execBusMasterEnableChange bme d3hot s
  | .funcReset linkDown => Sys2Proof.Machine.execFuncReset linkDown s
  | .msixUnmask enable vector => Sys2Proof.Machine.execMsixUnmask enable vector s
  | .registerWrite addr size v => Sys2Proof.Machine.execRegisterWrite addr size v s
  | .rfGroupFreeze g => Sys2Proof.Machine.execRfGroupFreeze g s
  | .rfGroupEnd g => Sys2Proof.Machine.execRfGroupEnd g s
  | .ldlMaxnsRead n => Sys2Proof.Machine.execLdlMaxnsRead n s
  | .hifVersionSelectWrite v => Sys2Proof.Machine.execHifVersionSelectWrite v s
  | .ringCfgWrite n v => Sys2Proof.Machine.execRingCfgWrite n v s
  | .doorbellWrite n index => Sys2Proof.Machine.execDoorbellWrite n index s
  | .runnerBurst err => Sys2Proof.Machine.execRunnerBurst err s
  | .runnerReadFail n cause offset entry => Sys2Proof.Machine.execRunnerReadFail n cause offset entry s
  | .dmaCtlResume n => Sys2Proof.Machine.execDmaCtlResume n s
  | .tunCtlFlush n => Sys2Proof.Machine.execTunCtlFlush n s
  | .tundishFlushApply n => Sys2Proof.Machine.execTundishFlushApply n s
  | .writebackTimer n => Sys2Proof.Machine.execWritebackTimer n s
  | .unknownOpcode op e => Sys2Proof.Machine.execUnknownOpcode op e s
  | .nop e => Sys2Proof.Machine.execNop e s
  | .echo e => Sys2Proof.Machine.execEcho e s
  | .cancel e => Sys2Proof.Machine.execCancel e s
  | .sync e => Sys2Proof.Machine.execSync e s
  | .txnOpen e => Sys2Proof.Machine.execTxnOpen e s
  | .txnCommit e => Sys2Proof.Machine.execTxnCommit e s
  | .txnAbort e => Sys2Proof.Machine.execTxnAbort e s
  | .txnRegwr e => Sys2Proof.Machine.execTxnRegwr e s
  | .txnQuery e => Sys2Proof.Machine.execTxnQuery e s
  | .txnApply slot => Sys2Proof.Machine.execTxnApply slot s
  | .txnIdleTimeout slot => Sys2Proof.Machine.execTxnIdleTimeout slot s
  | .txnWaitTimeout slot => Sys2Proof.Machine.execTxnWaitTimeout slot s
  | .tunFlush e => Sys2Proof.Machine.execTunFlush e s
  | .runnerResume e => Sys2Proof.Machine.execRunnerResume e s
  | .write e => Sys2Proof.Machine.execWrite e s
  | .writeQuality e => Sys2Proof.Machine.execWriteQuality e s
  | .pntRead e => Sys2Proof.Machine.execPntRead e s
  | .pntReadList e => Sys2Proof.Machine.execPntReadList e s
  | .pntForce e => Sys2Proof.Machine.execPntForce e s
  | .pntUnforce e => Sys2Proof.Machine.execPntUnforce e s
  | .pntForceList e => Sys2Proof.Machine.execPntForceList e s
  | .pntSubscribe e => Sys2Proof.Machine.execPntSubscribe e s
  | .pntUnsubscribe e => Sys2Proof.Machine.execPntUnsubscribe e s
  | .nodeHoldExpiry n => Sys2Proof.Machine.execNodeHoldExpiry n s
  | .ldlLoad e => Sys2Proof.Machine.execLdlLoad e s
  | .ldlUnload e => Sys2Proof.Machine.execLdlUnload e s
  | .ldlTable e => Sys2Proof.Machine.execLdlTable e s
  | .ldlTableIdleApply n => Sys2Proof.Machine.execLdlTableIdleApply n s
  | .ldlState e => Sys2Proof.Machine.execLdlState e s
  | .liLd n b off m => Sys2Proof.Machine.execLiLd n b off m s
  | .liAnd n b off m => Sys2Proof.Machine.execLiAnd n b off m s
  | .liOr n b off m => Sys2Proof.Machine.execLiOr n b off m s
  | .liXor n b off m => Sys2Proof.Machine.execLiXor n b off m s
  | .liSt n b off m => Sys2Proof.Machine.execLiSt n b off m s
  | .liSet n b off m => Sys2Proof.Machine.execLiSet n b off m s
  | .liRst n b off m => Sys2Proof.Machine.execLiRst n b off m s
  | .liLdq n b off m => Sys2Proof.Machine.execLiLdq n b off m s
  | .liLaop n k => Sys2Proof.Machine.execLiLaop n k s
  | .liBopen n => Sys2Proof.Machine.execLiBopen n s
  | .liBand n => Sys2Proof.Machine.execLiBand n s
  | .liBor n => Sys2Proof.Machine.execLiBor n s
  | .liBpeek n => Sys2Proof.Machine.execLiBpeek n s
  | .liBdrop n => Sys2Proof.Machine.execLiBdrop n s
  | .liEdge n k b m => Sys2Proof.Machine.execLiEdge n k b m s
  | .liTmr n k b m => Sys2Proof.Machine.execLiTmr n k b m s
  | .liCtu n k b m => Sys2Proof.Machine.execLiCtu n k b m s
  | .liCtd n k b m => Sys2Proof.Machine.execLiCtd n k b m s
  | .liTcr n k b m => Sys2Proof.Machine.execLiTcr n k b m s
  | .liTcld n k b m => Sys2Proof.Machine.execLiTcld n k b m s
  | .liLdm n k b m => Sys2Proof.Machine.execLiLdm n k b m s
  | .liStm n k b m => Sys2Proof.Machine.execLiStm n k b m s
  | .liLdw n b off m => Sys2Proof.Machine.execLiLdw n b off m s
  | .liStw n b off m => Sys2Proof.Machine.execLiStw n b off m s
  | .liQld n b off m => Sys2Proof.Machine.execLiQld n b off m s
  | .liWbit n dir k => Sys2Proof.Machine.execLiWbit n dir k s
  | .liLdi n imm => Sys2Proof.Machine.execLiLdi n imm s
  | .liLdih n imm => Sys2Proof.Machine.execLiLdih n imm s
  | .liMov n dir w => Sys2Proof.Machine.execLiMov n dir w s
  | .liSel n w => Sys2Proof.Machine.execLiSel n w s
  | .liAlu n fn w => Sys2Proof.Machine.execLiAlu n fn w s
  | .liAlui n fn imm => Sys2Proof.Machine.execLiAlui n fn imm s
  | .liFpu n fn w => Sys2Proof.Machine.execLiFpu n fn w s
  | .liCmp n cond comb w => Sys2Proof.Machine.execLiCmp n cond comb w s
  | .liCmpi n cond comb imm => Sys2Proof.Machine.execLiCmpi n cond comb imm s
  | .liTbl n mode base => Sys2Proof.Machine.execLiTbl n mode base s
  | .liJmp n cond target => Sys2Proof.Machine.execLiJmp n cond target s
  | .liCall n cond target => Sys2Proof.Machine.execLiCall n cond target s
  | .liRet n => Sys2Proof.Machine.execLiRet n s
  | .liLoop n b w count => Sys2Proof.Machine.execLiLoop n b w count s
  | .liEndl n => Sys2Proof.Machine.execLiEndl n s
  | .liBrk n => Sys2Proof.Machine.execLiBrk n s
  | .liSetb n b range window => Sys2Proof.Machine.execLiSetb n b range window s
  | .liBidx n b mode imm => Sys2Proof.Machine.execLiBidx n b mode imm s
  | .liBld n b => Sys2Proof.Machine.execLiBld n b s
  | .liLcall n fn wt wf => Sys2Proof.Machine.execLiLcall n fn wt wf s
  | .liNop n => Sys2Proof.Machine.execLiNop n s
  | .liEnd n => Sys2Proof.Machine.execLiEnd n s
  | .chargeEnd n => Sys2Proof.Machine.execChargeEnd n s
  | .cycSetup e => Sys2Proof.Machine.execCycSetup e s
  | .cycSched e => Sys2Proof.Machine.execCycSched e s
  | .cycHold e => Sys2Proof.Machine.execCycHold e s
  | .cycRelease e => Sys2Proof.Machine.execCycRelease e s
  | .lampEvaluationEnd us => Sys2Proof.Machine.execLampEvaluationEnd us s
  | .lmpEmerg e => Sys2Proof.Machine.execLmpEmerg e s
  | .lmpProbe e => Sys2Proof.Machine.execLmpProbe e s
  | .lmpRecord e => Sys2Proof.Machine.execLmpRecord e s
  | .lmpChstate e => Sys2Proof.Machine.execLmpChstate e s
  | .lmpCtlEmergSw on => Sys2Proof.Machine.execLmpCtlEmergSw on s
  | .lmpTickWrite v => Sys2Proof.Machine.execLmpTickWrite v s
  | .gateEntryStart p => Sys2Proof.Machine.execGateEntryStart p s
  | .trunkFrameReceived f => Sys2Proof.Machine.execTrunkFrameReceived f s
  | .foreignBeacon p => Sys2Proof.Machine.execForeignBeacon p s
  | .coordinatorListenEnd p => Sys2Proof.Machine.execCoordinatorListenEnd p s
  | .seedingListenEnd p => Sys2Proof.Machine.execSeedingListenEnd p s
  | .rollCallCycleEnd p => Sys2Proof.Machine.execRollCallCycleEnd p s
  | .trkSend e => Sys2Proof.Machine.execTrkSend e s
  | .trkSendTimeout p => Sys2Proof.Machine.execTrkSendTimeout p s
  | .trkPort e => Sys2Proof.Machine.execTrkPort e s
  | .trkGates e => Sys2Proof.Machine.execTrkGates e s
  | .gatectlWrite p entry v => Sys2Proof.Machine.execGatectlWrite p entry v s
  | .pauseFrameReceived g quanta => Sys2Proof.Machine.execPauseFrameReceived g quanta s
  | .linkChange g up => Sys2Proof.Machine.execLinkChange g up s
  | .hello f => Sys2Proof.Machine.execHello f s
  | .ack f => Sys2Proof.Machine.execAck f s
  | .report f => Sys2Proof.Machine.execReport f s
  | .delayReq f => Sys2Proof.Machine.execDelayReq f s
  | .retransmitTimeout n => Sys2Proof.Machine.execRetransmitTimeout n s
  | .cznNode e => Sys2Proof.Machine.execCznNode e s
  | .cznReseat e => Sys2Proof.Machine.execCznReseat e s
  | .cznReseatTimeout n => Sys2Proof.Machine.execCznReseatTimeout n s
  | .cznRekey e => Sys2Proof.Machine.execCznRekey e s
  | .cznNodetable e => Sys2Proof.Machine.execCznNodetable e s
  | .radioFrameReceived f => Sys2Proof.Machine.execRadioFrameReceived f s
  | .radioAdmissionTimeout n => Sys2Proof.Machine.execRadioAdmissionTimeout n s
  | .beaconInstant receiving => Sys2Proof.Machine.execBeaconInstant receiving s
  | .listenWindow n => Sys2Proof.Machine.execListenWindow n s
  | .standbyBeaconMiss r => Sys2Proof.Machine.execStandbyBeaconMiss r s
  | .radioNodeStale n => Sys2Proof.Machine.execRadioNodeStale n s
  | .radioNodeAbsent n => Sys2Proof.Machine.execRadioNodeAbsent n s
  | .radNode e => Sys2Proof.Machine.execRadNode e s
  | .radWake e => Sys2Proof.Machine.execRadWake e s
  | .radWakeTimeout n => Sys2Proof.Machine.execRadWakeTimeout n s
  | .radNodetable e => Sys2Proof.Machine.execRadNodetable e s
  | .radChannel e => Sys2Proof.Machine.execRadChannel e s
  | .radDutyWrite r limit => Sys2Proof.Machine.execRadDutyWrite r limit s
  | .timIncrloWrite v => Sys2Proof.Machine.execTimIncrloWrite v s
  | .timIncrhiWrite v => Sys2Proof.Machine.execTimIncrhiWrite v s
  | .timStep e => Sys2Proof.Machine.execTimStep e s
  | .timSetincr e => Sys2Proof.Machine.execTimSetincr e s
  | .timLeap e => Sys2Proof.Machine.execTimLeap e s
  | .ptpMessage port m => Sys2Proof.Machine.execPtpMessage port m s
  | .periodicFire k => Sys2Proof.Machine.execPeriodicFire k s
  | .trimMeasurementEnd x => Sys2Proof.Machine.execTrimMeasurementEnd x s
  | .rtcStgWrite subsec v => Sys2Proof.Machine.execRtcStgWrite subsec v s
  | .rtcSet e => Sys2Proof.Machine.execRtcSet e s
  | .rtcFromWall e => Sys2Proof.Machine.execRtcFromWall e s
  | .rtcAlarm e => Sys2Proof.Machine.execRtcAlarm e s
  | .rtcPeriodic e => Sys2Proof.Machine.execRtcPeriodic e s
  | .rtcCharger e => Sys2Proof.Machine.execRtcCharger e s
  | .rtcSettrim e => Sys2Proof.Machine.execRtcSettrim e s
  | .meterSample c f clip u => Sys2Proof.Machine.execMeterSample c f clip u s
  | .pulseEnd j => Sys2Proof.Machine.execPulseEnd j s
  | .windowEnd v dur => Sys2Proof.Machine.execWindowEnd v dur s
  | .mtrArchive e => Sys2Proof.Machine.execMtrArchive e s
  | .mtrClose e => Sys2Proof.Machine.execMtrClose e s
  | .mtrCaldata e => Sys2Proof.Machine.execMtrCaldata e s
  | .mtrPreset e => Sys2Proof.Machine.execMtrPreset e s
  | .evrFlashWrite ok => Sys2Proof.Machine.execEvrFlashWrite ok s
  | .evrCursorWrite v => Sys2Proof.Machine.execEvrCursorWrite v s
  | .evrSync e => Sys2Proof.Machine.execEvrSync e s
  | .evrClear e => Sys2Proof.Machine.execEvrClear e s
  | .evrRead e => Sys2Proof.Machine.execEvrRead e s
  | .peerBeacon f => Sys2Proof.Machine.execPeerBeacon f s
  | .delta f => Sys2Proof.Machine.execDelta f s
  | .deltaAck f => Sys2Proof.Machine.execDeltaAck f s
  | .seedReq f => Sys2Proof.Machine.execSeedReq f s
  | .seed f => Sys2Proof.Machine.execSeed f s
  | .handover f => Sys2Proof.Machine.execHandover f s
  | .ready f => Sys2Proof.Machine.execReady f s
  | .confirm f => Sys2Proof.Machine.execConfirm f s
  | .yield_ f => Sys2Proof.Machine.execYield_ f s
  | .health f => Sys2Proof.Machine.execHealth f s
  | .grant f => Sys2Proof.Machine.execGrant f s
  | .deny f => Sys2Proof.Machine.execDeny f s
  | .status f => Sys2Proof.Machine.execStatus f s
  | .notice f => Sys2Proof.Machine.execNotice f s
  | .revoke f => Sys2Proof.Machine.execRevoke f s
  | .heartbeat f => Sys2Proof.Machine.execHeartbeat f s
  | .request f => Sys2Proof.Machine.execRequest f s
  | .vote f => Sys2Proof.Machine.execVote f s
  | .witnessStartHoldEnd pair => Sys2Proof.Machine.execWitnessStartHoldEnd pair s
  | .witnessStatusDue pair => Sys2Proof.Machine.execWitnessStatusDue pair s
  | .rdnRotate e => Sys2Proof.Machine.execRdnRotate e s
  | .rdnYield e => Sys2Proof.Machine.execRdnYield e s
  | .rdnReseed e => Sys2Proof.Machine.execRdnReseed e s
  | .keySlotSet e => Sys2Proof.Machine.execKeySlotSet e s
  | .keySlotClear e => Sys2Proof.Machine.execKeySlotClear e s
  | .keyRootSet e => Sys2Proof.Machine.execKeyRootSet e s
  | .keyAttest e => Sys2Proof.Machine.execKeyAttest e s
  | .keyIdcert e => Sys2Proof.Machine.execKeyIdcert e s
  | .keyNodekey e => Sys2Proof.Machine.execKeyNodekey e s
  | .keyWrgo value => Sys2Proof.Machine.execKeyWrgo value s
  | .keyModeWrite value => Sys2Proof.Machine.execKeyModeWrite value s
  | .keyCznsrcWrite value => Sys2Proof.Machine.execKeyCznsrcWrite value s
  | .keySendDelayEnd slot => Sys2Proof.Machine.execKeySendDelayEnd slot s
  | .oldKeyGraceEnd slot => Sys2Proof.Machine.execOldKeyGraceEnd slot s
  | .keyLcreqWrite value => Sys2Proof.Machine.execKeyLcreqWrite value s
  | .ownerLockWrite value => Sys2Proof.Machine.execOwnerLockWrite value s
  | .patBegin e => Sys2Proof.Machine.execPatBegin e s
  | .patBlock e => Sys2Proof.Machine.execPatBlock e s
  | .patQuery e => Sys2Proof.Machine.execPatQuery e s
  | .patVerify e => Sys2Proof.Machine.execPatVerify e s
  | .patActivate e => Sys2Proof.Machine.execPatActivate e s
  | .patConfirm e => Sys2Proof.Machine.execPatConfirm e s
  | .patHaltgo value => Sys2Proof.Machine.execPatHaltgo value s
  | .haltRecoveryDone image => Sys2Proof.Machine.execHaltRecoveryDone image s
  | .fettleRegionEnd r => Sys2Proof.Machine.execFettleRegionEnd r s
  | .bankRemapDone b cause => Sys2Proof.Machine.execBankRemapDone b cause s
  | .memBankChillWrite b on => Sys2Proof.Machine.execMemBankChillWrite b on s
  | .memFettleWrite v => Sys2Proof.Machine.execMemFettleWrite v s
  | .pauseQuantaEnd g => Sys2Proof.Machine.execPauseQuantaEnd g s
  | .ptpSyncInterval port => Sys2Proof.Machine.execPtpSyncInterval port s
  | .pcieLinkTrained width speed => Sys2Proof.Machine.execPcieLinkTrained width speed s
  | .perstAssert => Sys2Proof.Machine.execPerstAssert s
  | .perstRelease => Sys2Proof.Machine.execPerstRelease s
  | .stagePattern => Sys2Proof.Machine.execStagePattern s
  | .stageMemory => Sys2Proof.Machine.execStageMemory s
  | .stageConfig => Sys2Proof.Machine.execStageConfig s
  | .stageRestore => Sys2Proof.Machine.execStageRestore s
  | .stageRole => Sys2Proof.Machine.execStageRole s
  | .roleSettled => Sys2Proof.Machine.execRoleSettled s
  | .stageRun => Sys2Proof.Machine.execStageRun s
  | .cfgCopyRewrite => Sys2Proof.Machine.execCfgCopyRewrite s
  | .flushBegin => Sys2Proof.Machine.execFlushBegin s
  | .flushDone => Sys2Proof.Machine.execFlushDone s
  | .serviceResume => Sys2Proof.Machine.execServiceResume s
  | .backupLost => Sys2Proof.Machine.execBackupLost s
  | .ebbRampEnd => Sys2Proof.Machine.execEbbRampEnd s
  | .pntRdrec0Read => Sys2Proof.Machine.execPntRdrec0Read s
  | .rtcSubsecRead => Sys2Proof.Machine.execRtcSubsecRead s
  | .glbPaceRead => Sys2Proof.Machine.execGlbPaceRead s
  | .lmpEvalRead => Sys2Proof.Machine.execLmpEvalRead s
  | .changeNoticePost => Sys2Proof.Machine.execChangeNoticePost s
  | .cycleBoundary => Sys2Proof.Machine.execCycleBoundary s
  | .commitDeadline => Sys2Proof.Machine.execCommitDeadline s
  | .tickBoundary => Sys2Proof.Machine.execTickBoundary s
  | .pour => Sys2Proof.Machine.execPour s
  | .lumRunWrite => Sys2Proof.Machine.execLumRunWrite s
  | .timeFrameDue => Sys2Proof.Machine.execTimeFrameDue s
  | .keyAnnounce => Sys2Proof.Machine.execKeyAnnounce s
  | .generationGraceEnd => Sys2Proof.Machine.execGenerationGraceEnd s
  | .timStepGo => Sys2Proof.Machine.execTimStepGo s
  | .holdoverEntry => Sys2Proof.Machine.execHoldoverEntry s
  | .calendarSecond => Sys2Proof.Machine.execCalendarSecond s
  | .calendarFollow => Sys2Proof.Machine.execCalendarFollow s
  | .leapSecond => Sys2Proof.Machine.execLeapSecond s
  | .rtcCommitGo => Sys2Proof.Machine.execRtcCommitGo s
  | .rtcCommitFromWall => Sys2Proof.Machine.execRtcCommitFromWall s
  | .calendarStep => Sys2Proof.Machine.execCalendarStep s
  | .chargerFault => Sys2Proof.Machine.execChargerFault s
  | .accumulatorWrite => Sys2Proof.Machine.execAccumulatorWrite s
  | .intervalBoundary => Sys2Proof.Machine.execIntervalBoundary s
  | .intervalRecord => Sys2Proof.Machine.execIntervalRecord s
  | .evrWinctlNext => Sys2Proof.Machine.execEvrWinctlNext s
  | .evrWindowReady => Sys2Proof.Machine.execEvrWindowReady s
  | .evsDelivery => Sys2Proof.Machine.execEvsDelivery s
  | .peerBeaconDue => Sys2Proof.Machine.execPeerBeaconDue s
  | .healthDue => Sys2Proof.Machine.execHealthDue s
  | .witnessHoldingEnd => Sys2Proof.Machine.execWitnessHoldingEnd s
  | .peerLoss => Sys2Proof.Machine.execPeerLoss s
  | .isolated => Sys2Proof.Machine.execIsolated s
  | .seedingPeerListenEnd => Sys2Proof.Machine.execSeedingPeerListenEnd s
  | .witnessNoAnswer => Sys2Proof.Machine.execWitnessNoAnswer s
  | .requestRepeat => Sys2Proof.Machine.execRequestRepeat s
  | .rotationDue => Sys2Proof.Machine.execRotationDue s
  | .handoverTick => Sys2Proof.Machine.execHandoverTick s
  | .handoverDeltaTimeout => Sys2Proof.Machine.execHandoverDeltaTimeout s
  | .confirmTimeout => Sys2Proof.Machine.execConfirmTimeout s
  | .statementSigned => Sys2Proof.Machine.execStatementSigned s
  | .lcZeroise => Sys2Proof.Machine.execLcZeroise s
  | .lcTransitionEnd => Sys2Proof.Machine.execLcTransitionEnd s
  | .activatePauseStart => Sys2Proof.Machine.execActivatePauseStart s
  | .activatePauseEnd => Sys2Proof.Machine.execActivatePauseEnd s
  | .trialTimeout => Sys2Proof.Machine.execTrialTimeout s
  | .fettleRegionStart => Sys2Proof.Machine.execFettleRegionStart s
  | .riserOk => Sys2Proof.Machine.execRiserOk s
  | .wallClockHour => Sys2Proof.Machine.execWallClockHour s

end Sys2Proof.Machine
end

