-- ==== Sys2Proof/Machine/Idle.lean ====
section
/-!
DEFINITION. What the block does when no command waits outside: it hands a packet that its tundish has held behind FENCE to its consumer (R90, R124), or one tick of
the 25 MHz reference passes (R342).
-/
namespace Sys2Proof.Machine

/-- The held packet `h` leaves its tundish and its command runs. -/
def State.release (s : State) (h : Held) : Answer :=
  exec h.cmd { s with held := s.held.filter (fun x => x ≠ h), cur := some h }

/-- An empty queue (DESIGN CHOICE): a packet that can be released comes before time. -/
def State.idle (s : State) : Answer :=
  match s.releasable with
  | some h => s.release h
  | none => .next s.tick

end Sys2Proof.Machine
end

