-- ==== Sys2Proof/Machine/Observe.lean ====
section
/-!
DEFINITION. What a read of a register returns. Most registers stand in the register map; those that show what another part of State holds are computed here,
so that each thing has one home (R5, R477 to R481).
-/
set_option linter.unusedVariables false
namespace Sys2Proof.Machine

/-- A Boolean in a bit of a register. -/
def bitAt (k : Nat) (b : Bool) : Nat := bit b * 2 ^ k

/-- A word with its bits `lo` to `lo + w - 1` replaced. -/
def overWord (x : Word) (lo w v : Nat) : Nat := putBits x.toNat lo w v

/-- A mask by a test over `n` numbers. -/
def maskBy (n : Nat) (f : Nat → Bool) : Nat := ((List.range n).filter f |>.map fun i => 2 ^ i).sum

/-- Index of an offset in a replicated register, or none. -/
def at1 (base stride n a : Nat) : Option Nat := regIdx base stride n a

/-- The ring part (R88, R93). -/
def State.readRing (s : State) (a : Nat) : Option Nat :=
  if a = Reg.HIF_STATUS then some (overWord (s.rd a) 1 1 (bit s.cplWait))
  else match at1 (Reg.RNG_STATUS 0) 0x40 16 a with
    | some n =>
      let idle := !s.ringOn n && !s.ringBusy n
      let t := overWord (s.rd a) 16 16 (s.ring n).lost
      some (putBits (putBits t 7 1 (bit s.paused)) 0 3 (bitAt 2 (s.halted n) + bitAt 1 idle + bit (s.ringOn n)))
    | none => match at1 (Reg.TUN_LEVEL 0) 0x10 16 a with
      | some n =>
        let q := (s.ring n).tundish
        let bytes := if hostToModule n then s.tunBytes n else (q.map OutPkt.bytes).sum
        some ((if hostToModule n then s.tunPackets n else q.length) * 2 ^ 16 + min 16384 ((bytes + 3) / 4))
      | none => none

/-- The transaction part (R104, R111). -/
def State.readTxn (s : State) (a : Nat) : Option Nat :=
  let stamp (k : Nat) : Nat := if (s.txn k).point = 3 then (s.txn k).stamp else 0
  if a = Reg.TXN_SUMMARY then
    some (maskBy 4 (fun k => (s.txn k).phase != .free) + bitAt 4 ((List.range 4).any fun k => (s.txn k).phase != .free && (s.txn k).online))
  else match at1 (Reg.TXN_STATE 0) 0x20 4 a, at1 (Reg.TXN_USE 0) 0x20 4 a, at1 (Reg.TXN_POINTS 0) 0x20 4 a, at1 (Reg.TXN_STAMPLO 0) 0x20 4 a,
      at1 (Reg.TXN_STAMPHI 0) 0x20 4 a with
    | some k, _, _, _, _ => some (if (s.txn k).phase == .free then 0 else (s.txn k).stateReg)
    | _, some k, _, _, _ => some (s.txn k).useReg
    | _, _, some k, _, _ => some (s.txn k).pointsReg
    | _, _, _, some k, _ => some (stamp k)
    | _, _, _, _, some k => some (stamp k / 2 ^ 32)
    | _, _, _, _, _ => none

/-- INPUT points of a quality now. -/
def State.inputsOf (s : State) (q : Nat) : Nat := ((List.range (2 ^ 25)).filter fun a => (s.info a).input && (s.pt a).quality == q).length

/-- Memory and crucible (R132, R152, R157, R162, R168). -/
def State.readPnt (s : State) (a : Nat) : Option Nat :=
  if a = Reg.PNT_FORCES then some ((s.forces.filter fun e => e.2.orphan).length * 2 ^ 16 + s.forces.length)
  else if a = Reg.PNT_SUBS then some s.subs.length
  else if a = Reg.PNT_SUBPTS then some (s.subs.map fun e => e.2.count).sum
  else if a = Reg.PNT_RETAIN then some s.cfg.retain.length
  else if a = Reg.PNT_QSTALE then some (s.inputsOf Q.stale)
  else if a = Reg.PNT_QABSENT then some (s.inputsOf Q.absent)
  else if a = Reg.PNT_BATCH then some s.batch
  else (at1 (Reg.MEM_BANK 0) 4 192 a).map fun b => putBits (overWord (s.rd a) 2 1 (bit (s.chillOk b))) 16 8 (min 255 (s.ce24 b))

/-- LDL_STATUS.STATE. -/
def LPhase.code : LPhase → Nat
  | .noProgram => 0 | .idle => 1 | .charging => 2 | .executing => 3 | .done => 4 | .cut => 5

/-- Ladles, cycle and lamp engine (R176, R223, R245, R249). -/
def State.readCyc (s : State) (a : Nat) : Option Nat :=
  let chans := s.cfg.lamp.lums.flatMap fun e => e.2.channels.map fun c => s.chan e.1 c
  let pour := match s.lamp.pours.head? with | some p => s.stampAt p.1 | none => 0
  if a = Reg.CYC_STATUS then
    let st := if s.role == .standby then 3 else if s.cyc.next.isNone then 0 else if s.cyc.held then 2 else 1
    some (overWord (s.rd a) 0 3 st)
  else if a = Reg.LMP_STATUS then
    let st := if !s.lampRuns then 0 else if s.leads then 1 else 2
    some (putBits (putBits (overWord (s.rd a) 4 3 s.emergSrc) 3 1 (bit s.lamp.emerg)) 0 2 st)
  else if a = Reg.LMP_CHANNELS then some (if s.lampRuns then chans.length else 0)
  else if a = Reg.LMP_FAULTS then some (chans.filter fun x => decide (5 ≤ x.status)).length
  else if a = Reg.LMP_UNVER then some (chans.filter fun x => x.status == 2).length
  else if a = Reg.LMP_POURLO then some pour
  else if a = Reg.LMP_POURHI then some (pour / 2 ^ 32)
  else (at1 (Reg.LDL_STATUS 0) 0x200 16 a).map fun n =>
    let x := s.ladle n
    putBits (putBits (overWord (s.rd a) 16 16 x.run.pc) 8 4 x.phase.code) 0 1 (bit x.prog.isSome)

/-- Trunk registers that show the port and its nodes (R259, R263, R268, R307). -/
def State.readTrunk (s : State) (a : Nat) : Option Nat :=
  let p := (a - 0x10000) / 0x400
  let nodes (f : Nat → Bool) : Option Nat := some (maskBy 32 fun i => f (32 * p + i))
  if a < 0x10000 || 0x20000 ≤ a then none
  else if a = Reg.TRK_STATUS p then
    let x := s.port p
    let heard := (x.heardAt.filter fun t => decide (s.now < t + 1000000)).length
    some (putBits (putBits (overWord (s.rd a) 4 6 (min 63 heard)) 3 1 (bit (s.portRole p == 0))) 0 2 (s.portRole p))
  else if a = Reg.TRK_PLCA p then some (overWord (s.rd a) 16 8 (s.plcaId p))
  else if a = Reg.TRK_GATESTAT p then
    let x := s.port p
    some (bitAt 31 x.fallback + (if x.fallback then 1 else x.gates.mult) % 128 * 2 ^ 16 + x.entry % 256 * 2 ^ 8)
  else if a = Reg.TRK_STALEMAP p then some (maskBy 32 fun i => decide (3 ≤ s.fld (Reg.TRK_NODEMISS p i) F.TRK_NODEMISS_CONSEC))
  else if a = Reg.TRK_CZNV2MAP p then nodes fun n => (s.cznNode n).version == 2
  else if a = Reg.TRK_CZNLOCKMAP p then nodes fun n => bitOf (s.cznNode n).flags 4
  else if a = Reg.TRK_CZNFALLMAP p then nodes fun n => bitOf (s.cznNode n).flags 3
  else if a = Reg.TRK_CZNSERVMAP p then nodes fun n => (s.cznNode n).state == 3
  else none

/-- Radio registers that show a channel (R331, R332, R337). -/
def State.readRadio (s : State) (a : Nat) : Option Nat :=
  let r := (a - 0x21000) / 0x400
  let minute := (s.radChan r).heard.filter fun e => decide (s.now < e.1 + secs 60)
  let states := (s.cfg.radio.onChan r).map fun e => (s.radNode e.n).state
  if a < 0x21000 || 0x22000 ≤ a then none
  else if a = Reg.RAD_DUTY r then some (overWord (s.rd a) 16 16 (s.radUsed r * 10000 / secs 3600))
  else if a = Reg.RAD_LOAD r then some (min 65535 ((minute.map (·.2)).sum * 1000 / secs 60) * 2 ^ 16 + min 65535 (minute.length * 16 / 60))
  else if a = Reg.RAD_NODES r then
    some ((states.filter (· == 3)).length * 2 ^ 16 + (states.filter fun x => decide (2 ≤ x ∧ x ≤ 5)).length)
  else none

/-- The frozen groups (R5, R479): group, first offset, registers. -/
def groupAt (a : Nat) : Option (RfGroup × Nat) :=
  if a = Reg.PNT_RDREC0 then some (.pnt, 0) else if a = Reg.PNT_RDREC1 then some (.pnt, 1) else if a = Reg.PNT_RDREC2 then some (.pnt, 2)
  else if a = Reg.PNT_RDREC3 then some (.pnt, 3)
  else if a = Reg.RTC_SUBSEC then some (.rtc, 0) else if a = Reg.RTC_UTC then some (.rtc, 1) else if a = Reg.RTC_DATE then some (.rtc, 2)
  else if a = Reg.RTC_CLOCK then some (.rtc, 3)
  else if a = Reg.TIM_MONOLO then some (.mono, 0) else if a = Reg.TIM_MONOHI then some (.mono, 1)
  else if a = Reg.TIM_WALLNS then some (.wall, 0) else if a = Reg.TIM_WALLSECLO then some (.wall, 1) else if a = Reg.TIM_WALLSECHI then some (.wall, 2)
  else if a = Reg.TIM_STAMPLO then some (.stamp, 0) else if a = Reg.TIM_STAMPHI then some (.stamp, 1)
  else none

/-- A register of a frozen group: its first is copied afresh at every read, the others show what `groupShown` says (R5, R154). -/
def State.readGroup (s : State) (a : Nat) : Option Nat :=
  (groupAt a).map fun g => ((if g.2 = 0 then s.groupWords g.1 else s.groupShown g.1).getD g.2 0).toNat

/-- The recorder (R400 to R407). -/
def State.readEvr (s : State) (a : Nat) : Option Nat :=
  let f := s.flash.events
  if a = Reg.EVR_STATUS then some (bitAt 2 (decide (evCapacity ≤ s.evr.buffer.length + s.evr.offered.length)) + bitAt 1 s.evr.fault + bit f.wrapped)
  else if a = Reg.EVR_NEWEST then some (subMod32 s.evr.next 1)
  else if a = Reg.EVR_OLDEST then some (match s.heldRecords.head? with | some r => r.seq | none => s.evr.next)
  else if a = Reg.EVR_FLASHED then some f.newest
  else if a = Reg.EVR_BUFLEVEL then some (s.evr.buffer.length + s.evr.offered.length)
  else if a = Reg.EVR_WINSTAT then some (bitAt 31 s.evr.winReady + (if s.evr.winReady then s.evr.window.length else 0))
  else if a = Reg.EVR_WINFIRST then some s.evr.winFirst
  else if a = Reg.EVR_DROPPED then some s.evr.dropTotal
  else if a = Reg.EVR_CLEARS then some f.clears
  else none

/-- Redundancy and keys (R411, R425, R443, R456). -/
def State.readKey (s : State) (a : Nat) : Option Nat :=
  if a = Reg.RDN_STATUS then some (overWord (s.rd a) 3 2 (bitAt 1 s.witSeen + bit s.peerSeen))
  else if a = Reg.RDN_ROTLEFT then some (match s.rotateAt with | some t => (t - s.now + 999999999) / secs 1 | none => 0)
  else match at1 (Reg.KEY_SLOT_ATTR 0) 4 256 a, at1 (Reg.KEY_ROOT_ATTR 0) 4 8 a, at1 (Reg.KEY_IDPUB 0) 4 16 a with
    | some k, _, _ => some (s.keySlot k).attr.toNat
    | _, some r, _ => some (s.keyRoot r).attr.toNat
    | _, _, some i => some (if s.lifeCycle = 3 then 0 else (Config.idPub i).toNat)
    | _, _, _ => none

/-- The BAR4 windows: the recorder's copy and the latest statement (R404, R458, R477). -/
def State.readWindow (s : State) (o : Nat) : Nat :=
  if o < 0x1000 then (if s.evr.winReady then fieldLe (s.evr.window.flatMap EvRec.bytes) o 4 else 0)
  else if 0x2000 ≤ o && o < 0x3000 then fieldLe (le 4 s.keys.statement.length ++ s.keys.statement) (o - 0x2000) 4
  else 0

/-- What a read of an offset returns: BAR0 below 0x40000, BAR2 at 0x40000, BAR4 at 0x50000. Reserved offsets and blocks that do not answer read 0
(R478, R480). -/
def State.readReg (s : State) (a : Nat) : Word :=
  if !s.answers a then 0
  else if 0x50000 ≤ a then BitVec.ofNat 32 (s.readWindow (a - 0x50000))
  else if (regRow? a).isNone || (decide (0x21000 ≤ a ∧ a < 0x22000) && s.ident.radios == 0) then 0
  else
    let derived := [s.readRing, s.readTxn, s.readPnt, s.readCyc, s.readTrunk, s.readRadio, s.readGroup, s.readEvr, s.readKey].findSome? fun f => f a
    match derived with | some v => BitVec.ofNat 32 v | none => s.rd a

/-- What a read of part of a register returns: the addressed bytes (R9). -/
def State.readPart (s : State) (a : Nat) (l : Lane) : List Byte := laneOf l (s.readReg a)

/-- What a command that is a register read returns of a read of part of the register; its effect is that of the whole (R9). -/
def State.rdBytes (s : State) (l : Lane) : List Byte := laneOf l (s.rdData.headD 0)

/-! ### Configuration space (R75) -/

/-- The items of configuration space that R75 fixes. -/
inductive CfgItem where
  | vendor | device | revision | classCode | subsystem | subsystemVendor | bar (k : Nat) | interruptPin | msixVectors | msixTable | msixPba | noSoftReset | aspm
  | functionReset | advancedErrors | extendedTags | maxPayload | outstandingReads | serialNumber
  deriving DecidableEq, Repr

/-- What configuration space reads for them (R75): identifiers, sizes in bytes, counts, or 1 and 0 for what is and is not supported. -/
def State.config (s : State) : CfgItem → Nat
  | .vendor => s.ident.vendor.toNat
  | .device => 0x00F7
  | .revision => s.ident.chipStep.toNat
  | .classCode => 0x118000
  | .subsystem => match s.ident.order with | .gf7_64r4_868 => 1 | .gf7_64r4_915 => 2 | .gf7_64r0 => 3
  | .subsystemVendor => s.ident.vendor.toNat
  | .bar k => if k = 0 then 256 * 1024 else if k = 2 ∨ k = 4 then 64 * 1024 else 0
  | .interruptPin => 0
  | .msixVectors => 32
  | .msixTable => msixEntry 0 0
  | .msixPba => Machine.msixPba
  | .noSoftReset => 1
  | .aspm => 0
  | .functionReset => 1
  | .advancedErrors => 1
  | .extendedTags => 1
  | .maxPayload => 512
  | .outstandingReads => 64
  | .serialNumber => s.rdN Reg.GLB_SERIAL1 * 2 ^ 32 + s.rdN Reg.GLB_SERIAL0

/-! ### The outputs (R49) -/

/-- The outputs of R49, with their numbers; the metering inputs are listed with them. -/
inductive Output where
  | trk (p : Nat) | pcieTx | mdi (g : Nat) | ant (r : Nat) | pulse (j : Nat) | uartTxd | vbak | modPrsnt | meterIn
  deriving DecidableEq, Repr

/-- What an output does, in the words of R49. -/
inductive OutLevel where
  | driver | highImpedance | active | electricalIdle | off | transmitterOff | perSchedule | noTransmission | perEnergyEngine | console | drivenHigh
  | chargerPerSetting | backupLoad | gnd | atLeast1MOhm
  deriving DecidableEq, Repr

/-- The module is powered: from VIN, or from its riser. -/
def State.powered (s : State) : Bool := s.sup.powerGood

/-- The transmitters of the field side are in their reset state: module reset, HALT, a dark module, or a start-up that has not yet settled the role (R49, R54, R56, R69). -/
def State.fieldOff (s : State) : Bool := s.linkOff || s.dark || !s.sup.roleSettled || s.defaulted || s.stage == 0xF

/-- Each output in the state that R49 gives it: running, in reset, or unpowered. -/
def State.output (s : State) (o : Output) : OutLevel :=
  match o with
  | .trk _ => if !s.powered || s.fieldOff then .highImpedance else .driver
  | .pcieTx => if !s.powered then .off else if s.linkOff then .electricalIdle else .active
  | .mdi g => if !s.powered then .off else if s.linkOff || s.stage == 0xF || !s.flag (Reg.ETH_CTL g) F.ETH_CTL_ENABLE then .transmitterOff else .active
  | .ant _ => if !s.powered || s.fieldOff then .noTransmission else .perSchedule
  | .pulse _ => if !s.powered || s.fieldOff then .off else .perEnergyEngine
  | .uartTxd => if !s.powered then .highImpedance else if s.linkOff || s.stage == 0xF then .drivenHigh else .console
  | .vbak => if !s.powered then .backupLoad else .chargerPerSetting
  | .modPrsnt => .gnd
  | .meterIn => .atLeast1MOhm

end Sys2Proof.Machine
end

