-- ==== Sys2Proof/Safety.lean ====
section
/-!
DEFINITION. The words in which claims are stated: a step that answers, an entry that reaches its opcode's own rules, what a completed or a waiting command leaves,
a ladle at an instruction, and the canonical form of the register map.
-/
namespace Sys2Proof.Machine

/-- The block is safe in a state: its next step stops with neither a fault nor a refusal. -/
def State.safe (s : State) : Prop := ∃ t, step s = .next t

/-- Every block of the module answers (R480): module reset has ended, PCIe is not in its reset state, stage 0x2 has completed, and there is neither HALT nor an activate pause. -/
def State.online (s : State) : Bool := !s.linkOff && s.sup.stage2 && !s.pausing && s.stage != 0xF

/-! ### Host commands -/

/-- The identity that the next entry of a ring's command gets (R100). -/
def State.tagOf (s : State) (o : OpSpec) (e : CmdEntry) : CmdTag := e.tag o.op (s.rdN (Reg.RNG_MODIDX e.ring))

/-- The state in which the rules of the opcode are applied: the entry has been taken from its ring, its command ID is open (R86, R98). -/
def State.taken (s : State) (e : CmdEntry) : State :=
  let t := s.takeEntry e.ring
  if e.cmdId = 0 then t else t.setRing e.ring { t.ring e.ring with openIds := e.cmdId :: (t.ring e.ring).openIds }

/-- The entry is taken and handed on at once (R55, R78, R85, R86, R90, R93), it passes the checks of R92, R98, R483 and R484 that precede its opcode's own rules, the
radios its ring needs are fitted (R2) and a transaction tag names an open transaction (R93). -/
def State.admits (s : State) (o : OpSpec) (e : CmdEntry) : Bool :=
  let t := s.takeEntry e.ring
  s.cur.isNone && s.takeOk e.ring && (t.heldOn e.ring).isEmpty && !(e.fence && t.ringBusy e.ring) && (entryCheck o e).isNone
    && (t.repeated (s.tagOf o e)).isNone && subsysReady o.op (s.taken e)
    && !((s.taken e).ident.radios == 0 && (e.ring == 8 || o.op / 256 == 9))
    && (e.txn == 0 || o.op == 0x0100 || ((s.taken e).txnOf e.txn.toNat).isSome)

/-- `t`, once the command has completed with a status, its results, flags and output payload (R96, R98, R100, R101). -/
def State.completed (s : State) (o : OpSpec) (e : CmdEntry) (status r0 r1 flags : Nat) (payload : List (Nat × List Byte)) (t : State) : State :=
  settle (s.tagOf o e) (.done status r0 r1 flags payload t)

/-- `t`, with the command waiting (R92). -/
def State.waiting (s : State) (o : OpSpec) (e : CmdEntry) (k : WaitKind) (t : State) : State :=
  { t with waits := t.waits ++ [{ tag := s.tagOf o e, kind := k }] }

/-- The state in which the rules of a ring 2 entry are applied: the entry has been taken, its command ID is open. -/
def State.pwrTaken (s : State) (e : PwrEntry) : State :=
  let t := s.takeEntry 2
  if e.cmdId = 0 then t else t.setRing 2 { t.ring 2 with openIds := e.cmdId :: (t.ring 2).openIds }

/-- The entry is taken from ring 2 and passes the first row of R155 and the command-ID record (R98), and the start-up stage admits it (R55). -/
def State.pwrAdmits (s : State) (e : PwrEntry) : Bool :=
  s.takeOk 2 && decide (e.address.toNat < 2 ^ 25) && (e.op.toNat == 1 || e.op.toNat == 2) && decide (bitsOf e.typeQuality.toNat 4 4 ≤ 5)
    && bitsOf e.flags.toNat 1 7 == 0 && allZero e.resv && ((s.takeEntry 2).repeated (pwrTag e (s.rdN (Reg.RNG_MODIDX 2)))).isNone
    && (s.pwrTaken e).sup.roleSettled

/-! ### Ladles -/

/-- The working state that instruction `i` of ladle `n` finds: the counter has moved on, its cost is counted (R194). -/
def State.ladleAt (s : State) (n : Nat) (i : LIns) : LRun :=
  { (s.ladle n).run with pc := (s.ladle n).run.pc + 1, units := (s.ladle n).run.units + i.cost }

/-- The state with working state `r` of ladle `n`. -/
def State.ladleRan (s : State) (n : Nat) (r : LRun) : State := s.setLadle n { s.ladle n with run := r }

/-! ### Canonical forms -/

/-- The register map is in its canonical form. -/
def State.regsWf (s : State) : Bool := mapWf (regDefault s.ident) s.regs

end Sys2Proof.Machine
end

