-- ==== Sys2Proof/WellFormed.lean ====
section
/-!
DEFINITION. Which command terms are well formed: lengths of the fixed fields of entries, numbers within the module's counts, ladle fields within their widths.
Nothing here is a check the module makes: what it refuses, a meaning refuses.
-/
set_option linter.unusedVariables false
namespace Sys2Proof
open Machine

/-- A command entry as R90 lays it out: one of the command rings, 40 parameter bytes, a buffer no longer than its length says. -/
def CmdEntry.wf (e : CmdEntry) : Bool :=
  [0, 8, 10, 11, 12, 14, 15].contains e.ring && e.params.length == 40 && decide (e.buf.length ≤ e.bufLen.toNat)

/-- A point write entry as R91 lays it out. -/
def PwrEntry.wf (e : PwrEntry) : Bool := e.resv.length == 15

/-- A frame at one of the 64 trunk ports, from a node ID of a byte. -/
def TrunkFrame.wf (f : TrunkFrame) : Bool := decide (f.port < 64) && decide (f.plcaId < 256)

/-- The receive buffer of a gigabit port holds 64 KiB (R273). -/
def EthFrame.wf (f : EthFrame) : Bool := decide (f.level ≤ 65536)

/-- A PSDU at one of the four radios; its level is a 16-bit code, its length fits the PHR. -/
def RadioFrame.wf (f : RadioFrame) : Bool := decide (f.chan < 4) && decide (f.rssi < 2 ^ 16) && decide (f.psdu.length < 2 ^ 11)

/-- Tundishes are 16, logical banks 192. -/
def BurstErr.wf : BurstErr → Bool
  | .none buf => decide (buf.1 < 2 ^ 64) && decide (buf.2 ≤ 65536)
  | .pointer n => decide (n < 16)
  | .uncorrectable bank addr entry => decide (bank < 192) && decide (addr < 2 ^ 32) && entry.all (·.2.wf)
  | .corrected bank => decide (bank < 192)
  | .dram addr _ => decide (addr < 2 ^ 32)

/-- A region of 1 KiB is 256 words. -/
def FettleEnd.wf : FettleEnd → Bool
  | .passed => true
  | .aborted => true
  | .faulted off _ _ => decide (off < 256)

/-- Is the command term well formed? -/
def Instr.wf : Instr → Bool
  | .powerGood _ => true
  | .vcoreReady _ _ => true
  | .powerFailWarning _ _ => true
  | .vinRestored _ => true
  | .riserExhausted _ => true
  | .unitSelChange _ => true
  | .maintNChange _ => true
  | .emergNChange _ => true
  | .thermalEbb _ => true
  | .thermalEbbRelease _ => true
  | .thermalHold _ => true
  | .thermalRestart _ => true
  | .paceSample _ _ _ _ _ => true
  | .glbVstateWrite _ => true
  | .busMasterEnableChange _ _ => true
  | .funcReset _ => true
  | .msixUnmask _ vector => decide (vector < 32)
  | .registerWrite addr size _ => decide (addr < 2 ^ 24) && ([1, 2, 4, 8].contains size)
  | .rfGroupFreeze _ => true
  | .rfGroupEnd _ => true
  | .ldlMaxnsRead n => decide (n < 16)
  | .hifVersionSelectWrite _ => true
  | .ringCfgWrite n _ => decide (n < 16)
  | .doorbellWrite n _ => decide (n < 16)
  | .runnerBurst err => err.wf
  | .runnerReadFail n cause offset entry => decide (n < 16) && decide (cause < 2 ^ 8) && decide (offset < 2 ^ 16 + 1) && (entry.all fun x => x.2.wf)
  | .dmaCtlResume n => decide (n < 16)
  | .tunCtlFlush n => decide (n < 16)
  | .tundishFlushApply n => decide (n < 16)
  | .writebackTimer n => decide (n < 16)
  | .unknownOpcode _ e => e.wf
  | .nop e => e.wf
  | .echo e => e.wf
  | .cancel e => e.wf
  | .sync e => e.wf
  | .txnOpen e => e.wf
  | .txnCommit e => e.wf
  | .txnAbort e => e.wf
  | .txnRegwr e => e.wf
  | .txnQuery e => e.wf
  | .txnApply slot => decide (slot < 4)
  | .txnIdleTimeout slot => decide (slot < 4)
  | .txnWaitTimeout slot => decide (slot < 4)
  | .tunFlush e => e.wf
  | .runnerResume e => e.wf
  | .write e => e.wf
  | .writeQuality e => e.wf
  | .pntRead e => e.wf
  | .pntReadList e => e.wf
  | .pntForce e => e.wf
  | .pntUnforce e => e.wf
  | .pntForceList e => e.wf
  | .pntSubscribe e => e.wf
  | .pntUnsubscribe e => e.wf
  | .nodeHoldExpiry n => decide (n < 2048)
  | .ldlLoad e => e.wf
  | .ldlUnload e => e.wf
  | .ldlTable e => e.wf
  | .ldlTableIdleApply n => decide (n < 16)
  | .ldlState e => e.wf
  | .liLd n b off m => decide (n < 16) && (LIns.wf (.pt .ld b off m))
  | .liAnd n b off m => decide (n < 16) && (LIns.wf (.pt .and_ b off m))
  | .liOr n b off m => decide (n < 16) && (LIns.wf (.pt .or_ b off m))
  | .liXor n b off m => decide (n < 16) && (LIns.wf (.pt .xor_ b off m))
  | .liSt n b off m => decide (n < 16) && (LIns.wf (.pt .st b off m))
  | .liSet n b off m => decide (n < 16) && (LIns.wf (.pt .set b off m))
  | .liRst n b off m => decide (n < 16) && (LIns.wf (.pt .rst b off m))
  | .liLdq n b off m => decide (n < 16) && (LIns.wf (.pt .ldq b off m))
  | .liLaop n k => decide (n < 16) && (LIns.wf (.laop k))
  | .liBopen n => decide (n < 16) && (LIns.wf (.z .bopen))
  | .liBand n => decide (n < 16) && (LIns.wf (.z .band))
  | .liBor n => decide (n < 16) && (LIns.wf (.z .bor))
  | .liBpeek n => decide (n < 16) && (LIns.wf (.z .bpeek))
  | .liBdrop n => decide (n < 16) && (LIns.wf (.z .bdrop))
  | .liEdge n k b m => decide (n < 16) && (LIns.wf (.inst .edge k b m))
  | .liTmr n k b m => decide (n < 16) && (LIns.wf (.inst .tmr k b m))
  | .liCtu n k b m => decide (n < 16) && (LIns.wf (.inst .ctu k b m))
  | .liCtd n k b m => decide (n < 16) && (LIns.wf (.inst .ctd k b m))
  | .liTcr n k b m => decide (n < 16) && (LIns.wf (.inst .tcr k b m))
  | .liTcld n k b m => decide (n < 16) && (LIns.wf (.inst .tcld k b m))
  | .liLdm n k b m => decide (n < 16) && (LIns.wf (.inst .ldm k b m))
  | .liStm n k b m => decide (n < 16) && (LIns.wf (.inst .stm k b m))
  | .liLdw n b off m => decide (n < 16) && (LIns.wf (.pt .ldw b off m))
  | .liStw n b off m => decide (n < 16) && (LIns.wf (.pt .stw b off m))
  | .liQld n b off m => decide (n < 16) && (LIns.wf (.pt .qld b off m))
  | .liWbit n dir k => decide (n < 16) && (LIns.wf (.wbit dir k))
  | .liLdi n imm => decide (n < 16) && (LIns.wf (.ldi imm))
  | .liLdih n imm => decide (n < 16) && (LIns.wf (.ldih imm))
  | .liMov n dir w => decide (n < 16) && (LIns.wf (.mov dir w))
  | .liSel n w => decide (n < 16) && (LIns.wf (.sel w))
  | .liAlu n fn w => decide (n < 16) && (LIns.wf (.alu fn w))
  | .liAlui n fn imm => decide (n < 16) && (LIns.wf (.alui fn imm))
  | .liFpu n fn w => decide (n < 16) && (LIns.wf (.fpu fn w))
  | .liCmp n cond comb w => decide (n < 16) && (LIns.wf (.cmp cond comb w))
  | .liCmpi n cond comb imm => decide (n < 16) && (LIns.wf (.cmpi cond comb imm))
  | .liTbl n mode base => decide (n < 16) && (LIns.wf (.tbl mode base))
  | .liJmp n cond target => decide (n < 16) && (LIns.wf (.jmp cond target))
  | .liCall n cond target => decide (n < 16) && (LIns.wf (.call cond target))
  | .liRet n => decide (n < 16) && (LIns.wf (.z .ret))
  | .liLoop n b w count => decide (n < 16) && (LIns.wf (.loop b w count))
  | .liEndl n => decide (n < 16) && (LIns.wf (.z .endl))
  | .liBrk n => decide (n < 16) && (LIns.wf (.z .brk))
  | .liSetb n b range window => decide (n < 16) && (LIns.wf (.setb b range window))
  | .liBidx n b mode imm => decide (n < 16) && (LIns.wf (.bidx b mode imm))
  | .liBld n b => decide (n < 16) && (LIns.wf (.bld b))
  | .liLcall n fn wt wf => decide (n < 16) && (LIns.wf (.lcall fn wt wf))
  | .liNop n => decide (n < 16) && (LIns.wf (.z .nop))
  | .liEnd n => decide (n < 16) && (LIns.wf (.z .fin))
  | .chargeEnd n => decide (n < 16)
  | .cycSetup e => e.wf
  | .cycSched e => e.wf
  | .cycHold e => e.wf
  | .cycRelease e => e.wf
  | .lampEvaluationEnd _ => true
  | .lmpEmerg e => e.wf
  | .lmpProbe e => e.wf
  | .lmpRecord e => e.wf
  | .lmpChstate e => e.wf
  | .lmpCtlEmergSw _ => true
  | .lmpTickWrite _ => true
  | .gateEntryStart p => decide (p < 64)
  | .trunkFrameReceived f => f.wf
  | .foreignBeacon p => decide (p < 64)
  | .coordinatorListenEnd p => decide (p < 64)
  | .seedingListenEnd p => decide (p < 64)
  | .rollCallCycleEnd p => decide (p < 64)
  | .trkSend e => e.wf
  | .trkSendTimeout p => decide (p < 64)
  | .trkPort e => e.wf
  | .trkGates e => e.wf
  | .gatectlWrite p entry _ => decide (p < 64) && entry.all (fun e => decide (e < 64))
  | .pauseFrameReceived g quanta => decide (g < 2) && decide (quanta < 2 ^ 16)
  | .linkChange g _ => decide (g < 2)
  | .hello f => f.wf
  | .ack f => f.wf
  | .report f => f.wf
  | .delayReq f => f.wf
  | .retransmitTimeout n => decide (n < 2048)
  | .cznNode e => e.wf
  | .cznReseat e => e.wf
  | .cznReseatTimeout n => decide (n < 2048)
  | .cznRekey e => e.wf
  | .cznNodetable e => e.wf
  | .radioFrameReceived f => f.wf
  | .radioAdmissionTimeout n => decide (n < 8192)
  | .beaconInstant receiving => decide (receiving < 16)
  | .listenWindow n => decide (n < 8192)
  | .standbyBeaconMiss r => decide (r < 4)
  | .radioNodeStale n => decide (n < 8192)
  | .radioNodeAbsent n => decide (n < 8192)
  | .radNode e => e.wf
  | .radWake e => e.wf
  | .radWakeTimeout n => decide (n < 8192)
  | .radNodetable e => e.wf
  | .radChannel e => e.wf
  | .radDutyWrite r limit => decide (r < 4) && decide (limit < 2 ^ 16)
  | .timIncrloWrite _ => true
  | .timIncrhiWrite _ => true
  | .timStep e => e.wf
  | .timSetincr e => e.wf
  | .timLeap e => e.wf
  | .ptpMessage port m => decide (port < 2) && m.frame.wf
  | .periodicFire k => decide (k < 4)
  | .trimMeasurementEnd _ => true
  | .rtcStgWrite _ _ => true
  | .rtcSet e => e.wf
  | .rtcFromWall e => e.wf
  | .rtcAlarm e => e.wf
  | .rtcPeriodic e => e.wf
  | .rtcCharger e => e.wf
  | .rtcSettrim e => e.wf
  | .meterSample c f clip u => (c.length == 32) && (f.length == 32) && decide (clip < 2 ^ 32) && (u.length == 4)
  | .pulseEnd j => decide (j < 8)
  | .windowEnd v _ => decide (v < 4)
  | .mtrArchive e => e.wf
  | .mtrClose e => e.wf
  | .mtrCaldata e => e.wf
  | .mtrPreset e => e.wf
  | .evrFlashWrite _ => true
  | .evrCursorWrite _ => true
  | .evrSync e => e.wf
  | .evrClear e => e.wf
  | .evrRead e => e.wf
  | .peerBeacon f => f.wf
  | .delta f => f.wf
  | .deltaAck f => f.wf
  | .seedReq f => f.wf
  | .seed f => f.wf
  | .handover f => f.wf
  | .ready f => f.wf
  | .confirm f => f.wf
  | .yield_ f => f.wf
  | .health f => f.wf
  | .grant f => f.wf
  | .deny f => f.wf
  | .status f => f.wf
  | .notice f => f.wf
  | .revoke f => f.wf
  | .heartbeat f => f.wf
  | .request f => f.wf
  | .vote f => f.wf
  | .witnessStartHoldEnd _ => true
  | .witnessStatusDue _ => true
  | .rdnRotate e => e.wf
  | .rdnYield e => e.wf
  | .rdnReseed e => e.wf
  | .keySlotSet e => e.wf
  | .keySlotClear e => e.wf
  | .keyRootSet e => e.wf
  | .keyAttest e => e.wf
  | .keyIdcert e => e.wf
  | .keyNodekey e => e.wf
  | .keyWrgo _ => true
  | .keyModeWrite _ => true
  | .keyCznsrcWrite _ => true
  | .keySendDelayEnd slot => decide (slot < 256)
  | .oldKeyGraceEnd slot => decide (slot < 256)
  | .keyLcreqWrite _ => true
  | .ownerLockWrite _ => true
  | .patBegin e => e.wf
  | .patBlock e => e.wf
  | .patQuery e => e.wf
  | .patVerify e => e.wf
  | .patActivate e => e.wf
  | .patConfirm e => e.wf
  | .patHaltgo _ => true
  | .haltRecoveryDone _ => true
  | .fettleRegionEnd r => r.wf
  | .bankRemapDone b cause => decide (b < 192) && decide (cause < 4)
  | .memBankChillWrite b _ => decide (b < 192)
  | .memFettleWrite _ => true
  | .pauseQuantaEnd g => decide (g < 2)
  | .ptpSyncInterval port => decide (port < 2)
  | .pcieLinkTrained width speed => ([1, 2, 4].contains width) && ([1, 2, 3].contains speed)
  | .perstAssert => true
  | .perstRelease => true
  | .stagePattern => true
  | .stageMemory => true
  | .stageConfig => true
  | .stageRestore => true
  | .stageRole => true
  | .roleSettled => true
  | .stageRun => true
  | .cfgCopyRewrite => true
  | .flushBegin => true
  | .flushDone => true
  | .serviceResume => true
  | .backupLost => true
  | .ebbRampEnd => true
  | .pntRdrec0Read => true
  | .rtcSubsecRead => true
  | .glbPaceRead => true
  | .lmpEvalRead => true
  | .changeNoticePost => true
  | .cycleBoundary => true
  | .commitDeadline => true
  | .tickBoundary => true
  | .pour => true
  | .lumRunWrite => true
  | .timeFrameDue => true
  | .keyAnnounce => true
  | .generationGraceEnd => true
  | .timStepGo => true
  | .holdoverEntry => true
  | .calendarSecond => true
  | .calendarFollow => true
  | .leapSecond => true
  | .rtcCommitGo => true
  | .rtcCommitFromWall => true
  | .calendarStep => true
  | .chargerFault => true
  | .accumulatorWrite => true
  | .intervalBoundary => true
  | .intervalRecord => true
  | .evrWinctlNext => true
  | .evrWindowReady => true
  | .evsDelivery => true
  | .peerBeaconDue => true
  | .healthDue => true
  | .witnessHoldingEnd => true
  | .peerLoss => true
  | .isolated => true
  | .seedingPeerListenEnd => true
  | .witnessNoAnswer => true
  | .requestRepeat => true
  | .rotationDue => true
  | .handoverTick => true
  | .handoverDeltaTimeout => true
  | .confirmTimeout => true
  | .statementSigned => true
  | .lcZeroise => true
  | .lcTransitionEnd => true
  | .activatePauseStart => true
  | .activatePauseEnd => true
  | .trialTimeout => true
  | .fettleRegionStart => true
  | .riserOk => true
  | .wallClockHour => true

end Sys2Proof
end

