-- ==== Sys2Proof/Certificates/Slice0/Obligations.lean ====
section
/-!
DEFINITION. The statements about the module for the provers. Each docstring cites the rule of the spec that it formalises, or says that it is the model's own.
-/
set_option linter.unusedVariables false
open Sys2Proof Sys2Proof.Machine

/-! ### The block -/

/-- The step takes the command at the front of the queue and runs it on the state with the rest of the queue. -/
def Obligations.StepRunsFrontCommand : Prop :=
  ∀ (c : Instr) (rest : List Instr) (s : State), s.pending = c :: rest → step s = exec c { s with pending := rest }

/-- With no command waiting: a packet that its tundish may release runs its command; else one tick of the reference passes (log entries 3 and 4). -/
def Obligations.StepOfEmptyQueue : Prop :=
  ∀ s : State, s.pending = [] →
    (∀ h : Held, s.releasable = some h → step s = exec h.cmd { s with held := s.held.filter (fun x => x ≠ h), cur := some h }) ∧
    (s.releasable = none → step s = .next s.tick)

/-- No command of the block ends in a fault or a refusal: every command answers a next state in every state, and so does every step. -/
def Obligations.EveryCommandAnswers : Prop :=
  (∀ (c : Instr) (s : State), ∃ t : State, exec c s = .next t) ∧ ∀ s : State, s.safe

/-- Whatever a step does, the register map keeps its canonical form, so that equal register contents are equal data, and the identity of the module stays. -/
def Obligations.StepKeepsRegisterMap : Prop :=
  ∀ s t : State, s.regsWf = true → step s = .next t → t.regsWf = true ∧ t.ident = s.ident

/-- One tick of the reference (R342, R343): outside module reset the monotonic base advances by the increment in effect, which is the one that waited if one
did; in module reset it stands at 0; it never runs backward outside module reset. -/
def Obligations.TickAdvancesMonotonicBase : Prop :=
  ∀ s : State,
    (s.tick.clock.incr = s.clock.incrNext.getD s.clock.incr) ∧ s.tick.clock.incrNext = none ∧
    (s.sup.inReset = false → s.tick.clock.mono = s.clock.mono + s.tick.clock.incr ∧ s.clock.mono ≤ s.tick.clock.mono) ∧
    (s.sup.inReset = true → s.tick.clock.mono = 0)

/-- The state after reset: module reset holds, every register reads its reset value, nothing is queued, and the register map is canonical. The values where
the spec gives none are those of log entry 1. -/
def Obligations.ResetState : Prop :=
  State.reset.pending = [] ∧ State.reset.sup.inReset = true ∧ State.reset.role = .seeding ∧ State.reset.clock.mono = 0 ∧ State.reset.clock.incr = 40 * 2 ^ 32 ∧
  State.reset.stage = 1 ∧ State.reset.regsWf = true ∧ (∀ a : Nat, State.reset.rd a = regDefault State.reset.ident a) ∧ (∀ a : Nat, State.reset.answers a = false)

/-! ### Registers -/

/-- R5: a write stores the writable bits, a written 1 clears a write-one-to-clear bit, every other bit stands. -/
def Obligations.AccessCodes : Prop :=
  ∀ (r : RegRow) (old v : Word) (i : Nat), r.rw &&& r.wc = 0 → i < 32 →
    (plainWrite r old v).getLsbD i =
      if (r.rw).testBit i then v.getLsbD i else if (r.wc).testBit i then old.getLsbD i && !v.getLsbD i else old.getLsbD i

/-- REGISTER_WRITE: a write of a register without effects of its own, that no open transaction holds, leaves what its access codes say, and every other register
stands; a write that is no aligned word, or of a block that does not answer, changes nothing (R5, R9, R480). The two configuration words of R75 and R82 stand at
numbers of the model's own (log entry 43). -/
def Obligations.RegisterWrite : Prop :=
  ∀ (s : State) (a : Nat) (v : Word),
    (∀ r : RegRow, s.answers a = true → a % 4 = 0 → regRow? a = some r → (a < 0x21000 ∨ 0x22000 ≤ a ∨ s.ident.radios ≠ 0) →
      s.writeLow a v = none → s.writeMid a v = none → s.writeHigh a v = none → (∀ k, k < 4 → (s.txn k).phase = .free) →
      ∃ t, exec (.registerWrite a 4 v) s = .next t ∧ t.rd a = plainWrite r (s.rd a) v ∧ (∀ b, b ≠ a → t.rd b = s.rd b) ∧ { t with regs := s.regs } = s) ∧
    (∀ size : Nat, (s.answers a = false ∧ a < cfgSpace) ∨ (s.linkOff = true ∧ cfgSpace ≤ a) ∨ size ≠ 4 ∨ a % 4 ≠ 0 → exec (.registerWrite a size v) s = .next s) ∧
    (s.linkOff = false → exec (.registerWrite cfgSpace 4 v) s = .next (s.writeDevCtl v) ∧ exec (.registerWrite (cfgSpace + 4) 4 v) s = .next (s.writeMsixCtl v))

/-- The reads with effects: GLB_PACE reloads PACE_MIN with PACE, LMP_EVAL and LDL[n]_MAXNS fall to 0 (R479); each returns what stood there.
The frozen groups: a read of the first register freezes the group, one of the last ends it (R5, R154, R355). -/
def Obligations.ReadsWithEffects : Prop :=
  (∀ s : State,
    (s.answers Reg.GLB_PACE = true → ∃ t, exec .glbPaceRead s = .next t ∧ t.rdData = [s.rd Reg.GLB_PACE] ∧
      t.fld Reg.GLB_PACE F.GLB_PACE_PACE_MIN = s.fld Reg.GLB_PACE F.GLB_PACE_PACE ∧ t.fld Reg.GLB_PACE F.GLB_PACE_PACE = s.fld Reg.GLB_PACE F.GLB_PACE_PACE ∧
      (∀ b, b ≠ Reg.GLB_PACE → t.rd b = s.rd b) ∧ { t with regs := s.regs, rdData := s.rdData } = s) ∧
    (s.answers Reg.LMP_EVAL = true → ∃ t, exec .lmpEvalRead s = .next t ∧ t.rdData = [s.rd Reg.LMP_EVAL] ∧
      t.fld Reg.LMP_EVAL F.LMP_EVAL_MAX_US = 0 ∧ (∀ b, b ≠ Reg.LMP_EVAL → t.rd b = s.rd b) ∧ { t with regs := s.regs, rdData := s.rdData } = s) ∧
    (∀ n, n < 16 → s.answers (Reg.LDL_MAXNS n) = true → ∃ t, exec (.ldlMaxnsRead n) s = .next t ∧ t.rdData = [s.rd (Reg.LDL_MAXNS n)] ∧
      t.rd (Reg.LDL_MAXNS n) = 0 ∧ (∀ b, b ≠ Reg.LDL_MAXNS n → t.rd b = s.rd b) ∧ { t with regs := s.regs, rdData := s.rdData } = s)) ∧
  (∀ s : State,
    (∀ g, exec (.rfGroupFreeze g) s = .next (s.freeze g)) ∧ exec .pntRdrec0Read s = .next (s.freeze .pnt) ∧ exec .rtcSubsecRead s = .next (s.freeze .rtc) ∧
    (∀ g, s.answers (groupBlock g) = true → ∃ t, exec (.rfGroupEnd g) s = .next t ∧ t.shadows.get g = none ∧
      t.rdData = ((s.groupShown g).getLast?).toList ∧ t.points = s.points ∧ t.cal = s.cal ∧ t.clock = s.clock) ∧
    (∀ g, s.answers (groupBlock g) = true → ∃ t, exec (.rfGroupFreeze g) s = .next t ∧ t.shadows.get g = some (s.groupWords g) ∧ t.points = s.points ∧
      t.cal = s.cal ∧ t.clock = s.clock))

/-- The commands that are writes of one register complete wherever the register's block answers (R5, R480), held by a transaction or not: the write dooms a transaction that
holds the register (R110) and then does what a write of that register does; where the block does not answer, nothing happens. What each then leaves, with no transaction
open: the core voltage heads for what GLB_VSTATE asks (R60); a ring takes its configuration, is enabled where its setup holds, or is disabled (R84, R85); a doorbell moves
the host index, is held until READY, or is refused by name (R86, R87); the runner is released (R123), a flush stands (R127), and so on through the memory, lamp, trunk, radio,
time, calendar, recorder and key registers (R132, R215, R229, R268, R332, R343, R344, R356, R404, R442, R447, R453, R455). -/
def Obligations.RegisterCommands : Prop :=
  (∀ s : State,
    ((∀ k, k < 4 → (s.txn k).phase = .free) → ∀ a, s.doomReg a = s) ∧
    (s.answers Reg.GLB_VSTATE = true → ∀ v, exec (.glbVstateWrite v) s = .next ((s.doomReg Reg.GLB_VSTATE).requestEbb (bitOf v.toNat 0))) ∧
    (s.answers Reg.HIF_VERSION = true → ∀ v, exec (.hifVersionSelectWrite v) s = .next ((s.doomReg Reg.HIF_VERSION).writeVersion v)) ∧
    (∀ n, n < 16 → s.answers (Reg.RNG_CFG n) = true → ∀ v, exec (.ringCfgWrite n v) s = .next ((s.doomReg (Reg.RNG_CFG n)).writeRingCfg n v)) ∧
    (∀ n, n < 16 → s.answers (Reg.DBL_INDEX n) = true → ∀ v, exec (.doorbellWrite n v) s = .next ((s.doomReg (Reg.DBL_INDEX n)).writeDoorbell n v)) ∧
    (∀ n, n < 16 → s.answers (Reg.DMA_CTL n) = true → exec (.dmaCtlResume n) s = .next ((s.doomReg (Reg.DMA_CTL n)).resumeRunner n)) ∧
    (∀ n, n < 16 → s.answers (Reg.TUN_CTL n) = true → exec (.tunCtlFlush n) s = .next ((s.doomReg (Reg.TUN_CTL n)).requestFlush n)) ∧
    (s.answers Reg.MEM_FETTLE = true → ∀ v, exec (.memFettleWrite v) s = .next ((s.doomReg Reg.MEM_FETTLE).writeFettle v)) ∧
    (∀ b on, b < 192 → s.answers (Reg.MEM_BANK b) = true → (s.doomReg (Reg.MEM_BANK b)).flag (Reg.MEM_BANK b) F.MEM_BANK_CHILL ≠ on →
      exec (.memBankChillWrite b on) s = .next ((s.doomReg (Reg.MEM_BANK b)).writeChill b on)) ∧
    (s.answers Reg.LMP_TICK = true → ∀ v, exec (.lmpTickWrite v) s = .next ((s.doomReg Reg.LMP_TICK).writeTick (F.LMP_TICK_MS.get v))) ∧
    (∀ p, p < 64 → s.answers (Reg.TRK_GATECTL p) = true → ∀ v, exec (.gatectlWrite p none v) s = .next ((s.doomReg (Reg.TRK_GATECTL p)).writeGatectl p none v)) ∧
    (∀ p e, p < 64 → e < 64 → s.answers (Reg.TRK_GATE p e) = true → ∀ v,
      exec (.gatectlWrite p (some e) v) s = .next ((s.doomReg (Reg.TRK_GATE p e)).writeGatectl p (some e) v)) ∧
    (∀ r l, r < 4 → l < 2 ^ 16 → s.ident.radios ≠ 0 → s.answers (Reg.RAD_DUTY r) = true →
      exec (.radDutyWrite r l) s = .next ((s.doomReg (Reg.RAD_DUTY r)).writeDuty r l)) ∧
    (s.answers Reg.TIM_INCRLO = true → ∀ v, exec (.timIncrloWrite v) s = .next ((s.doomReg Reg.TIM_INCRLO).wr Reg.TIM_INCRLO v)) ∧
    (s.answers Reg.TIM_INCRHI = true → ∀ v, exec (.timIncrhiWrite v) s = .next ((s.doomReg Reg.TIM_INCRHI).writeIncrHi v)) ∧
    (s.answers Reg.TIM_STEP = true → exec .timStepGo s = .next (s.doomReg Reg.TIM_STEP).goStep) ∧
    (s.answers Reg.RTC_STG_UTC = true → ∀ v, exec (.rtcStgWrite false v) s = .next ((s.doomReg Reg.RTC_STG_UTC).stageTime false v)) ∧
    (s.answers Reg.RTC_STG_SUBSEC = true → ∀ v, exec (.rtcStgWrite true v) s = .next ((s.doomReg Reg.RTC_STG_SUBSEC).stageTime true v)) ∧
    (s.answers Reg.RTC_COMMIT = true → exec .rtcCommitGo s = .next (s.doomReg Reg.RTC_COMMIT).askGo ∧
      exec .rtcCommitFromWall s = .next (s.doomReg Reg.RTC_COMMIT).commitFromWall) ∧
    (s.answers Reg.EVR_CURSOR = true → ∀ v, exec (.evrCursorWrite v) s = .next (((s.doomReg Reg.EVR_CURSOR).wr Reg.EVR_CURSOR v).startWindow v.toNat)) ∧
    (s.answers Reg.EVR_WINCTL = true → exec .evrWinctlNext s = .next (s.doomReg Reg.EVR_WINCTL).nextWindow) ∧
    (s.answers Reg.KEY_WRGO = true → ∀ v, exec (.keyWrgo v) s = .next (if bitOf v.toNat 0 then (s.doomReg Reg.KEY_WRGO).keyGo else s.doomReg Reg.KEY_WRGO)) ∧
    (s.answers Reg.KEY_MODE = true → ∀ v, exec (.keyModeWrite v) s = .next ((s.doomReg Reg.KEY_MODE).writeKeyMode v)) ∧
    (s.answers Reg.KEY_CZNSRC = true → ∀ v, exec (.keyCznsrcWrite v) s = .next ((s.doomReg Reg.KEY_CZNSRC).writeCznSrc v)) ∧
    (s.answers Reg.KEY_LCREQ = true → ∀ v, exec (.keyLcreqWrite v) s = .next ((s.doomReg Reg.KEY_LCREQ).writeLcReq v)) ∧
    (s.answers Reg.KEY_LC = true → ∀ v, exec (.ownerLockWrite v) s = .next ((s.doomReg Reg.KEY_LC).writeOwnerLock v)) ∧
    (s.linkOff = true → (∀ v, exec (.glbVstateWrite v) s = .next s) ∧ (∀ n v, exec (.ringCfgWrite n v) s = .next s ∧ exec (.doorbellWrite n v) s = .next s) ∧
      (∀ n, exec (.dmaCtlResume n) s = .next s ∧ exec (.tunCtlFlush n) s = .next s) ∧ exec .timStepGo s = .next s ∧ exec .rtcCommitGo s = .next s)) ∧
  (∀ s : State, (∀ k, k < 4 → (s.txn k).phase = .free) →
    (∀ v, s.answers Reg.GLB_VSTATE = true → ∃ t, exec (.glbVstateWrite v) s = .next t ∧ t.flag Reg.GLB_VSTATE F.GLB_VSTATE_EBB = bitOf v.toNat 0 ∧
      (s.flag Reg.GLB_STATUS F.GLB_STATUS_FORCED_EBB = true → t.sup = s.sup) ∧
      (s.flag Reg.GLB_STATUS F.GLB_STATUS_FORCED_EBB = false → t.sup.ramp.getD (t.flag Reg.GLB_STATUS F.GLB_STATUS_EBB) = bitOf v.toNat 0)) ∧
    (∀ n v, n < 16 → s.answers (Reg.RNG_CFG n) = true → s.ringOn n = false → F.RNG_CFG_ENABLE.get v = 0 → ∃ t, exec (.ringCfgWrite n v) s = .next t ∧
      t.ringOn n = false ∧ t.fld (Reg.RNG_CFG n) F.RNG_CFG_SIZE = F.RNG_CFG_SIZE.get v ∧ t.fld (Reg.RNG_CFG n) F.RNG_CFG_VECTOR = F.RNG_CFG_VECTOR.get v ∧
      t.fld (Reg.RNG_CFG n) F.RNG_CFG_IRQ_EN = F.RNG_CFG_IRQ_EN.get v ∧ (∀ b, b ≠ Reg.RNG_CFG n → t.rd b = s.rd b)) ∧
    (∀ n v, n < 16 → s.answers (Reg.RNG_CFG n) = true → s.ringOn n = false → F.RNG_CFG_ENABLE.get v = 1 →
      let u := s.writeRingCfg n (F.RNG_CFG_ENABLE.set v 0)
      ∃ t, exec (.ringCfgWrite n v) s = .next t ∧ t.ringOn n = u.setupOk n ∧
        (u.setupOk n = true → t.rdN (Reg.RNG_HOSTIDX n) = 0 ∧ t.rdN (Reg.RNG_MODIDX n) = 0 ∧ t.halted n = false) ∧
        (u.setupOk n = false → t.flag (Reg.RNG_STATUS n) F.RNG_STATUS_BAD_SETUP = true)) ∧
    (∀ n v, n < 16 → s.answers (Reg.DBL_INDEX n) = true → s.flag Reg.HIF_STATUS F.HIF_STATUS_READY = true → s.ringOn n = true → v ≠ s.rd (Reg.RNG_HOSTIDX n) →
      (s.doorbellBad n v = false → ∃ t, exec (.doorbellWrite n v) s = .next t ∧ t.rd (Reg.RNG_HOSTIDX n) = v ∧ t.rings = s.rings ∧ t.points = s.points) ∧
      (s.doorbellBad n v = true → ∃ t, exec (.doorbellWrite n v) s = .next t ∧ t.rd (Reg.RNG_HOSTIDX n) = s.rd (Reg.RNG_HOSTIDX n) ∧
        t.flag (Reg.RNG_STATUS n) F.RNG_STATUS_DB_RANGE = true)) ∧
    (∀ n v, n < 16 → s.answers (Reg.DBL_INDEX n) = true → s.flag Reg.HIF_STATUS F.HIF_STATUS_READY = true → s.ringOn n = false → ∃ t,
      exec (.doorbellWrite n v) s = .next t ∧ t.flag (Reg.RNG_STATUS n) F.RNG_STATUS_DB_DISABLED = true ∧ t.rd (Reg.RNG_HOSTIDX n) = s.rd (Reg.RNG_HOSTIDX n)) ∧
    (∀ n v, n < 16 → s.answers (Reg.DBL_INDEX n) = true → s.flag Reg.HIF_STATUS F.HIF_STATUS_READY = false → ∃ t,
      exec (.doorbellWrite n v) s = .next t ∧ (t.ring n).dbHeld = some v ∧ t.rd (Reg.RNG_HOSTIDX n) = s.rd (Reg.RNG_HOSTIDX n)) ∧
    (∀ n, n < 16 → s.answers (Reg.DMA_CTL n) = true → ∃ t, exec (.dmaCtlResume n) s = .next t ∧ t.halted n = false ∧
      t.fld (Reg.DMA_STATUS n) F.DMA_STATUS_CONSEC = 0 ∧ t.points = s.points) ∧
    (∀ n, n < 16 → s.answers (Reg.TUN_CTL n) = true → ∃ t, exec (.tunCtlFlush n) s = .next t ∧ (t.ring n).flushReq = true ∧ t.regs = s.regs ∧
      (∀ m, m ≠ n → t.ring m = s.ring m)) ∧
    (∀ v, s.answers Reg.MEM_FETTLE = true → ∃ t, exec (.memFettleWrite v) s = .next t ∧ t.fld Reg.MEM_FETTLE F.MEM_FETTLE_ENABLE = F.MEM_FETTLE_ENABLE.get v ∧
      t.fld Reg.MEM_FETTLE F.MEM_FETTLE_PERIOD = clampNat 1 1000 (F.MEM_FETTLE_PERIOD.get v) ∧ t.points = s.points) ∧
    (∀ b on, b < 192 → s.answers (Reg.MEM_BANK b) = true → ∃ t, exec (.memBankChillWrite b on) s = .next t ∧
      t.flag (Reg.MEM_BANK b) F.MEM_BANK_CHILL = (if on && !s.chillOk b then s.flag (Reg.MEM_BANK b) F.MEM_BANK_CHILL else on) ∧
      (∀ a, a ≠ Reg.MEM_BANK b → t.rd a = s.rd a)) ∧
    (∀ v, s.answers Reg.LMP_TICK = true → ∃ t, exec (.lmpTickWrite v) s = .next t ∧ t.fld Reg.LMP_TICK F.LMP_TICK_MS = clampNat 10 200 (F.LMP_TICK_MS.get v) ∧
      t.lamp.tick = s.lamp.tick ∧ (∀ a, a ≠ Reg.LMP_TICK → t.rd a = s.rd a)) ∧
    (∀ on, s.answers Reg.LMP_CTL = true → ∃ t, exec (.lmpCtlEmergSw on) s = .next t ∧ t.flag Reg.LMP_CTL F.LMP_CTL_EMERG_SW = on ∧ t.lamp = s.lamp) ∧
    (∀ r l, r < 4 → l < 2 ^ 16 → s.ident.radios ≠ 0 → s.answers (Reg.RAD_DUTY r) = true → ∃ t, exec (.radDutyWrite r l) s = .next t ∧
      t.fld (Reg.RAD_DUTY r) F.RAD_DUTY_LIMIT = (if l = 0 ∨ s.radReserve r < l then l else s.radReserve r + 1) % 65536 ∧ (∀ a, a ≠ Reg.RAD_DUTY r → t.rd a = s.rd a)) ∧
    (∀ v, s.answers Reg.TIM_INCRLO = true → ∃ t, exec (.timIncrloWrite v) s = .next t ∧ t.rd Reg.TIM_INCRLO = v ∧ t.clock = s.clock) ∧
    (∀ v, s.answers Reg.TIM_INCRHI = true →
      (s.servoOwns = false → ∃ t, exec (.timIncrhiWrite v) s = .next t ∧
        t.clock.incrNext = some (clampNat incrLow incrHigh (v.toNat % 256 * 2 ^ 32 + s.rdN Reg.TIM_INCRLO)) ∧ t.clock.incr = s.clock.incr) ∧
      (s.servoOwns = true → ∃ t, exec (.timIncrhiWrite v) s = .next t ∧ t.clock = s.clock)) ∧
    (s.answers Reg.TIM_STEP = true →
      (s.servoOwns = true → ∃ t, exec .timStepGo s = .next t ∧ t.clock = s.clock) ∧
      (s.servoOwns = false → s.stepOk (sext 32 (s.rdN Reg.TIM_STEPSEC)) (sext 32 (s.rdN Reg.TIM_STEPNS)) = false → ∃ t, exec .timStepGo s = .next t ∧
        t.flag Reg.TIM_STATUS F.TIM_STATUS_STEP_REJ = true ∧ t.clock = s.clock) ∧
      (s.servoOwns = false → s.stepOk (sext 32 (s.rdN Reg.TIM_STEPSEC)) (sext 32 (s.rdN Reg.TIM_STEPNS)) = true → ∃ t, exec .timStepGo s = .next t ∧
        t.clock.wallOff = s.clock.wallOff + (sext 32 (s.rdN Reg.TIM_STEPSEC) * 1000000000 + sext 32 (s.rdN Reg.TIM_STEPNS)) * (2 ^ 32 : Nat) ∧
        t.clock.mono = s.clock.mono)) ∧
    (∀ v, s.answers Reg.RTC_STG_UTC = true → ∃ t, exec (.rtcStgWrite false v) s = .next t ∧ t.rd Reg.RTC_STG_UTC = v ∧
      t.flag Reg.RTC_STATUS F.RTC_STATUS_STAGED = true ∧ t.cal = s.cal) ∧
    (∀ v, s.answers Reg.RTC_STG_SUBSEC = true → ∃ t, exec (.rtcStgWrite true v) s = .next t ∧ t.rdN Reg.RTC_STG_SUBSEC = v.toNat % 2 ^ 15 ∧
      t.flag Reg.RTC_STATUS F.RTC_STATUS_STAGED = true ∧ t.cal = s.cal) ∧
    (s.answers Reg.RTC_COMMIT = true →
      (∃ t, exec .rtcCommitGo s = .next t ∧ t.calRun.goReq = (s.flag Reg.RTC_STATUS F.RTC_STATUS_STAGED || s.calRun.goReq) ∧ t.cal = s.cal ∧ t.regs = s.regs) ∧
      (s.wallUnset = true → ∃ t, exec .rtcCommitFromWall s = .next t ∧ t.flag Reg.RTC_STATUS F.RTC_STATUS_CMT_REJ = true ∧ t.calRun = s.calRun) ∧
      (s.wallUnset = false → ∃ t, exec .rtcCommitFromWall s = .next t ∧ t.calRun.wallReq = true ∧ t.calRun.wallSec = s.wallSec ∧ t.regs = s.regs)) ∧
    (∀ v, s.answers Reg.EVR_CURSOR = true → ∃ t, exec (.evrCursorWrite v) s = .next t ∧ t.rd Reg.EVR_CURSOR = v ∧ t.evr.winReady = false ∧
      t.evr.winFrom = v.toNat ∧ t.evr.buffer = s.evr.buffer ∧ t.flash = s.flash) ∧
    (s.answers Reg.EVR_WINCTL = true → ∃ t, exec .evrWinctlNext s = .next t ∧ t.evr.winReady = false ∧ t.evr.buffer = s.evr.buffer ∧ t.regs = s.regs ∧
      ∀ r, s.evr.window.getLast? = some r → t.evr.winFrom = addMod32 r.seq 1) ∧
    (∀ v, s.answers Reg.KEY_MODE = true → F.KEY_MODE_MODE.get v ≠ 3 → s.keyWriteCheck false (!s.modeForbids (F.KEY_MODE_MODE.get v)) = none → ∃ t,
      exec (.keyModeWrite v) s = .next t ∧ t.fld Reg.KEY_MODE F.KEY_MODE_MODE = F.KEY_MODE_MODE.get v ∧ t.keys = s.keys) ∧
    (∀ v, s.answers Reg.KEY_CZNSRC = true → s.keyWriteCheck false true = none → ∃ t, exec (.keyCznsrcWrite v) s = .next t ∧
      t.rd Reg.KEY_CZNSRC = (v &&& 0x1FF) ∧ t.keys = s.keys) ∧
    (∀ v c x, s.answers Reg.KEY_CZNSRC = true → s.keyWriteCheck false true = some (c, x) → c < 8 → ∃ t, exec (.keyCznsrcWrite v) s = .next t ∧
      t.rd Reg.KEY_CZNSRC = s.rd Reg.KEY_CZNSRC ∧ t.flag Reg.KEY_STATUS F.KEY_STATUS_WR_REJ = true ∧ t.fld Reg.KEY_STATUS F.KEY_STATUS_REJ_CAUSE = c) ∧
    (∀ v, s.answers Reg.KEY_LCREQ = true → F.KEY_LCREQ_CONFIRM.get v ≠ 0x5A17 ∨ s.maint = false → ∃ t, exec (.keyLcreqWrite v) s = .next t ∧
      t.flag Reg.KEY_STATUS F.KEY_STATUS_LC_REJ = true ∧ t.keys = s.keys) ∧
    (∀ v, s.answers Reg.KEY_LCREQ = true → F.KEY_LCREQ_CONFIRM.get v = 0x5A17 → s.maint = true → s.keyBusy = false →
      lcAllowed s.lifeCycle (F.KEY_LCREQ_TARGET.get v) = true → ∃ t, exec (.keyLcreqWrite v) s = .next t ∧
      t.keys.intent = some (F.KEY_LCREQ_TARGET.get v) ∧ t.keys.lcAt = s.now ∧ t.keys.zeroised = false) ∧
    (∀ v, s.answers Reg.KEY_LC = true → s.maint = false → exec (.ownerLockWrite v) s = .next s) ∧
    (∀ v, s.answers Reg.KEY_LC = true → s.maint = true → ∃ t, exec (.ownerLockWrite v) s = .next t ∧
      t.fld Reg.KEY_LC F.KEY_LC_OWNER_LOCK = F.KEY_LC_OWNER_LOCK.get v ∧ (∀ a, a ≠ Reg.KEY_LC → t.rd a = s.rd a)))

/-! ### Rings and the host interface -/

/-- R79: HIF_VERSION.SELECT resets to 2; a write of it is ignored and sets HIF_ERR.VERSION_LOCK while a ring is enabled or where the version is not supported; else it
takes the value. -/
def Obligations.VersionSelect : Prop :=
  State.reset.fld Reg.HIF_VERSION F.HIF_VERSION_SELECT = 2 ∧
  ∀ (s : State) (v : Word), (∀ k, k < 4 → (s.txn k).phase = .free) → s.online = true →
    ((∃ n, n < 16 ∧ s.ringOn n = true) ∨ bitOf (s.fld Reg.HIF_VERSION F.HIF_VERSION_SUPPORTED) (F.HIF_VERSION_SELECT.get v) = false →
      exec (.hifVersionSelectWrite v) s = .next (s.setHifErr 1) ∧ (s.setHifErr 1).fld Reg.HIF_VERSION F.HIF_VERSION_SELECT = s.fld Reg.HIF_VERSION F.HIF_VERSION_SELECT) ∧
    ((∀ n, n < 16 → s.ringOn n = false) → bitOf (s.fld Reg.HIF_VERSION F.HIF_VERSION_SUPPORTED) (F.HIF_VERSION_SELECT.get v) = true →
      ∃ t, exec (.hifVersionSelectWrite v) s = .next t ∧ t.fld Reg.HIF_VERSION F.HIF_VERSION_SELECT = F.HIF_VERSION_SELECT.get v)

/-- The PCIe and ring events: bus mastering, function reset, MSI-X, link training, writeback timer, the bursts of the runner and their errors, tundish flush, notices (R78, R82, R89, R117, R121, R126, R127, R136, R159).
TUNDISH_FLUSH_APPLY: the request ends, no packet of a host-to-module tundish is held any more, and without a request nothing happens (R127). -/
def Obligations.HostInterfaceEvents : Prop :=
  (∀ s : State,
    (∀ bme d3, ∃ t, exec (.busMasterEnableChange bme d3) s = .next t ∧ (bme = true → d3 = false → s.linkOff = false → s.busOn = false →
      t = ({ s with pcie := { s.pcie with bme := bme, d3hot := d3 } } : State).resumeRings)) ∧
    (∀ bme d3, bme = s.pcie.bme → d3 = s.pcie.d3hot → exec (.busMasterEnableChange bme d3) s = .next s) ∧
    (∀ down, exec (.funcReset down) s = .next (let v := (((s.flr down).abortAll 3).event 0x0202 1 noInst (le 1 (if down then 2 else 1))).setHifErr 3
        if down then (v.wrN Reg.HIF_LINK 0).wrN Reg.DMA_LINKRATE 0 else v)) ∧
    (∀ down, (s.flr down).pcie.bme = false ∧ (s.flr down).pcie.msixEnable = false ∧ (s.flr down).points = s.points ∧ (s.flr down).txns = s.txns ∧
      (∀ a, flrRegs a = true → a ≠ Reg.RNG_CFG 1 → (s.flr down).rd a = regDefault s.ident a) ∧ (∀ a, flrRegs a = false → (s.flr down).rd a = s.rd a) ∧
      (s.flr down).entrySize 1 = (if s.fmt1 then 16 else 32) ∧
      (∀ w ∈ (s.flr down).waits, w.tag.mute = true) ∧ (∀ h ∈ (s.flr down).held, h.tag.mute = true) ∧
      (∀ n, ((s.flr down).ring n).done = (s.ring n).done ∧ ((s.flr down).ring n).openIds = (s.ring n).openIds ∧ ((s.flr down).ring n).lost = 0)) ∧
    (∀ v, v < 32 → exec (.msixUnmask false v) s = .next (s.wrN (msixEntry v 3) (putBits (s.rdN (msixEntry v 3)) 0 1 0)).sendPending) ∧
    (∀ v, exec (.msixUnmask true v) s = .next ({ s with pcie := { s.pcie with msixEnable := true } } : State).sendPending) ∧
    (∀ w sp, w = 1 ∨ w = 2 ∨ w = 4 → sp = 1 ∨ sp = 2 ∨ sp = 3 → ∃ t, exec (.pcieLinkTrained w sp) s = .next t ∧
      t.rdN Reg.HIF_LINK = w * 16 + sp ∧ t.rdN Reg.DMA_LINKRATE = linkRate w sp ∧ (∀ b, b ≠ Reg.HIF_LINK → b ≠ Reg.DMA_LINKRATE → t.rd b = s.rd b)) ∧
    (∀ n, s.ringOn n = true → 0 < (s.ring n).uncovered → (s.ring n).firstAt + s.fld (Reg.RNG_COAL n) F.RNG_COAL_TIME * 1000 ≤ s.now →
      exec (.writebackTimer n) s = .next (s.writeback n)) ∧
    (∀ n buf, s.pickRunner = some n → exec (.runnerBurst (.none buf)) s = .next (s.burst n buf)) ∧
    (∀ buf, s.pickRunner = none → exec (.runnerBurst (.none buf)) s = .next s) ∧
    (∀ bank, s.sup.inReset = false → exec (.runnerBurst (.corrected bank)) s = .next (s.sramCorrected bank)) ∧
    (∀ bank addr entry, s.sup.inReset = false → exec (.runnerBurst (.uncorrectable bank addr entry)) s = .next ((s.sramError bank addr).burstError entry)) ∧
    (∀ addr, s.sup.inReset = false → exec (.runnerBurst (.dram addr false)) s = .next (s.dramError addr)) ∧
    (∀ n, n < 16 → s.sup.inReset = false → exec (.runnerBurst (.pointer n)) s = .next (s.resetTundish n)) ∧
    (exec .changeNoticePost s = .next ((firstBatch s.noticeQ).1.foldl (fun t n => t.post 3 n.bytes) { s with noticeQ := (firstBatch s.noticeQ).2 }))) ∧
  (∀ (s : State) (n : Nat),
    ((s.ring n).flushReq = false → exec (.tundishFlushApply n) s = .next s) ∧
    ((s.ring n).boundary = false → exec (.tundishFlushApply n) s = .next s) ∧
    ((s.ring n).flushReq = true → (s.ring n).boundary = true → hostToModule n = true → s.waits = [] →
      ∃ t, exec (.tundishFlushApply n) s = .next t ∧ (t.ring n).flushReq = false ∧ t.heldOn n = [] ∧ t.points = s.points ∧
        ∀ a, a ≠ Reg.PNT_CNT_REFUSED → t.rd a = s.rd a))

/-- R101: which completions are posted, and what the completion of an entry that could not be read carries. -/
def Obligations.CompletionsPosted : Prop :=
  (∀ (s : State) (t : CmdTag) (status flags r0 r1 : Nat), t.mute = false →
    (status ≠ St.ok ∨ t.cplReq = true → ((s.postCpl t status flags r0 r1 []).ring 1).outq =
      (s.ring 1).outq ++ [{ payload := [], entry := some (cplEntry t status flags s.stamp r0 r1 s.fmt1) }]) ∧
    (status = St.ok → t.cplReq = false → s.postCpl t status flags r0 r1 [] = s)) ∧
  (∀ (s : State) (n cause offset : Nat), s.intakeOk n = true → exec (.runnerReadFail n cause offset none) s = .next (s.slagNext n cause offset none)) ∧
  (∀ (s : State) (n cause offset : Nat) (op : Half) (e : CmdEntry), s.intakeOk n = true → e.ring = n → s.entryStatus op.toNat e = none → e.bufOut = false → e.bufLen ≠ 0 →
    exec (.runnerReadFail n cause offset (some (op, e))) s = .next (s.slagNext n cause offset (some (op, e)))) ∧
  (∀ (s : State) (n cause offset st : Nat) (op : Half) (e : CmdEntry), s.intakeOk n = true → e.ring = n → s.entryStatus op.toNat e = some st →
    exec (.runnerReadFail n cause offset (some (op, e))) s = .next (s.refuseEntry op.toNat e st)) ∧
  (∀ (s : State) (n cause offset : Nat), s.slagNext n cause offset none =
    (((s.advance n).setRing n { (s.advance n).ring n with rd := 0, rdBuf := none }).postCpl
      { ring := n, sq := s.rdN (Reg.RNG_MODIDX n), cmdId := 0, op := 0xFFFF, txn := 0, cplReq := true } St.slagged 0 0 0 []).slag n (s.rdN (Reg.RNG_MODIDX n)) cause offset)

/-- R100: the 32 bytes of a completion entry. -/
def Obligations.CompletionEntryLayout : Prop :=
  ∀ (t : CmdTag) (status flags stamp r0 r1 : Nat), t.sq < 2 ^ 32 → t.ring < 2 ^ 8 → status < 2 ^ 8 → flags < 2 ^ 8 → t.op < 2 ^ 16 → t.txn < 2 ^ 16 → stamp < 2 ^ 64 →
      r0 < 2 ^ 32 → r1 < 2 ^ 32 →
    let b := cplEntry t status flags stamp r0 r1 false
    b.length = 32 ∧ fieldLe b 0 4 = t.cmdId.toNat ∧ fieldLe b 4 4 = t.sq ∧ fieldLe b 8 1 = t.ring ∧ fieldLe b 9 1 = status ∧ fieldLe b 10 1 = flags ∧ fieldLe b 11 1 = 0 ∧
      fieldLe b 12 2 = t.op ∧ fieldLe b 14 2 = t.txn ∧ fieldLe b 16 8 = stamp ∧ fieldLe b 24 4 = r0 ∧ fieldLe b 28 4 = r1

/-- The commands of the host interface (R96, R97, R139): what an admitted entry does. -/
def Obligations.HostInterfaceCommands : Prop :=
  ∀ (s : State) (e : CmdEntry),
    (s.admits Op.nop e = true → exec (.nop e) s = .next (s.completed Op.nop e St.ok 0 0 0 [] (s.taken e))) ∧
    (s.admits Op.echo e = true → exec (.echo e) s =
      .next (s.completed Op.echo e St.ok (fieldLe e.params 0 4) (fieldLe e.params 4 4) 0 [] (s.taken e))) ∧
    (s.fmt1 = false → s.admits Op.sync e = true → s.inProgress = [] → exec (.sync e) s = .next (s.completed Op.sync e St.ok 0 0 0 [] (s.taken e))) ∧
    (s.fmt1 = false → s.admits Op.sync e = true → s.inProgress ≠ [] → exec (.sync e) s = .next (s.waiting Op.sync e (.sync s.inProgress) (s.taken e))) ∧
    (∀ w, s.admits Op.cancel e = true → fieldLe e.params 4 4 ≠ 0 → (s.taken e).held = [] →
      (s.taken e).waits.find? (fun w => w.tag.ring == fieldLe e.params 0 1 && w.tag.cmdId == BitVec.ofNat 32 (fieldLe e.params 4 4)) = some w → w.kind.cancellable = true →
      exec (.cancel e) s = .next (s.completed Op.cancel e St.ok 0 0 0 []
        (((s.taken e).withdraw w).finish w St.aborted 0 0))) ∧
    (s.admits Op.tunFlush e = true → fieldLe e.params 0 1 ≤ 15 →
      exec (.tunFlush e) s = .next (s.waiting Op.tunFlush e (.tunFlush (fieldLe e.params 0 1))
        ((s.taken e).requestFlush (fieldLe e.params 0 1)))) ∧
    (s.admits Op.runnerResume e = true → fieldLe e.params 0 1 ≤ 15 → (s.taken e).halted (fieldLe e.params 0 1) = true →
      exec (.runnerResume e) s = .next (s.completed Op.runnerResume e St.ok 0 0 0 []
        ((s.taken e).resumeRunner (fieldLe e.params 0 1)))) ∧
    (∀ op : Half, s.takeOk e.ring = true → opSpecOf op.toNat = none → exec (.unknownOpcode op e) s =
      .next ((s.takeEntry e.ring).postCpl (e.tag op.toNat (s.rdN (Reg.RNG_MODIDX e.ring))) St.unknownOpcode 0 0 0 []))

/-- R484, steps 2 to 6: an entry that fails one of them is taken, completes with the status of the first, is not entered into the command-ID record, and nothing else
changes (with no SYNC waiting). -/
def Obligations.EntryRefusedBeforeRecord : Prop :=
  ∀ (s : State) (e : CmdEntry) (st : Nat), s.cur = none → s.takeOk e.ring = true → ((s.takeEntry e.ring).heldOn e.ring).isEmpty = true → e.fence = false → s.waits = [] →
    entryCheck Op.echo e = some st →
    ∃ t, exec (.echo e) s = .next t ∧ (t.ring e.ring).done = (s.ring e.ring).done ∧ (t.ring e.ring).openIds = (s.ring e.ring).openIds ∧ t.points = s.points ∧
      t.txns = s.txns ∧ t.waits = s.waits ∧ t.held = s.held ∧
      (e.ring ≠ 1 → (t.ring 1).outq = (s.ring 1).outq ++
        [{ payload := [], entry := some (cplEntry (s.tagOf { op := 0x0001 } e) st 0 (s.takeEntry e.ring).stamp 0 0 s.fmt1) }])

/-! ### Transactions -/

/-- The transaction commands and the limits of a transaction's life (R104 to R107, R112). -/
def Obligations.TransactionCommands : Prop :=
  ∀ (s : State) (e : CmdEntry),
    (∀ k, let online := bitOf (e.param 0 1) 0
      let loc := bitOf (e.param 0 1) 1
      s.admits Op.txnOpen e = true → e.txn = 0 → (online && loc) = false → (s.taken e).openState online loc = none →
      (online = true → ∀ j, j < 4 → ((s.taken e).txn j).phase ≠ .free → ((s.taken e).txn j).online = false) →
      (List.range 4).find? (fun k => ((s.taken e).txn k).phase == .free) = some k →
      ∃ u, exec (.txnOpen e) s = .next (s.completed Op.txnOpen e St.ok ((s.taken e).freshTag 5).1 0 0 [] u) ∧
        (u.txn k).phase = .opened ∧ (u.txn k).tag = ((s.taken e).freshTag 5).1 ∧ (u.txn k).online = online ∧ (u.txn k).isLocal = loc ∧
        (u.txn k).changes = [] ∧ (∀ j, j ≠ k → u.txn j = (s.taken e).txn j)) ∧
    (∀ k, s.admits Op.txnOpen e = true → e.txn = 0 → fieldLe e.params 0 1 = 0 → (s.taken e).defaulted = false → (s.taken e).role = .active →
      (List.range 4).find? (fun k => ((s.taken e).txn k).phase == .free) = some k →
      ∃ u, exec (.txnOpen e) s = .next (s.completed Op.txnOpen e St.ok ((s.taken e).freshTag 5).1 0 0 [] u) ∧
        (u.txn k).phase = .opened ∧ (u.txn k).tag = ((s.taken e).freshTag 5).1 ∧ (u.txn k).changes = [] ∧ (∀ j, j ≠ k → u.txn j = (s.taken e).txn j)) ∧
    (∀ k, s.admits Op.txnAbort e = true → (s.taken e).txnOf e.txn.toNat = some k →
      exec (.txnAbort e) s = .next (s.completed Op.txnAbort e St.ok 0 0 0 [] ((s.taken e).abortTxn k St.aborted))) ∧
    (∀ k, s.admits Op.txnQuery e = true → (s.taken e).txnOf e.txn.toNat = some k →
      exec (.txnQuery e) s = .next (s.completed Op.txnQuery e St.ok ((s.taken e).txn k).stateReg ((s.taken e).txn k).useReg 0 [] (s.taken e))) ∧
    (∀ k, s.admits Op.txnRegwr e = true → (s.taken e).txnOf e.txn.toNat = some k → e.bufLen.toNat % 12 = 0 → e.bufOut = false →
      (regwrEntries (e.bufLen.toNat / 12) e.buf).all (fun x => stageable x.1) = true → ((s.taken e).txn k).phase = .opened →
      let cs := (regwrEntries (e.bufLen.toNat / 12) e.buf).map fun x => Change.reg x.1 x.2.1 x.2.2
      (s.taken e).conflicts (some k) (cs.flatMap Change.targets) = false → withinLimits (cs.foldl addChange ((s.taken e).txn k).changes) = true →
      exec (.txnRegwr e) s = .next (s.completed Op.txnRegwr e St.ok (regwrEntries (e.bufLen.toNat / 12) e.buf).length 0 2 []
        ((s.taken e).setTxn k { (s.taken e).txn k with changes := cs.foldl addChange ((s.taken e).txn k).changes, named := (s.taken e).now }))) ∧
    (∀ k l, s.admits Op.txnCommit e = true → (s.taken e).txnOf e.txn.toNat = some k →
      ((s.taken e).txn k).phase = .opened → ((s.taken e).txn k).doomed = false → e.param 0 1 = 2 → (s.taken e).commitPlan k = .ok l → (s.taken e).noCycle = false →
      exec (.txnCommit e) s = .next (s.waiting Op.txnCommit e (.txnCommit k)
        ((s.taken e).bindTxn k 2 0))) ∧
    (∀ k l, s.admits Op.txnCommit e = true → (s.taken e).txnOf e.txn.toNat = some k →
      ((s.taken e).txn k).phase = .opened → ((s.taken e).txn k).doomed = false → e.param 0 1 = 1 → (s.taken e).commitPlan k = .ok l →
      (s.taken e).charging = false →
      let n := ((s.taken e).txn k).changes.length
      exec (.txnCommit e) s = .next (s.completed Op.txnCommit e St.ok n 0 0 []
        ((s.taken e).applyTxn k 0 [(s.tagOf { op := 0x0101 } e).delta n 0]))) ∧
    (∀ k l, let st := e.param 8 8
      s.admits Op.txnCommit e = true → (s.taken e).txnOf e.txn.toNat = some k →
      ((s.taken e).txn k).phase = .opened → ((s.taken e).txn k).doomed = false → e.param 0 1 = 3 → stampHeat st = (s.taken e).heat →
      stampTime st - stampTime (s.taken e).stamp ≤ 86400 * 2 ^ 20 → (s.taken e).commitPlan k = .ok l →
      ((s.taken e).stampDue st = false → exec (.txnCommit e) s = .next (s.waiting Op.txnCommit e (.txnCommit k) ((s.taken e).bindTxn k 3 st))) ∧
      ((s.taken e).stampDue st = true → (s.taken e).charging = false →
        let n := ((s.taken e).txn k).changes.length
        exec (.txnCommit e) s = .next (s.completed Op.txnCommit e St.ok n 1 0 [] ((s.taken e).applyTxn k 1 [(s.tagOf { op := 0x0101 } e).delta n 1])))) ∧
    (∀ k, k < 4 → (s.txn k).phase = .waiting → (s.txn k).point = 3 → s.stampDue (s.txn k).stamp = true → s.charging = false →
      exec (.txnApply k) s = .next (s.applyTxn k (s.lateBy (s.txn k).stamp) [])) ∧
    (∀ k, k < 4 → (s.txn k).phase = .opened → s.fld Reg.TXN_CFG F.TXN_CFG_IDLE ≠ 0 → (s.txn k).named + secs (s.fld Reg.TXN_CFG F.TXN_CFG_IDLE) ≤ s.now →
      exec (.txnIdleTimeout k) s = .next (s.abortTxnEv k 1)) ∧
    (∀ k f, k < 4 → (s.txn k).phase = .waiting → (s.txn k).point = 2 → (s.txn k).waitFrom = some f → f + ms (s.fld Reg.TXN_CFG F.TXN_CFG_WAIT) ≤ s.now →
      exec (.txnWaitTimeout k) s = .next (s.abortTxn k St.timeout))

/-- An abort frees the slot, and leaves every other slot as it was (R107). -/
def Obligations.AbortFreesSlot : Prop :=
  ∀ (s : State) (k st : Nat), s.waits = [] → ((s.abortTxn k st).txn k).phase = .free ∧ (∀ j, j ≠ k → (s.abortTxn k st).txn j = s.txn j) ∧
    (s.abortTxn k st).points = s.points ∧ (s.abortTxn k st).forces = s.forces

/-! ### Supply, temperature and start-up -/

/-- The pins of the module: POWER_GOOD and PERST_N end and begin module reset; UNIT_SEL, MAINT_N and EMERG_N are shown as R30 to R32 and R68 and R72 say; a lost backup
domain invalidates the calendar (R44).
Supply, core voltage, PACE and temperature (R42, R47, R59, R60, R68, R69, R73): what each event does. -/
def Obligations.PinAndSupplyEvents : Prop :=
  (∀ s : State,
    (∀ vin : Half, s.sup.powerGood = false → 10500 ≤ vin.toNat → s.sup.inReset = true → s.sup.perst = false →
      exec (.powerGood vin) s = .next ((({ s with sup := { s.sup with powerGood := true } } : State).endReset).showVin vin)) ∧
    (s.sup.inReset = false → s.sup.perst = false → s.sup.flush = .done →
      exec .perstAssert s = .next ({ s with sup := { s.sup with perst := true, relWaits := false, powerGood := s.vinPresent } } : State).restart) ∧
    (s.sup.inReset = false → s.sup.perst = false → s.sup.flush = .idle →
      exec .perstAssert s = .next (({ s with sup := { s.sup with perst := true, relWaits := false } } : State).flushNow .perst)) ∧
    (s.sup.perst = true → s.sup.flush = .running → exec .perstRelease s = .next { s with sup := { s.sup with relWaits := true } }) ∧
    (s.sup.perst = true → s.sup.flush ≠ .running → s.sup.inReset = true → s.sup.powerGood = true →
      exec .perstRelease s = .next (({ s with sup := { s.sup with perst := false } } : State).endReset)) ∧
    (∀ lvl, ∃ t, exec (.unitSelChange lvl) s = .next t ∧ t.sup.unitSel = lvl ∧ t.unit = s.unit) ∧
    (∀ on, s.sup.inReset = false → ∃ t, exec (.maintNChange on) s = .next t ∧ t.sup.maintPin = on ∧ t.flag Reg.GLB_STATUS F.GLB_STATUS_MAINT = on ∧
      (∀ b, b ≠ Reg.GLB_STATUS → t.rd b = s.rd b)) ∧
    (∀ on, s.sup.inReset = false → s.sup.emergPin ≠ on → exec (.emergNChange on) s =
      .next ((({ s with sup := { s.sup with emergPin := on } } : State).setF Reg.GLB_STATUS F.GLB_STATUS_EMERG (bit on)).setCause 5)) ∧
    (s.vinPresent = false → exec .backupLost s = .next { s with cal := { s.cal with lost := true } })) ∧
  (∀ s : State,
    (∀ vin riser : Half, s.sup.inReset = false → s.sup.powerGood = true → vin.toNat < 10200 → s.pfw = false → exec (.powerFailWarning vin riser) s =
      .next (let t := ((s.riserSample (s.fld Reg.GLB_SUPPLY F.GLB_SUPPLY_VIN) riser.toNat).showVin vin).setF Reg.GLB_FLAGS F.GLB_FLAGS_PFW_SEEN 1
        t.warn vin.toNat (t.fld Reg.GLB_SUPPLY F.GLB_SUPPLY_RISER))) ∧
    (∀ vin riser : Half, s.sup.inReset = true → s.sup.powerGood = true → vin.toNat < 10200 → exec (.powerFailWarning vin riser) s =
      .next { s with sup := { s.sup with powerGood := false, riserHeld := 0 } }) ∧
    (∀ vin riser : Nat, s.onRiser = false → s.sup.charger = true → s.sup.riserHeld ≤ vin → vin < 2 ^ 16 →
      s.sup.riserHeld ≤ (s.riserSample vin riser).fld Reg.GLB_SUPPLY F.GLB_SUPPLY_RISER ∧ (s.riserSample vin riser).fld Reg.GLB_SUPPLY F.GLB_SUPPLY_RISER ≤ vin) ∧
    (s.sup.flush = .warned → s.sup.warnAt + ms 1 ≤ s.now → s.pausing = false → exec .flushBegin s = .next (s.beginFlush .supply)) ∧
    (s.sup.flush = .running → s.endFlush.sup.flushFor = .supply → exec .flushDone s = .next (s.endFlush.setF Reg.GLB_BOOTSTAGE F.GLB_BOOTSTAGE_STAGE 9)) ∧
    (s.sup.flush = .running → s.endFlush.sup.flushFor = .thermal → exec .flushDone s = .next (s.endFlush.setF Reg.GLB_BOOTSTAGE F.GLB_BOOTSTAGE_STAGE 0xA)) ∧
    (∀ vin : Half, 10500 ≤ vin.toNat → s.pfw = true → s.sup.restoredAt = none →
      exec (.vinRestored vin) s = .next { s.showVin vin with sup := { (s.showVin vin).sup with restoredAt := some s.now, riserHeld := s.fld Reg.GLB_SUPPLY F.GLB_SUPPLY_RISER } }) ∧
    (∀ r, s.sup.restoredAt = some r → s.pfw = true → s.sup.flush = .done → s.sup.flushFor = .supply → r + ms 100 ≤ s.now → s.resumeService.sup.refused = false →
      exec .serviceResume s = .next s.resumeService.resumeOutputs.finishActivate) ∧
    (∀ n, s.pfw = true → exec (.riserExhausted n) s = .next ({ s.cutFlush n with sup :=
      { (s.cutFlush n).sup with powerGood := false, riserHeld := 0, perst := (s.cutFlush n).sup.perst && !(s.cutFlush n).sup.relWaits } } : State).moduleReset) ∧
    (s.sup.inReset = false → s.onRiser = false → let v := max (s.fld Reg.GLB_RISERREADY F.GLB_RISERREADY_LEVEL) (s.fld Reg.GLB_SUPPLY F.GLB_SUPPLY_RISER)
      exec .riserOk s = .next (({ s with sup := { s.sup with riserHeld := max v s.sup.riserHeld } } : State).setF Reg.GLB_SUPPLY F.GLB_SUPPLY_RISER v).showRiser) ∧
    (∀ ebb, s.sup.ramp = some ebb → ∃ t, exec .ebbRampEnd s = .next t ∧ t.sup.ramp = none ∧ t.flag Reg.GLB_STATUS F.GLB_STATUS_EBB = ebb ∧
      (∀ b, b ≠ Reg.GLB_STATUS → t.rd b = s.rd b)) ∧
    (∀ p die vin riser vbak : Half, s.sup.inReset = false → ∃ t, exec (.paceSample p die vin riser vbak) s = .next t ∧
      t.fld Reg.GLB_PACE F.GLB_PACE_PACE = p.toNat ∧ t.fld Reg.GLB_PACE F.GLB_PACE_PACE_MIN = min p.toNat (s.fld Reg.GLB_PACE F.GLB_PACE_PACE_MIN) ∧
      t.fld Reg.GLB_DIETEMP F.GLB_DIETEMP_TEMP = die.toNat ∧ t.points = s.points) ∧
    (∀ temp : Half, s.sup.inReset = false → 1760 ≤ temp.toInt → s.flag Reg.GLB_STATUS F.GLB_STATUS_FORCED_EBB = false → exec (.thermalEbb temp) s =
      .next (((((s.setF Reg.GLB_STATUS F.GLB_STATUS_FORCED_EBB 1).setF Reg.GLB_FLAGS F.GLB_FLAGS_THERMAL 1).thermalEvent temp 1).setCause 6).rampTo true)) ∧
    (∀ temp : Half, s.sup.inReset = false → temp.toInt < 1600 → s.sup.hot = false → s.flag Reg.GLB_STATUS F.GLB_STATUS_FORCED_EBB = true →
      exec (.thermalEbbRelease temp) s =
        .next ((((s.setF Reg.GLB_STATUS F.GLB_STATUS_FORCED_EBB 0).thermalEvent temp 2).setCause 6).rampTo (s.flag Reg.GLB_VSTATE F.GLB_VSTATE_EBB))) ∧
    (∀ temp : Half, s.sup.inReset = false → 2000 ≤ temp.toInt → s.sup.flush = .idle → s.role ≠ .active →
      exec (.thermalHold temp) s = .next ((s.thermalEvent temp 3).flushNow .thermal)) ∧
    (∀ temp : Half, s.stage = 0xA → temp.toInt < 1600 → exec (.thermalRestart temp) s = .next (s.restart.thermalEvent temp 4)))

/-- The stages of start-up in their order (R54, R56, R58, R64 to R67, R71, R465): what each completes, and the stage it reaches. -/
def Obligations.StartUpStages : Prop :=
  ∀ s : State,
    (∀ p die : Half, s.startingAt 1 = true → s.sup.vcoreReady = false → s.sup.hot = false → ∃ t, exec (.vcoreReady p die) s = .next t ∧
      t.sup.hot = decide (1760 ≤ die.toInt) ∧ t.sup.vcoreReady = !(decide (1760 ≤ die.toInt)) ∧ t.fld Reg.GLB_PACE F.GLB_PACE_PACE = p.toNat ∧
      t.fld Reg.GLB_DIETEMP F.GLB_DIETEMP_TEMP = die.toNat ∧ t.stage = 1) ∧
    (s.startingAt 1 = true → s.sup.vcoreReady = true → s.rollTrial.slotVerifies s.rollTrial.bootSlot = true → ∃ t, exec .stagePattern s = .next t ∧
      t.stage = 2 ∧ t.sup.stage2 = true ∧ t.bootSlot = s.rollTrial.bootSlot ∧ t.patState t.bootSlot = 4 ∧
      t.fld Reg.GLB_STATUS F.GLB_STATUS_PAT_SLOT = s.rollTrial.bootSlot) ∧
    (s.startingAt 1 = true → s.sup.vcoreReady = true → s.rollTrial.slotVerifies s.rollTrial.bootSlot = false →
      s.rollTrial.slotVerifies (otherSlot s.rollTrial.bootSlot) = false → ∃ t, exec .stagePattern s = .next t ∧ t.stage = 0xF) ∧
    (s.startingAt 1 = true → s.sup.vcoreReady = true → s.rollTrial.slotVerifies s.rollTrial.bootSlot = false →
      s.rollTrial.slotVerifies (otherSlot s.rollTrial.bootSlot) = true → ∃ t, exec .stagePattern s = .next t ∧ t.stage = 2 ∧ t.sup.stage2 = true ∧
      t.flag Reg.PAT_STATUS F.PAT_STATUS_BOOT_FALLBACK = true ∧ t.fld Reg.GLB_STATUS F.GLB_STATUS_PAT_SLOT = otherSlot s.rollTrial.bootSlot) ∧
    (s.startingAt 2 = true → s.keys.intent = none → ∃ t, exec .stageMemory s = .next t ∧ t.stage = 3 ∧ t.points = s.points ∧
      t.fld Reg.MEM_STATUS F.MEM_STATUS_SPARES_FREE = 8 - s.flash.sparesUsed) ∧
    (s.startingAt 3 = true → s.lifeCycle ≠ 3 → exec .stageConfig s = .next ((s.selectConfig.setStage 4).becomeReady)) ∧
    (s.startingAt 3 = true → s.lifeCycle = 3 → exec .stageConfig s = .next ((s.startDefaults.setStage 4).becomeReady)) ∧
    (s.startingAt 4 = true → exec .stageRestore s = .next
      ((((s.setStage 5).startTime.restorePoints s.flash.newestSlot).restoreMeter s.flash.newestSlot).reportFlush s.flash.newestSlot)) ∧
    (s.startingAt 5 = true → (s.setStage 6).defaulted = true → (s.setStage 6).role ≠ .witness →
      exec .stageRole s = .next (((s.setStage 6).roleTrunks false).showRadStates)) ∧
    (s.startingAt 5 = true → (s.setStage 6).defaulted = false →
      let t := (s.setStage 6).beginRole
      (t.role ≠ .witness → exec .stageRole s = .next ((t.roleTrunks false).showRadStates)) ∧
      (t.role = .witness → exec .stageRole s =
        .next ((({ t with rdn := { t.rdn with holdUntil := t.now + 2 * t.lossNs } } : State).roleTrunks false).showRadStates))) ∧
    (s.startingAt 6 = true → s.sup.roleSettled = true → (s.setStage 7).startCycles.role = .witness → exec .stageRun s = .next (s.setStage 7).startCycles.inService) ∧
    (s.startingAt 6 = true → s.sup.roleSettled = false →
      exec .roleSettled s = .next (({ s with sup := { s.sup with roleSettled := true } } : State).roleLamp.roleMeter.showRadStates)) ∧
    (s.startingAt 6 = true → s.sup.roleSettled = true → (s.setStage 7).startCycles.role ≠ .witness → exec .stageRun s = .next (s.setStage 7).startCycles) ∧
    (∀ k, s.startingAt 7 = true → s.sup.rewrite = some k → ∃ t, exec .cfgCopyRewrite s = .next t ∧ t.sup.rewrite = none ∧ t.copy k = s.runningImage ∧
      t.flag Reg.GLB_STATUS F.GLB_STATUS_CFG_ONE_COPY = false ∧ (∀ j, j ≠ k → t.copy j = s.copy j))

/-- Module reset keeps only flash, the keys of the key store, the backup domain, the pins and what lies outside the module (R7, R49); the queue of commands is outside. -/
def Obligations.ModuleResetKeeps : Prop :=
  ∀ s : State, s.moduleReset.sup.inReset = true ∧ s.moduleReset.flash = s.flash ∧ s.moduleReset.cal = s.cal ∧ s.moduleReset.hostMem = s.hostMem ∧
    s.moduleReset.ident = s.ident ∧ s.moduleReset.pending = s.pending ∧ s.moduleReset.keys.roots = s.keys.roots ∧ s.moduleReset.points = [] ∧
    s.moduleReset.forces = [] ∧ s.moduleReset.rings = State.reset.rings ∧ s.moduleReset.txns = State.reset.txns ∧ s.moduleReset.waits = [] ∧
    s.moduleReset.held = [] ∧ s.moduleReset.role = .seeding ∧ s.moduleReset.clock = State.reset.clock ∧ s.moduleReset.regsWf = true

/-! ### Points -/

/-- What a write, a force and the removal of a force do to the point and to every other point (R162 to R164). -/
def Obligations.PointOperations : Prop :=
  ∀ s : State,
    (∀ w : PtWrite, s.force? w.addr = none →
      (s.ptOp (.write w)).pt w.addr = { value := w.value, quality := w.quality, pending := (s.pt w.addr).pending, writer := w.writer, stamp := w.stamp } ∧
      (∀ b, b ≠ w.addr → (s.ptOp (.write w)).pt b = s.pt b) ∧ (s.ptOp (.write w)).forces = s.forces ∧ (s.ptOp (.write w)).regs = s.regs) ∧
    (∀ (w : PtWrite) (f : Force), s.force? w.addr = some f → (s.ptOp (.write w)).points = s.points ∧
      (s.ptOp (.write w)).force? w.addr = some { f with
        under := some { value := w.value, quality := w.quality, pending := (s.pt w.addr).pending, writer := w.writer, stamp := w.stamp }
        absorbed := min (2 ^ 32 - 1) (f.absorbed + 1) }) ∧
    (∀ a v q st, (s.ptOp (.force a v q st)).view a = { value := v, quality := q, pending := (s.pt a).pending, writer := 0x0030, stamp := st } ∧
      (∃ f, (s.ptOp (.force a v q st)).force? a = some f ∧ f.value = v ∧ f.quality = q ∧ f.setStamp = st ∧
        (s.force? a = none → f.under = none ∧ f.absorbed = 0 ∧ f.orphan = false) ∧
        (∀ g, s.force? a = some g → f.under = g.under ∧ f.absorbed = g.absorbed ∧ f.orphan = g.orphan)) ∧
      (∀ b, b ≠ a → (s.ptOp (.force a v q st)).pt b = s.pt b ∧ (s.ptOp (.force a v q st)).force? b = s.force? b)) ∧
    (∀ a f, s.force? a = some f → mapSorted 0 s.forces = true → (s.ptOp (.unforce a)).force? a = none ∧
      (∀ u, f.under = some u → (s.ptOp (.unforce a)).pt a = { u with pending := (s.pt a).pending }) ∧
      (f.under = none → (s.ptOp (.unforce a)).pt a = s.pt a) ∧
      (∀ b, b ≠ a → (s.ptOp (.unforce a)).pt b = s.pt b ∧ (s.ptOp (.unforce a)).force? b = s.force? b))

/-- A point takes the record of its last write, as a host reads it: 16 bytes with value, type and quality, flags, writer and stamp (R146). -/
def Obligations.PointRecordBytes : Prop :=
  ∀ (s : State) (a : Nat), (s.info a).typ < 16 → (s.pt a).quality < 16 → (s.pt a).writer < 2 ^ 16 → (s.pt a).stamp < 2 ^ 64 →
    (s.recBytes a).length = 16 ∧ fieldLe (s.recBytes a) 0 4 = (s.pt a).value.toNat ∧ fieldLe (s.recBytes a) 4 1 = (s.info a).typ + 16 * (s.pt a).quality ∧
    fieldLe (s.recBytes a) 5 1 = s.ptFlags a ∧ bitOf (s.ptFlags a) 0 = (s.force? a).isSome ∧ bitOf (s.ptFlags a) 3 = (s.pt a).pending ∧
    fieldLe (s.recBytes a) 6 2 = (s.pt a).writer ∧ fieldLe (s.recBytes a) 8 8 = (s.pt a).stamp

/-- The point services (R153, R155 to R157, R162, R164): what an admitted entry that passes the checks does. -/
def Obligations.PointCommands : Prop :=
  ∀ (s : State) (e : CmdEntry),
    (s.admits Op.pntRead e = true → 1 ≤ e.param 4 4 → e.param 4 4 ≤ 4096 → e.param 0 4 + e.param 4 4 ≤ 2 ^ 25 → e.bufOut = true →
      e.bufLen.toNat = 16 * e.param 4 4 →
      exec (.pntRead e) s = .next (s.completed Op.pntRead e St.ok (e.param 4 4) (s.taken e).batch 0
        [(e.bufAddr.toNat, (List.range (e.param 4 4)).flatMap fun i => (s.taken e).recBytes (e.param 0 4 + i))] (s.taken e))) ∧
    (s.admits Op.pntReadList e = true → 1 ≤ e.param 0 4 → e.param 0 4 ≤ 4096 → e.bufOut = false →
      e.bufLen.toNat = 4 * e.param 0 4 → e.param 8 8 % 4 = 0 → (∀ i, i < e.param 0 4 → fieldLe e.buf (4 * i) 4 < 2 ^ 25) →
      exec (.pntReadList e) s = .next (s.completed Op.pntReadList e St.ok (e.param 0 4) (s.taken e).batch 0
        [(e.param 8 8, ((List.range (e.param 0 4)).map fun i => fieldLe e.buf (4 * i) 4).flatMap (s.taken e).recBytes)] (s.taken e))) ∧
    (s.admits Op.pntForce e = true → e.txn = 0 → (s.taken e).charging = false →
      (s.taken e).writeCheck (BitVec.ofNat 32 (e.param 0 4)) false true true (BitVec.ofNat 8 (e.param 8 1)) (BitVec.ofNat 32 (e.param 4 4)) none = none →
      (s.taken e).flag Reg.PNT_CFG F.PNT_CFG_FORCE_LOCK = false →
      ((s.taken e).forces.length < 4096 ∨ ((s.taken e).force? (e.param 0 4)).isSome = true) →
      let op : PtOp := .force (e.param 0 4) (BitVec.ofNat 32 (e.param 4 4)) (bitsOf (e.param 8 1) 4 4) (s.taken e).stamp
      exec (.pntForce e) s = .next (s.completed Op.pntForce e St.ok
        (bit ((s.taken e).force? (e.param 0 4)).isSome) 0 0 []
        ((s.taken e).applyWith [op] [(s.tagOf { op := 0x0302 } e).delta (bit ((s.taken e).force? (e.param 0 4)).isSome) 0] []))) ∧
    (∀ f, s.admits Op.pntUnforce e = true → e.txn = 0 → (s.taken e).charging = false →
      e.param 0 4 < 2 ^ 25 → (s.taken e).defaulted = false → (s.taken e).leads = true → ((s.taken e).info (e.param 0 4)).typ ≠ 0 →
      (s.taken e).heldByOther none (.point (e.param 0 4)) = false → (s.taken e).force? (e.param 0 4) = some f →
      exec (.pntUnforce e) s = .next (s.completed Op.pntUnforce e St.ok (bit f.under.isSome) 0 0 []
        ((s.taken e).applyWith [.unforce (e.param 0 4)] [(s.tagOf { op := 0x0303 } e).delta (bit f.under.isSome) 0] []))) ∧
    (s.admits Op.pntForceList e = true → e.bufOut = true → e.bufLen.toNat % 32 = 0 →
      let es := ((s.taken e).forces.drop (e.param 0 4)).take (e.bufLen.toNat / 32)
      exec (.pntForceList e) s = .next (s.completed Op.pntForceList e St.ok es.length (s.taken e).forces.length 0
        [(e.bufAddr.toNat, es.flatMap fun x => (s.taken e).forceEntry x.1 x.2)] (s.taken e))) ∧
    (s.admits Op.pntSubscribe e = true → 1 ≤ e.param 0 2 → e.param 0 2 ≤ 1024 → bitsOf (e.param 2 1) 4 4 = 0 →
      bitsOf (e.param 2 1) 0 3 ≠ 0 → 1 ≤ e.param 8 4 → e.param 8 4 ≤ 65536 → e.param 4 4 + e.param 8 4 ≤ 2 ^ 25 →
      let subs := mapPut (s.taken e).subs (e.param 0 2)
        { mode := e.param 2 1, first := e.param 4 4, count := e.param 8 4, deadband := BitVec.ofNat 32 (e.param 12 4), refs := [] }
      subs.length ≤ 1024 → subPoints subs ≤ 4194304 →
      ∃ u, exec (.pntSubscribe e) s = .next (s.completed Op.pntSubscribe e St.ok (subPoints subs) 0 0 [] u) ∧
        u.subs = subs ∧ u.noticeQ = (s.taken e).noticeQ ++
          (if bitOf (e.param 2 1) 3 then ({ s.taken e with subs := subs } : State).initialNotices (e.param 0 2) (e.param 4 4) (e.param 8 4) else []) ∧ u.points = (s.taken e).points) ∧
    (∀ x, s.admits Op.pntUnsubscribe e = true → mapFind (s.taken e).subs (e.param 0 2) = some x →
      exec (.pntUnsubscribe e) s = .next (s.completed Op.pntUnsubscribe e St.ok 0 0 0 []
        { s.taken e with subs := mapDel (s.taken e).subs (e.param 0 2) }))

/-- WRITE and WRITE_QUALITY (R91, R155): an untagged entry that passes R155 is applied at once, WRITE with quality GOOD, WRITE_QUALITY with the entry's, writer 0x0020,
stamped at its application; one that names an address outside the image or an op that does not exist completes BAD_FORMAT and counts. -/
def Obligations.PointWrites : Prop :=
  ∀ (s : State) (e : PwrEntry),
    let tag := pwrTag e (s.rdN (Reg.RNG_MODIDX 2))
    let u := s.pwrTaken e
    let op (q : Nat) : PtOp := .write { addr := e.address.toNat, value := e.value, quality := q, writer := 0x0020, stamp := u.stamp }
    let r0 := bit (u.force? e.address.toNat).isSome
    (s.pwrAdmits e = true → e.txn = 0 → e.op = 1 → u.charging = false →
      u.writeCheck e.address false true false e.typeQuality e.value none = none →
      exec (.write e) s = .next (settle tag (.done St.ok r0 0 0 [] (u.applyWith [op Q.good] [tag.delta r0 0] [])))) ∧
    (s.pwrAdmits e = true → e.txn = 0 → e.op = 2 → u.charging = false →
      u.writeCheck e.address false true false e.typeQuality e.value none = none →
      exec (.writeQuality e) s = .next (settle tag (.done St.ok r0 0 0 [] (u.applyWith [op (bitsOf e.typeQuality.toNat 4 4)] [tag.delta r0 0] [])))) ∧
    (s.takeOk 2 = true → (2 ^ 25 ≤ e.address.toNat ∨ (e.op ≠ 1 ∧ e.op ≠ 2)) →
      exec (.write e) s = .next (((s.takeEntry 2).bump Reg.PNT_CNT_REFUSED).postCpl tag St.badFormat 0 0 0 []))

/-! ### Ladles -/

/-- The operand of a point instruction (R174, R175): B0 names the slot itself; a bound base names slot start + window × width + offset of its range; a base that is not
bound or not valid names none. A load takes value and quality of the slot; through no slot it takes 0 with quality BAD and counts an index fault. A store changes the
named slot only and marks it dirty. -/
def Obligations.LadleOperands : Prop :=
  ∀ (c : LCtx) (r : LRun) (b off : Nat),
    (c.slotOf r 0 off = some off) ∧
    (∀ x g, b ≠ 0 → r.bases.getD b none = some x → x.valid = true → c.prog.ranges[x.range]? = some g →
      c.slotOf r b off = some (g.start + x.window.toNat * g.width + off)) ∧
    (∀ x, b ≠ 0 → r.bases.getD b none = some x → x.valid = false → c.slotOf r b off = none) ∧
    (b ≠ 0 → r.bases.getD b none = none → c.slotOf r b off = none) ∧
    (∀ k x, c.slotOf r b off = some k → r.slots[k]? = some x → c.load r b off = (x.value, x.quality, (c.cfg.ptInfo x.addr).typ, r)) ∧
    (c.slotOf r b off = none → c.load r b off = (0, lBad, 0, r.fault) ∧ ∀ f, c.store r b off f = r.fault) ∧
    (∀ k x f, c.slotOf r b off = some k → r.slots[k]? = some x →
      (c.store r b off f).slots[k]? = some { x with value := (f x (c.cfg.ptInfo x.addr)).1, quality := (f x (c.cfg.ptInfo x.addr)).2, dirty := true } ∧
      (∀ j, j ≠ k → (c.store r b off f).slots[j]? = r.slots[j]?) ∧ { c.store r b off f with slots := r.slots } = r)

/-- Bit loads (R176 to R178): with slot `x` named, the loaded bit is bit m[4:0] of its value, inverted under N; LD takes it, AND, OR and XOR combine it with LA and take
the higher quality, LDQ compares the quality with its threshold. -/
def Obligations.LadleBitLoads : Prop :=
  ∀ (s : State) (n b off m k : Nat) (p : Prog) (x : Slot),
    let v := bitOf x.value.toNat (m % 32) != bitOf m 7
    let r (op : PIns) := s.ladleAt n (.pt op b off m)
    (s.lctx (s.ladle n) p).slotOf (s.ladle n).run b off = some k → (s.ladle n).run.slots[k]? = some x →
    ((s.ladle n).fetches (.pt .ld b off m) = some p → exec (.liLd n b off m) s = .next (s.ladleRan n { r .ld with la := v, lq := x.quality })) ∧
    ((s.ladle n).fetches (.pt .and_ b off m) = some p →
      exec (.liAnd n b off m) s = .next (s.ladleRan n { r .and_ with la := (s.ladle n).run.la && v, lq := max (s.ladle n).run.lq x.quality })) ∧
    ((s.ladle n).fetches (.pt .or_ b off m) = some p →
      exec (.liOr n b off m) s = .next (s.ladleRan n { r .or_ with la := (s.ladle n).run.la || v, lq := max (s.ladle n).run.lq x.quality })) ∧
    ((s.ladle n).fetches (.pt .xor_ b off m) = some p →
      exec (.liXor n b off m) s = .next (s.ladleRan n { r .xor_ with la := (s.ladle n).run.la != v, lq := max (s.ladle n).run.lq x.quality })) ∧
    ((s.ladle n).fetches (.pt .ldq b off m) = some p →
      exec (.liLdq n b off m) s = .next (s.ladleRan n { r .ldq with la := decide (x.quality ≤ m % 16) != bitOf m 7, lq := 0 }))

/-- Stores (R176, R178, R182): the slot named takes the bit, or WA converted to the point's type, with the accumulator's quality or GOOD under G; SET and RST store only
with LA 1, STW under C only with LA 1; nothing else of the ladle changes but its counter and its units. -/
def Obligations.LadleStores : Prop :=
  ∀ (s : State) (n b off m k : Nat) (p : Prog) (x : Slot),
    let run := (s.ladle n).run
    let r (op : PIns) := s.ladleAt n (.pt op b off m)
    let put (v : Bool) : Slot :=
      { x with value := BitVec.ofNat 32 (putBits x.value.toNat (m % 32) 1 (bit v)), quality := if bitOf m 6 then 0 else run.lq, dirty := true }
    (s.lctx (s.ladle n) p).slotOf run b off = some k → run.slots[k]? = some x →
    ((s.ladle n).fetches (.pt .st b off m) = some p →
      exec (.liSt n b off m) s = .next (s.ladleRan n { r .st with slots := run.slots.set k (put (run.la != bitOf m 7)) })) ∧
    ((s.ladle n).fetches (.pt .set b off m) = some p → exec (.liSet n b off m) s =
      .next (s.ladleRan n (if run.la then { r .set with slots := run.slots.set k (put true) } else r .set))) ∧
    ((s.ladle n).fetches (.pt .rst b off m) = some p → exec (.liRst n b off m) s =
      .next (s.ladleRan n (if run.la then { r .rst with slots := run.slots.set k (put false) } else r .rst))) ∧
    ((s.ladle n).fetches (.pt .stw b off m) = some p → (bitOf m 5 = false ∨ run.la = true) → ((s.cfg.ptInfo x.addr).typ ≠ 7 ∨ isNan run.wa = false) →
      let y : Slot := { x with
        value := convert (s.cfg.ptInfo x.addr).typ (s.cfg.ptInfo x.addr).enumMax run.wa, quality := if bitOf m 6 then 0 else run.wq, dirty := true }
      exec (.liStw n b off m) s = .next (s.ladleRan n { r .stw with slots := run.slots.set k y })) ∧
    ((s.ladle n).fetches (.pt .stw b off m) = some p → bitOf m 5 = true → run.la = false → exec (.liStw n b off m) s = .next (s.ladleRan n (r .stw)))

/-- The branch stack and LAOP (R179): BOPEN pushes LA and LQ and starts with 1 and GOOD; BAND, BOR and BDROP pop; BPEEK copies the top. -/
def Obligations.LadleBranchStack : Prop :=
  ∀ (s : State) (n : Nat) (p : Prog),
    let run := (s.ladle n).run
    let r (op : ZIns) := s.ladleAt n (.z op)
    ((s.ladle n).fetches (.z .bopen) = some p →
      exec (.liBopen n) s = .next (s.ladleRan n { r .bopen with branch := (run.la, run.lq) :: run.branch, la := true, lq := 0 })) ∧
    (∀ x xs, run.branch = x :: xs →
      ((s.ladle n).fetches (.z .band) = some p → exec (.liBand n) s = .next (s.ladleRan n { r .band with branch := xs, la := x.1 && run.la, lq := max x.2 run.lq })) ∧
      ((s.ladle n).fetches (.z .bor) = some p → exec (.liBor n) s = .next (s.ladleRan n { r .bor with branch := xs, la := x.1 || run.la, lq := max x.2 run.lq })) ∧
      ((s.ladle n).fetches (.z .bpeek) = some p → exec (.liBpeek n) s = .next (s.ladleRan n { r .bpeek with la := x.1, lq := x.2 })) ∧
      ((s.ladle n).fetches (.z .bdrop) = some p → exec (.liBdrop n) s = .next (s.ladleRan n { r .bdrop with branch := xs, lq := max x.2 run.lq }))) ∧
    (∀ k, k ≤ 2 → (s.ladle n).fetches (.laop k) = some p →
      exec (.liLaop n k) s = .next (s.ladleRan n { s.ladleAt n (.laop k) with la := if k = 0 then false else if k = 1 then true else !run.la }))

/-- Edges, timers, counters and private words (R186 to R188): each of the eight instructions completes on every ladle that fetches it, in every form of its mode field,
on the instance that its immediate and its base name; a conditional form with LA 0 changes nothing but the counter and the units. Through an invalid base each of them
changes only LA, which takes 0 with quality BAD, and counts an index fault (R175). -/
def Obligations.LadleInstances : Prop :=
  ∀ (s : State) (n k b m j : Nat) (p : Prog),
    let run := (s.ladle n).run
    let pr := run.priv
    let r (op : TIns) := s.ladleAt n (.inst op k b m)
    let has (op : TIns) : Prop := (s.ladle n).fetches (.inst op k b m) = some p
    (run.instOf k b = some j →
      (has .edge → exec (.liEdge n k b m) s = .next (s.ladleRan n { r .edge with
        la := if m = 0 then run.la && !pr.edges.getD j false else if m = 1 then !run.la && pr.edges.getD j false else run.la != pr.edges.getD j false
        priv := { pr with edges := pr.edges.set j run.la } })) ∧
      (has .tmr → exec (.liTmr n k b m) s =
        let x := evalTimer (p.timers.getD j (0, 1)).1 (if m = 1 then max 1 run.wa.toNat else (p.timers.getD j (0, 1)).2) s.cyc.boundary run.la (pr.timers.getD j {})
        .next (s.ladleRan n { r .tmr with la := x.1, priv := { pr with timers := pr.timers.set j x.2 } })) ∧
      (has .ctu →
        let c := pr.counters.getD j {}
        let v := if run.la && !c.up then min (2 ^ 31 - 1 : Int) (c.value + 1) else c.value
        exec (.liCtu n k b m) s = .next (s.ladleRan n { r .ctu with
          la := decide (p.counters.getD j 0 ≤ v)
          priv := { pr with counters := pr.counters.set j { c with value := v, up := run.la, q := decide (p.counters.getD j 0 ≤ v) } } })) ∧
      (has .ctd →
        let c := pr.counters.getD j {}
        let v := if run.la && !c.down then max (-(2 ^ 31 : Int)) (c.value - 1) else c.value
        exec (.liCtd n k b m) s = .next (s.ladleRan n { r .ctd with
          la := decide (v ≤ 0), priv := { pr with counters := pr.counters.set j { c with value := v, down := run.la, q := decide (v ≤ 0) } } })) ∧
      (has .tcr → run.la = true → m = 0 → exec (.liTcr n k b m) s = .next (s.ladleRan n { r .tcr with priv := { pr with timers := pr.timers.set j {} } })) ∧
      (has .tcr → run.la = true → m = 1 → exec (.liTcr n k b m) s = .next (s.ladleRan n { r .tcr with
        priv := { pr with counters := pr.counters.set j { pr.counters.getD j {} with value := 0, up := false, down := false } } })) ∧
      (has .tcr → run.la = false → exec (.liTcr n k b m) s = .next (s.ladleRan n (r .tcr))) ∧
      (has .tcld → m = 0 → exec (.liTcld n k b m) s = .next (s.ladleRan n { r .tcld with
        wa := BitVec.ofNat 32 (timerElapsed (p.timers.getD j (0, 1)).1 s.cyc.boundary (pr.timers.getD j {})), wq := 0 })) ∧
      (has .tcld → m = 1 → exec (.liTcld n k b m) s =
        .next (s.ladleRan n { r .tcld with wa := BitVec.ofNat 32 (ofInt 32 (pr.counters.getD j {}).value), wq := 0 })) ∧
      (has .tcld → m = 2 → run.la = true → exec (.liTcld n k b m) s = .next (s.ladleRan n { r .tcld with
        priv := { pr with counters := pr.counters.set j { pr.counters.getD j {} with value := run.wa.toInt } } })) ∧
      (has .tcld → m = 2 → run.la = false → exec (.liTcld n k b m) s = .next (s.ladleRan n (r .tcld))) ∧
      (has .ldm → exec (.liLdm n k b m) s = .next (s.ladleRan n { r .ldm with wa := (pr.mems.getD j (0, 0)).1, wq := (pr.mems.getD j (0, 0)).2 })) ∧
      (has .stm → (m = 0 ∨ run.la = true) →
        exec (.liStm n k b m) s = .next (s.ladleRan n { r .stm with priv := { pr with mems := pr.mems.set j (run.wa, run.wq) } })) ∧
      (has .stm → m = 1 → run.la = false → exec (.liStm n k b m) s = .next (s.ladleRan n (r .stm)))) ∧
    (run.instOf k b = none →
      let bad (op : TIns) : LRun := { r op with la := false, lq := lBad, idxFault := run.idxFault + 1 }
      (has .edge → exec (.liEdge n k b m) s = .next (s.ladleRan n (bad .edge))) ∧ (has .tmr → exec (.liTmr n k b m) s = .next (s.ladleRan n (bad .tmr))) ∧
      (has .ctu → exec (.liCtu n k b m) s = .next (s.ladleRan n (bad .ctu))) ∧ (has .ctd → exec (.liCtd n k b m) s = .next (s.ladleRan n (bad .ctd))) ∧
      (has .tcr → exec (.liTcr n k b m) s = .next (s.ladleRan n (bad .tcr))) ∧ (has .tcld → exec (.liTcld n k b m) s = .next (s.ladleRan n (bad .tcld))) ∧
      (has .ldm → exec (.liLdm n k b m) s = .next (s.ladleRan n (bad .ldm))) ∧ (has .stm → exec (.liStm n k b m) s = .next (s.ladleRan n (bad .stm))))

/-- The timers (R186): with their input on, TON and TOF reach or hold Q as the elapsed time says; without it TON falls at once; a pulse lasts its preset; an accumulated
time that has reached the preset holds Q. -/
def Obligations.TimerRules : Prop :=
  ∀ (preset tc : Nat) (t : Tmr), 1 ≤ preset →
    ((evalTimer 0 preset tc false t).1 = false ∧ (evalTimer 0 preset tc false t).2.run = false) ∧
    (t.run = false → (evalTimer 0 preset tc true t).1 = false ∧ (evalTimer 0 preset tc true t).2.start = tc ∧ (evalTimer 0 preset tc true t).2.run = true) ∧
    (t.run = true → (evalTimer 0 preset tc true t).1 = decide (preset ≤ elapsedMs tc t.start)) ∧
    ((evalTimer 1 preset tc true t).1 = true ∧ (evalTimer 1 preset tc true t).2.q = true) ∧
    (t.q = true → t.run = true → (evalTimer 1 preset tc false t).1 = !decide (preset ≤ elapsedMs tc t.start)) ∧
    (t.prev = false → t.run = false → (evalTimer 2 preset tc true t).1 = true) ∧
    (t.run = true → (evalTimer 2 preset tc true t).1 = !decide (preset ≤ elapsedMs tc t.start)) ∧
    (t.run = false → (evalTimer 3 preset tc false t).1 = decide (preset ≤ t.acc)) ∧
    (t.run = true → (evalTimer 3 preset tc true t).1 = decide (preset ≤ t.acc + elapsedMs tc t.start))

/-- Word loads and moves (R176, R177, R182, R194). -/
def Obligations.LadleWordMoves : Prop :=
  ∀ (s : State) (n : Nat) (p : Prog),
    let run := (s.ladle n).run
    (∀ b off m k x, (s.lctx (s.ladle n) p).slotOf run b off = some k → run.slots[k]? = some x → (s.ladle n).fetches (.pt .ldw b off m) = some p →
      let r := s.ladleAt n (.pt .ldw b off m)
      (m / 16 = 15 → exec (.liLdw n b off m) s = .next (s.ladleRan n { r with wa := x.value, wq := x.quality })) ∧
      (m / 16 ≠ 15 → x.quality ≤ m / 16 → exec (.liLdw n b off m) s = .next (s.ladleRan n { r with wa := x.value, wq := x.quality, la := false, lq := 0 })) ∧
      (m / 16 < x.quality → m / 16 ≠ 15 → exec (.liLdw n b off m) s = .next (s.ladleRan n { r with wa := (run.w (m % 16)).1, wq := 2, la := true, lq := 0 }))) ∧
    (∀ b off m k x, (s.lctx (s.ladle n) p).slotOf run b off = some k → run.slots[k]? = some x → (s.ladle n).fetches (.pt .qld b off m) = some p →
      exec (.liQld n b off m) s = .next (s.ladleRan n { s.ladleAt n (.pt .qld b off m) with wa := BitVec.ofNat 32 x.quality, wq := 0 })) ∧
    (∀ k, (s.ladle n).fetches (.wbit 0 k) = some p →
      exec (.liWbit n 0 k) s = .next (s.ladleRan n { s.ladleAt n (.wbit 0 k) with la := bitOf run.wa.toNat k, lq := run.wq })) ∧
    (∀ k, (s.ladle n).fetches (.wbit 1 k) = some p → exec (.liWbit n 1 k) s =
      .next (s.ladleRan n { s.ladleAt n (.wbit 1 k) with wa := BitVec.ofNat 32 (putBits run.wa.toNat k 1 (bit run.la)), wq := max run.wq run.lq })) ∧
    (∀ i, (s.ladle n).fetches (.ldi i) = some p →
      exec (.liLdi n i) s = .next (s.ladleRan n { s.ladleAt n (.ldi i) with wa := BitVec.ofNat 32 (ofInt 32 (sext 24 i)), wq := 0 })) ∧
    (∀ i, (s.ladle n).fetches (.ldih i) = some p →
      exec (.liLdih n i) s = .next (s.ladleRan n { s.ladleAt n (.ldih i) with wa := BitVec.ofNat 32 (putBits run.wa.toNat 16 16 i) })) ∧
    (∀ w, (s.ladle n).fetches (.mov 0 w) = some p → exec (.liMov n 0 w) s = .next (s.ladleRan n { s.ladleAt n (.mov 0 w) with ws := run.ws.set w (run.wa, run.wq) })) ∧
    (∀ w, (s.ladle n).fetches (.mov 1 w) = some p → exec (.liMov n 1 w) s = .next (s.ladleRan n { s.ladleAt n (.mov 1 w) with wa := (run.w w).1, wq := (run.w w).2 })) ∧
    (∀ w, (s.ladle n).fetches (.mov 2 w) = some p → exec (.liMov n 2 w) s =
      .next (s.ladleRan n { s.ladleAt n (.mov 2 w) with wa := (run.w w).1, wq := (run.w w).2, ws := run.ws.set w (run.wa, run.wq) })) ∧
    (∀ w, (s.ladle n).fetches (.sel w) = some p → exec (.liSel n w) s =
      .next (s.ladleRan n (if run.la then { s.ladleAt n (.sel w) with wa := (run.w w).1, wq := (run.w w).2 } else s.ladleAt n (.sel w))))

/-- Arithmetic, comparison and tables (R176, R180, R181, R183, R194, R195): WA takes the function's value with the higher quality, an undefined division and a NaN take
quality BAD and are counted; a comparison goes into LA; TBL reads a word or a curve. That the sum of TBL's base and WA does not wrap is the model's choice (log entry 50). -/
def Obligations.LadleArithmetic : Prop :=
  ∀ (s : State) (n : Nat) (p : Prog),
    let run := (s.ladle n).run
    (∀ fn w, fn ≠ 0x15 → fn ≠ 0x16 → (aluOf fn run.wa (run.w w).1).2 = false → (s.ladle n).fetches (.alu fn w) = some p →
      exec (.liAlu n fn w) s = .next (s.ladleRan n { s.ladleAt n (.alu fn w) with wa := (aluOf fn run.wa (run.w w).1).1, wq := max run.wq (run.w w).2 })) ∧
    (∀ fn w, (aluOf fn run.wa (run.w w).1).2 = true → (s.ladle n).fetches (.alu fn w) = some p →
      exec (.liAlu n fn w) s = .next (s.ladleRan n { s.ladleAt n (.alu fn w) with
        wa := (aluOf fn run.wa (run.w w).1).1, wq := lBad, arith := run.arith + 1 })) ∧
    (∀ fn i, (aluOf fn run.wa (BitVec.ofNat 32 (ofInt 32 (sext 21 i)))).2 = false → (s.ladle n).fetches (.alui fn i) = some p →
      exec (.liAlui n fn i) s = .next (s.ladleRan n { s.ladleAt n (.alui fn i) with wa := (aluOf fn run.wa (BitVec.ofNat 32 (ofInt 32 (sext 21 i)))).1 })) ∧
    (∀ fn w, fn = 0x15 ∨ fn = 0x16 → (s.ladle n).fetches (.alu fn w) = some p →
      exec (.liAlu n fn w) s = .next (s.ladleRan n { s.ladleAt n (.alu fn w) with wa := (aluOf fn run.wa (run.w w).1).1 })) ∧
    (∀ fn i, (aluOf fn run.wa (BitVec.ofNat 32 (ofInt 32 (sext 21 i)))).2 = true → (s.ladle n).fetches (.alui fn i) = some p →
      exec (.liAlui n fn i) s = .next (s.ladleRan n { s.ladleAt n (.alui fn i) with
        wa := (aluOf fn run.wa (BitVec.ofNat 32 (ofInt 32 (sext 21 i)))).1, wq := lBad, arith := run.arith + 1 })) ∧
    (∀ fn w v, 6 ≤ fn → fn ≠ 9 → fpuOf fn run.wa (run.w w).1 = some v → (s.ladle n).fetches (.fpu fn w) = some p →
      exec (.liFpu n fn w) s = .next (s.ladleRan n { s.ladleAt n (.fpu fn w) with wa := v })) ∧
    (∀ fn w, 6 ≤ fn → fn ≠ 9 → fpuOf fn run.wa (run.w w).1 = none → (s.ladle n).fetches (.fpu fn w) = some p →
      exec (.liFpu n fn w) s = .next (s.ladleRan n { s.ladleAt n (.fpu fn w) with wa := 0x7FC00000, wq := lBad, arith := run.arith + 1 })) ∧
    (∀ w v, f32ToInt (F32.ofWord run.wa) = some v → (s.ladle n).fetches (.fpu 9 w) = some p →
      exec (.liFpu n 9 w) s = .next (s.ladleRan n { s.ladleAt n (.fpu 9 w) with wa := v })) ∧
    (∀ w, f32ToInt (F32.ofWord run.wa) = none → (s.ladle n).fetches (.fpu 9 w) = some p →
      exec (.liFpu n 9 w) s = .next (s.ladleRan n { s.ladleAt n (.fpu 9 w) with wa := 0, wq := lBad, arith := run.arith + 1 })) ∧
    (∀ fn w v, fn < 6 → fpuOf fn run.wa (run.w w).1 = some v → (s.ladle n).fetches (.fpu fn w) = some p →
      exec (.liFpu n fn w) s = .next (s.ladleRan n { s.ladleAt n (.fpu fn w) with wa := v, wq := max run.wq (run.w w).2 })) ∧
    (∀ fn w, fn < 6 → fpuOf fn run.wa (run.w w).1 = none → (s.ladle n).fetches (.fpu fn w) = some p →
      exec (.liFpu n fn w) s = .next (s.ladleRan n { s.ladleAt n (.fpu fn w) with wa := 0x7FC00000, wq := lBad, arith := run.arith + 1 })) ∧
    (∀ c w, (s.ladle n).fetches (.cmp c 0 w) = some p →
      exec (.liCmp n c 0 w) s = .next (s.ladleRan n { s.ladleAt n (.cmp c 0 w) with la := condOf c run.wa (run.w w).1, lq := max run.wq (run.w w).2 })) ∧
    (∀ c w, (s.ladle n).fetches (.cmp c 1 w) = some p → exec (.liCmp n c 1 w) s = .next (s.ladleRan n { s.ladleAt n (.cmp c 1 w) with
      la := run.la && condOf c run.wa (run.w w).1, lq := max run.lq (max run.wq (run.w w).2) })) ∧
    (∀ c w, (s.ladle n).fetches (.cmp c 2 w) = some p → exec (.liCmp n c 2 w) s = .next (s.ladleRan n { s.ladleAt n (.cmp c 2 w) with
      la := run.la || condOf c run.wa (run.w w).1, lq := max run.lq (max run.wq (run.w w).2) })) ∧
    (∀ c i, (s.ladle n).fetches (.cmpi c 0 i) = some p → exec (.liCmpi n c 0 i) s = .next (s.ladleRan n { s.ladleAt n (.cmpi c 0 i) with
      la := condOf c run.wa (BitVec.ofNat 32 (ofInt 32 (sext 16 i))), lq := run.wq })) ∧
    (∀ c i, (s.ladle n).fetches (.cmpi c 1 i) = some p → exec (.liCmpi n c 1 i) s = .next (s.ladleRan n { s.ladleAt n (.cmpi c 1 i) with
      la := run.la && condOf c run.wa (BitVec.ofNat 32 (ofInt 32 (sext 16 i))), lq := max run.lq run.wq })) ∧
    (∀ c i, (s.ladle n).fetches (.cmpi c 2 i) = some p → exec (.liCmpi n c 2 i) s = .next (s.ladleRan n { s.ladleAt n (.cmpi c 2 i) with
      la := run.la || condOf c run.wa (BitVec.ofNat 32 (ofInt 32 (sext 16 i))), lq := max run.lq run.wq })) ∧
    (∀ base, let c := s.lctx (s.ladle n) p
      let points := (c.tab base).toNat
      (s.ladle n).fetches (.tbl 1 base) = some p →
      (base < p.tableWords ∧ 2 ≤ points ∧ points ≤ 4096 ∧ base + 1 + 2 * points ≤ p.tableWords → exec (.liTbl n 1 base) s =
        .next (s.ladleRan n { s.ladleAt n (.tbl 1 base) with wa := BitVec.ofNat 32 (ofInt 32 (c.interp run.wa.toInt base)) })) ∧
      (¬ (base < p.tableWords ∧ 2 ≤ points ∧ points ≤ 4096 ∧ base + 1 + 2 * points ≤ p.tableWords) → exec (.liTbl n 1 base) s =
        .next (s.ladleRan n { s.ladleAt n (.tbl 1 base) with wa := 0, wq := lBad, idxFault := run.idxFault + 1 }))) ∧
    (∀ base, base + run.wa.toNat < p.tableWords → (s.ladle n).fetches (.tbl 0 base) = some p → exec (.liTbl n 0 base) s =
      .next (s.ladleRan n { s.ladleAt n (.tbl 0 base) with wa := mapGet (fun _ => 0) (s.ladle n).table (base + run.wa.toNat) })) ∧
    (∀ base, p.tableWords ≤ base + run.wa.toNat → (s.ladle n).fetches (.tbl 0 base) = some p → exec (.liTbl n 0 base) s =
      .next (s.ladleRan n { s.ladleAt n (.tbl 0 base) with wa := 0, wq := lBad, idxFault := run.idxFault + 1 }))

/-- R180: results wrap modulo 2^32 unless a function saturates; a division by zero gives the value the rule names with quality BAD and one count; DIV of 0x80000000 by −1
gives 0x7FFFFFFF and keeps the quality of its operands; any other division is exact; shifts use operand bits 4:0. -/
def Obligations.AluRules : Prop :=
  (∀ x y : Word, aluOf 0x00 x y = (x + y, false) ∧ aluOf 0x01 x y = (x - y, false) ∧ aluOf 0x04 x y = (x * y, false)) ∧
  (∀ x : Word, aluOf 0x07 x 0 = (if x.getLsbD 31 then 0x80000000 else 0x7FFFFFFF, true) ∧ aluOf 0x08 x 0 = (0xFFFFFFFF, true) ∧ aluOf 0x09 x 0 = (0, true) ∧
    aluOf 0x0A x 0 = (0, true)) ∧
  (∀ (fn : Nat) (y : Word) (q : Nat) (r : LRun), (aluOf fn r.wa y).2 = true → (aluWith fn y q r).wa = (aluOf fn r.wa y).1 ∧ (aluWith fn y q r).wq = 5 ∧ (aluWith fn y q r).arith = r.arith + 1) ∧
  (∀ (fn : Nat) (y : Word) (q : Nat) (r : LRun), (aluOf fn r.wa y).2 = true → y = 0 ∧ 7 ≤ fn ∧ fn ≤ 0xA) ∧
  (∀ (q : Nat) (r : LRun), r.wa = 0x80000000 → (aluWith 0x07 0xFFFFFFFF q r).wa = 0x7FFFFFFF ∧ (aluWith 0x07 0xFFFFFFFF q r).wq = max r.wq q ∧
    (aluWith 0x07 0xFFFFFFFF q r).arith = r.arith) ∧
  (∀ x y : Word, y ≠ 0 → (aluOf 0x08 x y).1.toNat = x.toNat / y.toNat ∧ (aluOf 0x0A x y).1.toNat = x.toNat % y.toNat ∧
    (x ≠ 0x80000000 ∨ y ≠ 0xFFFFFFFF → (aluOf 0x07 x y).1.toInt = Int.tdiv x.toInt y.toInt) ∧ (aluOf 0x09 x y).1.toInt = Int.tmod x.toInt y.toInt) ∧
  (∀ x y : Word, (aluOf 0x0E x y).1 = x <<< (y.toNat % 32) ∧ (aluOf 0x0F x y).1 = x >>> (y.toNat % 32) ∧
    (aluOf 0x10 x y).1.toInt = x.toInt / (2 : Int) ^ (y.toNat % 32))

/-- Control flow (R184, R185): JMP and CALL under their condition, RET to the index that CALL kept, LOOP, ENDL and BRK, NOP, and END, which ends the ladle's run and
shows its units, time and calls. -/
def Obligations.LadleControl : Prop :=
  ∀ (s : State) (n : Nat) (p : Prog),
    let run := (s.ladle n).run
    (∀ t, (s.ladle n).fetches (.jmp 0 t) = some p → exec (.liJmp n 0 t) s = .next (s.ladleRan n { s.ladleAt n (.jmp 0 t) with pc := t })) ∧
    (∀ t, (s.ladle n).fetches (.jmp 1 t) = some p →
      exec (.liJmp n 1 t) s = .next (s.ladleRan n { s.ladleAt n (.jmp 1 t) with pc := if run.la then t else run.pc + 1 })) ∧
    (∀ t, (s.ladle n).fetches (.jmp 2 t) = some p →
      exec (.liJmp n 2 t) s = .next (s.ladleRan n { s.ladleAt n (.jmp 2 t) with pc := if run.la then run.pc + 1 else t })) ∧
    (∀ t, (s.ladle n).fetches (.call 0 t) = some p →
      exec (.liCall n 0 t) s = .next (s.ladleRan n { s.ladleAt n (.call 0 t) with pc := t, rets := (run.pc + 1) :: run.rets })) ∧
    (∀ c t, c = 1 ∨ c = 2 → (s.ladle n).fetches (.call c t) = some p → exec (.liCall n c t) s = .next (s.ladleRan n
      (if run.la = (c == 1) then { s.ladleAt n (.call c t) with pc := t, rets := (run.pc + 1) :: run.rets } else s.ladleAt n (.call c t)))) ∧
    (∀ b w k, let times := if w = 1 then min run.wa.toNat (k + 1) else k + 1
      let bases := if b = 0 then run.bases else (match run.bases.getD b none with
        | some x => run.bases.set b (some { x with window := 0, valid := true })
        | none => run.bases)
      (s.ladle n).fetches (.loop b w k) = some p →
      (times ≠ 0 → exec (.liLoop n b w k) s = .next (s.ladleRan n { s.ladleAt n (.loop b w k) with
        bases := bases, loops := { at_ := run.pc, left := times, base := b } :: run.loops })) ∧
      (times = 0 → exec (.liLoop n b w k) s = .next (s.ladleRan n { s.ladleAt n (.loop b w k) with bases := bases, pc := endOf p.pairs run.pc + 1 }))) ∧
    (∀ l ls x g, run.loops = l :: ls → 1 < l.left → l.base ≠ 0 → run.bases.getD l.base none = some x → p.ranges[x.range]? = some g →
      (s.ladle n).fetches (.z .endl) = some p → exec (.liEndl n) s = .next (s.ladleRan n { s.ladleAt n (.z .endl) with
        bases := run.bases.set l.base (some { x with window := x.window + 1, valid := x.valid && (decide (0 ≤ x.window + 1) && decide (x.window + 1 < g.count)) })
        loops := { l with left := l.left - 1 } :: ls, pc := l.at_ + 1 })) ∧
    (∀ x xs, run.rets = x :: xs → (s.ladle n).fetches (.z .ret) = some p →
      exec (.liRet n) s = .next (s.ladleRan n { s.ladleAt n (.z .ret) with pc := x, rets := xs })) ∧
    (∀ k, (s.ladle n).fetches (.loop 0 0 k) = some p →
      exec (.liLoop n 0 0 k) s = .next (s.ladleRan n { s.ladleAt n (.loop 0 0 k) with loops := { at_ := run.pc, left := k + 1, base := 0 } :: run.loops })) ∧
    (∀ k, run.wa = 0 → (s.ladle n).fetches (.loop 0 1 k) = some p →
      exec (.liLoop n 0 1 k) s = .next (s.ladleRan n { s.ladleAt n (.loop 0 1 k) with pc := endOf p.pairs run.pc + 1 })) ∧
    (∀ l ls, run.loops = l :: ls → l.left ≤ 1 → (s.ladle n).fetches (.z .endl) = some p →
      exec (.liEndl n) s = .next (s.ladleRan n { s.ladleAt n (.z .endl) with loops := ls })) ∧
    (∀ l ls, run.loops = l :: ls → 1 < l.left → l.base = 0 → (s.ladle n).fetches (.z .endl) = some p →
      exec (.liEndl n) s = .next (s.ladleRan n { s.ladleAt n (.z .endl) with loops := { l with left := l.left - 1 } :: ls, pc := l.at_ + 1 })) ∧
    (∀ l ls, run.loops = l :: ls → run.la = true → (s.ladle n).fetches (.z .brk) = some p →
      exec (.liBrk n) s = .next (s.ladleRan n { s.ladleAt n (.z .brk) with loops := ls, pc := endOf p.pairs l.at_ + 1 })) ∧
    (run.la = false → (s.ladle n).fetches (.z .brk) = some p → exec (.liBrk n) s = .next (s.ladleRan n (s.ladleAt n (.z .brk)))) ∧
    ((s.ladle n).fetches (.z .nop) = some p → exec (.liNop n) s = .next (s.ladleRan n (s.ladleAt n (.z .nop)))) ∧
    ((s.ladle n).fetches (.z .fin) = some p → ∃ t, exec (.liEnd n) s = .next t ∧ (t.ladle n).phase = .done ∧ (t.ladle n).endAt = s.now ∧
      t.rdN (Reg.LDL_LASTU n) = (run.units + 1) % 2 ^ 32 ∧ t.rdN (Reg.LDL_LASTNS n) = min (2 ^ 32 - 1) (s.now - (s.ladle n).chargeEnd) ∧
      (t.ladle n).run.slots = run.slots ∧ (t.ladle n).run.priv = run.priv ∧ (t.ladle n).run.calls = run.calls ∧ t.points = s.points)

/-- Bases and lamp calls (R175, R184, R191): SETB binds, BIDX moves and a window outside the range makes the base invalid, BLD reads the window, LCALL queues a call for
a zone that exists and counts the others. -/
def Obligations.LadleBasesAndCalls : Prop :=
  ∀ (s : State) (n : Nat) (p : Prog),
    let run := (s.ladle n).run
    (∀ b g w, (s.ladle n).fetches (.setb b g w) = some p → exec (.liSetb n b g w) s =
      .next (s.ladleRan n { s.ladleAt n (.setb b g w) with bases := run.bases.set b (some { range := g, window := w, valid := true }) })) ∧
    (∀ b i x g, run.bases.getD b none = some x → p.ranges[x.range]? = some g → (s.ladle n).fetches (.bidx b 1 i) = some p →
      let y : Base := { x with window := x.window + sext 16 i, valid := decide (0 ≤ x.window + sext 16 i) && decide (x.window + sext 16 i < g.count) }
      exec (.liBidx n b 1 i) s = .next (s.ladleRan n { s.ladleAt n (.bidx b 1 i) with bases := run.bases.set b (some y) })) ∧
    (∀ b i x g, run.bases.getD b none = some x → p.ranges[x.range]? = some g → (s.ladle n).fetches (.bidx b 0 i) = some p →
      let y : Base := { x with window := run.wa.toInt, valid := decide (0 ≤ run.wa.toInt) && decide (run.wa.toInt < g.count) }
      exec (.liBidx n b 0 i) s = .next (s.ladleRan n { s.ladleAt n (.bidx b 0 i) with bases := run.bases.set b (some y) })) ∧
    (∀ b x, run.bases.getD b none = some x → (s.ladle n).fetches (.bld b) = some p → exec (.liBld n b) s =
      .next (s.ladleRan n { s.ladleAt n (.bld b) with wa := BitVec.ofNat 32 (ofInt 32 x.window), wq := 0 })) ∧
    (∀ fn wt wf, (s.ladle n).fetches (.lcall fn wt wf) = some p → s.cfg.lamp.zoneOk (run.w wt).1.toNat = true → fn ≠ 2 → exec (.liLcall n fn wt wf) s =
      .next (s.ladleRan n { s.ladleAt n (.lcall fn wt wf) with
        calls := run.calls ++ [{ fn := fn, zone := (run.w wt).1.toNat, value := min 65535 run.wa.toNat, fade := (run.w wf).1.toNat }] })) ∧
    (∀ fn wt wf, (s.ladle n).fetches (.lcall fn wt wf) = some p → s.cfg.lamp.zoneOk (run.w wt).1.toNat = false → exec (.liLcall n fn wt wf) s =
      .next (s.ladleRan n { s.ladleAt n (.lcall fn wt wf) with lcDiscard := run.lcDiscard + 1 }))

/-- A ladle instruction that the ladle does not execute next changes nothing; one that it executes changes that ladle's working state and nothing else of the machine. -/
def Obligations.LadleFrame : Prop :=
  ∀ (s : State) (n : Nat) (i : LIns) (f : LOp),
    ((s.ladle n).fetches i = none → ladleDo n i f s = .next s) ∧
    (∀ p, (s.ladle n).fetches i = some p → ∃ r, ladleDo n i f s = .next (s.ladleRan n r) ∧ { s.ladleRan n r with ladles := s.ladles } = s ∧
      (∀ k, k ≠ n → (s.ladleRan n r).ladle k = s.ladle k) ∧ ((s.ladleRan n r).ladle n).run = r ∧ ((s.ladleRan n r).ladle n).prog = (s.ladle n).prog ∧
      ((s.ladleRan n r).ladle n).priv = (s.ladle n).priv ∧ ((s.ladleRan n r).ladle n).phase = (s.ladle n).phase)

/-- Decoding the word of a well-formed ladle instruction gives the instruction back, with every operand at every value its encoding admits (R193 to R195). -/
def Obligations.LadleDecodeOfEncode : Prop :=
  ∀ i : LIns, i.wf = true → LIns.decode i.encode = some i

/-- Words written out from R193 to R195 decode to their instructions; a word with an opcode that is not listed decodes to none. -/
def Obligations.LadleWordsDecode : Prop :=
  LIns.decode 0xFC000000 = some (.z .fin) ∧ LIns.decode 0x70000005 = some (.ldi 5) ∧ LIns.decode 0x04000100 = some (.pt .ld 0 1 0) ∧
  LIns.decode 0x14800240 = some (.pt .st 1 2 0x40) ∧ LIns.decode 0x80020000 = some (.alu 0 1) ∧ LIns.decode 0xA1000007 = some (.jmp 1 7) ∧
  LIns.decode 0xAC800003 = some (.loop 1 0 3) ∧ LIns.decode 0x00000000 = none ∧ LIns.decode 0xA3000007 = none

/-- The commands of ladles (R131, R199, R200): what an admitted entry that passes the checks does. -/
def Obligations.LadleCommands : Prop :=
  ∀ (s : State) (e : CmdEntry),
    let u := s.taken e
    (∀ k p, s.admits Op.ldlLoad e = true → u.onlineTxn e = some k → e.param 0 1 < 16 → e.param 4 4 = 0 → e.param 8 4 = e.buf.length → e.buf ≠ [] → e.buf.length ≤ 278592 →
      e.bufOut = false → u.conflicts (some k) [.ladle (e.param 0 1)] = false → (u.txn k).pieces = [] →
      loadProgram e.buf (e.param 0 1) (u.proposedInfo k) (u.takenBy k (e.param 0 1)) = .ok p →
      exec (.ldlLoad e) s = .next (s.completed Op.ldlLoad e St.ok p.wcu 0xFFFFFFFF 2 []
        (u.setTxn k { u.txn k with named := u.now, changes := addChange (u.txn k).changes (.program (e.param 0 1) (some e.buf)) }))) ∧
    (∀ k, s.admits Op.ldlUnload e = true → u.onlineTxn e = some k → e.param 0 1 < 16 → (u.txn k).isLocal = false →
      u.conflicts (some k) (Change.targets (.program (e.param 0 1) none)) = false →
      withinLimits (addChange (u.txn k).changes (.program (e.param 0 1) none)) = true →
      exec (.ldlUnload e) s = .next (s.completed Op.ldlUnload e St.ok 0 0 2 []
        (u.setTxn k { u.txn k with changes := addChange (u.txn k).changes (.program (e.param 0 1) none), named := u.now }))) ∧
    (s.admits Op.ldlTable e = true → e.txn = 0 → u.defaulted = false → e.param 0 1 < 16 → e.bufLen.toNat % 4 = 0 → e.bufLen ≠ 0 → e.bufOut = false →
      e.param 4 4 + e.bufLen.toNat / 4 ≤ u.tableRoom none (e.param 0 1) →
      u.conflicts none (Change.targets (.table (.ladle (e.param 0 1)) (4 * e.param 4 4) e.buf)) = false →
      exec (.ldlTable e) s = .next (s.waiting Op.ldlTable e (.ldlTable (e.param 0 1) (e.param 4 4) e.buf u.now)
        (u.setF (Reg.LDL_STATUS (e.param 0 1)) F.LDL_STATUS_TABLE_PENDING 1))) ∧
    (∀ n w first b since, n < 16 → s.waits = [w] → w.table? n = some (first, b, since) → s.ladleIdle n = true → ∃ t, exec (.ldlTableIdleApply n) s = .next t ∧
      t = ((s.writeTable n first b).finish w St.ok 0 0).setF (Reg.LDL_STATUS n) F.LDL_STATUS_TABLE_PENDING
        (bit (((s.writeTable n first b).finish w St.ok 0 0).waits.any fun w => (w.table? n).isSome))) ∧
    (∀ p, s.admits Op.ldlState e = true → u.defaulted = false → e.param 0 1 < 16 → e.param 1 1 < 4 → 1 ≤ e.param 6 2 → e.param 6 2 ≤ 4096 → e.bufOut = true →
      e.bufLen.toNat = 16 * e.param 6 2 → (u.ladle (e.param 0 1)).prog = some p → e.param 4 2 + e.param 6 2 ≤ p.declared (e.param 1 1) →
      exec (.ldlState e) s = .next (s.completed Op.ldlState e St.ok (e.param 6 2) 0 0 [(e.bufAddr.toNat, (List.range (e.param 6 2)).flatMap fun i =>
        stateEntry p (u.ladle (e.param 0 1)).priv (e.param 1 1) (e.param 4 2 + i) none)] u))

/-! ### The control cycle -/

/-- The boundary, the charge and the deadline of a cycle (R202, R207, R208, R212): at a boundary that has come the cycle number rises; the charge of one ladle ends while
others charge still; the last one lets execution begin; the deadline ends the cycle.
The commands of the control cycle, untagged (R205, R215, R224): a setup and a schedule wait for the next boundary; a hold stands at once and its command waits; a
release ends it and its waiting command. -/
def Obligations.ControlCycle : Prop :=
  (∀ s : State,
    (∀ b, s.cyc.next = some b → b ≤ s.now → s.leads = true → s.defaulted = false → s.handStops b = false →
      let t := s.deadline.wrN Reg.CYC_COUNT (s.deadline.rdN Reg.CYC_COUNT + 1)
      let u : State := { t.applyWaiting with cyc := { t.applyWaiting.cyc with minPace := 0x10000 } }
      exec .cycleBoundary s = .next ((u.nextBoundary b s.cyc.period).beginCycle (u.rdN Reg.CYC_COUNT))) ∧
    (∀ b, s.cyc.next = some b → s.now < b → exec .cycleBoundary s = .next s) ∧
    (∀ n m, n < 16 → m < 16 → m ≠ n → s.cyc.phase = .charging → (s.ladle n).phase = .charging → (s.ladle m).phase = .charging →
      exec (.chargeEnd n) s = .next (s.setLadle n { s.ladle n with phase := .executing, chargeEnd := s.now })) ∧
    (∀ n, n < 16 → s.cyc.phase = .charging → (s.ladle n).phase = .charging → (∀ m, m < 16 → m ≠ n → (s.ladle m).phase ≠ .charging) →
      let t := s.setLadle n { s.ladle n with phase := .executing, chargeEnd := s.now }
      exec (.chargeEnd n) s = .next
        ((({ t with cyc := { t.cyc with phase := .executing, chargedAt := t.now } } : State).wrN Reg.CYC_LASTCHG ((s.now - s.cyc.boundary) / 1000)).afterCharge)) ∧
    (s.cyc.phase ≠ .between → s.cyc.boundary + s.cyc.period - s.cyc.margin ≤ s.now → exec .commitDeadline s = .next s.deadline) ∧
    (s.now < s.cyc.boundary + s.cyc.period - s.cyc.margin → exec .commitDeadline s = .next s)) ∧
  (∀ (s : State) (e : CmdEntry),
    let u := s.taken e
    (s.admits Op.cycSetup e = true → e.txn = 0 → u.cycState = none → cycRange (e.param 0 4) (e.param 4 4) (e.param 8 4) = true → u.conflicts none [.cycle 16] = false →
      exec (.cycSetup e) s = .next (s.waiting Op.cycSetup e (.cycSetup (e.param 0 4) (e.param 4 4) (e.param 8 4) (bitOf (e.param 12 1) 0)) u)) ∧
    (∀ c, s.admits Op.cycSched e = true → e.txn = 0 → u.cycState = none → parseSched (slice e.params 4 12) = .ok c → e.param 0 1 < 16 → u.trigFits none (e.param 0 1) c = true →
      u.conflicts none [.cycle (e.param 0 1)] = false →
      exec (.cycSched e) s = .next (s.waiting Op.cycSched e (.cycSched (e.param 0 1) (slice e.params 4 12)) u)) ∧
    (s.admits Op.cycHold e = true → u.cycState = none → e.param 0 4 ≠ 0 →
      exec (.cycHold e) s = .next (s.waiting Op.cycHold e .cycHold
        (({ u with cyc := { u.cyc with hold := some (some (e.param 0 4)) } } : State).wrN Reg.CYC_HOLDLEFT (e.param 0 4)))) ∧
    (s.admits Op.cycHold e = true → u.cycState = none → e.param 0 4 = 0 →
      exec (.cycHold e) s = .next (s.waiting Op.cycHold e .cycHold (({ u with cyc := { u.cyc with hold := some none } } : State).wrN Reg.CYC_HOLDLEFT 0xFFFFFFFF))) ∧
    (s.admits Op.cycRelease e = true → u.defaulted = false → u.cyc.hold ≠ none →
      exec (.cycRelease e) s = .next (s.completed Op.cycRelease e St.ok 0 0 0 []
        ((({ u with cyc := { u.cyc with hold := none } } : State).wrN Reg.CYC_HOLDLEFT 0).finishAll (fun w => w.kind == .cycHold) St.aborted 0 0))))

/-! ### Lamps -/

/-- Ticks, evaluation, pours and the lamp commands (R227, R237, R242, R243, R248, R249, R255). -/
def Obligations.LampEventsAndCommands : Prop :=
  ∀ s : State,
    (∀ t0, s.lamp.next = some t0 → t0 ≤ s.now → s.lampRuns = true → s.handPending t0 = false →
      let t := (s.endSwitch.lampTick t0).tickGates t0 s.endSwitch.lamp.tick
      (t.leads = false → exec .tickBoundary s = .next t) ∧
      (t.leads = true → t.latchImages.tickOutputs.counterHigh = false → exec .tickBoundary s = .next t.latchImages.tickOutputs)) ∧
    (∀ t0, s.lamp.next = some t0 → s.now < t0 → exec .tickBoundary s = .next s) ∧
    (s.lamp.evaluating = true → ∀ us, exec (.lampEvaluationEnd us) s = .next ((List.range 64).foldl (fun (t : State) p => t.releaseMoulds p) (s.evalEnd us))) ∧
    (s.leads = true → s.lampRuns = true → ∀ p b rest, s.lamp.pours = (p, b) :: rest → p ≤ s.now → ∃ t, exec .pour s = .next t ∧
      t.lamp.pours = rest.filter (fun e => decide (s.now < e.1))) ∧
    (s.leads = true → s.lampRuns = true → exec .lumRunWrite s = .next (s.writeLumRuns false)) ∧
    (∀ e,
      let u := s.taken e
      let t : State := { u with lamp := { u.lamp with asked := e.param 0 1 == 1 } }
      s.admits Op.lmpEmerg e = true → u.defaulted = false →
      exec (.lmpEmerg e) s = .next (s.completed Op.lmpEmerg e St.ok (bit (t.emergSrc != 0) + 2 * t.emergSrc) 0 0 [] t)) ∧
    (∀ e r,
      let u := s.taken e
      s.admits Op.lmpProbe e = true → u.defaulted = false → u.cfg.lum (e.param 0 2) = some r →
      ∃ t, exec (.lmpProbe e) s = .next (s.completed Op.lmpProbe e St.ok 0 0 0 [] t) ∧
        (∀ c, c ∈ r.channels → bitOf (e.param 2 1) c = true → (t.chan (e.param 0 2) c).probeNow = true) ∧ t.points = u.points ∧
        (u.role ≠ .active ∨ u.paired = false → t.regs = u.regs)) ∧
    (∀ e rs,
      let u := s.taken e
      s.admits Op.lmpRecord e = true → e.txn = 0 → u.defaulted = false → e.bufOut = false → e.bufLen.toNat % 32 = 0 → e.bufLen.toNat ≤ 65536 → u.lampRecords e.buf = .ok rs →
      u.conflicts none (((recordsOf 32 rs.length e.buf).map fun b => Change.table .lampRecord (32 * fieldLe b 0 2) b).flatMap Change.targets) = false →
      exec (.lmpRecord e) s = .next (s.completed Op.lmpRecord e St.ok rs.length 0 0 [] (u.queueRecords rs))) ∧
    (∀ e,
      let u := s.taken e
      s.admits Op.lmpChstate e = true → u.defaulted = false → 1 ≤ e.param 2 2 → e.param 2 2 ≤ 1024 → e.param 0 2 + e.param 2 2 ≤ 32768 → e.bufOut = true →
      e.bufLen.toNat = 64 * e.param 2 2 →
      exec (.lmpChstate e) s = .next (s.completed Op.lmpChstate e St.ok (e.param 2 2) 0 0 [(e.bufAddr.toNat,
        (List.range (e.param 2 2)).flatMap fun i => (List.range 4).flatMap fun c => u.chEntry (e.param 0 2 + i) c)] u))

/-! ### Time and calendar -/

/-- The time commands (R343, R368): a step moves the wall base and leaves the monotonic base; an increment waits for the next tick; a leap notice stands.
The calendar commands (R354, R356, R360, R362, R365, R368). -/
def Obligations.TimeAndCalendarCommands : Prop :=
  (∀ (s : State) (e : CmdEntry),
    let u := s.taken e
    (s.admits Op.timStep e = true → u.servoOwns = false → u.stepOk (sext 32 (e.param 0 4)) (sext 32 (e.param 4 4)) = true →
      let t := u.stepWall (sext 32 (e.param 0 4)) (sext 32 (e.param 4 4)) 1
      exec (.timStep e) s = .next (s.completed Op.timStep e St.ok (t.stamp % 2 ^ 32) (t.stamp / 2 ^ 32) 0 [] t) ∧
        t.clock.mono = u.clock.mono ∧ t.clock.incr = u.clock.incr) ∧
    (s.admits Op.timSetincr e = true → u.servoOwns = false → u.conflicts none [.reg Reg.TIM_INCRLO, .reg Reg.TIM_INCRHI] = false →
      exec (.timSetincr e) s = .next (s.waiting Op.timSetincr e .setIncr (u.loadIncr (e.param 0 8)))) ∧
    (s.admits Op.timLeap e = true → u.utcOwned = false → e.param 2 1 ≤ 2 → u.conflicts none [.reg Reg.TIM_UTCOFF] = false →
      exec (.timLeap e) s = .next (s.completed Op.timLeap e St.ok 0 0 0 [] (u.setUtcOff (e.param 0 2) (e.param 2 1))))) ∧
  (∀ (s : State) (e : CmdEntry),
    let u := s.taken e
    (s.admits Op.rtcSet e = true → e.param 4 2 ≤ 32767 → u.conflicts none [.reg Reg.RTC_STG_UTC, .reg Reg.RTC_STG_SUBSEC] = false → exec (.rtcSet e) s = .next (s.waiting Op.rtcSet e .rtcSet
      ((u.stageTime false (BitVec.ofNat 32 (e.param 0 4))).stageTime true (BitVec.ofNat 32 (e.param 4 2))).askGo)) ∧
    (s.admits Op.rtcFromWall e = true → u.wallUnset = false → exec (.rtcFromWall e) s = .next (s.waiting Op.rtcFromWall e .rtcFromWall (u.askWall 2))) ∧
    (let d : AlarmDef := { alarm := e.param 0 1, mode := e.param 1 1, isLocal := bitOf (e.param 2 1) 0, dayMask := e.param 3 1, at_ := e.param 4 4, ivl := e.param 8 4 };
      s.admits Op.rtcAlarm e = true → d.ok (e.param 2 1) = true →
      exec (.rtcAlarm e) s = .next (s.completed Op.rtcAlarm e St.ok 0 0 0 [] (u.defineAlarm d))) ∧
    (s.admits Op.rtcPeriodic e = true → periodicOk (e.param 0 1) (e.param 1 1) (e.param 4 4) (e.param 8 4) = true →
      u.conflicts none [.reg (Reg.RTC_PER_CFG (e.param 0 1)), .reg (Reg.RTC_PER_PHASE (e.param 0 1))] = false →
      exec (.rtcPeriodic e) s = .next (s.completed Op.rtcPeriodic e St.ok 0 0 0 []
        (u.definePeriodic (e.param 0 1) (e.param 1 1) (e.param 4 4) (e.param 8 4)))) ∧
    (s.admits Op.rtcCharger e = true → u.maint = true → e.param 0 1 ≤ 1 → e.param 1 1 ≤ 3 → e.param 2 1 ≤ 3 → u.conflicts none [.reg Reg.RTC_CTL] = false →
      ∃ t, exec (.rtcCharger e) s = .next (s.completed Op.rtcCharger e St.ok 0 0 0 [] t) ∧
        t.fld Reg.RTC_CTL F.RTC_CTL_CHG_EN = e.param 0 1 ∧ t.fld Reg.RTC_CTL F.RTC_CTL_CHG_V = e.param 1 1 ∧ t.fld Reg.RTC_CTL F.RTC_CTL_CHG_I = e.param 2 1 ∧
        t.clock = u.clock ∧ t.points = u.points) ∧
    (s.admits Op.rtcSettrim e = true → u.fld Reg.RTC_CTL F.RTC_CTL_TRIMSRC = 0 → -8590 ≤ sext 16 (e.param 0 2) → sext 16 (e.param 0 2) ≤ 8590 → u.conflicts none [.reg Reg.RTC_TRIM] = false →
      exec (.rtcSettrim e) s = .next (s.completed Op.rtcSettrim e St.ok 0 0 0 []
        (u.setF Reg.RTC_TRIM F.RTC_TRIM_TRIM (ofInt 16 (sext 16 (e.param 0 2)))))))

/-- PTP, holdover and the crystal (R350 to R353, R357, R358, R362, R365). -/
def Obligations.TimeEvents : Prop :=
  ∀ s : State,
    (∀ port f t b rx, port < 2 → s.ethIn port 0x88F7 f = (t, some b) → t.masterPort port = true → bitOf (t.ptpMode port) 2 = false →
      exec (.ptpMessage port ⟨f, .delayReq rx⟩) s = .next (t.ethOut port (.ptp port 4 (t.ethRx port rx)))) ∧
    (∀ port f t b id off ivl, port < 2 → s.ethIn port 0x88F7 f = (t, some b) → exec (.ptpMessage port ⟨f, .sync id off ivl⟩) s = .next (t.ptpSync port id off ivl)) ∧
    (∀ port f t m, port < 2 → m ≠ .announceTimeout → s.ethIn port 0x88F7 f = (t, none) → exec (.ptpMessage port ⟨f, m⟩) s = .next t) ∧
    (∀ port m, 2 ≤ port → exec (.ptpMessage port m) s = .next s) ∧
    (∀ port, port < 2 → 6 ≤ s.stage → s.masterPort port = true → bitOf (s.ptpMode port) 3 = false →
      exec (.ptpSyncInterval port) s = .next ((s.ethOut port (.ptp port 2 (s.ethTx port))).ethOut port (.ptp port 0 (s.ethTx port)))) ∧
    (s.locked = true → s.clock.lastSync + 8 * s.clock.syncNs ≤ s.now → exec .holdoverEntry s = .next (s.servoIncrement.setServo 4)) ∧
    (s.locked = false → exec .holdoverEntry s = .next s) ∧
    (s.calRun.due = true → ∃ t : State, t = ({ s with calRun := { s.calRun with due := false } } : State).evalAlarms false ∧
      exec .calendarSecond s = .next (t.apply t.timePoints).writeStatus) ∧
    (s.flag Reg.RTC_CTL F.RTC_CTL_FOLLOW = true → s.locked = true → s.arb = false → s.calRun.follow + secs 64 ≤ s.now →
      ∃ t, exec .calendarFollow s = .next t ∧ t.calRun.follow = s.now) ∧
    (s.leap = 1 → s.cal.sec % 86400 = 86399 → s.cal.leap60 = false → 2 ^ 40 ≤ s.cal.acc + s.crystalStep → exec .leapSecond s = .next s.crystalTick) ∧
    (s.calRun.goReq = true → ∃ t, exec .calendarStep s = .next t ∧ t.calRun.goReq = false ∧ t.flag Reg.RTC_STATUS F.RTC_STATUS_STAGED = false ∧
      t.cal.sec = s.rdN Reg.RTC_STG_UTC) ∧
    (∀ k, k < 4 → s.stage = 7 → s.flag (Reg.RTC_PER_CFG k) F.RTC_PER_CFG_EN = true → s.flag (Reg.RTC_PER_CFG k) F.RTC_PER_CFG_LOG = false →
      s.calInstant % max 1 (s.fld (Reg.RTC_PER_CFG k) F.RTC_PER_CFG_PERIOD) = s.fld (Reg.RTC_PER_PHASE k) F.RTC_PER_PHASE_PHASE →
      mapFind s.calRun.fired k ≠ some s.calInstant →
      let t : State := { s with calRun := { s.calRun with fired := mapPut s.calRun.fired k s.calInstant } }
      exec (.periodicFire k) s = .next ((t.countPoint (0x10 + k)).wrN Reg.RTC_CAUSE (putBits ((t.countPoint (0x10 + k)).rdN Reg.RTC_CAUSE) k 1 1))) ∧
    (∀ x : Int, s.fld Reg.RTC_CTL F.RTC_CTL_TRIMSRC = 1 → s.locked = true →
      ∃ t, exec (.trimMeasurementEnd x) s = .next t ∧
        t.fld Reg.RTC_TRIM F.RTC_TRIM_TRIM = ofInt 16 (clampInt (-8590) 8590
          (sext 16 (s.fld Reg.RTC_TRIM F.RTC_TRIM_TRIM) + roundDiv (x * (2 ^ 25 : Nat)) (4096 * 10 ^ 9)))) ∧
    (∀ t0, s.calRun.chargeSince = some t0 → t0 + secs 60 ≤ s.now → s.fld Reg.GLB_SUPPLY2 F.GLB_SUPPLY2_VBAK < 1000 →
      ∃ t, exec .chargerFault s = .next t ∧ t.flag Reg.RTC_CTL F.RTC_CTL_CHG_EN = false ∧ t.flag Reg.RTC_STATUS F.RTC_STATUS_CHG_FAULT = true ∧
        t.calRun.chargeSince = none)

/-! ### Memory -/

/-- Fettling and remapping (R133 to R135): the end of a region's test frees the fettler and the bank; a fault asks for a spare; a copy that is under way switches. -/
def Obligations.MemoryEvents : Prop :=
  ∀ s : State,
    (∀ x b g off expected got, s.fettle.test = some (b, g) → x = FettleEnd.passed ∨ x = FettleEnd.aborted ∨ x = FettleEnd.faulted off expected got →
      ∃ t, exec (.fettleRegionEnd x) s = .next t ∧ t.fettle.test = none ∧ t.fettle.retry = false) ∧
    (∀ x, s.fettle.test = none → exec (.fettleRegionEnd x) s = .next s) ∧
    (s.sup.inReset = false → s.flag Reg.MEM_FETTLE F.MEM_FETTLE_ENABLE = true → s.outage = false → s.fettle.test = none → s.fettle.at_ ≤ s.now → s.fettle.retries = [] →
      exec .fettleRegionStart s = .next ((s.skipChilled 192).testRegion ((s.skipChilled 192).fld Reg.MEM_FETTLEPOS F.MEM_FETTLEPOS_BANK)
        ((s.skipChilled 192).fld Reg.MEM_FETTLEPOS F.MEM_FETTLEPOS_REGION) false)) ∧
    (∀ b c, s.outage = false → s.sup.inReset = false → s.fettle.remap = some (b, c) → exec (.bankRemapDone b c) s = .next (s.switchBank b c)) ∧
    (∀ b c, s.outage = true → exec (.bankRemapDone b c) s = .next s)

/-! ### Trunk ports and gigabit ports -/

/-- Frames, gates, coordinators and the key generation on trunk ports (R259, R260, R262 to R264, R268, R284, R285).
The gigabit ports (R270 to R273): a received PAUSE frame stops the port for its quanta, or for the cap; a frame of no quanta lets it go on; a link that fails drops
what waited. -/
def Obligations.TrunkAndGigabitEvents : Prop :=
  (∀ s : State,
    (∀ f : TrunkFrame, f.port < 64 → s.portRole f.port ≠ 0 → f.room = false ∨ s.pausing = true → exec (.trunkFrameReceived f) s = .next (s.bump (Reg.TRK_RXDROP f.port))) ∧
    (∀ f : TrunkFrame, f.port < 64 → s.portRole f.port ≠ 0 → f.room = true → s.pausing = false → s.truncated f = false → f.fcsOk = false →
      exec (.trunkFrameReceived f) s = .next (s.bump (Reg.TRK_RXFCS f.port))) ∧
    (∀ f : TrunkFrame, f.port < 64 → s.portRole f.port ≠ 0 → f.room = true → s.pausing = false → s.truncated f = false → f.fcsOk = true → 64 ≤ f.bytes.length →
      s.destOk f = true → fieldBe f.bytes 12 2 = s.trkEtype → s.formOk f = true → fieldBe f.bytes 15 1 = 0x20 →
      let t := (s.bump (Reg.TRK_RXFRAMES f.port)).hearNode f
      t.flag (Reg.TRK_CTL f.port) F.TRK_CTL_CAP_ALL = false → exec (.trunkFrameReceived f) s = .next t) ∧
    (∀ f : TrunkFrame, 64 ≤ f.port → exec (.trunkFrameReceived f) s = .next s) ∧
    (∀ p, p < 64 → s.portRole p = 2 → ∃ t, exec (.foreignBeacon p) s = .next t ∧
      (t.port p).heardAt = s.now :: ((s.port p).heardAt.filter fun x => decide (s.now < x + 1000000)) ∧ t.regs = s.regs ∧ (∀ q, q ≠ p → t.port q = s.port q)) ∧
    (∀ p t0, p < 64 → (s.port p).listen = some t0 → s.sendsCarzon = true → s.portRole p = 2 →
      t0 + 2 * (s.fld (Reg.TRK_PLCA p) F.TRK_PLCA_NCNT * s.fld (Reg.TRK_PLCA p) F.TRK_PLCA_TO_TIMER + 20) * 100 ≤ s.now →
      exec (.coordinatorListenEnd p) s = .next (s.beaconStart p)) ∧
    (∀ p t0, p < 64 → (s.port p).listen = some t0 → s.role = .seeding → s.sup.roleSettled = true → s.defaulted = false → s.portRole p = 2 →
      t0 + ms (s.fld (Reg.TRK_PLCA2 p) F.TRK_PLCA2_LISTEN) ≤ s.now → exec (.seedingListenEnd p) s = .next (s.beaconStart p)) ∧
    (∀ p, p < 64 → (s.port p).rollCall = true → s.fld (Reg.TRK_PLCA p) F.TRK_PLCA_NCNT ≤ 2 →
      (s.plcaOn p = true → exec (.rollCallCycleEnd p) s = .next (((s.setPort p { s.port p with rollCall := false }).setPort p { s.port p with rollCall := false, heard := 0 }).wrN
        (Reg.TRK_NODEMAP p) (s.port p).heard)) ∧
      (s.plcaOn p = false → exec (.rollCallCycleEnd p) s = .next (s.setPort p { s.port p with rollCall := false }))) ∧
    (∀ p, (s.port p).rollCall = false → exec (.rollCallCycleEnd p) s = .next s) ∧
    (∀ p at_, p < 64 → (s.port p).nextAt = some at_ → at_ ≤ s.now → s.portRole p ≠ 0 → s.lampRuns = true → (s.port p).nextE ≠ 0 →
      (s.port p).pourDue = none →
      let x := s.port p
      let sp := (x.gates.spans s.lamp.tick).getD x.nextE (0, 0, 0)
      let t := s.setPort p { x with entry := x.nextE, mask := sp.2.2, close := at_ + (sp.2.1 - sp.1) * 1000, nextE := (x.nextE + 1) % max 1 x.gates.entries.length
                                    nextAt := some (at_ + (sp.2.1 - sp.1) * 1000), rollCall := x.mask == 1 || x.rollCall, heard := if x.mask == 1 && s.plcaOn p then 0 else x.heard }
      (t.canSend p = false → sp.2.2 ≠ 1 → exec (.gateEntryStart p) s = .next t) ∧
      (t.canSend p = true → bitOf sp.2.2 Gate.mould = false → sp.2.2 ≠ 1 → exec (.gateEntryStart p) s = .next (t.pump p))) ∧
    (∀ p at_, (s.port p).nextAt = some at_ → s.now < at_ → exec (.gateEntryStart p) s = .next s) ∧
    (let u := (List.range 4).foldl (fun (t : State) r => t.radAnnounce r) s;
      (u.keyPhase = 1 → u.sendsCarzon = true → u.czn.rekeyAt + secs 10 ≤ u.now →
        exec .keyAnnounce s = .next ((u.setF Reg.TRK_CZNKEY F.TRK_CZNKEY_PHASE 2).wrN Reg.TRK_CZNSWITCH (addMod32 u.lamp.seq 40))) ∧
      (u.keyPhase ≠ 1 → exec .keyAnnounce s = .next u)) ∧
    (let u := (List.range 4).foldl (fun (t : State) r => t.radGraceEnd r) s;
      (u.keyPhase = 3 → u.czn.graceAt ≤ u.now → ∃ t, exec .generationGraceEnd s = .next t ∧ t.keyPhase = 0 ∧ t.rdN Reg.TRK_CZNSWITCH = 0 ∧
        t.fld Reg.TRK_CZNKEY F.TRK_CZNKEY_NEXT = 0 ∧ ∀ p, p < 64 → (t.port p).groupKeys = (u.port p).groupKeys.filter fun k => k.1 == u.keyGen) ∧
      (u.keyPhase ≠ 3 → exec .generationGraceEnd s = .next u))) ∧
  (∀ s : State,
    (∀ g q, g < 2 → q ≤ 65535 → 0 < q → s.flag (Reg.ETH_CTL g) F.ETH_CTL_ENABLE = true → s.flag (Reg.ETH_STATUS g) F.ETH_STATUS_LINK = true →
      s.flag (Reg.ETH_PAUSE g) F.ETH_PAUSE_RX_EN = true → s.fld (Reg.ETH_PAUSE g) F.ETH_PAUSE_CAP_US = 0 →
      ∃ t, exec (.pauseFrameReceived g q) s = .next t ∧ (t.eth g).pausedTo = some (s.now + q * 512) ∧
        t.flag (Reg.ETH_STATUS g) F.ETH_STATUS_PAUSED = true ∧ t.points = s.points ∧ t.outs = s.outs) ∧
    (∀ g q, 2 ≤ g → exec (.pauseFrameReceived g q) s = .next s) ∧
    (∀ g t0, g < 2 → (s.eth g).pausedTo = some t0 → t0 ≤ s.now → exec (.pauseQuantaEnd g) s = .next (s.ethResume g)) ∧
    (∀ g, g < 2 → s.flag (Reg.ETH_STATUS g) F.ETH_STATUS_LINK = true → ∃ t, exec (.linkChange g false) s = .next t ∧
      t.flag (Reg.ETH_STATUS g) F.ETH_STATUS_LINK = false ∧ (t.eth g).queue = [] ∧ (t.eth g).pausedTo = none ∧ t.flag (Reg.ETH_STATUS g) F.ETH_STATUS_PAUSED = false) ∧
    (∀ g, g < 2 → s.linkOff = false → s.flag (Reg.ETH_STATUS g) F.ETH_STATUS_LINK = false → ∃ t, exec (.linkChange g true) s = .next t ∧
      t.flag (Reg.ETH_STATUS g) F.ETH_STATUS_LINK = true))

/-- The trunk commands (R268, R275).
The Carzon commands (R310).
The radio commands (R339). -/
def Obligations.FieldCommands : Prop :=
  (∀ (s : State) (e : CmdEntry),
    let u := s.taken e
    (let f : TxFrame := { cls := Gate.mgmt, kind := .host (e.buf.take e.bufLen.toNat) (s.tagOf { op := 0x0700 } e) };
      s.admits Op.trkSend e = true → u.defaulted = false → e.param 0 1 ≤ 63 → e.bufOut = false → u.sendsCarzon = true → fieldBe e.buf 12 2 ≠ u.trkEtype →
      u.trkOn (e.param 0 1) = true → 60 ≤ e.bufLen.toNat → e.bufLen.toNat + 4 ≤ u.fld (Reg.TRK_CTL (e.param 0 1)) F.TRK_CTL_MAXLEN →
      (u.startsNow (e.param 0 1) f = true →
        let st := u.stampAt (u.txAt (e.param 0 1) (u.mediumAt (e.param 0 1) false))
        exec (.trkSend e) s = .next (s.completed Op.trkSend e St.ok (st % 2 ^ 32) (st / 2 ^ 32) 0 []
          (u.nextFree.startFrame (e.param 0 1) (u.mediumAt (e.param 0 1) false) f))) ∧
      (u.startsNow (e.param 0 1) f = false → exec (.trkSend e) s = .next (s.waiting Op.trkSend e (.trkSend (e.param 0 1) (u.now + secs 1))
        (u.await (e.param 0 1) f)))) ∧
    (∀ p w t0, s.waits = [w] → w.kind = .trkSend p t0 → t0 ≤ s.now → exec (.trkSendTimeout p) s =
      .next ((s.setPort p { s.port p with queue := (s.port p).queue.filter fun f => match f.kind with | .host _ g => g ≠ w.tag | _ => true }).finish w St.timeout 0 0)) ∧
    (s.admits Op.trkPort e = true → u.defaulted = false → e.param 0 1 ≤ 63 → u.conflicts none [.reg (Reg.TRK_CTL (e.param 0 1))] = false →
      exec (.trkPort e) s = .next (s.completed Op.trkPort e St.ok 0 0 0 []
        (u.setPortOn (e.param 0 1) (e.param 1 1 == 1)))) ∧
    (let b := e.buf.take e.bufLen.toNat
      let g := gatesOf (e.param 1 1) b;
      s.admits Op.trkGates e = true → e.txn = 0 → u.defaulted = false → e.param 0 1 ≤ 63 → e.bufOut = false → b.length % 4 = 0 →
      b ≠ [] → gatesClean b = true → g.ok u.lamp.tick = true →
      u.conflicts none (Change.targets (.table (.gates (e.param 0 1)) 0 (be 1 g.mult ++ b)) ++ (gateRegsOf (e.param 0 1) g).map .reg) = false →
      (((((u.writeGates (e.param 0 1) g).useGates (e.param 0 1) g false).port (e.param 0 1)).fresh = none →
        exec (.trkGates e) s = .next (s.completed Op.trkGates e St.ok 0 0 0 []
          ((u.writeGates (e.param 0 1) g).useGates (e.param 0 1) g false))) ∧
      ((((u.writeGates (e.param 0 1) g).useGates (e.param 0 1) g false).port (e.param 0 1)).fresh ≠ none →
        exec (.trkGates e) s = .next (s.waiting Op.trkGates e (.trkGates (e.param 0 1))
          ((u.writeGates (e.param 0 1) g).useGates (e.param 0 1) g false)))))) ∧
  (∀ (s : State) (e : CmdEntry),
    let u := s.taken e
    (∀ x, s.admits Op.cznNode e = true → u.sendsCarzon = true → u.cfg.cznEntry (e.param 0 2) = some x →
      exec (.cznNode e) s = .next (s.completed Op.cznNode e St.ok
        ((u.cznNode (e.param 0 2)).state + (u.cznNode (e.param 0 2)).version * 256 + u.keyGen * 65536) (u.cznNode (e.param 0 2)).hiCounter 0 [] u)) ∧
    (∀ x, s.admits Op.cznReseat e = true → u.sendsCarzon = true → u.cfg.cznEntry (e.param 0 2) = some x →
      (u.cznNode (e.param 0 2)).state = 3 ∨ (u.cznNode (e.param 0 2)).state = 4 →
      exec (.cznReseat e) s = .next (s.waiting Op.cznReseat e (.cznReseat (e.param 0 2) (u.now + secs 10)) (u.reseat (e.param 0 2) 4))) ∧
    (s.admits Op.cznRekey e = true → u.sendsCarzon = true → u.keyPhase = 0 → u.radRekeying = false →
      exec (.cznRekey e) s = .next (s.waiting Op.cznRekey e .cznRekey u.startRekey)) ∧
    (∀ es, s.admits Op.cznNodetable e = true → e.txn = 0 → u.sendsCarzon = true → e.bufOut = false → e.bufLen.toNat % 24 = 0 →
      e.bufLen.toNat ≤ 24 * 2048 → u.cznEntries e.buf = .ok es →
      u.conflicts none (((recordsOf 24 es.length e.buf).map fun b => Change.table .cznNodes (24 * fieldBe b 0 2) b).flatMap Change.targets) = false →
      exec (.cznNodetable e) s = .next (s.completed Op.cznNodetable e St.ok es.length 0 0 [] (u.loadCznEntries es)))) ∧
  (∀ (s : State) (e : CmdEntry),
    let u := s.taken e
    (∀ x, s.admits Op.radNode e = true → u.defaulted = false → u.radEntry (e.param 0 2) = some x →
      u.flag (Reg.RAD_CTL (radioChan (e.param 0 2))) F.RAD_CTL_ENABLE = true →
      exec (.radNode e) s = .next (s.completed Op.radNode e St.ok ((u.radNode (e.param 0 2)).state + (u.radNode (e.param 0 2)).listen * 256
        + (u.radChan (radioChan (e.param 0 2))).gen * 65536) (u.radNode (e.param 0 2)).hiCounter 0 [] u)) ∧
    (∀ x, s.admits Op.radWake e = true → e.param 2 1 ≤ 1 → u.leads = true → u.radEntry (e.param 0 2) = some x →
      u.radTx (radioChan (e.param 0 2)) = true → u.wakeSpent (e.param 0 2) = false →
      exec (.radWake e) s = .next (s.waiting Op.radWake e (.radWake (e.param 0 2) (u.now + secs 1))
        (u.radCall (e.param 0 2) (e.param 2 1)))) ∧
    (∀ es, s.admits Op.radNodetable e = true → e.txn = 0 → u.defaulted = false → e.bufOut = false → e.bufLen.toNat % 24 = 0 → e.bufLen.toNat ≤ 24 * 2048 →
      u.radioEntries (e.buf.take e.bufLen.toNat) = .ok es →
      u.conflicts none (((recordsOf 24 es.length e.buf).map fun b => Change.table .radioNodes (24 * fieldBe b 0 2) b).flatMap Change.targets) = false →
      exec (.radNodetable e) s = .next (s.completed Op.radNodetable e St.ok es.length 0 0 [] (u.loadRadioEntries es))) ∧
    (s.admits Op.radChannel e = true → u.defaulted = false → e.param 0 1 ≤ 3 → e.param 1 1 ≤ 1 → u.conflicts none [.reg (Reg.RAD_CTL (e.param 0 1))] = false →
      exec (.radChannel e) s = .next (s.completed Op.radChannel e St.ok 0 0 0 []
        (u.setRadOn (e.param 0 1) (e.param 1 1 == 1)))))

/-! ### The Carzon line protocol -/

/-- Frames of nodes (R282 to R284, R287, R293, R299, R300, R302): a frame that may not be used changes what its rejection says; an authenticated ACK ends the
transmission it answers; a REPORT whose content is clean is applied and acknowledged; a delay request is answered. -/
def Obligations.CarzonFrames : Prop :=
  ∀ (s : State) (f : TrunkFrame),
    (s.sendsCarzon = false → exec (.hello f) s = .next s) ∧
    (s.sendsCarzon = true → s.reachesCarzon f = true → s.formOk f = true → fieldBe f.bytes 15 1 = 0x01 → fieldBe f.bytes 18 2 = 0xFFFE →
      let len := fieldBe f.bytes 30 2
      let uid := fieldBe (slice f.bytes 32 len) 0 8
      let ver := fieldBe f.bytes 14 1
      let cc := fieldBe f.bytes 22 4
      let opened := fun key => cznOpen ver (keyD key) uid cc f.port 0x01 len (slice f.bytes 14 18) (slice f.bytes 32 (len + micLen ver))
      (s.helloKey (fieldBe f.bytes 17 1) uid = none → exec (.hello f) s = .next (s.authFailed f)) ∧
      (∀ key, s.helloKey (fieldBe f.bytes 17 1) uid = some key → opened key = none → exec (.hello f) s = .next (s.authFailed f)) ∧
      (∀ key body r, s.helloKey (fieldBe f.bytes 17 1) uid = some key → opened key = some body →
        acceptCounter (s.helloWindows uid) true (fieldBe f.bytes 17 1 % 16) cc = (.new, r) →
        let t := s.setHelloWindows uid r
        let id := t.helloId f body
        let n := 32 * f.port + id - 2
        let buid := fieldBe body 0 8
        (helloOk body = false → exec (.hello f) s = .next (t.bump (Reg.TRK_CZNREJ f.port))) ∧
        (helloOk body = true → (id < 2 ∨ 33 < id) → exec (.hello f) s = .next (t.refuseNode f.port id 4 buid)) ∧
        (helloOk body = true → 2 ≤ id → id ≤ 33 → t.cfg.cznEntry n = none → exec (.hello f) s = .next (t.refuseNode f.port id 1 buid)) ∧
        (∀ e, helloOk body = true → 2 ≤ id → id ≤ 33 → t.cfg.cznEntry n = some e →
          (e.uid ≠ buid → exec (.hello f) s = .next (t.refuseNode f.port id 2 buid)) ∧
          (e.uid = buid → t.commonVersion e (fieldBe body 8 1) = 0 → exec (.hello f) s = .next (t.refuseNode f.port id 3 buid)) ∧
          (e.uid = buid → t.commonVersion e (fieldBe body 8 1) ≠ 0 →
            exec (.hello f) s = .next ((t.admitNode n (t.commonVersion e (fieldBe body 8 1)) e key (slice f.bytes 6 6) (t.helloWindows buid) cc (t.stampAt (t.rxAt f.port)) body).claimHigher n
              (fieldBe f.bytes 26 4)))))) ∧
    (∀ t, s.takeFrame f 0x08 = (t, none) → exec (.ack f) s = .next t) ∧
    (∀ t c u, s.takeFrame f 0x08 = (t, some c) → c.body.length = 8 → fieldBe c.body 6 2 = 0 → fieldBe c.body 5 1 ≤ 2 → t.sendsCarzon = true →
      (t.cznNode c.node).unacked.find? (fun u => u.counter == fieldBe c.body 0 4 && u.typ == fieldBe c.body 4 1 && (u.typ == 0x02) == (c.kcls == 2)) = some u →
      (t.setCznNode c.node { t.cznNode c.node with unacked := (t.cznNode c.node).unacked.filter fun v => v ≠ u }).sendsCarzon = true →
      exec (.ack f) s = .next ((t.setCznNode c.node { t.cznNode c.node with unacked := (t.cznNode c.node).unacked.filter fun v => v ≠ u }).acked c.node u
        (fieldBe c.body 5 1))) ∧
    (∀ t, s.takeFrame f 0x20 = (t, none) → exec (.report f) s = .next t) ∧
    (∀ t c, s.takeFrame f 0x20 = (t, some c) → c.body.length = 8 → fieldBe c.body 4 2 ≤ 0x7F → fieldBe c.body 6 1 = 0 → fieldBe c.body 7 1 = 0 → t.sendsCarzon = true →
      ∃ v : State, exec (.report f) s = .next ((v.reportFlags c.node (fieldBe c.body 0 4) (fieldBe c.body 4 2)).ackFrame c 0x20 0) ∧ v.points = t.points) ∧
    (∀ t, s.takeFrame f 0x31 = (t, none) → exec (.delayReq f) s = .next t) ∧
    (∀ t c, s.takeFrame f 0x31 = (t, some c) → c.body.length = 8 → fieldBe c.body 4 4 = 0 → c.ver ≠ 2 → t.sendsCarzon = true →
      exec (.delayReq f) s = .next (t.toNode c.node 0x32 0 none 0
        (be 4 (fieldBe c.body 0 4) ++ be 8 (t.stampAt (t.rxAt f.port)) ++ be 2 (t.extAt (t.rxAt f.port)) ++ [0, 0]) []))

/-- What is sealed under a key opens under it again, with the body unchanged (R283, R430): a Carzon frame of either version and of every type, and a frame of the peer
link. A frame that is shorter than its MIC does not open. -/
def Obligations.SealedFramesOpen : Prop :=
  (∀ (ver : Nat) (key : List Byte) (uid counter port typ : Nat) (hdr body : List Byte),
    let c := cznSeal ver key uid counter port typ hdr body
    c.length = body.length + micLen ver ∧ cznOpen ver key uid counter port typ body.length hdr c = some body) ∧
  (∀ (key : List Byte) (uid counter port : Nat) (aad body : List Byte) (ks : List (List Byte)),
    openWith (key :: ks) uid counter port aad (sealBody key uid counter port aad body) = some body) ∧
  (∀ (key : List Byte) (uid counter port : Nat) (aad c : List Byte), c.length < 8 → openWith [key] uid counter port aad c = none)

/-- The timers of the Carzon protocol (R160, R293, R301, R307, R310). -/
def Obligations.CarzonTimers : Prop :=
  ∀ s : State,
    (∀ n u, s.sendsCarzon = true → (s.cznNode n).unacked = [u] → u.sentAt + 3 * ms s.lamp.tick ≤ s.now → u.tries < 5 → exec (.retransmitTimeout n) s =
      .next ((s.setCznNode n { s.cznNode n with unacked := [{ u with tries := u.tries + 1, sentAt := s.now }] }).transmit (nodePort n) { cls := u.cls, kind := .again u.frame })) ∧
    (∀ n, s.sendsCarzon = false → exec (.retransmitTimeout n) s = .next s) ∧
    (∀ q, q < 64 → s.canSend q = true → (s.port q).timeAt ≤ s.now → (∀ p, p < 64 → p ≠ q → s.canSend p = false ∨ s.now < (s.port p).timeAt) →
      let period := ms (s.fld Reg.TRK_CZNCFG F.TRK_CZNCFG_TIME_MS)
      let t := s.setPort q { s.port q with timeAt := if s.now < (s.port q).timeAt + period then (s.port q).timeAt + period else s.now + period }
      t.startsNow q { cls := Gate.time, kind := .time } = false → exec .timeFrameDue s = .next (t.await q { cls := Gate.time, kind := .time })) ∧
    ((∀ p, p < 64 → s.canSend p = false) → exec .timeFrameDue s = .next s) ∧
    (∀ n e, s.cfg.cznEntry n = some e → 2 ≤ (s.cznNode n).state → (s.cznNode n).state ≤ 4 → (s.cznNode n).lastHeard + ms e.hold ≤ s.now →
      let t := (s.setCznNode n { s.cznNode n with cause := 0, reseatSeq := none, parts := [] }).nodeState n 5
      (t.leads = true → exec (.nodeHoldExpiry n) s = .next
        (((t.sweep (t.nodeInputs n) Q.absent).post6 2 n 0xFF 0 0 0 0 t.stamp 0).event 0x0D12 1 noInst (le 2 n ++ le 8 (s.cznNode n).lastStamp))) ∧
      (t.leads = false → exec (.nodeHoldExpiry n) s = .next t)) ∧
    (∀ n e, s.cfg.cznEntry n = some e → s.now < (s.cznNode n).lastHeard + ms e.hold → exec (.nodeHoldExpiry n) s = .next s) ∧
    (∀ n w t0, s.waits = [w] → w.kind = .cznReseat n t0 → t0 ≤ s.now → exec (.cznReseatTimeout n) s =
      .next (s.finishAll (fun w => match w.kind with | .cznReseat m u => m == n && decide (u ≤ s.now) | _ => false) St.timeout 0 0)) ∧
    (∀ n, s.waits = [] → exec (.cznReseatTimeout n) s = .next s)

/-! ### Radio -/

/-- Radio frames, beacons, listening windows and the timers of nodes (R313, R315, R322 to R324, R329 to R338). -/
def Obligations.RadioEvents : Prop :=
  ∀ s : State,
    (∀ f : RadioFrame, s.radOn f.chan = false → exec (.radioFrameReceived f) s = .next s) ∧
    (∀ f : RadioFrame, s.radOn f.chan = true → (f.ok = false ∨ f.psdu.length < 8 ∨ 255 < f.psdu.length) →
      exec (.radioFrameReceived f) s = .next (s.bump (Reg.RAD_RXFCS f.chan))) ∧
    (∀ f : RadioFrame, s.radOn f.chan = true → f.ok = true → 8 ≤ f.psdu.length → f.psdu.length ≤ 255 → bitOf (fieldBe f.psdu 0 1) 3 = false →
      fieldBe f.psdu 0 1 / 32 = 1 → fieldBe f.psdu 0 1 % 8 = 0 → fieldBe f.psdu 1 2 = s.fld (Reg.RAD_PHY f.chan) F.RAD_PHY_SEGID → radFormOk (radioCarzon f) = true →
      (s.bump (Reg.RAD_RXFRAMES f.chan)).flag (Reg.RAD_CTL f.chan) F.RAD_CTL_CAP_ALL = false →
      let t := s.bump (Reg.RAD_RXFRAMES f.chan)
      let u := (t.setRadChan f.chan { t.radChan f.chan with heard := (t.now, t.radAir f.chan f.psdu.length) :: (t.radChan f.chan).heard }).radLoad f.chan
      (fieldBe (radioCarzon f) 1 1 = 0x01 → exec (.radioFrameReceived f) s = .next (u.radHello f)) ∧
      (fieldBe (radioCarzon f) 1 1 ≠ 0x01 → exec (.radioFrameReceived f) s = .next (u.radNodeFrame f))) ∧
    (∀ n, (s.radNode n).state = 1 → (s.radNode n).helloAt + secs 5 ≤ s.now →
      exec (.radioAdmissionTimeout n) s = .next ((s.setRadNode n { s.radNode n with pend := [], unacked := [] }).radNodeState n 0)) ∧
    (∀ n, (s.radNode n).state ≠ 1 → exec (.radioAdmissionTimeout n) s = .next s) ∧
    (∀ k, exec (.beaconInstant k) s = .next ((List.range 4).foldl (fun (t : State) r => t.radInstant k r) s)) ∧
    (∀ n e w, s.radEntry n = some e → s.lastWindow e = some w → s.radTx (radioChan n) = true → (s.radNode n).lastWin ≠ w → 2 ≤ (s.radNode n).state →
      (s.radNode n).state ≤ 4 →
      let r := radioChan n
      let t := if 1000000 ≤ s.radGuard n then s.radWakeOnly n else s
      let u := t.setRadNode n { t.radNode n with lastWin := w }
      let start := max t.now (t.radChan r).busyTo
      let late := t.monoOfMs w + s.radGuard n * 1000
      (u.radWaits n = false → exec (.listenWindow n) s = .next u) ∧
      (u.radWaits n = true → (u.radNode n).listen = 2 → exec (.listenWindow n) s = .next (u.radCall n 0)) ∧
      (u.radWaits n = true → (u.radNode n).listen ≠ 2 → late < start → exec (.listenWindow n) s = .next (u.bump (Reg.RAD_DEFERRED r))) ∧
      (u.radWaits n = true → (u.radNode n).listen ≠ 2 → start ≤ late → exec (.listenWindow n) s = .next (RadAir.serve { s := u, at_ := start, stop := false } n).s)) ∧
    (∀ n, s.radEntry n = none → exec (.listenWindow n) s = .next s) ∧
    (∀ r, let p := max 1 (s.radPeriod r)
      let k := (s.wallMs - 100) / p * p
      let t := s.setRadChan r { s.radChan r with beaconMs := k }
      let u := t.bumpSat (Reg.RAD_STATUS r) F.RAD_STATUS_BCNMISS
      let what := le 4 (u.rdN (Reg.RAD_BCNSEQ r)) ++ le 4 u.peerClaim
      let heard := (s.radChan r).heardAt ≠ 0 ∧ s.monoOfMs k ≤ (s.radChan r).heardAt + ms 10
      s.radOn r = true → s.role = .standby → (s.radChan r).beaconMs ≠ k → s.rdn.roleAt + ms 10 ≤ s.monoOfMs k →
      (heard → exec (.standbyBeaconMiss r) s = .next t) ∧
      (¬ heard → u.fld (Reg.RAD_STATUS r) F.RAD_STATUS_BCNMISS < 3 ∨ (s.radChan r).voted = true → exec (.standbyBeaconMiss r) s = .next u) ∧
      (¬ heard → 3 ≤ u.fld (Reg.RAD_STATUS r) F.RAD_STATUS_BCNMISS → (s.radChan r).voted = false →
        let v := (u.setRadChan r { u.radChan r with voted := true }).event 0x0F03 2 r (le 1 r ++ what)
        exec (.standbyBeaconMiss r) s = .next ((v.sendWit v.cfg.rdn.witnessSlot v.cfg.rdn.witnessAddr v.cfg.rdn.pairId 6
          (be 1 r ++ [0, 0, 0] ++ be 4 (v.rdN (Reg.RAD_BCNSEQ r)) ++ be 4 v.peerClaim)).event 0x140C 2 noInst (le 1 r)))) ∧
    (∀ n e, s.radEntry n = some e → (s.radNode n).state = 2 ∨ (s.radNode n).state = 3 → (s.radNode n).lastHeard + secs (2 * e.heartbeat + 30) ≤ s.now →
      exec (.radioNodeStale n) s = .next ((s.radNodeState n 4).sweep (s.radInputs n) Q.stale)) ∧
    (∀ n e, s.radEntry n = some e → s.now < (s.radNode n).lastHeard + secs (2 * e.heartbeat + 30) → exec (.radioNodeStale n) s = .next s) ∧
    (∀ n e, s.radEntry n = some e → 2 ≤ (s.radNode n).state → (s.radNode n).state ≤ 4 → (s.radNode n).lastHeard + secs (6 * e.heartbeat) ≤ s.now →
      let t := (s.setRadNode n { s.radNode n with pend := [], unacked := [], outputs := [] }).radNodeState n 5
      (t.leads = true → exec (.radioNodeAbsent n) s = .next (((t.sweep (t.radInputs n) Q.absent).post6 2 (radioCzn n) 0xFF 0 0 0 0 t.stamp 0).event
        0x0D12 1 noInst (le 2 (radioCzn n) ++ le 8 (s.radNode n).lastStamp))) ∧
      (t.leads = false → exec (.radioNodeAbsent n) s = .next t)) ∧
    (∀ n w t0, s.waits = [w] → w.kind = .radWake n t0 → t0 ≤ s.now → exec (.radWakeTimeout n) s =
      .next (s.finishAll (fun w => match w.kind with | .radWake m u => m == n && decide (u ≤ s.now) | _ => false) St.timeout 0 0)) ∧
    (∀ n, s.waits = [] → exec (.radWakeTimeout n) s = .next s) ∧
    (∃ u : State, exec .wallClockHour s = .next u.allCalls ∧ u.regs = s.regs ∧ u.points = s.points ∧ ∀ x, x ∈ s.radio.nodes →
      (u.radNode x.1).wakeHour = s.wallHour ∧ (u.radNode x.1).wakes = if (s.radNode x.1).wakeHour = s.wallHour then (s.radNode x.1).wakes else 0)

/-! ### Metering -/

/-- Samples, windows, pulses and intervals (R371, R374 to R377, R383 to R388): what each does while metering runs, and that it does nothing otherwise.
The metering commands (R390, R394 to R396). -/
def Obligations.Metering : Prop :=
  (∀ s : State,
    (∀ c f clip u, s.mtrState ≠ 1 → exec (.meterSample c f clip u) s = .next s) ∧
    (∀ c f clip u, s.mtrState = 1 → s.mtrRole = true →
      ∃ t, exec (.meterSample c f clip u) s = .next t ∧ t.meter.lastAt = s.now ∧ t.meter.stepped = false ∧ t.meter.lastCal = s.cal.sec) ∧
    (∀ j t0, (s.mtrPulse j).on = some t0 → t0 ≤ s.now → ∃ t, exec (.pulseEnd j) s = .next t ∧ (t.mtrPulse j).on = none ∧
      t.flag (Reg.MTR_PULSE_STATUS j) F.MTR_PULSE_STATUS_ON = false ∧ (∀ k, k ≠ j → t.mtrPulse k = s.mtrPulse k)) ∧
    (∀ j, (s.mtrPulse j).on = none → exec (.pulseEnd j) s = .next s) ∧
    (∀ v dur, 4 ≤ v ∨ s.mtrState ≠ 1 ∨ (s.mtrVolt v).n = 0 → exec (.windowEnd v dur) s = .next s) ∧
    (∀ v dur, v < 4 → s.mtrState = 1 → s.mtrRole = true → 0 < (s.mtrVolt v).n → s.mtrVq v ≠ Q.absent → 0 < dur →
      ∃ t, exec (.windowEnd v dur) s = .next t ∧ (t.mtrVolt v).n = 0) ∧
    (s.mtrState = 1 → s.mtrRole = true → s.meter.writeAt + secs 1 ≤ s.now → ∃ t ops, exec .accumulatorWrite s = .next t ∧
      t = { s.apply ops with meter := { s.meter with writeAt := s.now } } ∧
      ops = ((List.range 32).flatMap fun k => if (s.mtrCur k).isSome then
          (List.range 8).flatMap fun j => mtrPair (0x1E40000 + 0x40 * k + 2 * j) ((s.mtrChan k).acc.getD j 0 / 2 ^ 32) Q.good s.stamp
        else s.chanAbsent k)) ∧
    (s.mtrState ≠ 1 ∨ s.now < s.meter.writeAt + secs 1 → exec .accumulatorWrite s = .next s) ∧
    (s.mtrState = 1 → s.mtrRole = true → s.meter.unaligned = false → s.meter.nextEnd ≤ s.utcNow → exec .intervalBoundary s = .next (s.mtrTurn 1 s.mtrOn)) ∧
    (s.mtrState = 1 → s.mtrRole = true → s.meter.unaligned = true → s.meter.nextEnd ≤ s.now → exec .intervalBoundary s = .next (s.mtrTurn 1 s.mtrOn)) ∧
    (∀ r rs, s.mtrState = 1 → s.meter.closed = r :: rs → (s.formRecord r).meter.closed.any (fun r => r.cause == 4) = true →
      exec .intervalRecord s = .next (s.formRecord r)) ∧
    (s.meter.closed = [] → exec .intervalRecord s = .next s)) ∧
  (∀ (s : State) (e : CmdEntry),
    let u := s.taken e
    (∀ r rs, s.admits Op.mtrArchive e = true → u.mtrCheck true = none → 1 ≤ e.param 8 4 → e.param 8 4 ≤ 512 → e.bufOut = true →
      e.bufLen.toNat = 128 * e.param 8 4 →
      (u.flash.archive.filter fun r => decide (0 ≤ seqDiff r.seq (e.param 0 4)) && bitOf (e.param 4 4) r.chan).take (e.param 8 4) = r :: rs →
      exec (.mtrArchive e) s = .next (s.completed Op.mtrArchive e St.ok (rs.length + 1) r.seq 0
        [(e.bufAddr.toNat, (r :: rs).flatMap fun r => r.bytes false true)] u)) ∧
    (s.admits Op.mtrClose e = true → u.mtrCheck false = none → u.mtrState = 1 → u.mtrOn ≠ [] →
      exec (.mtrClose e) s = .next (s.waiting Op.mtrClose e .mtrClose (u.mtrTurn 4 u.mtrOn))) ∧
    (s.admits Op.mtrClose e = true → u.mtrCheck false = none → u.mtrOn = [] → exec (.mtrClose e) s = .next (s.completed Op.mtrClose e St.ok 0 0 0 [] u)) ∧
    (∀ cs, let n := e.bufLen.toNat / 36
      s.admits Op.mtrCaldata e = true → e.txn = 0 → u.mtrCheck false = none → e.bufLen.toNat % 36 = 0 → 1 ≤ n → n ≤ 32 → e.bufOut = false →
      parseCals n e.buf = some cs →
      u.conflicts none (((List.range n).map fun i => Change.table .calibration (36 * fieldLe e.buf (36 * i) 4) (slice e.buf (36 * i) 36)).flatMap Change.targets) = false →
      exec (.mtrCaldata e) s = .next (s.completed Op.mtrCaldata e St.ok n 0 0 [] (u.loadCals cs))) ∧
    (s.admits Op.mtrPreset e = true → u.mtrCheck false = none → u.maint = true → e.param 0 1 ≤ 31 →
      e.param 1 1 ≤ 7 → exec (.mtrPreset e) s = .next (s.waiting Op.mtrPreset e
        (.mtrPreset (e.param 0 1) (e.param 1 1) (e.param 8 8)) u)))

/-! ### Event recorder -/

/-- The recorder's own work (R401, R404 to R406) and its commands (R408). -/
def Obligations.EventRecorder : Prop :=
  ∀ (s : State) (e : CmdEntry),
    let u := s.taken e
    (s.evDue = false → ∀ ok, exec (.evrFlashWrite ok) s = .next s) ∧
    (s.evDue = true → exec (.evrFlashWrite true) s = .next (s.writeEvents.finishAll Wait.evSync St.ok 0 0).reportDropped) ∧
    (s.evr.winReady = false → ∃ t, exec .evrWindowReady s = .next t ∧ t.evr.winReady = true ∧ t.evr.window = s.evr.winCopy ∧ t.regs = s.regs) ∧
    (s.evr.winReady = true → exec .evrWindowReady s = .next s) ∧
    (∀ r, s.ringRoom 4 = true → (s.recordsFrom (s.rdN Reg.EVR_STREAM)).find? (fun r => decide (s.fld Reg.EVR_CFG F.EVR_CFG_RING_MIN ≤ r.sev)) = some r →
      exec .evsDelivery s = .next ((s.enqueue 4 fun _ => r.bytes).wrN Reg.EVR_STREAM (r.seq + 1))) ∧
    (s.ringRoom 4 = false → exec .evsDelivery s = .next s) ∧
    (s.admits Op.evrSync e = true → u.evr.buffer = [] → u.evr.holding = false → exec (.evrSync e) s = .next (s.completed Op.evrSync e St.ok 0 0 0 [] u)) ∧
    (s.admits Op.evrSync e = true → u.evr.buffer ≠ [] → exec (.evrSync e) s = .next (s.waiting Op.evrSync e (.evrSync u.evr.next u.now) u)) ∧
    (s.admits Op.evrClear e = true → u.maint = true → e.param 0 4 = 0xC1EAC1EA → u.pfw = false →
      exec (.evrClear e) s = .next (s.completed Op.evrClear e St.ok 0 0 0 [] u.clearEvents)) ∧
    (∀ r rs, s.admits Op.evrRead e = true → 1 ≤ e.param 4 4 → e.param 4 4 ≤ 1024 → e.bufOut = true → e.bufLen.toNat = 64 * e.param 4 4 →
      (u.recordsFrom (e.param 0 4)).take (e.param 4 4) = r :: rs →
      exec (.evrRead e) s = .next (s.completed Op.evrRead e St.ok (rs.length + 1) r.seq 0
        [(e.bufAddr.toNat, (r :: rs).flatMap EvRec.bytes)] u))

/-- A record is numbered when it is offered (R400): it takes the next sequence number, its check covers its first 60 bytes, and nothing of the machine but the recorder and
the reservation of numbers in flash changes. -/
def Obligations.EventNumbering : Prop :=
  ∀ (s : State) (typ sev inst : Nat) (pl : List Byte),
    let t := s.event typ sev inst pl
    t.regs = s.regs ∧ t.points = s.points ∧ t.rings = s.rings ∧ t.outs = s.outs ∧ t.clock = s.clock ∧ t.waits = s.waits ∧ { t.flash with events := s.flash.events } = s.flash ∧
    (s.evr.holding = false → s.evr.dropped = 0 → s.evr.buffer.length + s.evr.offered.length < evCapacity → ∃ r : EvRec, t.evr.buffer = s.evr.buffer ++ [r] ∧ r.seq = s.evr.next ∧ r.typ = typ ∧
      r.sev = sev ∧ r.stamp = s.stamp ∧ r.payload = pl.take 40 ∧ t.evr.next = addMod32 s.evr.next 1 ∧
      r.check = crc32c (evBody r.seq r.stamp r.source r.typ r.sev r.early r.payload)) ∧
    (s.evr.holding = true → s.evr.buffer.length + s.evr.offered.length < evCapacity → t.evr.buffer = s.evr.buffer ∧ t.evr.offered.length = s.evr.offered.length + 1 ∧ t.flash = s.flash) ∧
    (evCapacity ≤ s.evr.buffer.length + s.evr.offered.length → s.evr.dropped = 0 → t.evr.buffer = s.evr.buffer ∧ t.evr.offered = s.evr.offered ∧ t.evr.dropped = 1 ∧
      t.evr.dropTotal = addMod32 s.evr.dropTotal 1)

/-! ### Redundancy -/

/-- The commands of keys and attestation (R442 to R447, R456, R458, R459).
The commands of patterns and of configuration loads (R461 to R466, R468).
The commands of redundancy (R439). -/
def Obligations.KeyPatternAndRedundancyCommands : Prop :=
  (∀ (s : State) (e : CmdEntry),
    let u := s.taken e
    (let k := e.param 0 1
      let attr := BitVec.ofNat 32 (e.param 4 4);
      s.admits Op.keySlotSet e = true → e.txn = 0 → e.bufOut = false →
      u.keyWriteCheck (attrLock (u.keySlot k).attr) (attrOk (u.fld Reg.KEY_MODE F.KEY_MODE_MODE) attr e.buf) = none →
      u.conflicts none (Change.targets (.key k (.set attr (e.param 2 2) e.buf))) = false →
      exec (.keySlotSet e) s = .next (s.completed Op.keySlotSet e St.ok 0 0 0 []
        (u.keySet k attr (e.param 2 2) e.buf))) ∧
    (s.admits Op.keySlotClear e = true → e.txn = 0 →
      u.keyWriteCheck (attrLock (u.keySlot (e.param 0 1)).attr) true = none → attrValid (u.keySlot (e.param 0 1)).attr = true →
      u.conflicts none (Change.targets (.key (e.param 0 1) .clear)) = false →
      exec (.keySlotClear e) s = .next (s.completed Op.keySlotClear e St.ok 0 0 0 [] (u.keyClear (e.param 0 1)))) ∧
    (s.admits Op.keyRootSet e = true → e.txn = 0 → e.param 0 1 ≤ 7 → e.buf.length = 32 → e.bufOut = false →
      u.fld Reg.KEY_MODE F.KEY_MODE_MODE ≠ 0 → u.keyWriteCheck (attrLock (u.keyRoot (e.param 0 1)).attr) true = none →
      exec (.keyRootSet e) s = .next (s.completed Op.keyRootSet e St.ok 0 0 0 [] (u.keyRootSet (e.param 0 1) (bitOf (e.param 4 1) 0) e.buf))) ∧
    (s.admits Op.keyAttest e = true → e.param 32 1 ≤ 32 → e.bufOut = true → u.lifeCycle ≠ 3 → u.keys.zeroised = false →
      exec (.keyAttest e) s = .next (s.waiting Op.keyAttest e (.keyAttest (e.params.take (e.param 32 1)) e.bufAddr.toNat e.bufLen.toNat)
        (({ u with keys := { u.keys with statement := [] } } : State).setF Reg.KEY_STATUS F.KEY_STATUS_ATTEST_BUSY 1))) ∧
    (s.admits Op.keyIdcert e = true → e.bufOut = true → 2048 ≤ e.bufLen.toNat →
      exec (.keyIdcert e) s = .next (s.completed Op.keyIdcert e St.ok (Config.idCert.take 2048).length 0 0 [(e.bufAddr.toNat, Config.idCert.take 2048)] u)) ∧
    (∀ k, s.admits Op.keyNodekey e = true → e.bufOut = true → e.bufLen.toNat = 16 → u.maint = true → u.czMaster = some k →
      exec (.keyNodekey e) s = .next (s.completed Op.keyNodekey e St.ok 0 0 0 [(e.bufAddr.toNat, nodeRootKey k (e.param 0 8))]
        (u.touchKey (u.fld Reg.KEY_CZNSRC F.KEY_CZNSRC_SLOT))))) ∧
  (∀ (s : State) (e : CmdEntry),
    let u := s.taken e
    (let o : OpSpec := Op.patBegin;
      s.admits o e = true → e.param 0 1 = 0 → u.trialOpen = false → e.param 4 4 % 4 = 0 → 4096 ≤ e.param 4 4 → e.param 4 4 ≤ 268435456 →
      ∃ t, exec (.patBegin e) s = .next (s.completed o e St.ok 0 0 0 [] t) ∧ t.patState u.loadSlot = 1 ∧
        (t.pat u.loadSlot).load = some { total := e.param 4 4, blocks := [] }) ∧
    (let o : OpSpec := Op.patBlock;
      s.admits o e = true → e.bufOut = false → e.param 0 1 = 0 → exec (.patBlock e) s = .next (settle (s.tagOf o e) (o.staging e (u.patBlock (e.param 4 4) e.buf)))) ∧
    (∀ k, let o : OpSpec := Op.patBegin
      s.admits o e = true → e.param 0 1 = 1 → u.loadTxn e = .ok k → e.param 4 4 % 4 = 0 → e.param 4 4 ≠ 0 → e.param 4 4 ≤ 67108864 →
      exec (.patBegin e) s = .next (s.completed o e St.ok 0 0 2 [] (u.setTxn k { u.txn k with
        load := some { total := e.param 4 4, blocks := [] }, changes := (u.txn k).changes.filter (fun c => !c.same (.image [])), named := u.now }))) ∧
    (∀ k, let o : OpSpec := Op.patBlock
      s.admits o e = true → e.bufOut = false → e.param 0 1 = 1 → u.loadTxn e = .ok k →
      exec (.patBlock e) s = .next (settle (s.tagOf o e) (o.staging e (u.cfgBlock k (e.param 4 4) e.buf)))) ∧
    (∀ k l, let o : OpSpec := Op.patQuery
      s.admits o e = true → e.param 0 1 = 1 → u.txnOf e.txn.toNat = some k → (u.txn k).load = some l →
      exec (.patQuery e) s = .next (s.completed o e St.ok l.query.1 l.query.2 0 [] u)) ∧
    (∀ l, let o : OpSpec := Op.patQuery
      s.admits o e = true → e.param 0 1 = 0 → u.patState u.loadSlot ≠ 0 → (u.pat u.loadSlot).load = some l →
      exec (.patQuery e) s = .next (s.completed o e St.ok l.query.1 l.query.2 0 [] u)) ∧
    (let o : OpSpec := Op.patVerify;
      s.admits o e = true → u.patState u.loadSlot = 2 → (u.pat u.loadSlot).shipped = false →
      let c := u.patCheck (u.pat u.loadSlot).image
      ∃ t, exec (.patVerify e) s = .next (s.completed o e (c.getD St.ok) 0 0 0 [] t) ∧ t.patState u.loadSlot = (if c.isNone then 3 else 2)) ∧
    (let o : OpSpec := Op.patActivate;
      s.admits o e = true → u.patState (otherSlot u.runSlot) = 3 → u.activateBlock (bitOf (e.param 0 1) 0) = none →
      exec (.patActivate e) s = .next (s.waiting o e (.patActivate (bitOf (e.param 0 1) 0) (bitOf (e.param 0 1) 1)) u)) ∧
    (let o : OpSpec := Op.patConfirm;
      s.admits o e = true → u.patState u.runSlot = 5 → exec (.patConfirm e) s = .next (s.completed o e St.ok 0 0 0 [] u.confirmPattern)) ∧
    (let o : OpSpec := Op.patConfirm;
      s.admits o e = true → u.patState u.runSlot ≠ 5 → exec (.patConfirm e) s = .next (s.completed o e St.noTrial 0 0 0 [] u))) ∧
  (∀ (s : State) (e : CmdEntry),
    let u := s.taken e
    (s.admits Op.rdnRotate e = true → u.paired = true → u.role = .active → u.rdnProto ≠ 3 → u.rdn.hand = none → u.rotateBlock true = none → u.lamp.next ≠ none →
      exec (.rdnRotate e) s = .next (s.waiting Op.rdnRotate e .rdnRotate
        { u.startHandover with rdn := { u.startHandover.rdn with hand := u.startHandover.rdn.hand.map fun h => { h with command := true } } })) ∧
    (s.admits Op.rdnYield e = true → u.paired = true → u.role = .active → u.maint = true →
      exec (.rdnYield e) s = .next (s.completed Op.rdnYield e St.ok 0 0 0 [] (u.sendYield 4))) ∧
    (s.admits Op.rdnReseed e = true → u.paired = true → u.role = .standby →
      exec (.rdnReseed e) s = .next (s.waiting Op.rdnReseed e .rdnOther u.enterSeeding)))

/-- Frames of the peer (R416 to R421, R424 to R430, R434 to R437): one that does not authenticate changes what its rejection says; an authenticated one acts by its type and the
unit's role. -/
def Obligations.PeerFrames : Prop :=
  ∀ (s : State) (f : EthFrame),
    (∀ t, s.peerFrom 1 f = (t, none) → exec (.peerBeacon f) s = .next t) ∧
    (∀ t m, s.peerFrom 1 f = (t, some m) → m.body.length = 24 → fieldBe m.body 0 1 ≠ 0 →
      let v := t.noteBeacon m.claim (fieldBe m.body 0 1) (fieldBe m.body 1 1)
      (t.role ≠ .seeding → exec (.peerBeacon f) s = .next v) ∧
      (t.role = .seeding → t.flag Reg.RDN_STATUS F.RDN_STATUS_SEEDING_ACT = true → exec (.peerBeacon f) s = .next v.restartSeed)) ∧
    (∀ t m, s.peerFrom 1 f = (t, some m) → m.body.length = 24 → fieldBe m.body 0 1 = 0 →
      let v := t.noteBeacon m.claim 0 (fieldBe m.body 1 1)
      v.role = .active → (v.claim < m.claim → exec (.peerBeacon f) s = .next (v.demote 2 m.claim)) ∧ (m.claim ≤ v.claim → exec (.peerBeacon f) s = .next v)) ∧
    (∀ t m, s.peerFrom 2 f = (t, some m) → 12 ≤ m.body.length → exec (.delta f) s = .next (t.deltaFrame m.body)) ∧
    (∀ t, s.peerFrom 2 f = (t, none) → exec (.delta f) s = .next t) ∧
    (∀ t m, s.peerFrom 3 f = (t, some m) → m.body.length = 8 → t.rdn.mirror = true → fieldBe m.body 4 1 ≠ 0 → exec (.deltaAck f) s = .next t.mirrorLag.showUnacked) ∧
    (∀ t m, s.peerFrom 3 f = (t, some m) → m.body.length = 8 → t.rdn.mirror = true → fieldBe m.body 4 1 = 0 → exec (.deltaAck f) s =
      .next ((({ t with rdn := { t.rdn with unacked := t.rdn.unacked.filter fun x => decide (0 < seqDiff x (fieldBe m.body 0 4)) } } : State).wrN Reg.RDN_DELTAACK
        (fieldBe m.body 0 4)).showUnacked)) ∧
    (∀ t m, s.peerFrom 4 f = (t, some m) → t.role = .active → ∃ v, exec (.seedReq f) s = .next v ∧ v.rdn.mirror = true ∧ v.rdn.unacked = []) ∧
    (∀ t m, s.peerFrom 4 f = (t, some m) → t.role ≠ .active → exec (.seedReq f) s = .next t) ∧
    (∀ t m, s.peerFrom 5 f = (t, some m) → t.role = .seeding → t.flag Reg.RDN_STATUS F.RDN_STATUS_SEEDING_ACT = true → 12 ≤ m.body.length → t.rdn.seed = none →
      let x : RdnParts := { seq := 0, batch := fieldBe m.body 0 4, last := fieldBe m.body 8 4, parts := mapPut [] (fieldBe m.body 4 4) (m.body.drop 12) }
      let v := ({ t with rdn := { t.rdn with seed := some x } } : State).setF Reg.RDN_SEED F.RDN_SEED_PCT (min 100 (x.parts.length * 100 / (fieldBe m.body 8 4 + 1)))
      (x.complete = true → exec (.seed f) s = .next (v.applySeed x)) ∧ (x.complete = false → exec (.seed f) s = .next v)) ∧
    (∀ t m, s.peerFrom 6 f = (t, some m) → m.body.length = 16 → t.role = .standby → t.rdn.hand = none → stampTime t.stamp < stampTime (fieldBe m.body 0 8) →
      exec (.handover f) s = .next (({ t with rdn := { t.rdn with
        hand := some { old := false, t := t.boundaryAt (fieldBe m.body 0 8), stamp := fieldBe m.body 0 8 } } } : State).request 3 0)) ∧
    (∀ t m h, s.peerFrom 7 f = (t, some m) → t.rdn.hand = some h → m.body.length = 4 → h.old = true → h.passed = false → t.now + 1000000 ≤ h.t →
      exec (.ready f) s = .next { t with rdn := { t.rdn with hand := some { h with epoch := some (fieldBe m.body 0 4) } } }) ∧
    (∀ t m h, s.peerFrom 8 f = (t, some m) → t.rdn.hand = some h → m.body.length = 8 → h.old = true → h.passed = true → t.rdn.req = none → t.waits = [] →
      ∃ v, exec (.confirm f) s = .next v ∧ v.rdn.hand = none ∧ v.rdn.req = none) ∧
    (∀ t m, s.peerFrom 9 f = (t, some m) → m.body.length = 4 → exec (.yield_ f) s = .next (t.requestTakeover 2)) ∧
    (∀ t m, s.peerFrom 0xA f = (t, some m) → m.body.length = 4 → t.role = .active → t.rdnProto = 3 →
      exec (.health f) s = .next ((t.wrN Reg.RDN_HEALTH (fieldBe m.body 0 4)).postDia 0x0E01 0 (le 4 (fieldBe m.body 0 4))))

/-- Frames of the witness at a unit, and of units at a witness (R412 to R415, R431, R432, R436, R438). -/
def Obligations.WitnessFrames : Prop :=
  ∀ (s : State) (f : EthFrame),
    (∀ t, s.fromWitness 3 f = (t, none) → exec (.grant f) s = .next t) ∧
    (∀ b t q, s.fromWitness 3 f = (t, some b) → (t.sawEpoch (fieldBe b 4 4)).answered b = some q → q.reason = 2 → (t.sawEpoch (fieldBe b 4 4)).role = .standby →
      let v := t.sawEpoch (fieldBe b 4 4)
      exec (.grant f) s = .next (({ v with rdn := { v.rdn with req := none } } : State).takeover q (fieldBe b 4 4))) ∧
    (∀ b t q, s.fromWitness 4 f = (t, some b) → t.answered b = some q → q.reason = 1 →
      exec (.deny f) s = .next { t with rdn := { t.rdn with req := some { q with denied := true, trigger := fieldBe b 4 1 } } }) ∧
    (∀ b t, s.fromWitness 5 f = (t, some b) → ((t.wrN Reg.RDN_WEPOCH (fieldBe b 0 4)).sawEpoch (fieldBe b 0 4)).contact.role ≠ .active →
      let v := ((t.wrN Reg.RDN_WEPOCH (fieldBe b 0 4)).sawEpoch (fieldBe b 0 4)).contact
      exec (.status f) s = .next { v with rdn := { v.rdn with witAt := some v.now, witHolding := bitOf (fieldBe b 5 1) 0 } }) ∧
    (∀ b t, s.fromWitness 7 f = (t, some b) → t.role ≠ .active → exec (.notice f) s = .next t) ∧
    (∀ b t, s.fromWitness 7 f = (t, some b) → t.role = .active → t.flag Reg.RDN_CFG F.RDN_CFG_RADIO_ROTATE = true → t.rdnProto ≠ 3 →
      exec (.notice f) s = .next (t.tryHandover false)) ∧
    (∀ b t, s.fromWitness 8 f = (t, some b) → (t.sawEpoch (fieldBe b 0 4)).role = .active → (t.sawEpoch (fieldBe b 0 4)).rdn.epoch < fieldBe b 0 4 →
      let v := t.sawEpoch (fieldBe b 0 4)
      exec (.revoke f) s = .next (v.demote 1 (fieldBe b 0 4 * 2 + (1 - v.unit)))) ∧
    (∀ t, s.witFrom f = (t, none) → exec (.heartbeat f) s = .next t ∧ exec (.request f) s = .next t ∧ exec (.vote f) s = .next t) ∧
    (∀ m c u t, s.witFrom f = (t, some (m, c, u)) → m.typ = 1 → fieldBe m.body 0 1 ≠ 0 → ∃ v, exec (.heartbeat f) s = .next v ∧
      ((v.witPair c.pairId).unit u).role = fieldBe m.body 0 1 ∧ ((v.witPair c.pairId).unit u).epoch = fieldBe m.body 4 4 ∧
      ((v.witPair c.pairId).unit u).at_ = some t.now ∧ fieldBe m.body 4 4 ≤ v.witE c.pairId) ∧
    (∀ m c u t, s.witFrom f = (t, some (m, c, u)) → m.typ = 2 → ((t.witPair c.pairId).unit u).nonce = some (fieldBe m.body 0 4) →
      exec (.request f) s = .next (t.witAnswer c u)) ∧
    (∀ m c u t, s.witFrom f = (t, some (m, c, u)) → m.typ = 2 → ((t.witPair c.pairId).unit u).nonce ≠ some (fieldBe m.body 0 4) →
      exec (.request f) s = .next (t.witRequest c u (fieldBe m.body 0 4) (fieldBe m.body 4 1) (fieldBe m.body 8 4) (fieldBe m.body 12 4))) ∧
    (∀ m c u t a, s.witFrom f = (t, some (m, c, u)) → m.typ = 6 → (t.witPair c.pairId).act = some a →
      exec (.vote f) s = .next (t.witSend c a 7 (be 1 (2 ^ (fieldBe m.body 0 1 % 8)) ++ [0, 0, 0])))

/-- The timers of redundancy at a unit and at a witness (R413 to R416, R420, R426 to R430, R436): each acts once its time has come, and not before. -/
def Obligations.RedundancyTimers : Prop :=
  ∀ s : State,
    (s.now < s.rdn.beaconAt → exec .peerBeaconDue s = .next s) ∧
    (s.peerReady = true → s.rdn.beaconAt ≤ s.now → ∃ t, exec .peerBeaconDue s = .next t ∧
      t.rdn.beaconAt = t.now + ms (max 1 (t.fld Reg.RDN_CFG F.RDN_CFG_BEACON_MS))) ∧
    (s.peerReady = true → s.rdnProto = 3 → s.role = .standby → s.rdn.healthAt ≤ s.now → ∃ t, exec .healthDue s = .next t ∧ t.rdn.healthAt = t.now + secs 1) ∧
    (s.now < s.rdn.healthAt → exec .healthDue s = .next s) ∧
    (∀ t, s.rotateAt = some t → s.peerReady = true → t ≤ s.now → exec .rotationDue s = .next (s.tryHandover true)) ∧
    (s.rotateAt = none → exec .rotationDue s = .next s) ∧
    (∀ h, s.rdn.hand = some h → h.passed = false → h.t ≤ s.now → h.old = true → s.role = .active → exec .handoverTick s = .next (s.handOver h)) ∧
    (∀ h, s.rdn.hand = some h → h.passed = false → h.t ≤ s.now → h.old = false → s.role = .standby → exec .handoverTick s = .next (s.takeHandover h)) ∧
    (s.rdn.hand = none → exec .handoverTick s = .next s ∧ exec .handoverDeltaTimeout s = .next s ∧ exec .confirmTimeout s = .next s) ∧
    (∀ h, s.rdn.hand = some h → h.old = false → h.passed = true → h.delta = false → h.t + ms 15 ≤ s.now → ∃ t, exec .handoverDeltaTimeout s = .next t ∧
      t.rdn.hand = some { h with delta := true } ∧ t.rdn.rx = []) ∧
    (∀ h, s.rdn.hand = some h → h.old = true → h.passed = true → s.rdn.req = none → h.t + ms s.lamp.tick + s.rdN Reg.CYC_PERIOD * 1000 + ms 20 ≤ s.now → s.role = .standby →
      exec .confirmTimeout s = .next (s.request 4 0)) ∧
    (s.peerReady = true → s.peerLost = true → s.role = .standby → s.rdn.roleAt + s.lossNs ≤ s.now → s.rdn.hand = none → exec .peerLoss s = .next (s.requestTakeover 1)) ∧
    (s.peerLost = false → exec .peerLoss s = .next s) ∧
    (s.peerReady = true → s.role = .active → s.rdn.isolated = false → s.rdn.contactAt + ms (s.fld Reg.RDN_TIMING F.RDN_TIMING_ISOLATE_MS) ≤ s.now →
      ∃ t, exec .isolated s = .next t ∧ t.rdn.isolated = true ∧ t.role = .active) ∧
    (s.peerReady = true → s.role = .seeding → s.rdn.listenAt + ms 100 ≤ s.now → s.flag Reg.RDN_STATUS F.RDN_STATUS_SEEDING_ACT = false → s.rdn.req = none →
      s.peerSeen = false → exec .seedingPeerListenEnd s = .next (s.request 1 0)) ∧
    (∀ q, s.rdn.req = some q → s.role = .seeding → q.reason = 1 → q.denied = false → q.first + ms 200 ≤ s.now → s.flag Reg.RDN_CFG F.RDN_CFG_SELF_GRANT = true →
      exec .witnessNoAnswer s = .next (((s.enterActive (s.rdn.highest + 1)).setF Reg.RDN_STATUS F.RDN_STATUS_SELF_GRANTED 1).event 0x1408 1 noInst
        (le 4 (s.rdn.highest + 1)))) ∧
    (s.rdn.req = none → exec .witnessNoAnswer s = .next s ∧ exec .requestRepeat s = .next s) ∧
    (∀ q, s.rdn.req = some q → q.reason = 1 → s.role = .seeding → q.denied = false → q.last + secs 1 ≤ s.now → exec .requestRepeat s = .next (s.sendRequest q)) ∧
    (∀ pair, s.role ≠ .witness → exec (.witnessStartHoldEnd pair) s = .next s ∧ exec (.witnessStatusDue pair) s = .next s ∧ exec .witnessHoldingEnd s = .next s) ∧
    (∀ pair c t, s.role = .witness → s.cfg.rdn.pairs.find? (fun x => x.pairId == pair) = some c → (s.witPair pair).startAt = some t → t + ms 100 ≤ s.now →
      exec (.witnessStartHoldEnd pair) s = .next (s.witDecide c)) ∧
    (∀ pair c, s.role = .witness → s.cfg.rdn.pairs.find? (fun x => x.pairId == pair) = some c → (s.witPair pair).statusAt ≤ s.now →
      exec (.witnessStatusDue pair) s = .next ((s.witStatus c).setWitPair pair { s.witPair pair with statusAt := s.now + ms 50 })) ∧
    (s.role = .witness → s.rdn.holdUntil ≠ 0 → s.rdn.holdUntil ≤ s.now → exec .witnessHoldingEnd s = .next { s with rdn := { s.rdn with holdUntil := 0 } })

/-! ### Keys and attestation -/

/-- The delays and the life cycle of keys (R448, R453 to R457): a replaced key stops sending and then receiving; a life-cycle change zeroises once its time has come and
ends 2 s after its request; a signed statement is delivered. -/
def Obligations.KeyEvents : Prop :=
  ∀ s : State,
    (∀ k, (s.keySlot k).prev.isSome = true → (s.keySlot k).prevSends = true → (s.keySlot k).sendAt ≤ s.now →
      exec (.keySendDelayEnd k) s = .next (s.setKeySlot k { s.keySlot k with prevSends := false })) ∧
    (∀ k, (s.keySlot k).prev = none → exec (.keySendDelayEnd k) s = .next s ∧ exec (.oldKeyGraceEnd k) s = .next s) ∧
    (∀ k, (s.keySlot k).prev.isSome = true → (s.keySlot k).graceEnd ≤ s.now → ∃ t, exec (.oldKeyGraceEnd k) s = .next t ∧ (t.keySlot k).prev = none ∧
      (t.keySlot k).attr = (s.keySlot k).attr ∧ (t.keySlot k).data = (s.keySlot k).data ∧ (∀ j, j ≠ k → t.keySlot j = s.keySlot j)) ∧
    (s.zeroiseDue = true → exec .lcZeroise s = .next s.zeroiseKeys.zeroiseNodes) ∧
    (s.zeroiseDue = false → exec .lcZeroise s = .next s) ∧
    (∀ d, s.keys.intent = some d → s.keys.zeroised = true → s.keys.lcAt + secs 2 ≤ s.now → exec .lcTransitionEnd s = .next (s.completeLc d false)) ∧
    (s.keys.intent = none → exec .lcTransitionEnd s = .next s) ∧
    (∀ w nonce addr len, s.waits = [w] → w.kind = .keyAttest nonce addr len → s.noIdentity = false → (s.statementOf nonce).length ≤ len →
      let t := (s.setF Reg.KEY_STATUS F.KEY_STATUS_ATTEST_BUSY 0).event 0x1604 0 noInst (le 1 nonce.length ++ le 2 (s.statementOf nonce).length)
      exec .statementSigned s = .next (({ t with keys := { t.keys with statement := s.statementOf nonce } } : State).finish w St.ok (s.statementOf nonce).length 0
        [(addr, s.statementOf nonce)])) ∧
    (s.waits = [] → exec .statementSigned s = .next s)

/-! ### Pattern update -/

/-- The activate pause, the trial and the recovery from HALT (R465, R466, R468 to R471, R473). -/
def Obligations.PatternEvents : Prop :=
  ∀ s : State,
    (∀ w, s.waits.find? (fun w => w.activates.isSome) = some w → s.pausing = false → s.outage = false → s.pauseStart ≤ s.now → w.activates = some (false, false) →
      s.patState (otherSlot s.runSlot) = 3 → s.slotVerifies (otherSlot s.runSlot) = true → s.activateBlock false = none → exec .activatePauseStart s = .next (s.startPause (otherSlot s.runSlot) false)) ∧
    (s.waits = [] → exec .activatePauseStart s = .next s) ∧
    (s.pausing = false → exec .activatePauseEnd s = .next s) ∧
    (s.pausing = true → s.sup.pauseBack = false → s.patternTakes s.runSlot = false → s.outage = false → s.sup.flush = .idle → ∃ t : State,
      exec .activatePauseEnd s = .next t.pauseAgain ∧ t.sup.refused = true ∧ t.sup.trialAt = t.now ∧ t.flag Reg.PAT_STATUS F.PAT_STATUS_PAUSING = false ∧
      t.fld Reg.PAT_LASTPAUSE F.PAT_LASTPAUSE_MS = min 65535 ((s.now - s.sup.pauseAt) / 1000000)) ∧
    (s.patState s.runSlot = 5 → s.flag Reg.PAT_CFG F.PAT_CFG_AUTOCONFIRM = true → s.pausing = false → s.outage = false →
      s.sup.trialAt + secs (max 1 (s.fld Reg.PAT_CFG F.PAT_CFG_TRIAL_S)) ≤ s.now → exec .trialTimeout s = .next s.confirmPattern) ∧
    (s.patState s.runSlot ≠ 5 → exec .trialTimeout s = .next s) ∧
    (∀ v, exec (.patHaltgo v) s = .next (s.hostReg Reg.PAT_HALTGO v)) ∧
    (s.stage = 0xF → s.fld Reg.PAT_HALTGO F.PAT_HALTGO_RESULT = 1 → ∃ t, exec (.haltRecoveryDone none) s = .next t ∧
      t.fld Reg.PAT_HALTGO F.PAT_HALTGO_RESULT = 2 ∧ t.flash = s.flash ∧ t.stage = 0xF) ∧
    (∀ b, s.stage ≠ 0xF → exec (.haltRecoveryDone b) s = .next s)
end

