-- ==== Sys2Proof/Laws/Ccm.lean ====
section
/-!
SUPPORT. AES-CCM as the frames use it: what is sealed opens again under the same key, nonce and associated data.
-/
namespace Sys2Proof.Machine

theorem ccmCrypt_length (key nonce p : List Byte) : (ccmCrypt key nonce p).length = p.length := by simp [ccmCrypt]

theorem ccmMic_length (micLen : Nat) (key nonce aad p : List Byte) : (ccmMic micLen key nonce aad p).length = micLen := by simp [ccmMic]

theorem ccmCrypt_twice (key nonce p : List Byte) : ccmCrypt key nonce (ccmCrypt key nonce p) = p := by
  have undo (a b : Byte) : a ^^^ b ^^^ b = a := by rw [BitVec.xor_assoc, BitVec.xor_self, BitVec.xor_zero]
  apply List.ext_getElem
  · simp [ccmCrypt_length]
  · intro i h1 h2
    simp [ccmCrypt, h2, undo]

theorem ccmSeal_length (micLen : Nat) (key nonce aad p : List Byte) : (ccmSeal micLen key nonce aad p).length = p.length + micLen := by
  simp [ccmSeal, ccmCrypt_length, ccmMic_length]

theorem ccmOpen_ccmSeal (micLen : Nat) (key nonce aad p : List Byte) : ccmOpen micLen key nonce aad (ccmSeal micLen key nonce aad p) = some p := by
  simp [ccmOpen, ccmSeal, ccmCrypt_length, ccmMic_length, ccmCrypt_twice]

end Sys2Proof.Machine
end

