-- ==== Sys2Proof/Laws/HostCmd.lean ====
section
/-!
SUPPORT. What the shared path of host commands can do: an admitted entry is settled by its opcode's own rules; an entry that cannot be taken changes nothing.
-/
namespace Sys2Proof.Machine

/-- An admitted entry is settled as its body answers on the state in which it was taken. -/
theorem runCmd_admits {s : State} {o : OpSpec} {e : CmdEntry} (h : s.admits o e = true) (i : Instr) (body : CmdTag → State → Res) :
    runCmd o i e body s = .next (settle (s.tagOf o e) (o.staging e (body (s.tagOf o e) (s.taken e)))) := by
  simp only [State.admits, Bool.and_eq_true, Bool.not_eq_true', Bool.or_eq_true, beq_iff_eq] at h
  obtain ⟨⟨⟨⟨⟨⟨⟨⟨hc, ht⟩, hh⟩, hf⟩, he⟩, hr⟩, hs⟩, hrad⟩, htx⟩ := h
  have hc' : s.cur = none := by simpa using hc
  have he' : entryCheck o e = none := by simpa using he
  have hr' : (s.takeEntry e.ring).repeated (e.tag o.op (s.rdN (Reg.RNG_MODIDX e.ring))) = none := by
    simpa [State.tagOf] using hr
  have hfalse : (e.fence && (s.takeEntry e.ring).ringBusy e.ring) = false := hf
  have htk : (if e.cmdId = 0 then s.takeEntry e.ring
      else (s.takeEntry e.ring).setRing e.ring { (s.takeEntry e.ring).ring e.ring with openIds := e.cmdId :: ((s.takeEntry e.ring).ring e.ring).openIds })
      = s.taken e := rfl
  have htr : ∀ sq, (e.tag o.op sq).ring = e.ring := fun _ => rfl
  have htc : ∀ sq, (e.tag o.op sq).cmdId = e.cmdId := fun _ => rfl
  have hrad' : ¬((s.taken e).ident.radios = 0 ∧ (e.ring = 8 ∨ o.op / 256 = 9)) := by
    intro hx; simp only [hx, beq_self_eq_true, Bool.true_and, Bool.or_eq_false_iff] at hrad
    rcases hx.2 with h | h <;> simp [h] at hrad
  have htx' : ¬((¬e.txn = 0#16 ∧ ¬o.op = 256) ∧ (s.taken e).txnOf (BitVec.toNat e.txn) = none) := by
    rintro ⟨⟨h1, h2⟩, h3⟩
    rcases htx with (h | h) | h
    · exact h1 h
    · exact h2 h
    · simp [h3] at h
  simp only [runCmd, hc', ht, hh, hfalse, State.consume, he', State.runChecked, hr', htr, htc, htk, hs, State.tagOf]
  simp [hrad', htx']

/-- An entry that its ring does not let go stays in host memory. -/
theorem runCmd_not_taken {s : State} {o : OpSpec} {e : CmdEntry} (hc : s.cur = none) (h : s.takeOk e.ring = false) (i : Instr)
    (body : CmdTag → State → Res) : runCmd o i e body s = .next s := by
  simp [runCmd, hc, h]

/-- A body that completes OK leaves the idle count as it set it. -/
@[simp] theorem staging_ok (o : OpSpec) (e : CmdEntry) (r0 r1 fl : Nat) (pl : List (Nat × List Byte)) (s : State) :
    o.staging e (.done St.ok r0 r1 fl pl s) = .done St.ok r0 r1 fl pl s := by
  unfold OpSpec.staging Res.named; split <;> simp

/-- A body that waits leaves it too. -/
@[simp] theorem staging_wait (o : OpSpec) (e : CmdEntry) (k : WaitKind) (s : State) : o.staging e (.wait k s) = .wait k s := by
  unfold OpSpec.staging Res.named; split <;> rfl

/-- An opcode that stages nothing has no idle count to restart. -/
theorem staging_of_not {o : OpSpec} (h : o.stages = false) (e : CmdEntry) (r : Res) : o.staging e r = r := by simp [OpSpec.staging, h]

theorem settle_done (t : CmdTag) (st r0 r1 fl : Nat) (pl : List (Nat × List Byte)) (s : State) :
    settle t (.done st r0 r1 fl pl s) = (s.complete t st r0 r1 fl pl).syncPass (s.complete t st r0 r1 fl pl).waits.length := rfl

theorem settle_wait (t : CmdTag) (k : WaitKind) (s : State) :
    settle t (.wait k s) = { s with waits := s.waits ++ [{ tag := t, kind := k }] } := rfl

end Sys2Proof.Machine
end

