-- ==== Sys2Proof/Laws/Maps.lean ====
section
/-!
SUPPORT. The laws of sparse maps: a read after a write gives the value written, a write leaves every other key alone, and the canonical form is kept.
-/
namespace Sys2Proof.Machine

variable {α : Type} (d : Nat → α) (m : List (Nat × α)) (k j : Nat) (v : α)

theorem mapGet_mapDel : mapGet d (mapDel m k) j = if j = k then d j else mapGet d m j := by
  induction m with
  | nil => simp [mapDel, mapGet]
  | cons e m ih =>
    obtain ⟨i, x⟩ := e
    simp only [mapDel]
    split
    · next h =>
      subst h
      rw [ih]
      by_cases h : j = i
      · simp [h]
      · simp [h, mapGet, Ne.symm h]
    · next h =>
      simp only [mapGet, ih]
      by_cases h1 : i = j
      · simp [h1, show j ≠ k from h1 ▸ h]
      · simp [h1]

theorem mapGet_mapPut : mapGet d (mapPut m k v) j = if j = k then v else mapGet d m j := by
  induction m with
  | nil => simp only [mapPut, mapGet, eq_comm]
  | cons e m ih =>
    obtain ⟨i, x⟩ := e
    simp only [mapPut]
    split
    · simp only [mapGet, eq_comm]
    · split
      · next h =>
        subst h
        simp only [mapGet]
        simp only [eq_comm (a := j)]
        split <;> rfl
      · next h =>
        simp only [mapGet, ih]
        by_cases h1 : i = j
        · simp [h1, show j ≠ k from h1 ▸ h]
        · simp [h1]

section
variable [DecidableEq α]

/-- A read after a write. -/
theorem mapGet_mapSet : mapGet d (mapSet d m k v) j = if j = k then v else mapGet d m j := by
  unfold mapSet
  split
  · next h => rw [mapGet_mapDel]; split <;> simp_all
  · exact mapGet_mapPut d m k j v

@[simp] theorem mapGet_mapSet_self : mapGet d (mapSet d m k v) k = v := by simp [mapGet_mapSet]

theorem mapGet_mapSet_other (h : j ≠ k) : mapGet d (mapSet d m k v) j = mapGet d m j := by
  simp [mapGet_mapSet, h]

end

theorem mapSorted_mono {lo hi : Nat} (h : lo ≤ hi) (w : mapSorted hi m = true) : mapSorted lo m = true := by
  cases m with
  | nil => rfl
  | cons e m => simp only [mapSorted, Bool.and_eq_true, decide_eq_true_eq] at *; exact ⟨h.trans w.1, w.2⟩

theorem mapSorted_mapDel {lo : Nat} (w : mapSorted lo m = true) : mapSorted lo (mapDel m k) = true := by
  induction m generalizing lo with
  | nil => rfl
  | cons e m ih =>
    obtain ⟨i, x⟩ := e
    simp only [mapSorted, Bool.and_eq_true, decide_eq_true_eq] at w
    simp only [mapDel]
    split
    · exact mapSorted_mono _ (by omega) (ih w.2)
    · simp only [mapSorted, Bool.and_eq_true, decide_eq_true_eq]; exact ⟨w.1, ih w.2⟩

theorem mapSorted_mapPut {lo : Nat} (h : lo ≤ k) (w : mapSorted lo m = true) : mapSorted lo (mapPut m k v) = true := by
  induction m generalizing lo with
  | nil => simp [mapPut, mapSorted, h]
  | cons e m ih =>
    obtain ⟨i, x⟩ := e
    simp only [mapSorted, Bool.and_eq_true, decide_eq_true_eq] at w
    simp only [mapPut]
    split
    · simp only [mapSorted, Bool.and_eq_true, decide_eq_true_eq]; exact ⟨h, by omega, w.2⟩
    · split
      · next hk => subst hk; simp only [mapSorted, Bool.and_eq_true, decide_eq_true_eq]; exact ⟨h, w.2⟩
      · simp only [mapSorted, Bool.and_eq_true, decide_eq_true_eq]; exact ⟨w.1, ih (by omega) w.2⟩

theorem mem_mapDel {e : Nat × α} (h : e ∈ mapDel m k) : e ∈ m := by
  induction m with
  | nil => exact h
  | cons f m ih =>
    simp only [mapDel] at h
    split at h
    · exact List.mem_cons_of_mem _ (ih h)
    · cases h with
      | head => simp
      | tail _ h => exact List.mem_cons_of_mem _ (ih h)

theorem mem_mapPut {e : Nat × α} (h : e ∈ mapPut m k v) : e = (k, v) ∨ e ∈ m := by
  induction m with
  | nil => simpa [mapPut] using h
  | cons f m ih =>
    obtain ⟨i, x⟩ := f
    simp only [mapPut] at h
    split at h
    · simpa using h
    · split at h
      · simp only [List.mem_cons] at h ⊢; tauto
      · simp only [List.mem_cons] at h ⊢
        rcases h with h | h
        · exact .inr (.inl h)
        · rcases ih h with h | h
          · exact .inl h
          · exact .inr (.inr h)

/-- A write keeps the canonical form. -/
theorem mapWf_mapSet [DecidableEq α] (w : mapWf d m = true) : mapWf d (mapSet d m k v) = true := by
  simp only [mapWf, Bool.and_eq_true, List.all_eq_true, decide_eq_true_eq] at *
  unfold mapSet
  split
  · exact ⟨mapSorted_mapDel m k w.1, fun e he => w.2 e (mem_mapDel m k he)⟩
  · next h =>
    refine ⟨mapSorted_mapPut m k v (Nat.zero_le k) w.1, fun e he => ?_⟩
    rcases mem_mapPut m k v he with rfl | he
    · exact h
    · exact w.2 e he

theorem mapWf_nil [DecidableEq α] : mapWf d ([] : List (Nat × α)) = true := rfl

end Sys2Proof.Machine
end

