-- ==== Sys2Proof/Laws/State.lean ====
section
/-!
SUPPORT. What the storing operations of State leave alone: one lemma per field and operation.
-/
namespace Sys2Proof.Machine.State

/-! ### When a register is stored -/

section
variable (s : State) (a : Nat) (v : Word)

@[simp] theorem wr_pending : (s.wr a v).pending = s.pending := rfl
@[simp] theorem wr_held : (s.wr a v).held = s.held := rfl
@[simp] theorem wr_waits : (s.wr a v).waits = s.waits := rfl
@[simp] theorem wr_cur : (s.wr a v).cur = s.cur := rfl
@[simp] theorem wr_ident : (s.wr a v).ident = s.ident := rfl
@[simp] theorem wr_rdData : (s.wr a v).rdData = s.rdData := rfl
@[simp] theorem wr_pcie : (s.wr a v).pcie = s.pcie := rfl
@[simp] theorem wr_rings : (s.wr a v).rings = s.rings := rfl
@[simp] theorem wr_rrLast : (s.wr a v).rrLast = s.rrLast := rfl
@[simp] theorem wr_txns : (s.wr a v).txns = s.txns := rfl
@[simp] theorem wr_txnTag : (s.wr a v).txnTag = s.txnTag := rfl
@[simp] theorem wr_txnRank : (s.wr a v).txnRank = s.txnRank := rfl
@[simp] theorem wr_hostMem : (s.wr a v).hostMem = s.hostMem := rfl
@[simp] theorem wr_outs : (s.wr a v).outs = s.outs := rfl
@[simp] theorem wr_clock : (s.wr a v).clock = s.clock := rfl
@[simp] theorem wr_cal : (s.wr a v).cal = s.cal := rfl
@[simp] theorem wr_calRun : (s.wr a v).calRun = s.calRun := rfl
@[simp] theorem wr_shadows : (s.wr a v).shadows = s.shadows := rfl
@[simp] theorem wr_evr : (s.wr a v).evr = s.evr := rfl
@[simp] theorem wr_flash : (s.wr a v).flash = s.flash := rfl
@[simp] theorem wr_sup : (s.wr a v).sup = s.sup := rfl
@[simp] theorem wr_fettle : (s.wr a v).fettle = s.fettle := rfl
@[simp] theorem wr_role : (s.wr a v).role = s.role := rfl
@[simp] theorem wr_cfg : (s.wr a v).cfg = s.cfg := rfl
@[simp] theorem wr_restoreStamp : (s.wr a v).restoreStamp = s.restoreStamp := rfl
@[simp] theorem wr_points : (s.wr a v).points = s.points := rfl
@[simp] theorem wr_forces : (s.wr a v).forces = s.forces := rfl
@[simp] theorem wr_subs : (s.wr a v).subs = s.subs := rfl
@[simp] theorem wr_noticeQ : (s.wr a v).noticeQ = s.noticeQ := rfl
@[simp] theorem wr_batch : (s.wr a v).batch = s.batch := rfl
@[simp] theorem wr_deferred : (s.wr a v).deferred = s.deferred := rfl
@[simp] theorem wr_ladles : (s.wr a v).ladles = s.ladles := rfl
@[simp] theorem wr_cyc : (s.wr a v).cyc = s.cyc := rfl
@[simp] theorem wr_lamp : (s.wr a v).lamp = s.lamp := rfl
@[simp] theorem wr_keys : (s.wr a v).keys = s.keys := rfl
@[simp] theorem wr_czn : (s.wr a v).czn = s.czn := rfl
@[simp] theorem wr_radio : (s.wr a v).radio = s.radio := rfl
@[simp] theorem wr_meter : (s.wr a v).meter = s.meter := rfl
@[simp] theorem wr_rdn : (s.wr a v).rdn = s.rdn := rfl
@[simp] theorem wr_free : (s.wr a v).free = s.free := rfl

end

/-! ### When a number is stored in a register -/

section
variable (s : State) (a v : Nat)

@[simp] theorem wrN_pending : (s.wrN a v).pending = s.pending := rfl
@[simp] theorem wrN_held : (s.wrN a v).held = s.held := rfl
@[simp] theorem wrN_waits : (s.wrN a v).waits = s.waits := rfl
@[simp] theorem wrN_cur : (s.wrN a v).cur = s.cur := rfl
@[simp] theorem wrN_ident : (s.wrN a v).ident = s.ident := rfl
@[simp] theorem wrN_rdData : (s.wrN a v).rdData = s.rdData := rfl
@[simp] theorem wrN_pcie : (s.wrN a v).pcie = s.pcie := rfl
@[simp] theorem wrN_rings : (s.wrN a v).rings = s.rings := rfl
@[simp] theorem wrN_rrLast : (s.wrN a v).rrLast = s.rrLast := rfl
@[simp] theorem wrN_txns : (s.wrN a v).txns = s.txns := rfl
@[simp] theorem wrN_txnTag : (s.wrN a v).txnTag = s.txnTag := rfl
@[simp] theorem wrN_txnRank : (s.wrN a v).txnRank = s.txnRank := rfl
@[simp] theorem wrN_hostMem : (s.wrN a v).hostMem = s.hostMem := rfl
@[simp] theorem wrN_outs : (s.wrN a v).outs = s.outs := rfl
@[simp] theorem wrN_clock : (s.wrN a v).clock = s.clock := rfl
@[simp] theorem wrN_cal : (s.wrN a v).cal = s.cal := rfl
@[simp] theorem wrN_calRun : (s.wrN a v).calRun = s.calRun := rfl
@[simp] theorem wrN_shadows : (s.wrN a v).shadows = s.shadows := rfl
@[simp] theorem wrN_evr : (s.wrN a v).evr = s.evr := rfl
@[simp] theorem wrN_flash : (s.wrN a v).flash = s.flash := rfl
@[simp] theorem wrN_sup : (s.wrN a v).sup = s.sup := rfl
@[simp] theorem wrN_fettle : (s.wrN a v).fettle = s.fettle := rfl
@[simp] theorem wrN_role : (s.wrN a v).role = s.role := rfl
@[simp] theorem wrN_cfg : (s.wrN a v).cfg = s.cfg := rfl
@[simp] theorem wrN_restoreStamp : (s.wrN a v).restoreStamp = s.restoreStamp := rfl
@[simp] theorem wrN_points : (s.wrN a v).points = s.points := rfl
@[simp] theorem wrN_forces : (s.wrN a v).forces = s.forces := rfl
@[simp] theorem wrN_subs : (s.wrN a v).subs = s.subs := rfl
@[simp] theorem wrN_noticeQ : (s.wrN a v).noticeQ = s.noticeQ := rfl
@[simp] theorem wrN_batch : (s.wrN a v).batch = s.batch := rfl
@[simp] theorem wrN_deferred : (s.wrN a v).deferred = s.deferred := rfl
@[simp] theorem wrN_ladles : (s.wrN a v).ladles = s.ladles := rfl
@[simp] theorem wrN_cyc : (s.wrN a v).cyc = s.cyc := rfl
@[simp] theorem wrN_lamp : (s.wrN a v).lamp = s.lamp := rfl
@[simp] theorem wrN_keys : (s.wrN a v).keys = s.keys := rfl
@[simp] theorem wrN_czn : (s.wrN a v).czn = s.czn := rfl
@[simp] theorem wrN_radio : (s.wrN a v).radio = s.radio := rfl
@[simp] theorem wrN_meter : (s.wrN a v).meter = s.meter := rfl
@[simp] theorem wrN_rdn : (s.wrN a v).rdn = s.rdn := rfl
@[simp] theorem wrN_free : (s.wrN a v).free = s.free := rfl

end

/-! ### When a register field is stored -/

section
variable (s : State) (a : Nat) (f : Fld) (v : Nat)

@[simp] theorem setF_pending : (s.setF a f v).pending = s.pending := rfl
@[simp] theorem setF_held : (s.setF a f v).held = s.held := rfl
@[simp] theorem setF_waits : (s.setF a f v).waits = s.waits := rfl
@[simp] theorem setF_cur : (s.setF a f v).cur = s.cur := rfl
@[simp] theorem setF_ident : (s.setF a f v).ident = s.ident := rfl
@[simp] theorem setF_rdData : (s.setF a f v).rdData = s.rdData := rfl
@[simp] theorem setF_pcie : (s.setF a f v).pcie = s.pcie := rfl
@[simp] theorem setF_rings : (s.setF a f v).rings = s.rings := rfl
@[simp] theorem setF_rrLast : (s.setF a f v).rrLast = s.rrLast := rfl
@[simp] theorem setF_txns : (s.setF a f v).txns = s.txns := rfl
@[simp] theorem setF_txnTag : (s.setF a f v).txnTag = s.txnTag := rfl
@[simp] theorem setF_txnRank : (s.setF a f v).txnRank = s.txnRank := rfl
@[simp] theorem setF_hostMem : (s.setF a f v).hostMem = s.hostMem := rfl
@[simp] theorem setF_outs : (s.setF a f v).outs = s.outs := rfl
@[simp] theorem setF_clock : (s.setF a f v).clock = s.clock := rfl
@[simp] theorem setF_cal : (s.setF a f v).cal = s.cal := rfl
@[simp] theorem setF_calRun : (s.setF a f v).calRun = s.calRun := rfl
@[simp] theorem setF_shadows : (s.setF a f v).shadows = s.shadows := rfl
@[simp] theorem setF_evr : (s.setF a f v).evr = s.evr := rfl
@[simp] theorem setF_flash : (s.setF a f v).flash = s.flash := rfl
@[simp] theorem setF_sup : (s.setF a f v).sup = s.sup := rfl
@[simp] theorem setF_fettle : (s.setF a f v).fettle = s.fettle := rfl
@[simp] theorem setF_role : (s.setF a f v).role = s.role := rfl
@[simp] theorem setF_cfg : (s.setF a f v).cfg = s.cfg := rfl
@[simp] theorem setF_restoreStamp : (s.setF a f v).restoreStamp = s.restoreStamp := rfl
@[simp] theorem setF_points : (s.setF a f v).points = s.points := rfl
@[simp] theorem setF_forces : (s.setF a f v).forces = s.forces := rfl
@[simp] theorem setF_subs : (s.setF a f v).subs = s.subs := rfl
@[simp] theorem setF_noticeQ : (s.setF a f v).noticeQ = s.noticeQ := rfl
@[simp] theorem setF_batch : (s.setF a f v).batch = s.batch := rfl
@[simp] theorem setF_deferred : (s.setF a f v).deferred = s.deferred := rfl
@[simp] theorem setF_ladles : (s.setF a f v).ladles = s.ladles := rfl
@[simp] theorem setF_cyc : (s.setF a f v).cyc = s.cyc := rfl
@[simp] theorem setF_lamp : (s.setF a f v).lamp = s.lamp := rfl
@[simp] theorem setF_keys : (s.setF a f v).keys = s.keys := rfl
@[simp] theorem setF_czn : (s.setF a f v).czn = s.czn := rfl
@[simp] theorem setF_radio : (s.setF a f v).radio = s.radio := rfl
@[simp] theorem setF_meter : (s.setF a f v).meter = s.meter := rfl
@[simp] theorem setF_rdn : (s.setF a f v).rdn = s.rdn := rfl
@[simp] theorem setF_free : (s.setF a f v).free = s.free := rfl

end

/-! ### When a counter register counts -/

section
variable (s : State) (a n : Nat)

@[simp] theorem bump_pending : (s.bump a n).pending = s.pending := rfl
@[simp] theorem bump_held : (s.bump a n).held = s.held := rfl
@[simp] theorem bump_waits : (s.bump a n).waits = s.waits := rfl
@[simp] theorem bump_cur : (s.bump a n).cur = s.cur := rfl
@[simp] theorem bump_ident : (s.bump a n).ident = s.ident := rfl
@[simp] theorem bump_rdData : (s.bump a n).rdData = s.rdData := rfl
@[simp] theorem bump_pcie : (s.bump a n).pcie = s.pcie := rfl
@[simp] theorem bump_rings : (s.bump a n).rings = s.rings := rfl
@[simp] theorem bump_rrLast : (s.bump a n).rrLast = s.rrLast := rfl
@[simp] theorem bump_txns : (s.bump a n).txns = s.txns := rfl
@[simp] theorem bump_txnTag : (s.bump a n).txnTag = s.txnTag := rfl
@[simp] theorem bump_txnRank : (s.bump a n).txnRank = s.txnRank := rfl
@[simp] theorem bump_hostMem : (s.bump a n).hostMem = s.hostMem := rfl
@[simp] theorem bump_outs : (s.bump a n).outs = s.outs := rfl
@[simp] theorem bump_clock : (s.bump a n).clock = s.clock := rfl
@[simp] theorem bump_cal : (s.bump a n).cal = s.cal := rfl
@[simp] theorem bump_calRun : (s.bump a n).calRun = s.calRun := rfl
@[simp] theorem bump_shadows : (s.bump a n).shadows = s.shadows := rfl
@[simp] theorem bump_evr : (s.bump a n).evr = s.evr := rfl
@[simp] theorem bump_flash : (s.bump a n).flash = s.flash := rfl
@[simp] theorem bump_sup : (s.bump a n).sup = s.sup := rfl
@[simp] theorem bump_fettle : (s.bump a n).fettle = s.fettle := rfl
@[simp] theorem bump_role : (s.bump a n).role = s.role := rfl
@[simp] theorem bump_cfg : (s.bump a n).cfg = s.cfg := rfl
@[simp] theorem bump_restoreStamp : (s.bump a n).restoreStamp = s.restoreStamp := rfl
@[simp] theorem bump_points : (s.bump a n).points = s.points := rfl
@[simp] theorem bump_forces : (s.bump a n).forces = s.forces := rfl
@[simp] theorem bump_subs : (s.bump a n).subs = s.subs := rfl
@[simp] theorem bump_noticeQ : (s.bump a n).noticeQ = s.noticeQ := rfl
@[simp] theorem bump_batch : (s.bump a n).batch = s.batch := rfl
@[simp] theorem bump_deferred : (s.bump a n).deferred = s.deferred := rfl
@[simp] theorem bump_ladles : (s.bump a n).ladles = s.ladles := rfl
@[simp] theorem bump_cyc : (s.bump a n).cyc = s.cyc := rfl
@[simp] theorem bump_lamp : (s.bump a n).lamp = s.lamp := rfl
@[simp] theorem bump_keys : (s.bump a n).keys = s.keys := rfl
@[simp] theorem bump_czn : (s.bump a n).czn = s.czn := rfl
@[simp] theorem bump_radio : (s.bump a n).radio = s.radio := rfl
@[simp] theorem bump_meter : (s.bump a n).meter = s.meter := rfl
@[simp] theorem bump_rdn : (s.bump a n).rdn = s.rdn := rfl
@[simp] theorem bump_free : (s.bump a n).free = s.free := rfl

end

/-! ### When a ring is stored -/

section
variable (s : State) (n : Nat) (r : RingSt)

@[simp] theorem setRing_pending : (s.setRing n r).pending = s.pending := rfl
@[simp] theorem setRing_held : (s.setRing n r).held = s.held := rfl
@[simp] theorem setRing_waits : (s.setRing n r).waits = s.waits := rfl
@[simp] theorem setRing_cur : (s.setRing n r).cur = s.cur := rfl
@[simp] theorem setRing_ident : (s.setRing n r).ident = s.ident := rfl
@[simp] theorem setRing_regs : (s.setRing n r).regs = s.regs := rfl
@[simp] theorem setRing_rdData : (s.setRing n r).rdData = s.rdData := rfl
@[simp] theorem setRing_pcie : (s.setRing n r).pcie = s.pcie := rfl
@[simp] theorem setRing_rrLast : (s.setRing n r).rrLast = s.rrLast := rfl
@[simp] theorem setRing_txns : (s.setRing n r).txns = s.txns := rfl
@[simp] theorem setRing_txnTag : (s.setRing n r).txnTag = s.txnTag := rfl
@[simp] theorem setRing_txnRank : (s.setRing n r).txnRank = s.txnRank := rfl
@[simp] theorem setRing_hostMem : (s.setRing n r).hostMem = s.hostMem := rfl
@[simp] theorem setRing_outs : (s.setRing n r).outs = s.outs := rfl
@[simp] theorem setRing_clock : (s.setRing n r).clock = s.clock := rfl
@[simp] theorem setRing_cal : (s.setRing n r).cal = s.cal := rfl
@[simp] theorem setRing_calRun : (s.setRing n r).calRun = s.calRun := rfl
@[simp] theorem setRing_shadows : (s.setRing n r).shadows = s.shadows := rfl
@[simp] theorem setRing_evr : (s.setRing n r).evr = s.evr := rfl
@[simp] theorem setRing_flash : (s.setRing n r).flash = s.flash := rfl
@[simp] theorem setRing_sup : (s.setRing n r).sup = s.sup := rfl
@[simp] theorem setRing_fettle : (s.setRing n r).fettle = s.fettle := rfl
@[simp] theorem setRing_role : (s.setRing n r).role = s.role := rfl
@[simp] theorem setRing_cfg : (s.setRing n r).cfg = s.cfg := rfl
@[simp] theorem setRing_restoreStamp : (s.setRing n r).restoreStamp = s.restoreStamp := rfl
@[simp] theorem setRing_points : (s.setRing n r).points = s.points := rfl
@[simp] theorem setRing_forces : (s.setRing n r).forces = s.forces := rfl
@[simp] theorem setRing_subs : (s.setRing n r).subs = s.subs := rfl
@[simp] theorem setRing_noticeQ : (s.setRing n r).noticeQ = s.noticeQ := rfl
@[simp] theorem setRing_batch : (s.setRing n r).batch = s.batch := rfl
@[simp] theorem setRing_deferred : (s.setRing n r).deferred = s.deferred := rfl
@[simp] theorem setRing_ladles : (s.setRing n r).ladles = s.ladles := rfl
@[simp] theorem setRing_cyc : (s.setRing n r).cyc = s.cyc := rfl
@[simp] theorem setRing_lamp : (s.setRing n r).lamp = s.lamp := rfl
@[simp] theorem setRing_keys : (s.setRing n r).keys = s.keys := rfl
@[simp] theorem setRing_czn : (s.setRing n r).czn = s.czn := rfl
@[simp] theorem setRing_radio : (s.setRing n r).radio = s.radio := rfl
@[simp] theorem setRing_meter : (s.setRing n r).meter = s.meter := rfl
@[simp] theorem setRing_rdn : (s.setRing n r).rdn = s.rdn := rfl
@[simp] theorem setRing_free : (s.setRing n r).free = s.free := rfl

end

/-! ### When a transaction slot is stored -/

section
variable (s : State) (k : Nat) (t : TxnSlot)

@[simp] theorem setTxn_pending : (s.setTxn k t).pending = s.pending := rfl
@[simp] theorem setTxn_held : (s.setTxn k t).held = s.held := rfl
@[simp] theorem setTxn_waits : (s.setTxn k t).waits = s.waits := rfl
@[simp] theorem setTxn_cur : (s.setTxn k t).cur = s.cur := rfl
@[simp] theorem setTxn_ident : (s.setTxn k t).ident = s.ident := rfl
@[simp] theorem setTxn_regs : (s.setTxn k t).regs = s.regs := rfl
@[simp] theorem setTxn_rdData : (s.setTxn k t).rdData = s.rdData := rfl
@[simp] theorem setTxn_pcie : (s.setTxn k t).pcie = s.pcie := rfl
@[simp] theorem setTxn_rings : (s.setTxn k t).rings = s.rings := rfl
@[simp] theorem setTxn_rrLast : (s.setTxn k t).rrLast = s.rrLast := rfl
@[simp] theorem setTxn_txnTag : (s.setTxn k t).txnTag = s.txnTag := rfl
@[simp] theorem setTxn_txnRank : (s.setTxn k t).txnRank = s.txnRank := rfl
@[simp] theorem setTxn_hostMem : (s.setTxn k t).hostMem = s.hostMem := rfl
@[simp] theorem setTxn_outs : (s.setTxn k t).outs = s.outs := rfl
@[simp] theorem setTxn_clock : (s.setTxn k t).clock = s.clock := rfl
@[simp] theorem setTxn_cal : (s.setTxn k t).cal = s.cal := rfl
@[simp] theorem setTxn_calRun : (s.setTxn k t).calRun = s.calRun := rfl
@[simp] theorem setTxn_shadows : (s.setTxn k t).shadows = s.shadows := rfl
@[simp] theorem setTxn_evr : (s.setTxn k t).evr = s.evr := rfl
@[simp] theorem setTxn_flash : (s.setTxn k t).flash = s.flash := rfl
@[simp] theorem setTxn_sup : (s.setTxn k t).sup = s.sup := rfl
@[simp] theorem setTxn_fettle : (s.setTxn k t).fettle = s.fettle := rfl
@[simp] theorem setTxn_role : (s.setTxn k t).role = s.role := rfl
@[simp] theorem setTxn_cfg : (s.setTxn k t).cfg = s.cfg := rfl
@[simp] theorem setTxn_restoreStamp : (s.setTxn k t).restoreStamp = s.restoreStamp := rfl
@[simp] theorem setTxn_points : (s.setTxn k t).points = s.points := rfl
@[simp] theorem setTxn_forces : (s.setTxn k t).forces = s.forces := rfl
@[simp] theorem setTxn_subs : (s.setTxn k t).subs = s.subs := rfl
@[simp] theorem setTxn_noticeQ : (s.setTxn k t).noticeQ = s.noticeQ := rfl
@[simp] theorem setTxn_batch : (s.setTxn k t).batch = s.batch := rfl
@[simp] theorem setTxn_deferred : (s.setTxn k t).deferred = s.deferred := rfl
@[simp] theorem setTxn_ladles : (s.setTxn k t).ladles = s.ladles := rfl
@[simp] theorem setTxn_cyc : (s.setTxn k t).cyc = s.cyc := rfl
@[simp] theorem setTxn_lamp : (s.setTxn k t).lamp = s.lamp := rfl
@[simp] theorem setTxn_keys : (s.setTxn k t).keys = s.keys := rfl
@[simp] theorem setTxn_czn : (s.setTxn k t).czn = s.czn := rfl
@[simp] theorem setTxn_radio : (s.setTxn k t).radio = s.radio := rfl
@[simp] theorem setTxn_meter : (s.setTxn k t).meter = s.meter := rfl
@[simp] theorem setTxn_rdn : (s.setTxn k t).rdn = s.rdn := rfl
@[simp] theorem setTxn_free : (s.setTxn k t).free = s.free := rfl

end

/-! ### When a ladle is stored -/

section
variable (s : State) (n : Nat) (x : Ladle)

@[simp] theorem setLadle_pending : (s.setLadle n x).pending = s.pending := rfl
@[simp] theorem setLadle_held : (s.setLadle n x).held = s.held := rfl
@[simp] theorem setLadle_waits : (s.setLadle n x).waits = s.waits := rfl
@[simp] theorem setLadle_cur : (s.setLadle n x).cur = s.cur := rfl
@[simp] theorem setLadle_ident : (s.setLadle n x).ident = s.ident := rfl
@[simp] theorem setLadle_regs : (s.setLadle n x).regs = s.regs := rfl
@[simp] theorem setLadle_rdData : (s.setLadle n x).rdData = s.rdData := rfl
@[simp] theorem setLadle_pcie : (s.setLadle n x).pcie = s.pcie := rfl
@[simp] theorem setLadle_rings : (s.setLadle n x).rings = s.rings := rfl
@[simp] theorem setLadle_rrLast : (s.setLadle n x).rrLast = s.rrLast := rfl
@[simp] theorem setLadle_txns : (s.setLadle n x).txns = s.txns := rfl
@[simp] theorem setLadle_txnTag : (s.setLadle n x).txnTag = s.txnTag := rfl
@[simp] theorem setLadle_txnRank : (s.setLadle n x).txnRank = s.txnRank := rfl
@[simp] theorem setLadle_hostMem : (s.setLadle n x).hostMem = s.hostMem := rfl
@[simp] theorem setLadle_outs : (s.setLadle n x).outs = s.outs := rfl
@[simp] theorem setLadle_clock : (s.setLadle n x).clock = s.clock := rfl
@[simp] theorem setLadle_cal : (s.setLadle n x).cal = s.cal := rfl
@[simp] theorem setLadle_calRun : (s.setLadle n x).calRun = s.calRun := rfl
@[simp] theorem setLadle_shadows : (s.setLadle n x).shadows = s.shadows := rfl
@[simp] theorem setLadle_evr : (s.setLadle n x).evr = s.evr := rfl
@[simp] theorem setLadle_flash : (s.setLadle n x).flash = s.flash := rfl
@[simp] theorem setLadle_sup : (s.setLadle n x).sup = s.sup := rfl
@[simp] theorem setLadle_fettle : (s.setLadle n x).fettle = s.fettle := rfl
@[simp] theorem setLadle_role : (s.setLadle n x).role = s.role := rfl
@[simp] theorem setLadle_cfg : (s.setLadle n x).cfg = s.cfg := rfl
@[simp] theorem setLadle_restoreStamp : (s.setLadle n x).restoreStamp = s.restoreStamp := rfl
@[simp] theorem setLadle_points : (s.setLadle n x).points = s.points := rfl
@[simp] theorem setLadle_forces : (s.setLadle n x).forces = s.forces := rfl
@[simp] theorem setLadle_subs : (s.setLadle n x).subs = s.subs := rfl
@[simp] theorem setLadle_noticeQ : (s.setLadle n x).noticeQ = s.noticeQ := rfl
@[simp] theorem setLadle_batch : (s.setLadle n x).batch = s.batch := rfl
@[simp] theorem setLadle_deferred : (s.setLadle n x).deferred = s.deferred := rfl
@[simp] theorem setLadle_cyc : (s.setLadle n x).cyc = s.cyc := rfl
@[simp] theorem setLadle_lamp : (s.setLadle n x).lamp = s.lamp := rfl
@[simp] theorem setLadle_keys : (s.setLadle n x).keys = s.keys := rfl
@[simp] theorem setLadle_czn : (s.setLadle n x).czn = s.czn := rfl
@[simp] theorem setLadle_radio : (s.setLadle n x).radio = s.radio := rfl
@[simp] theorem setLadle_meter : (s.setLadle n x).meter = s.meter := rfl
@[simp] theorem setLadle_rdn : (s.setLadle n x).rdn = s.rdn := rfl
@[simp] theorem setLadle_free : (s.setLadle n x).free = s.free := rfl

end

/-! ### When a point record is stored -/

section
variable (s : State) (a : Nat) (r : PtRec)

@[simp] theorem setPt_pending : (s.setPt a r).pending = s.pending := rfl
@[simp] theorem setPt_held : (s.setPt a r).held = s.held := rfl
@[simp] theorem setPt_waits : (s.setPt a r).waits = s.waits := rfl
@[simp] theorem setPt_cur : (s.setPt a r).cur = s.cur := rfl
@[simp] theorem setPt_ident : (s.setPt a r).ident = s.ident := rfl
@[simp] theorem setPt_regs : (s.setPt a r).regs = s.regs := rfl
@[simp] theorem setPt_rdData : (s.setPt a r).rdData = s.rdData := rfl
@[simp] theorem setPt_pcie : (s.setPt a r).pcie = s.pcie := rfl
@[simp] theorem setPt_rings : (s.setPt a r).rings = s.rings := rfl
@[simp] theorem setPt_rrLast : (s.setPt a r).rrLast = s.rrLast := rfl
@[simp] theorem setPt_txns : (s.setPt a r).txns = s.txns := rfl
@[simp] theorem setPt_txnTag : (s.setPt a r).txnTag = s.txnTag := rfl
@[simp] theorem setPt_txnRank : (s.setPt a r).txnRank = s.txnRank := rfl
@[simp] theorem setPt_hostMem : (s.setPt a r).hostMem = s.hostMem := rfl
@[simp] theorem setPt_outs : (s.setPt a r).outs = s.outs := rfl
@[simp] theorem setPt_clock : (s.setPt a r).clock = s.clock := rfl
@[simp] theorem setPt_cal : (s.setPt a r).cal = s.cal := rfl
@[simp] theorem setPt_calRun : (s.setPt a r).calRun = s.calRun := rfl
@[simp] theorem setPt_shadows : (s.setPt a r).shadows = s.shadows := rfl
@[simp] theorem setPt_evr : (s.setPt a r).evr = s.evr := rfl
@[simp] theorem setPt_flash : (s.setPt a r).flash = s.flash := rfl
@[simp] theorem setPt_sup : (s.setPt a r).sup = s.sup := rfl
@[simp] theorem setPt_fettle : (s.setPt a r).fettle = s.fettle := rfl
@[simp] theorem setPt_role : (s.setPt a r).role = s.role := rfl
@[simp] theorem setPt_cfg : (s.setPt a r).cfg = s.cfg := rfl
@[simp] theorem setPt_restoreStamp : (s.setPt a r).restoreStamp = s.restoreStamp := rfl
@[simp] theorem setPt_forces : (s.setPt a r).forces = s.forces := rfl
@[simp] theorem setPt_subs : (s.setPt a r).subs = s.subs := rfl
@[simp] theorem setPt_noticeQ : (s.setPt a r).noticeQ = s.noticeQ := rfl
@[simp] theorem setPt_batch : (s.setPt a r).batch = s.batch := rfl
@[simp] theorem setPt_deferred : (s.setPt a r).deferred = s.deferred := rfl
@[simp] theorem setPt_ladles : (s.setPt a r).ladles = s.ladles := rfl
@[simp] theorem setPt_cyc : (s.setPt a r).cyc = s.cyc := rfl
@[simp] theorem setPt_lamp : (s.setPt a r).lamp = s.lamp := rfl
@[simp] theorem setPt_keys : (s.setPt a r).keys = s.keys := rfl
@[simp] theorem setPt_czn : (s.setPt a r).czn = s.czn := rfl
@[simp] theorem setPt_radio : (s.setPt a r).radio = s.radio := rfl
@[simp] theorem setPt_meter : (s.setPt a r).meter = s.meter := rfl
@[simp] theorem setPt_rdn : (s.setPt a r).rdn = s.rdn := rfl
@[simp] theorem setPt_free : (s.setPt a r).free = s.free := rfl

end

end Sys2Proof.Machine.State
end

