-- ==== Sys2Proof/Laws/Ladle.lean ====
section
/-!
SUPPORT. What the step of a ladle can do: nothing, or the operation of the instruction on that ladle's working state.
-/
set_option linter.unusedVariables false
namespace Sys2Proof.Machine

variable {s : State} {n : Nat} {i : LIns} {p : Prog}

/-- A ladle that executes another instruction next, or none, is left alone. -/
theorem ladleDo_none (h : (s.ladle n).fetches i = none) (f : LOp) : ladleDo n i f s = .next s := by
  simp only [ladleDo, h]

/-- The instruction that the ladle executes next acts on its working state alone. -/
theorem ladleDo_some (h : (s.ladle n).fetches i = some p) (f : LOp) :
    ladleDo n i f s = .next (s.ladleRan n (f (s.lctx (s.ladle n) p) (s.ladleAt n i))) := by
  simp only [ladleDo, h]; rfl

/-- The ladle that ran holds its new working state. -/
theorem ladle_ladleRan_self (r : LRun) : (s.ladleRan n r).ladle n = { s.ladle n with run := r } := by
  simp [State.ladleRan, State.setLadle, State.ladle]

/-- Every other ladle stands. -/
theorem ladle_ladleRan_other {k : Nat} (h : k ≠ n) (r : LRun) : (s.ladleRan n r).ladle k = s.ladle k := by
  simp [State.ladleRan, State.setLadle, State.ladle, mapGet_mapSet_other _ _ _ _ _ h]

/-- The operand of a point instruction does not depend on the counter and the units. -/
theorem slotOf_ladleAt (c : LCtx) (b off : Nat) : c.slotOf (s.ladleAt n i) b off = c.slotOf (s.ladle n).run b off := rfl

/-- A load through a slot that the operand names. -/
theorem load_slot {c : LCtx} {r : LRun} {b off k : Nat} {x : Slot} (h : c.slotOf r b off = some k) (hx : r.slots[k]? = some x) :
    c.load r b off = (x.value, x.quality, (c.cfg.ptInfo x.addr).typ, r) := by
  simp [LCtx.load, h, hx]

/-- A load through no slot. -/
theorem load_none {c : LCtx} {r : LRun} {b off : Nat} (h : c.slotOf r b off = none) : c.load r b off = (0, lBad, 0, r.fault) := by
  simp [LCtx.load, h]

/-- A store into a slot that the operand names. -/
theorem store_slot {c : LCtx} {r : LRun} {b off k : Nat} {x : Slot} (h : c.slotOf r b off = some k) (hx : r.slots[k]? = some x)
    (f : Slot → PtInfo → Word × Nat) :
    let y : Slot := { x with value := (f x (c.cfg.ptInfo x.addr)).1, quality := (f x (c.cfg.ptInfo x.addr)).2, dirty := true }
    c.store r b off f = { r with slots := r.slots.set k y } := by
  simp [LCtx.store, h, hx]

/-- A store through no slot. -/
theorem store_none {c : LCtx} {r : LRun} {b off : Nat} (h : c.slotOf r b off = none) (f : Slot → PtInfo → Word × Nat) : c.store r b off f = r.fault := by
  simp [LCtx.store, h]

end Sys2Proof.Machine
end

