-- ==== Sys2Proof/Laws/Regs.lean ====
section
/-!
SUPPORT. The laws of registers and of their fields: what a write leaves in the register and field written, and that every other register and field stands.
-/
namespace Sys2Proof.Machine

/-! ### Bit fields -/

theorem putBits_eq (x lo w v : Nat) :
    putBits x lo w v = x / 2 ^ lo / 2 ^ w * 2 ^ w * 2 ^ lo + v % 2 ^ w * 2 ^ lo + x % 2 ^ lo := by
  have h1 := Nat.div_add_mod x (2 ^ lo)
  have h2 := Nat.div_add_mod (x / 2 ^ lo) (2 ^ w)
  unfold putBits bitsOf
  have h3 : x = x / 2 ^ lo / 2 ^ w * 2 ^ w * 2 ^ lo + x / 2 ^ lo % 2 ^ w * 2 ^ lo + x % 2 ^ lo := by
    conv_lhs => rw [← h1, ← h2]
    ring
  omega

theorem putBits_div (x lo w v : Nat) : putBits x lo w v / 2 ^ lo = x / 2 ^ lo / 2 ^ w * 2 ^ w + v % 2 ^ w := by
  have hp : 0 < 2 ^ lo := by positivity
  rw [putBits_eq, ← Nat.add_mul, Nat.mul_comm, Nat.mul_add_div hp, Nat.div_eq_of_lt (Nat.mod_lt _ hp), Nat.add_zero]

/-- The field written holds the value written, cut to its width. -/
theorem bitsOf_putBits_self (x lo w v : Nat) : bitsOf (putBits x lo w v) lo w = v % 2 ^ w := by
  unfold bitsOf
  rw [putBits_div, Nat.mul_comm, Nat.mul_add_mod, Nat.mod_mod]

theorem putBits_mod (x lo w v : Nat) : putBits x lo w v % 2 ^ lo = x % 2 ^ lo := by
  rw [putBits_eq, ← Nat.add_mul, Nat.mul_comm, Nat.mul_add_mod, Nat.mod_mod]

theorem putBits_above (x lo w v : Nat) : putBits x lo w v / 2 ^ (lo + w) = x / 2 ^ (lo + w) := by
  have hp : 0 < 2 ^ w := by positivity
  rw [Nat.pow_add, ← Nat.div_div_eq_div_mul, putBits_div, Nat.mul_comm, Nat.mul_add_div hp, Nat.div_eq_of_lt (Nat.mod_lt _ hp), Nat.add_zero,
    Nat.div_div_eq_div_mul]

/-- A field above the one written stands. -/
theorem bitsOf_putBits_above {lo w lo' : Nat} (h : lo + w ≤ lo') (x w' v : Nat) : bitsOf (putBits x lo w v) lo' w' = bitsOf x lo' w' := by
  unfold bitsOf
  obtain ⟨k, rfl⟩ := Nat.exists_eq_add_of_le h
  rw [Nat.pow_add, ← Nat.div_div_eq_div_mul, putBits_above, Nat.div_div_eq_div_mul]

/-- A field below the one written stands. -/
theorem bitsOf_putBits_below {lo lo' w' : Nat} (h : lo' + w' ≤ lo) (x w v : Nat) : bitsOf (putBits x lo w v) lo' w' = bitsOf x lo' w' := by
  have key : ∀ y, bitsOf y lo' w' = y % 2 ^ lo % 2 ^ (lo' + w') / 2 ^ lo' := by
    intro y
    rw [Nat.mod_mod_of_dvd _ (Nat.pow_dvd_pow 2 h), Nat.pow_add, Nat.mod_mul_right_div_self]; rfl
  rw [key, key, putBits_mod]

theorem putBits_lt {x lo w v n : Nat} (h : lo + w ≤ n) (hx : x < 2 ^ n) : putBits x lo w v < 2 ^ n := by
  have h1 : putBits x lo w v / 2 ^ (lo + w) = x / 2 ^ (lo + w) := putBits_above x lo w v
  obtain ⟨k, rfl⟩ := Nat.exists_eq_add_of_le h
  rw [Nat.pow_add] at hx ⊢
  have h2 : x / 2 ^ (lo + w) < 2 ^ k := Nat.div_lt_of_lt_mul hx
  have h3 : 0 < 2 ^ (lo + w) := by positivity
  rw [← h1, Nat.div_lt_iff_lt_mul h3] at h2
  rwa [Nat.mul_comm]

/-- The fields of a register lie within its 32 bits. -/
def Fld.fits (f : Fld) : Bool := decide (f.lo + f.width ≤ 32)

/-- Two fields share no bit. -/
def Fld.apart (f g : Fld) : Bool := decide (f.lo + f.width ≤ g.lo) || decide (g.lo + g.width ≤ f.lo)

theorem Fld.set_toNat {f : Fld} (h : f.fits = true) (w : Word) (v : Nat) : (f.set w v).toNat = putBits w.toNat f.lo f.width v := by
  simp only [Fld.fits, decide_eq_true_eq] at h
  rw [Fld.set, BitVec.toNat_ofNat, Nat.mod_eq_of_lt (putBits_lt h w.isLt)]

theorem Fld.get_set {f : Fld} (h : f.fits = true) (w : Word) (v : Nat) : f.get (f.set w v) = v % 2 ^ f.width := by
  rw [Fld.get, Fld.set_toNat h, bitsOf_putBits_self]

theorem Fld.get_set_apart {f g : Fld} (h : f.fits = true) (ha : f.apart g = true) (w : Word) (v : Nat) : g.get (f.set w v) = g.get w := by
  rw [Fld.get, Fld.set_toNat h]
  simp only [Fld.apart, Bool.or_eq_true, decide_eq_true_eq] at ha
  rcases ha with ha | ha
  · exact bitsOf_putBits_above ha _ _ _
  · exact bitsOf_putBits_below ha _ _ _

/-! ### Registers -/

namespace State

variable (s : State) (a b : Nat) (v : Word) (n : Nat)

theorem rd_wr : (s.wr a v).rd b = if b = a then v else s.rd b := by
  simp only [rd, wr, mapGet_mapSet]

@[simp] theorem rd_wr_self : (s.wr a v).rd a = v := by simp [rd_wr]

theorem rd_wr_other (h : b ≠ a) : (s.wr a v).rd b = s.rd b := by simp [rd_wr, h]

@[simp] theorem rdN_wrN_self : (s.wrN a n).rdN a = n % 2 ^ 32 := by simp [wrN, rdN]

@[simp] theorem rd_setF_self (f : Fld) : (s.setF a f n).rd a = f.set (s.rd a) n := by simp [setF]

theorem rd_setF_other (h : b ≠ a) (f : Fld) : (s.setF a f n).rd b = s.rd b := by simp [setF, rd_wr_other _ _ _ _ h]

/-- The field written holds the value, cut to its width. -/
theorem fld_setF_self {f : Fld} (h : f.fits = true) : (s.setF a f n).fld a f = n % 2 ^ f.width := by
  simp [fld, Fld.get_set h]

/-- Another field of the register stands. -/
theorem fld_setF_apart {f g : Fld} (h : f.fits = true) (ha : f.apart g = true) : (s.setF a f n).fld a g = s.fld a g := by
  simp [fld, Fld.get_set_apart h ha]

/-- A field of another register stands. -/
theorem fld_setF_other (h : b ≠ a) (f g : Fld) : (s.setF a f n).fld b g = s.fld b g := by simp [fld, rd_setF_other _ _ _ _ h]

/-- A write keeps the canonical form of the register map. -/
theorem wr_canonical (h : mapWf (regDefault s.ident) s.regs = true) : mapWf (regDefault (s.wr a v).ident) (s.wr a v).regs = true :=
  mapWf_mapSet _ _ _ _ h

end State

end Sys2Proof.Machine
end

