-- ==== Sys2Proof/Tests/Slice0.lean ====
section
/-!
SUPPORT. Own tests: ill-formed terms that WellFormed refuses, words of R193 to R195 written out, single steps on small states, and for each statement with hypotheses a
concrete state and operands that meet them. The values expected come from the rules of the spec named in the docstrings.
-/
set_option linter.unusedVariables false
set_option Elab.async false
namespace Sys2Proof.Tests
open Sys2Proof Sys2Proof.Machine

/-! ### Small states -/

/-- A command entry for a ring, with its parameters padded to 40 bytes. -/
def entry (ring : Nat) (params : List Byte) : CmdEntry where
  ring := ring
  flags := 1
  resv3 := 0
  cmdId := 7
  txn := 0
  resv10 := 0
  bufLen := 0
  bufAddr := 0
  params := params ++ List.replicate (40 - params.length) 0
  buf := []

/-- Ring `n` enabled with 16 entries of 64 bytes. -/
def ringUp (s : State) (n : Nat) : State :=
  ((s.setF (Reg.RNG_CFG n) F.RNG_CFG_ENABLE 1).setF (Reg.RNG_CFG n) F.RNG_CFG_SIZE 4).setF (Reg.RNG_CFG n) F.RNG_CFG_ESIZE 6

/-- Ring `n` with one entry announced. -/
def announced (s : State) (n : Nat) : State := (ringUp s n).wr (Reg.RNG_HOSTIDX n) 1

/-- The module in service: reset ended, stage 0x7, the role settled and ACTIVE, bus mastering on. -/
def up : State :=
  let s : State := { State.reset with
    sup := { inReset := false, powerGood := true, vcoreReady := true, stage2 := true, roleSettled := true }
    pcie := { bme := true }
    role := .active
    clock := { mono := 10 * secUnits } }
  (s.setF Reg.GLB_BOOTSTAGE F.GLB_BOOTSTAGE_STAGE 7).setF Reg.HIF_STATUS F.HIF_STATUS_READY 1

/-- `up` with rings 1 and `n` enabled and an entry announced on ring `n`. -/
def posted (n : Nat) : State := announced (ringUp up 1) n

/-- Ring `n` with its next entry read to the last byte; it names no input buffer. -/
def fetched (s : State) (n : Nat) : State := s.setRing n { s.ring n with rd := s.entrySize n, rdBuf := some (0, 0) }

/-- `posted n` with the entry read. -/
def ready (n : Nat) : State := fetched (posted n) n

/-! ### WellFormed refuses an ill-formed term of each check -/

/-- A command entry with 39 parameter bytes. -/
def badEntry : CmdEntry := { entry 0 [] with params := List.replicate 39 0 }

/-- A point write entry with 14 reserved bytes. -/
def badPwr : PwrEntry := { cmdId := 1, op := 1, flags := 0, txn := 0, address := 0, value := 0, typeQuality := 1, resv := List.replicate 14 0 }

/-- A frame at a trunk port that does not exist, and a PSDU longer than a PHR can say. -/
def badTrunk : TrunkFrame := { port := 64, plcaId := 0, room := true, fcsOk := true, bytes := [] }
def badRadio : RadioFrame := { chan := 0, ok := true, rssi := 0, psdu := List.replicate 2048 0 }

/-- An empty frame at a gigabit port. -/
def badEth : EthFrame := { level := 0, fcsOk := true, bytes := [] }

theorem test_wf_entries : ([.unknownOpcode 0 badEntry, .nop badEntry, .echo badEntry, .cancel badEntry, .sync badEntry, .txnOpen badEntry,
    .txnCommit badEntry, .txnAbort badEntry, .txnRegwr badEntry, .txnQuery badEntry, .tunFlush badEntry, .runnerResume badEntry,
    .write badPwr, .writeQuality badPwr, .pntRead badEntry, .pntReadList badEntry, .pntForce badEntry, .pntUnforce badEntry,
    .pntForceList badEntry, .pntSubscribe badEntry, .pntUnsubscribe badEntry, .ldlLoad badEntry, .ldlUnload badEntry, .ldlTable badEntry,
    .ldlState badEntry, .cycSetup badEntry, .cycSched badEntry, .cycHold badEntry, .cycRelease badEntry, .lmpEmerg badEntry,
    .lmpProbe badEntry, .lmpRecord badEntry, .lmpChstate badEntry, .trkSend badEntry, .trkPort badEntry, .trkGates badEntry,
    .cznNode badEntry, .cznReseat badEntry, .cznRekey badEntry, .cznNodetable badEntry, .radNode badEntry, .radWake badEntry,
    .radNodetable badEntry, .radChannel badEntry, .timStep badEntry, .timSetincr badEntry, .timLeap badEntry, .rtcSet badEntry,
    .rtcFromWall badEntry, .rtcAlarm badEntry, .rtcPeriodic badEntry, .rtcCharger badEntry, .rtcSettrim badEntry, .mtrArchive badEntry,
    .mtrClose badEntry, .mtrCaldata badEntry, .mtrPreset badEntry, .evrSync badEntry, .evrClear badEntry, .evrRead badEntry,
    .rdnRotate badEntry, .rdnYield badEntry, .rdnReseed badEntry, .keySlotSet badEntry, .keySlotClear badEntry, .keyRootSet badEntry,
    .keyAttest badEntry, .keyIdcert badEntry, .keyNodekey badEntry, .patBegin badEntry, .patBlock badEntry, .patQuery badEntry,
    .patVerify badEntry, .patActivate badEntry, .patConfirm badEntry] : List Instr).all (fun i => !i.wf) = true := by decide +kernel

theorem test_wf_entry_parts : (entry 0 []).wf = true ∧ ({ entry 0 [] with ring := 1 } : CmdEntry).wf = false ∧
    ({ entry 0 [] with buf := [0] } : CmdEntry).wf = false ∧ ({ badPwr with resv := List.replicate 15 0 } : PwrEntry).wf = true := by decide +kernel

theorem test_wf_ladle_numbers : ([.liLd 16 0 0 0, .liAnd 16 0 0 0, .liOr 16 0 0 0, .liXor 16 0 0 0, .liSt 16 0 0 0, .liSet 16 0 0 0, .liRst 16 0 0 0, .liLdq 16 0 0 0,
    .liLaop 16 0, .liBopen 16, .liBand 16, .liBor 16, .liBpeek 16, .liBdrop 16, .liEdge 16 0 0 0, .liTmr 16 0 0 0,
    .liCtu 16 0 0 0, .liCtd 16 0 0 0, .liTcr 16 0 0 0, .liTcld 16 0 0 0, .liLdm 16 0 0 0, .liStm 16 0 0 0, .liLdw 16 0 0 0, .liStw 16 0 0 0,
    .liQld 16 0 0 0, .liWbit 16 0 0, .liLdi 16 0, .liLdih 16 0, .liMov 16 0 0, .liSel 16 0, .liAlu 16 0 0, .liAlui 16 0 0,
    .liFpu 16 0 0, .liCmp 16 0 0 0, .liCmpi 16 0 0 0, .liTbl 16 0 0, .liJmp 16 0 0, .liCall 16 0 0, .liRet 16, .liLoop 16 0 0 0,
    .liEndl 16, .liBrk 16, .liSetb 16 0 0 0, .liBidx 16 0 0 0, .liBld 16 0, .liLcall 16 0 0 0, .liNop 16, .liEnd 16] : List Instr).all (fun i => !i.wf) = true := by decide +kernel

theorem test_wf_numbers : ([.msixUnmask false 32, .registerWrite 0x1000000 4 0, .registerWrite 0 3 0, .ldlMaxnsRead 16, .ringCfgWrite 16 0,
    .doorbellWrite 16 0, .runnerBurst (.pointer 16), .runnerBurst (.uncorrectable 192 0 none), .runnerBurst (.uncorrectable 0 (2 ^ 32) none), .runnerBurst (.uncorrectable 0 0 (some (0, badEntry))), .runnerBurst (.corrected 192),
    .runnerBurst (.dram (2 ^ 32) true), .runnerBurst (.none (0, 65537)), .runnerReadFail 16 0 0 none,
    .runnerReadFail 0 256 0 none, .runnerReadFail 0 0 65537 none, .runnerReadFail 0 0 0 (some (0, badEntry)), .dmaCtlResume 16, .tunCtlFlush 16,
    .tundishFlushApply 16, .writebackTimer 16, .txnApply 4, .txnIdleTimeout 4, .txnWaitTimeout 4,
    .nodeHoldExpiry 2048, .ldlTableIdleApply 16, .chargeEnd 16, .gateEntryStart 64, .trunkFrameReceived badTrunk,
    .foreignBeacon 64, .coordinatorListenEnd 64, .seedingListenEnd 64, .rollCallCycleEnd 64, .trkSendTimeout 64,
    .gatectlWrite 64 none 0, .gatectlWrite 0 (some 64) 0, .pauseFrameReceived 2 0, .pauseFrameReceived 0 65536, .linkChange 2 true,
    .hello badTrunk, .ack badTrunk, .report badTrunk, .delayReq badTrunk, .trunkFrameReceived { badTrunk with port := 0, plcaId := 256 },
    .retransmitTimeout 2048, .cznReseatTimeout 2048, .radioFrameReceived badRadio, .radioFrameReceived { badRadio with chan := 4, psdu := [] }, .radioFrameReceived { badRadio with rssi := 65536, psdu := [] },
    .radioAdmissionTimeout 8192, .beaconInstant 16, .listenWindow 8192, .standbyBeaconMiss 4, .radioNodeStale 8192,
    .radioNodeAbsent 8192, .radWakeTimeout 8192, .radDutyWrite 4 0, .radDutyWrite 0 65536, .ptpMessage 2 ⟨badEth, .other⟩, .peerBeacon { badEth with level := 65537 }, .ptpMessage 0 ⟨{ badEth with level := 65537 }, .other⟩,
    .periodicFire 4, .meterSample [] (List.replicate 32 0) 0 (List.replicate 4 0), .meterSample (List.replicate 32 0) [] 0 (List.replicate 4 0), .meterSample (List.replicate 32 0) (List.replicate 32 0) (2 ^ 32) (List.replicate 4 0), .meterSample (List.replicate 32 0) (List.replicate 32 0) 0 [],
    .pulseEnd 8, .windowEnd 4 0, .keySendDelayEnd 256, .oldKeyGraceEnd 256, .fettleRegionEnd (.faulted 256 0 0),
    .bankRemapDone 192 0, .bankRemapDone 0 4, .memBankChillWrite 192 true, .pauseQuantaEnd 2, .ptpSyncInterval 2,
    .pcieLinkTrained 3 1, .pcieLinkTrained 1 4] : List Instr).all (fun i => !i.wf) = true := by decide +kernel

/-- R177, R193 to R195: a field beyond its width, a reserved mod bit, an unlisted function, condition or mode. -/
theorem test_wf_ladle_fields : ([.pt .ld 8 0 0, .pt .ld 0 32768 0, .pt .ld 0 0 256, .pt .ld 0 0 0x20, .pt .and_ 0 0 0x40, .pt .or_ 0 0 0x20, .pt .xor_ 0 0 0x20, .pt .st 0 0 0x20, .pt .set 0 0 0x80,
    .pt .rst 0 0 0x20, .pt .ldq 0 0 6, .pt .ldq 0 0 0x10, .pt .ldw 0 0 0x60, .pt .stw 0 0 1, .pt .qld 0 0 1, .inst .edge 4096 0 0, .inst .edge 0 8 0, .inst .edge 0 0 512,
    .inst .edge 0 0 3, .inst .tmr 0 0 2, .inst .ctu 0 0 1, .inst .ctd 0 0 1, .inst .tcr 0 0 2, .inst .tcld 0 0 3, .inst .ldm 0 0 1, .inst .stm 0 0 2, .laop 3,
    .wbit 2 0, .wbit 0 32, .ldi (2 ^ 24), .ldih (2 ^ 16), .mov 3 0, .mov 0 16, .sel 16, .alu 0x17 0, .alu 0 16,
    .alui 0x17 0, .alui 0 (2 ^ 21), .fpu 0x0B 0, .fpu 0 16, .cmp 0xF 0 0, .cmp 0 3 0, .cmp 0 0 16, .cmpi 10 0 0, .cmpi 0 3 0,
    .cmpi 0 0 (2 ^ 16), .tbl 2 0, .tbl 0 (2 ^ 15), .jmp 3 0, .jmp 0 (2 ^ 16), .call 3 0, .call 0 (2 ^ 16), .loop 8 0 0, .loop 0 2 0,
    .loop 0 0 (2 ^ 16), .setb 0 0 0, .setb 8 0 0, .setb 1 512 0, .setb 1 0 (2 ^ 14), .bidx 0 0 0, .bidx 8 0 0, .bidx 1 2 0, .bidx 1 1 (2 ^ 16),
    .bidx 1 0 1, .bld 0, .bld 8, .lcall 4 0 0, .lcall 0 16 0, .lcall 0 0 16] : List LIns).all (fun i => !i.wf) = true := by decide +kernel


/-! ### Ladle instructions: one step each -/

/-- A program of one instruction, with a range of two windows of two I16 points, two timers, two counters, two edges, two private words and a table of four words. -/
def prog (i : LIns) : Prog where
  image := []
  ins := [i, .z .nop, .z .fin]
  ranges := [{ first := 0x1800000, count := 2, width := 2, stride := 2, w := true, start := 0 }]
  timers := [(0, 100), (1, 100)]
  counters := [3, 3]
  edges := 2
  mems := 2
  tableWords := 4
  wcu := 0
  wcCalls := 0

/-- Its private state. -/
def priv : Priv := { timers := [{}, {}], counters := [{ value := 2 }, { value := 0x7FFFFFFF }], edges := [false, true], mems := [(5, 0), (6, 3)] }

/-- Working state: LA 1 with STALE, WA 7, W1 5 with SUSPECT; slots with values 1 to 4. -/
def run : LRun where
  la := true
  lq := 3
  wa := 7
  wq := 0
  ws := (List.replicate 16 ((0 : Word), 0)).set 1 (5, 1)
  slots := [⟨0x1800000, 1, 0, false⟩, ⟨0x1800001, 2, 1, false⟩, ⟨0x1800002, 3, 0, false⟩, ⟨0x1800003, 4, 5, false⟩]
  priv := priv
  bases := (List.replicate 8 none).set 1 (some ⟨0, 1, true⟩) |>.set 2 (some ⟨0, 2, false⟩)

/-- Ladle 0 of `up` executes instruction `i` from working state `r`. -/
def ladling (i : LIns) (r : LRun) : State :=
  let s : State := { up with cfg := { up.cfg with ranges := [⟨0x1800000, 4, 3, false, false, 0, 0⟩] } }
  s.setLadle 0 { prog := some (prog i), table := [(1, 9)], priv := priv, phase := .executing, run := r }

/-- The working state of ladle 0 after command `c`. -/
def after (i : LIns) (c : Instr) (r : LRun) : LRun :=
  match exec c (ladling i r) with
  | .next t => (t.ladle 0).run
  | _ => {}

/-- R176, R194: LD N of bit 0 of slot 2 (value 3); AND, OR, XOR combine and take the higher quality. -/
theorem test_li_bits : (after (.pt .ld 0 2 0x80) (.liLd 0 0 2 0x80) run).la = false ∧ (after (.pt .ld 0 2 0) (.liLd 0 0 2 0) run).lq = 0 ∧
    (after (.pt .and_ 0 1 0) (.liAnd 0 0 1 0) run).la = false ∧ (after (.pt .and_ 0 3 2) (.liAnd 0 0 3 2) run).lq = 5 ∧
    (after (.pt .or_ 0 1 0) (.liOr 0 0 1 0) run).la = true ∧ (after (.pt .xor_ 0 0 0) (.liXor 0 0 0 0) run).la = false ∧
    (after (.pt .ldq 0 3 4) (.liLdq 0 0 3 4) run).la = false ∧ (after (.pt .ldq 0 3 0x84) (.liLdq 0 0 3 0x84) run).la = true := by decide +kernel

/-- R176, R194: ST with N clears bit 0 of slot 0; SET and RST under LA; G writes GOOD; the point of the window of B1 is slot 2. -/
theorem test_li_stores : ((after (.pt .st 0 0 0x80) (.liSt 0 0 0 0x80) run).slots.head?.map (·.value)) = some 0 ∧
    ((after (.pt .st 0 0 0x40) (.liSt 0 0 0 0x40) run).slots.head?.map (·.quality)) = some 0 ∧
    ((after (.pt .set 1 0 4) (.liSet 0 1 0 4) run).slots[2]?) = some ⟨0x1800002, 0x13, 3, true⟩ ∧
    ((after (.pt .rst 1 0 0) (.liRst 0 1 0 0) { run with la := false }).slots[2]?) = some ⟨0x1800002, 3, 0, false⟩ := by decide +kernel

/-- R182: STW converts to I16 with saturation; R177: the gate of LDW takes the substitute above its threshold; R175: through an invalid base 0 with quality BAD. -/
theorem test_li_words : ((after (.pt .stw 0 0 0) (.liStw 0 0 0 0) { run with wa := 0x12345 }).slots.head?.map (·.value)) = some 0x7FFF ∧
    (after (.pt .ldw 0 3 0x41) (.liLdw 0 0 3 0x41) run).wa = 5 ∧ (after (.pt .ldw 0 3 0x41) (.liLdw 0 0 3 0x41) run).wq = 2 ∧
    (after (.pt .ldw 0 3 0x51) (.liLdw 0 0 3 0x51) run).wa = 4 ∧ (after (.pt .ldw 0 3 0x51) (.liLdw 0 0 3 0x51) run).la = false ∧
    (after (.pt .ldw 2 0 0xF0) (.liLdw 0 2 0 0xF0) run).wq = 5 ∧ (after (.pt .ldw 2 0 0xF0) (.liLdw 0 2 0 0xF0) run).idxFault = 1 ∧
    (after (.pt .qld 0 3 0) (.liQld 0 0 3 0) run).wa = 5 := by decide +kernel

/-- R179: BOPEN pushes and starts with 1 and GOOD; BAND pops and combines; BPEEK copies; BDROP keeps LA with the higher quality. -/
theorem test_li_branch : (after (.z .bopen) (.liBopen 0) run).branch = [(true, 3)] ∧ (after (.z .bopen) (.liBopen 0) run).lq = 0 ∧
    (after (.z .band) (.liBand 0) { run with branch := [(false, 0)] }).la = false ∧ (after (.z .bor) (.liBor 0) { run with la := false, branch := [(true, 4)] }).lq = 4 ∧
    (after (.z .bpeek) (.liBpeek 0) { run with branch := [(false, 2)] }).lq = 2 ∧ (after (.z .bdrop) (.liBdrop 0) { run with branch := [(false, 4)] }).la = true ∧
    (after (.laop 2) (.liLaop 0 2) run).la = false := by decide +kernel

/-- R187, R188, R194: a rising edge; CTU saturates at 2^31 - 1; CTD counts down; TCR, TCLD, LDM, STM. -/
theorem test_li_instances : (after (.inst .edge 0 0 0) (.liEdge 0 0 0 0) run).la = true ∧ (after (.inst .edge 1 0 0) (.liEdge 0 1 0 0) run).la = false ∧
    (after (.inst .ctu 0 0 0) (.liCtu 0 0 0 0) run).la = true ∧ ((after (.inst .ctu 1 0 0) (.liCtu 0 1 0 0) run).priv.counters[1]?.map (·.value)) = some 0x7FFFFFFF ∧
    ((after (.inst .ctd 0 0 0) (.liCtd 0 0 0 0) run).priv.counters[0]?.map (·.value)) = some 1 ∧
    ((after (.inst .tcr 0 0 1) (.liTcr 0 0 0 1) run).priv.counters[0]?.map (·.value)) = some 0 ∧ (after (.inst .tcld 0 0 1) (.liTcld 0 0 0 1) run).wa = 2 ∧
    (after (.inst .ldm 1 0 0) (.liLdm 0 1 0 0) run).wq = 3 ∧ (after (.inst .stm 1 0 1) (.liStm 0 1 0 1) run).priv.mems[1]? = some (7, 0) ∧
    ((after (.inst .tmr 0 0 0) (.liTmr 0 0 0 0) run).priv.timers[0]?.map (·.run)) = some true ∧
    (after (.inst .edge 0 2 0) (.liEdge 0 0 2 0) run).lq = 5 := by decide +kernel

/-- R186: TON with 99 ms elapsed of 100 is 0, with 100 ms 1; TOF holds for its preset; a pulse ends with it. -/
theorem test_timers : (evalTimer 0 100 99000000 true { run := true }).1 = false ∧ (evalTimer 0 100 100000000 true { run := true }).1 = true ∧
    (evalTimer 1 100 99000000 false { run := true, q := true }).1 = true ∧ (evalTimer 1 100 100000000 false { run := true, q := true }).1 = false ∧
    (evalTimer 2 100 100000000 false { run := true, q := true, prev := true }).1 = false := by decide +kernel

/-- R194: LDI sign-extends 24 bits, LDIH keeps the low half, WBIT, MOV, SEL. -/
theorem test_li_moves : (after (.ldi 0xFFFFFF) (.liLdi 0 0xFFFFFF) run).wa = 0xFFFFFFFF ∧ (after (.ldih 0x1234) (.liLdih 0 0x1234) run).wa = 0x12340007 ∧
    (after (.wbit 0 3) (.liWbit 0 0 3) run).la = false ∧ (after (.wbit 1 3) (.liWbit 0 1 3) run).wa = 15 ∧ (after (.mov 2 1) (.liMov 0 2 1) run).wa = 5 ∧
    (after (.mov 2 1) (.liMov 0 2 1) run).ws[1]? = some (7, 0) ∧ (after (.sel 1) (.liSel 0 1) run).wq = 1 := by decide +kernel

/-- R180, R181, R183, R194, R195: division, comparison, binary32, tables. -/
theorem test_li_arithmetic : (after (.alu 0 1) (.liAlu 0 0 1) run).wa = 12 ∧ (after (.alu 7 0) (.liAlu 0 7 0) run).wa = 0x7FFFFFFF ∧
    (after (.alu 7 0) (.liAlu 0 7 0) run).wq = 5 ∧ (after (.alui 1 0x1FFFFF) (.liAlui 0 1 0x1FFFFF) run).wa = 8 ∧
    (after (.fpu 0 1) (.liFpu 0 0 1) { run with wa := 0x3FC00000, ws := run.ws.set 1 (0x40100000, 0) }).wa = 0x40700000 ∧
    (after (.cmp 0 1 1) (.liCmp 0 0 1 1) run).la = false ∧ (after (.cmpi 1 0 7) (.liCmpi 0 1 0 7) run).la = false ∧
    (after (.tbl 0 1) (.liTbl 0 0 1) { run with wa := 0 }).wa = 9 ∧ (after (.tbl 0 1) (.liTbl 0 0 1) run).wq = 5 := by decide +kernel

/-- R184, R185, R194: jumps, calls, loops and their ends. -/
theorem test_li_control : (after (.jmp 2 2) (.liJmp 0 2 2) run).pc = 1 ∧ (after (.jmp 1 2) (.liJmp 0 1 2) run).pc = 2 ∧
    (after (.call 0 2) (.liCall 0 0 2) run).rets = [1] ∧ (after (.z .ret) (.liRet 0) { run with rets := [2] }).pc = 2 ∧
    (after (.loop 0 0 4) (.liLoop 0 0 0 4) run).loops = [⟨0, 5, 0⟩] ∧ (after (.z .endl) (.liEndl 0) { run with loops := [⟨0, 1, 0⟩] }).loops = [] ∧
    (after (.z .endl) (.liEndl 0) { run with loops := [⟨0, 2, 0⟩] }).pc = 1 ∧ (after (.z .brk) (.liBrk 0) { run with la := false, loops := [⟨0, 2, 0⟩] }).pc = 1 ∧
    (after (.z .nop) (.liNop 0) run).units = 1 ∧ (after (.z .fin) (.liEnd 0) run).units = 1 := by decide +kernel

/-- R175, R191: SETB, BIDX beyond the range, BLD, and a call for a zone that no luminaire names. -/
theorem test_li_bases : (after (.setb 3 0 1) (.liSetb 0 3 0 1) run).bases[3]? = some (some ⟨0, 1, true⟩) ∧
    (after (.bidx 1 1 1) (.liBidx 0 1 1 1) run).bases[1]? = some (some ⟨0, 2, false⟩) ∧ (after (.bld 1) (.liBld 0 1) run).wa = 1 ∧
    (after (.lcall 0 1 0) (.liLcall 0 0 1 0) run).lcDiscard = 1 := by decide +kernel

/-- R193: a ladle that is not executing runs nothing. -/
theorem test_li_not_executing : exec (.liLdi 0 5) up = .next up := by rfl

/-- R193 to R195: a word of each family, written out. -/
theorem test_words : LIns.decode (0x01 * 2 ^ 26 + 1 * 2 ^ 23 + 2 * 2 ^ 8 + 0x85) = some (.pt .ld 1 2 0x85) ∧ LIns.decode 0x24000000 = some (.laop 0) ∧
    LIns.decode 0x28000000 = some (.z .bopen) ∧ LIns.decode (0x0F * 2 ^ 26 + 3 * 2 ^ 12 + 1 * 2 ^ 9 + 2) = some (.inst .edge 3 1 2) ∧
    LIns.decode (0x1B * 2 ^ 26 + 1 * 2 ^ 24 + 31) = some (.wbit 1 31) ∧ LIns.decode (0x1E * 2 ^ 26 + 2 * 2 ^ 24 + 15 * 2 ^ 20) = some (.mov 2 15) ∧
    LIns.decode (0x21 * 2 ^ 26 + 0x16 * 2 ^ 21 + 0x1FFFFF) = some (.alui 0x16 0x1FFFFF) ∧ LIns.decode (0x22 * 2 ^ 26 + 0xA * 2 ^ 21 + 1 * 2 ^ 17) = some (.fpu 0xA 1) ∧
    LIns.decode (0x24 * 2 ^ 26 + 9 * 2 ^ 22 + 2 * 2 ^ 20 + 0xFFFF) = some (.cmpi 9 2 0xFFFF) ∧ LIns.decode (0x30 * 2 ^ 26 + 7 * 2 ^ 23 + 511 * 2 ^ 14 + 16383) = some (.setb 7 511 16383) ∧
    LIns.decode (0x38 * 2 ^ 26 + 3 * 2 ^ 22 + 2 * 2 ^ 18 + 1 * 2 ^ 14) = some (.lcall 3 2 1) ∧ LIns.decode (0x09 * 2 ^ 26 + 4) = none := by decide +kernel


/-! ### Witnesses: for each statement with hypotheses a state and operands that meet them -/

/-- StepRunsFrontCommand, StepOfEmptyQueue, StepKeepsRegisterMap, TickAdvancesMonotonicBase. -/
theorem witness_block : ({ up with pending := [.liLdi 0 5, .perstRelease] } : State).pending = .liLdi 0 5 :: [.perstRelease] ∧ up.pending = [] ∧ up.releasable = none ∧
    up.regsWf = true ∧ up.sup.inReset = false ∧ State.reset.sup.inReset = true := by decide +kernel

/-- A packet with FENCE whose ring has nothing else in progress. -/
def heldNop : Held where
  ring := 0
  sq := 0
  fence := true
  bytes := 0
  tag := (entry 0 []).tag 0 0
  cmd := .nop (entry 0 [])

theorem witness_StepOfEmptyQueue : ({ up with held := [heldNop] } : State).pending = [] ∧ ({ up with held := [heldNop] } : State).releasable = some heldNop := by decide +kernel

/-- AccessCodes: HIF_ERR is write-one-to-clear, EVR_CURSOR read/write; i at both ends. -/
theorem witness_AccessCodes : (∃ r, regRow? Reg.HIF_ERR = some r ∧ r.rw &&& r.wc = 0 ∧ r.wc ≠ 0) ∧ (∃ r, regRow? Reg.TIM_INCRLO = some r ∧ r.rw &&& r.wc = 0 ∧ r.rw ≠ 0) ∧
    0 < 32 ∧ 31 < 32 := by
  refine ⟨⟨_, rfl, by decide +kernel⟩, ⟨_, rfl, by decide +kernel⟩, by decide, by decide⟩

theorem witness_RegisterWrite : up.answers Reg.TIM_INCRLO = true ∧ Reg.TIM_INCRLO % 4 = 0 ∧ (regRow? Reg.TIM_INCRLO).isSome = true ∧ 0x22000 ≤ Reg.TIM_INCRLO ∧
    (up.writeLow Reg.TIM_INCRLO 5).isNone = true ∧ (up.writeMid Reg.TIM_INCRLO 5).isNone = true ∧ (up.writeHigh Reg.TIM_INCRLO 5).isNone = true ∧
    (List.range 4).all (fun k => decide ((up.txn k).phase = .free)) = true ∧ State.reset.answers Reg.TIM_INCRLO = false := by decide +kernel

theorem witness_ReadsWithEffects : up.answers Reg.GLB_PACE = true ∧ up.answers Reg.LMP_EVAL = true ∧ up.answers (Reg.LDL_MAXNS 0) = true ∧
    up.answers (Reg.LDL_MAXNS 15) = true ∧ [RfGroup.pnt, .rtc, .mono, .wall, .stamp].all (fun g => up.answers (groupBlock g)) = true := by decide +kernel

/-- RegisterCommands: every register answers at `up` with no transaction open, ring 15 is off and ring 0 on; nothing answers at reset. -/
theorem witness_RegisterCommands : (List.range 4).all (fun k => (up.txn k).phase == .free) = true ∧ up.answers Reg.GLB_VSTATE = true ∧ up.answers Reg.HIF_VERSION = true ∧
    up.answers (Reg.RNG_CFG 15) = true ∧ up.answers (Reg.DBL_INDEX 15) = true ∧ up.answers (Reg.DMA_CTL 15) = true ∧ up.answers (Reg.TUN_CTL 15) = true ∧
    up.answers Reg.MEM_FETTLE = true ∧ up.answers (Reg.MEM_BANK 191) = true ∧ (up.doomReg (Reg.MEM_BANK 191)).flag (Reg.MEM_BANK 191) F.MEM_BANK_CHILL ≠ true ∧
    up.answers Reg.LMP_TICK = true ∧ up.answers Reg.LMP_CTL = true ∧ up.answers (Reg.TRK_GATECTL 63) = true ∧ up.answers (Reg.TRK_GATE 63 63) = true ∧
    up.ident.radios ≠ 0 ∧ up.answers (Reg.RAD_DUTY 3) = true ∧ up.answers Reg.TIM_INCRLO = true ∧ up.answers Reg.TIM_INCRHI = true ∧
    up.answers Reg.TIM_STEP = true ∧ up.answers Reg.RTC_STG_UTC = true ∧ up.answers Reg.RTC_STG_SUBSEC = true ∧ up.answers Reg.RTC_COMMIT = true ∧
    up.answers Reg.EVR_CURSOR = true ∧ up.answers Reg.EVR_WINCTL = true ∧ up.answers Reg.KEY_WRGO = true ∧ up.answers Reg.KEY_MODE = true ∧
    up.answers Reg.KEY_CZNSRC = true ∧ up.answers Reg.KEY_LCREQ = true ∧ up.answers Reg.KEY_LC = true ∧ State.reset.linkOff = true := by decide +kernel

/-- RegisterCommands, the results: a ring disabled and enabled, a doorbell that fits and one beyond the ring, READY clear, a forced EBB, the servo's base, a step allowed and
one below zero, a wall base not set and set, an unlocked life cycle with and without MAINT_N. -/
theorem witness_RegisterCommands_results :
    (up.ringOn 15 = false ∧ F.RNG_CFG_ENABLE.get 4 = 0 ∧ F.RNG_CFG_ENABLE.get 0x80000004 = 1) ∧
    (let s := ringUp up 0
     up.flag Reg.HIF_STATUS F.HIF_STATUS_READY = true ∧ s.ringOn 0 = true ∧ (1 : Word) ≠ s.rd (Reg.RNG_HOSTIDX 0) ∧ s.doorbellBad 0 1 = false ∧ s.doorbellBad 0 17 = true) ∧
    (up.setF Reg.HIF_STATUS F.HIF_STATUS_READY 0).flag Reg.HIF_STATUS F.HIF_STATUS_READY = false ∧
    up.flag Reg.GLB_STATUS F.GLB_STATUS_FORCED_EBB = false ∧
    (up.setF Reg.GLB_STATUS F.GLB_STATUS_FORCED_EBB 1).flag Reg.GLB_STATUS F.GLB_STATUS_FORCED_EBB = true ∧
    up.servoOwns = false ∧ up.stepOk 0 1 = true ∧ up.stepOk (-100) 0 = false ∧ ({ up with role := .standby } : State).servoOwns = true ∧
    up.wallUnset = true ∧ (up.setF Reg.TIM_STATUS F.TIM_STATUS_STATE 1).wallUnset = false ∧
    (let u := up.setF Reg.KEY_LC F.KEY_LC_STATE 1
     let m := u.setF Reg.GLB_STATUS F.GLB_STATUS_MAINT 1
     F.KEY_MODE_MODE.get 1 ≠ 3 ∧ u.keyWriteCheck false (!u.modeForbids 1) = none ∧ u.keyWriteCheck false true = none ∧
     (u.setF Reg.KEY_LC F.KEY_LC_STATE 3).keyWriteCheck false true = some (5, St.refused) ∧ u.maint = false ∧
     F.KEY_LCREQ_CONFIRM.get 0 ≠ 0x5A17 ∧ F.KEY_LCREQ_CONFIRM.get 0x5A170002 = 0x5A17 ∧ m.maint = true ∧ m.keyBusy = false ∧
     lcAllowed m.lifeCycle (F.KEY_LCREQ_TARGET.get 0x5A170002) = true) := by decide +kernel

/-- VersionSelect: refused while ring 0 is enabled, and for version 3; taken with every ring disabled. -/
theorem witness_VersionSelect : (ringUp up 0).ringOn 0 = true ∧ bitOf (up.fld Reg.HIF_VERSION F.HIF_VERSION_SUPPORTED) (F.HIF_VERSION_SELECT.get 3) = false ∧
    bitOf (up.fld Reg.HIF_VERSION F.HIF_VERSION_SUPPORTED) (F.HIF_VERSION_SELECT.get 1) = true ∧ (List.range 16).all (fun n => !up.ringOn n) = true := by decide +kernel


/-- Does a check pass? -/
def passes {α β : Type} : Except α β → Bool
  | .ok _ => true
  | .error _ => false

/-- HostInterfaceEvents: bus mastering off, vector 31, a writeback due, a runner with work, a flush asked for. -/
theorem witness_HostInterfaceEvents : ({ up with pcie := {} } : State).busOn = false ∧ ({ up with pcie := {} } : State).linkOff = false ∧
    (let s := (ringUp up 1).setRing 1 { uncovered := 1 }; s.ringOn 1 = true ∧ 0 < (s.ring 1).uncovered ∧
      (s.ring 1).firstAt + s.fld (Reg.RNG_COAL 1) F.RNG_COAL_TIME * 1000 ≤ s.now) ∧
    (posted 0).pickRunner = some 0 ∧ (ready 0).pickRunner = none ∧ up.pickRunner = none ∧ up.sup.inReset = false ∧
    ((up.setRing 0 { flushReq := true }).ring 0).flushReq = true ∧ ((up.setRing 0 { flushReq := true }).ring 0).boundary = true ∧ (up.setRing 0 { rd := 32 } |>.ring 0).boundary = false ∧
    flrRegs Reg.HIF_CAUSE = false ∧ flrRegs (Reg.RNG_CFG 15) = true ∧ (up.ring 0).flushReq = false ∧ hostToModule 0 = true ∧ up.waits = [] := by decide +kernel

theorem witness_CompletionsPosted : ((entry 0 []).tag 0 0).mute = false ∧ ((entry 0 []).tag 0 0).cplReq = true ∧
    (({ entry 0 [] with flags := 0 } : CmdEntry).tag 0 0).cplReq = false ∧ (posted 0).intakeOk 0 = true ∧
    (posted 0).entryStatus 1 { entry 0 [] with bufLen := 4 } = none ∧ (entry 0 []).bufOut = false ∧ (posted 0).entryStatus 0x1100 (entry 0 []) = some St.unknownOpcode := by decide +kernel

/-- CompletionEntryLayout: every field at its largest value. -/
theorem witness_CompletionEntryLayout :
    let t : CmdTag := { ring := 255, sq := 2 ^ 32 - 1, cmdId := 0xFFFFFFFF, op := 65535, txn := 65535, cplReq := true }
    t.sq < 2 ^ 32 ∧ t.ring < 2 ^ 8 ∧ t.op < 2 ^ 16 ∧ t.txn < 2 ^ 16 := by decide

/-- An echo that waits, for SYNC and CANCEL. -/
def someWait (k : WaitKind) : Wait := { tag := { (entry 0 []).tag 1 0 with cmdId := 9 }, kind := k }

/-- `ready 0` with a command waiting. -/
def waitingFor (k : WaitKind) : State := { ready 0 with waits := [someWait k] }

theorem witness_HostInterfaceCommands :
    (ready 0).admits Op.nop (entry 0 []) = true ∧ (ready 15 |>.admits Op.echo (entry 15 [1, 2])) = true ∧
    (ready 0).fmt1 = false ∧ (ready 0).admits Op.sync (entry 0 []) = true ∧ (ready 0).inProgress = [] ∧
    (waitingFor .charge).admits Op.sync (entry 0 []) = true ∧ (waitingFor .charge).inProgress ≠ [] ∧ opSpecOf 0x0003 = none ∧ opSpecOf 0x1100 = none ∧
    (let e := entry 0 [0, 0, 0, 0, 9]
     (waitingFor .setIncr).admits Op.cancel e = true ∧ fieldLe e.params 4 4 ≠ 0 ∧
       ((waitingFor .setIncr).taken e).waits.find? (fun w => w.tag.ring == fieldLe e.params 0 1 && w.tag.cmdId == BitVec.ofNat 32 (fieldLe e.params 4 4)) = some (someWait .setIncr) ∧
       (someWait .setIncr).kind.cancellable = true) ∧
    (ready 0).admits Op.tunFlush (entry 0 [15]) = true ∧ fieldLe (entry 0 [15]).params 0 1 = 15 ∧
    (let s := (ready 0).setF (Reg.DMA_STATUS 15) F.DMA_STATUS_HALTED 1
     s.admits Op.runnerResume (entry 0 [15]) = true ∧ (s.taken (entry 0 [15])).halted 15 = true) := by decide +kernel

/-- EntryRefusedBeforeRecord: a reserved flag bit of an ECHO. -/
theorem witness_EntryRefusedBeforeRecord : (ready 0).cur = none ∧ (ready 0).takeOk 0 = true ∧ (((ready 0).takeEntry 0).heldOn 0).isEmpty = true ∧ (entry 0 []).fence = false ∧
    (ready 0).waits = [] ∧ entryCheck Op.echo { entry 0 [] with flags := 0x80 } = some St.badFormat := by decide +kernel

/-- `ready n` with transaction slot 0 as given, under tag 5. -/
def withTxn (n : Nat) (x : TxnSlot) : State := (ready n).setTxn 0 { x with tag := 5 }

/-- An entry under that tag. -/
def tagged (n : Nat) (params : List Byte) : CmdEntry := { entry n params with txn := 5 }

theorem witness_TransactionCommands :
    ((ready 0).admits Op.txnOpen (entry 0 []) = true ∧ fieldLe (entry 0 []).params 0 1 = 0 ∧ ((ready 0).taken (entry 0 [])).defaulted = false ∧
      ((ready 0).taken (entry 0 [])).role = .active ∧ (List.range 4).find? (fun k => (((ready 0).taken (entry 0 [])).txn k).phase == .free) = some 0) ∧
    (let s := withTxn 0 { phase := .opened }
     let e := tagged 0 []
     s.admits Op.txnAbort e = true ∧ s.admits Op.txnQuery e = true ∧ (s.taken e).txnOf e.txn.toNat = some 0) ∧
    (let s := withTxn 0 { phase := .opened }
     let e : CmdEntry := { tagged 0 [] with bufLen := 12, buf := le 4 Reg.LMP_CTL ++ le 4 0 ++ le 4 1 }
     s.admits Op.txnRegwr e = true ∧ (s.taken e).txnOf e.txn.toNat = some 0 ∧ e.bufLen.toNat % 12 = 0 ∧ e.bufOut = false ∧
       (regwrEntries (e.bufLen.toNat / 12) e.buf).all (fun x => stageable x.1) = true ∧ ((s.taken e).txn 0).phase = .opened ∧
       (s.taken e).conflicts (some 0) (((regwrEntries (e.bufLen.toNat / 12) e.buf).map fun x => Change.reg x.1 x.2.1 x.2.2).flatMap Change.targets) = false ∧
       withinLimits (((regwrEntries (e.bufLen.toNat / 12) e.buf).map fun x => Change.reg x.1 x.2.1 x.2.2).foldl addChange ((s.taken e).txn 0).changes) = true) ∧
    (let s := { withTxn 0 { phase := .opened } with cyc := { next := some 0, period := 50000000 } }
     let e := tagged 0 [2]
     s.admits Op.txnCommit e = true ∧ (s.taken e).txnOf e.txn.toNat = some 0 ∧
       ((s.taken e).txn 0).phase = .opened ∧ ((s.taken e).txn 0).doomed = false ∧ e.param 0 1 = 2 ∧ passes ((s.taken e).commitPlan 0) = true ∧ (s.taken e).noCycle = false) ∧
    (let s := withTxn 0 { phase := .opened }
     let e := tagged 0 [1]
     s.admits Op.txnCommit e = true ∧ e.param 0 1 = 1 ∧ passes ((s.taken e).commitPlan 0) = true ∧
       (s.taken e).charging = false) ∧
    (let e := entry 0 [1]
     let u := (ready 0).taken e
     bitOf (e.param 0 1) 0 = true ∧ bitOf (e.param 0 1) 1 = false ∧ (ready 0).admits Op.txnOpen e = true ∧ u.openState true false = none ∧
       (List.range 4).all (fun j => (u.txn j).phase == .free) = true ∧ ({ u with role := .standby } : State).openState false true = none) ∧
    (let s := withTxn 0 { phase := .opened }
     let e (st : Nat) := tagged 0 ([3, 0, 0, 0, 0, 0, 0, 0] ++ le 8 st)
     let u (st : Nat) := s.taken (e st)
     [s.stamp, s.stamp + 86400 * 2 ^ 20].all (fun st => s.admits Op.txnCommit (e st) && (e st).param 0 1 == 3 && (e st).param 8 8 == st &&
       stampHeat st == (u st).heat && decide (stampTime st - stampTime (u st).stamp ≤ 86400 * 2 ^ 20) && passes ((u st).commitPlan 0) && !(u st).charging) = true ∧
       (u s.stamp).stampDue s.stamp = true ∧ (u (s.stamp + 1)).stampDue (s.stamp + 1) = false) ∧
    (let s := withTxn 0 { phase := .waiting, point := 3 }
     (s.txn 0).phase = .waiting ∧ (s.txn 0).point = 3 ∧ s.stampDue (s.txn 0).stamp = true ∧ s.charging = false) ∧
    (let s := (withTxn 0 { phase := .opened }).setF Reg.TXN_CFG F.TXN_CFG_IDLE 1
     (s.txn 0).phase = .opened ∧ s.fld Reg.TXN_CFG F.TXN_CFG_IDLE ≠ 0 ∧ (s.txn 0).named + secs (s.fld Reg.TXN_CFG F.TXN_CFG_IDLE) ≤ s.now) ∧
    (let s := (withTxn 0 { phase := .waiting, point := 2, waitFrom := some 0 }).setF Reg.TXN_CFG F.TXN_CFG_WAIT 1
     (s.txn 0).phase = .waiting ∧ (s.txn 0).point = 2 ∧ (s.txn 0).waitFrom = some 0 ∧ 0 + ms (s.fld Reg.TXN_CFG F.TXN_CFG_WAIT) ≤ s.now) := by decide +kernel


/-- `up` with its supply as a function changes it. -/
def sup (f : Supply → Supply) : State := { up with sup := f up.sup }

/-- `up` at stage `k` of start-up. -/
def atStage (k : Nat) : State := up.setF Reg.GLB_BOOTSTAGE F.GLB_BOOTSTAGE_STAGE k

theorem witness_PinEvents : (let s := State.reset; s.sup.powerGood = false ∧ s.sup.inReset = true ∧ s.sup.perst = false ∧ 10500 ≤ (10500 : Half).toNat) ∧
    (sup fun x => { x with flush := .done }).sup.flush = .done ∧ up.sup.flush = .idle ∧ up.sup.perst = false ∧
    (let s := sup fun x => { x with perst := true, flush := .running }; s.sup.perst = true ∧ s.sup.flush = .running) ∧
    (let s := sup fun x => { x with perst := true, inReset := true }; s.sup.flush ≠ .running ∧ s.sup.inReset = true ∧ s.sup.powerGood = true) ∧
    up.sup.emergPin ≠ true := by decide +kernel

/-- `up` under a power-fail warning. -/
def warned : State := (sup fun x => { x with flush := .warned, warnAt := 0 }).setF Reg.GLB_STATUS F.GLB_STATUS_PFW 1

theorem witness_SupplyEvents : (10199 : Half).toNat < 10200 ∧ up.onRiser = false ∧ ({ up with sup := { up.sup with charger := true, riserHeld := 9000 } } : State).sup.riserHeld ≤ 12000 ∧
    ({ State.reset with sup := { powerGood := true } } : State).sup.inReset = true ∧ State.reset.vinPresent = false ∧ warned.vinPresent = false ∧ State.reset.linkOff = true ∧ up.linkOff = false ∧ up.pfw = false ∧ up.sup.powerGood = true ∧
    (warned.sup.flush = .warned ∧ warned.sup.warnAt + ms 1 ≤ warned.now ∧ warned.pausing = false ∧ warned.pfw = true ∧ warned.sup.restoredAt = none) ∧
    (let s := sup fun x => { x with flush := .running, flushFor := .supply }; s.endFlush.sup.flushFor = .supply) ∧
    (let s := sup fun x => { x with flush := .running, flushFor := .thermal }; s.endFlush.sup.flushFor = .thermal) ∧
    (let s : State := { warned with sup := { warned.sup with flush := .done, restoredAt := some 0 } }
     s.sup.restoredAt = some 0 ∧ s.pfw = true ∧ s.sup.flushFor = .supply ∧ 0 + ms 100 ≤ s.now ∧ s.resumeService.sup.refused = false) ∧
    (sup fun x => { x with ramp := some true }).sup.ramp = some true ∧
    (1760 ≤ (1760 : Half).toInt ∧ up.flag Reg.GLB_STATUS F.GLB_STATUS_FORCED_EBB = false) ∧
    ((1599 : Half).toInt < 1600 ∧ up.sup.hot = false ∧ (up.setF Reg.GLB_STATUS F.GLB_STATUS_FORCED_EBB 1).flag Reg.GLB_STATUS F.GLB_STATUS_FORCED_EBB = true) ∧
    (2000 ≤ (2000 : Half).toInt ∧ ({ up with role := .alone } : State).role ≠ .active) ∧ (atStage 0xA).stage = 0xA := by decide +kernel

/-- The module at stage 0x1 with its core voltage up. -/
def booting : State := atStage 1

theorem witness_StartUpStages : ((atStage 1).startingAt 1 = true ∧ ({ atStage 1 with sup := { up.sup with vcoreReady := false } } : State).sup.vcoreReady = false) ∧
    (booting.startingAt 1 = true ∧ booting.sup.vcoreReady = true ∧ booting.rollTrial.slotVerifies booting.rollTrial.bootSlot = true) ∧
    (let s : State := { booting with flash := { booting.flash with pats := [] } }
     s.rollTrial.slotVerifies s.rollTrial.bootSlot = false ∧ s.rollTrial.slotVerifies (otherSlot s.rollTrial.bootSlot) = false) ∧
    (let s : State := { booting with flash := { booting.flash with pats := mapSet (fun _ => {}) booting.flash.pats 0 {} |> (mapSet (fun _ => {}) · 1 (booting.pat 0)) } }
     s.rollTrial.slotVerifies s.rollTrial.bootSlot = false ∧ s.rollTrial.slotVerifies (otherSlot s.rollTrial.bootSlot) = true) ∧
    ((atStage 5).startingAt 5 = true ∧ ((atStage 5).setStage 6).defaulted = false ∧ ((atStage 5).setStage 6).beginRole.role ≠ .witness) ∧
    (let s : State := { atStage 5 with cfg := { (atStage 5).cfg with rdn := { (atStage 5).cfg.rdn with mode := 2 } } }
     s.startingAt 5 = true ∧ (s.setStage 6).defaulted = false ∧ (s.setStage 6).beginRole.role = .witness) ∧
    (let s : State := { atStage 6 with role := .witness }
     s.startingAt 6 = true ∧ s.sup.roleSettled = true ∧ (s.setStage 7).startCycles.role = .witness) ∧
    ((atStage 2).startingAt 2 = true ∧ (atStage 2).keys.intent = none) ∧ ((atStage 3).startingAt 3 = true ∧ (atStage 3).lifeCycle ≠ 3) ∧
    (atStage 4).startingAt 4 = true ∧
    (let s := (atStage 5).setF Reg.GLB_STATUS F.GLB_STATUS_DEFAULTED 1; s.startingAt 5 = true ∧ (s.setStage 6).defaulted = true ∧ (s.setStage 6).role ≠ .witness) ∧
    (let s : State := { atStage 6 with sup := { up.sup with roleSettled := false } }; s.startingAt 6 = true ∧ s.sup.roleSettled = false) ∧
    ((atStage 6).startingAt 6 = true ∧ (atStage 6).sup.roleSettled = true ∧ ((atStage 6).setStage 7).startCycles.role ≠ .witness) ∧
    (let s := sup fun x => { x with rewrite := some 1 }; s.startingAt 7 = true ∧ s.sup.rewrite = some 1) := by decide +kernel

/-- A force with an absorbed write, and one without. -/
def forced : Force := { value := 1, quality := 0, orphan := false, under := some { value := 2 }, absorbed := 1, setStamp := 0 }

/-- `s` with an I16 point range at 0x1800000 that its host may write, the point at 0x1800001 forced, 0x1800002 forced without an absorbed write. -/
def pointed (s : State) : State :=
  { s with cfg := { s.cfg with ranges := [⟨0x1800000, 4, 3, false, false, 0, 0⟩] }, forces := [(0x1800001, forced), (0x1800002, { forced with under := none })] }

theorem witness_PointOperations : (pointed up).force? 0x1800000 = none ∧ (pointed up).force? 0x1800001 = some forced ∧ forced.under = some { value := 2 } ∧
    mapSorted 0 (pointed up).forces = true ∧ ((pointed up).force? 0x1800002).map (·.under) = some none := by decide +kernel

theorem witness_PointRecordBytes : ((pointed up).info 0x1800000).typ = 3 ∧ ((pointed up).pt 0x1800000).quality < 16 ∧ ((pointed up).pt 0x1800000).writer < 2 ^ 16 ∧
    ((pointed up).pt 0x1800000).stamp < 2 ^ 64 := by decide +kernel

/-- An entry with an output buffer of `n` bytes. -/
def outEntry (ring : Nat) (params : List Byte) (n : Nat) : CmdEntry := { entry ring params with flags := 5, bufLen := BitVec.ofNat 32 n, bufAddr := 0x1000 }

/-- An entry with an input buffer. -/
def inEntry (ring : Nat) (params b : List Byte) : CmdEntry := { entry ring params with bufLen := BitVec.ofNat 32 b.length, bufAddr := 0x1000, buf := b }

theorem witness_PointCommands :
    (let e := outEntry 0 (le 4 (2 ^ 25 - 1) ++ le 4 1) 16
     (ready 0).admits Op.pntRead e = true ∧ e.param 4 4 = 1 ∧ e.param 0 4 + e.param 4 4 = 2 ^ 25 ∧ e.bufOut = true ∧ e.bufLen.toNat = 16 * e.param 4 4) ∧
    (let e := inEntry 0 (le 4 1 ++ [0, 0, 0, 0] ++ le 8 0x2000) (le 4 (2 ^ 25 - 1))
     (ready 0).admits Op.pntReadList e = true ∧ e.param 0 4 = 1 ∧ e.bufOut = false ∧ e.bufLen.toNat = 4 * e.param 0 4 ∧
       e.param 8 8 % 4 = 0 ∧ fieldLe e.buf (4 * 0) 4 < 2 ^ 25) ∧
    (let s := pointed (ready 0)
     let e := entry 0 (le 4 0x1800000 ++ le 4 7 ++ [3])
     s.admits Op.pntForce e = true ∧ (s.taken e).charging = false ∧
       (s.taken e).writeCheck (BitVec.ofNat 32 (e.param 0 4)) false true true (BitVec.ofNat 8 (e.param 8 1)) (BitVec.ofNat 32 (e.param 4 4)) none = none ∧
       (s.taken e).flag Reg.PNT_CFG F.PNT_CFG_FORCE_LOCK = false ∧ (s.taken e).forces.length < 4096) ∧
    (let s := pointed (ready 0)
     let e := entry 0 (le 4 0x1800001)
     s.admits Op.pntUnforce e = true ∧ e.param 0 4 < 2 ^ 25 ∧ (s.taken e).defaulted = false ∧ (s.taken e).leads = true ∧
       ((s.taken e).info (e.param 0 4)).typ ≠ 0 ∧ (s.taken e).heldByOther none (.point (e.param 0 4)) = false ∧ (s.taken e).force? (e.param 0 4) = some forced) ∧
    (let e := outEntry 0 (le 4 0) 32; (ready 0).admits Op.pntForceList e = true ∧ e.bufLen.toNat % 32 = 0) ∧
    (let e := entry 0 (le 2 1024 ++ [1, 0] ++ le 4 0 ++ le 4 65536 ++ le 4 0)
     (ready 0).admits Op.pntSubscribe e = true ∧ e.param 0 2 = 1024 ∧ bitsOf (e.param 2 1) 4 4 = 0 ∧ bitsOf (9 : Nat) 4 4 = 0 ∧ bitOf (9 : Nat) 3 = true ∧ bitsOf (e.param 2 1) 0 3 ≠ 0 ∧
       e.param 8 4 = 65536 ∧ e.param 4 4 + e.param 8 4 ≤ 2 ^ 25 ∧
       (mapPut ((ready 0).taken e).subs 1024 { mode := 1, first := 0, count := 65536, deadband := 0, refs := [] }).length ≤ 1024 ∧
       subPoints (mapPut ((ready 0).taken e).subs 1024 { mode := 1, first := 0, count := 65536, deadband := 0, refs := [] }) ≤ 4194304) ∧
    (let s : State := { ready 0 with subs := [(5, { mode := 1, first := 0, count := 1, deadband := 0, refs := [] })] }
     let e := entry 0 (le 2 5)
     s.admits Op.pntUnsubscribe e = true ∧ (mapFind (s.taken e).subs (e.param 0 2)).isSome = true) := by decide +kernel

/-- An entry of ring 2. -/
def pwr (op : Byte) (a : Nat) : PwrEntry :=
  { cmdId := 8, op := op, flags := 1, txn := 0, address := BitVec.ofNat 32 a, value := 7, typeQuality := 3, resv := List.replicate 15 0 }

theorem witness_PointWrites : (let s := pointed (ready 2)
     [(1 : Byte), 2].all (fun o => s.pwrAdmits (pwr o 0x1800000) && ((s.pwrTaken (pwr o 0x1800000)).writeCheck 0x1800000 false true false 3 7 none).isNone) = true ∧
       (s.pwrTaken (pwr 1 0x1800000)).charging = false) ∧
    (ready 2).takeOk 2 = true ∧ 2 ^ 25 ≤ (pwr 1 (2 ^ 25)).address.toNat ∧ (pwr 3 0).op ≠ 1 ∧ (pwr 3 0).op ≠ 2 := by decide +kernel


/-- LadleOperands: the slot itself, the window of a bound base at its last slot, an invalid base, a base that is not bound. -/
theorem witness_LadleOperands : let c : LCtx := { prog := prog (.z .nop), table := [], tc := 0, cfg := {} }
    c.slotOf run 0 3 = some 3 ∧ run.slots[3]? = some ⟨0x1800003, 4, 5, false⟩ ∧ run.bases.getD 1 none = some ⟨0, 1, true⟩ ∧
    c.prog.ranges[0]? = some { first := 0x1800000, count := 2, width := 2, stride := 2, w := true, start := 0 } ∧
    run.bases.getD 2 none = some ⟨0, 2, false⟩ ∧ run.bases.getD 7 none = none ∧ c.slotOf run 7 0 = none := by decide +kernel

/-- Does ladle 0 of `ladling i run` execute `i` next? -/
def fetching (i : LIns) : Bool := (((ladling i run).ladle 0).fetches i).isSome

/-- The statements about ladle instructions: each instruction is the next one of a ladle that executes; the forms with their operands at the ends of their ranges. -/
theorem witness_ladle_instructions : ([.pt .ld 0 3 0x9F, .pt .and_ 0 3 0, .pt .or_ 0 3 0, .pt .xor_ 0 3 0, .pt .ldq 0 3 0x85, .pt .st 0 3 0xDF, .pt .set 0 3 0x5F, .pt .rst 0 3 0,
    .pt .stw 0 0 0, .pt .stw 0 0 0x60, .pt .ldw 0 3 0xF0, .pt .ldw 0 3 0x5F, .pt .ldw 0 3 0x4F, .pt .qld 0 3 0, .z .bopen, .z .band, .z .bor, .z .bpeek, .z .bdrop, .laop 0, .laop 2,
    .inst .edge 1 0 2, .inst .edge 0 2 0, .inst .tmr 1 0 1, .inst .ctu 1 0 0, .inst .ctd 1 0 0, .inst .tcr 1 0 0, .inst .tcr 1 0 1, .inst .tcld 1 0 1, .inst .ldm 1 0 0,
    .inst .stm 1 0 1, .wbit 0 31, .wbit 1 31, .ldi 0x800000, .ldih 0xFFFF, .mov 0 15, .mov 1 15, .mov 2 15, .sel 15, .alu 0 1, .alu 7 0, .alu 0x15 1, .alu 0x16 0, .alui 0 0x100000, .alui 7 0, .fpu 0 1, .fpu 3 0, .fpu 7 0, .fpu 8 0, .fpu 9 0,
    .cmp 14 0 15, .cmp 0 1 0, .cmp 0 2 0, .cmpi 9 0 0x8000, .cmpi 0 1 0, .cmpi 0 2 0x7FFF, .tbl 1 0, .tbl 1 0x7FFF, .tbl 0 0, .tbl 0 3, .jmp 0 2, .jmp 1 2, .jmp 2 2, .call 0 2, .call 1 2, .call 2 2, .z .ret, .loop 0 0 0xFFFF, .loop 0 1 0, .loop 1 0 1, .loop 1 1 0, .z .endl,
    .z .brk, .z .nop, .z .fin, .setb 7 0 1, .bidx 1 1 0xFFFF, .bidx 1 0 0, .bld 1, .lcall 0 1 0, .lcall 3 1 0] : List LIns).all (fun i => i.wf && fetching i) = true := by decide +kernel

/-- A luminaire record with channel 0 fitted (R250). -/
def lumRec : LumRec where
  mode := 0
  emerg := false
  noProbe := false
  zoneSource := false
  fitted := 1
  curve := 0
  zone := 0
  fluxRef := 100
  emergLevel := 0
  bins := [0, 0, 0, 0]
  tKnee := 80
  tMax := 100
  derateMin := 0
  maintMin := 0
  maintSlope := 0

/-- The operand hypotheses of the same statements. -/
theorem witness_ladle_operands : let s := ladling (.z .nop) run
    let p := prog (.z .nop)
    (s.lctx (s.ladle 0) p).slotOf run 0 3 = some 3 ∧ run.instOf 1 0 = some 1 ∧ run.instOf 0 2 = none ∧ ((s.cfg.ptInfo 0x1800000).typ ≠ 7) ∧
    (aluOf 0 run.wa (run.w 1).1).2 = false ∧ (aluOf 7 run.wa (run.w 0).1).2 = true ∧ (aluOf 0 run.wa (BitVec.ofNat 32 (ofInt 32 (sext 21 0x100000)))).2 = false ∧
    (fpuOf 0 0x3FC00000 0x40100000).isSome = true ∧ (fpuOf 3 0 0).isNone = true ∧ 3 + (0 : Word).toNat < p.tableWords ∧ p.tableWords ≤ 0 + run.wa.toNat ∧
    (aluOf 7 run.wa (BitVec.ofNat 32 (ofInt 32 (sext 21 0)))).2 = true ∧ (fpuOf 8 run.wa 0).isSome = true ∧ (fpuOf 7 0x7FC00000 0).isNone = true ∧
    (f32ToInt (F32.ofWord 0x3F800000)).isSome = true ∧ (f32ToInt (F32.ofWord 0x7FC00000)).isNone = true ∧
    (let q : Prog := { p with tableWords := 6 }
     let c := s.lctx { s.ladle 0 with table := [(1, 2)] } q
     1 < q.tableWords ∧ (c.tab 1).toNat = 2 ∧ 1 + 1 + 2 * (c.tab 1).toNat ≤ q.tableWords ∧ ¬ 2 ≤ (c.tab 0).toNat) ∧
    p.ranges[0]?.isSome = true ∧ run.bases.getD 1 none = some ⟨0, 1, true⟩ ∧ s.cfg.lamp.zoneOk (run.w 1).1.toNat = false ∧
    ({ lums := [(0, { lumRec with zone := 5 })] } : LampCfg).zoneOk 5 = true := by decide +kernel

theorem witness_TimerRules : (1 : Nat) ≤ 1 ∧ ({} : Tmr).run = false ∧ ({} : Tmr).prev = false ∧ ({ run := true, q := true } : Tmr).q = true ∧ ({ run := true } : Tmr).run = true := by decide

theorem witness_LadleDecodeOfEncode : (LIns.bidx 7 1 0xFFFF).wf = true ∧ (LIns.pt .ldw 7 32767 0xFF).wf = true ∧ (LIns.lcall 3 15 15).wf = true := by decide +kernel

/-- The image of a program that is END alone (R198). -/
def endImage : List Byte :=
  let body := le 4 0x4C444C07 ++ le 2 1 ++ [0, 0] ++ le 4 1 ++ List.replicate 12 0 ++ le 4 1 ++ List.replicate 32 0
  body ++ le 4 (crc32c (body ++ [0, 0, 0, 0] ++ le 4 0xFC000000)) ++ le 4 0xFC000000

/-- R198: the image of END alone loads, with a worst case of one unit. -/
theorem test_load_end : (match loadProgram endImage 0 (({} : RunCfg).ptInfo) [] with | .ok p => p.ins == [.z .fin] && p.wcu == 1 | .error _ => false) = true := by decide +kernel

/-- `ready 14` with an open ONLINE transaction under tag 5 and `ladling`'s ladle 0, not in a cycle. -/
def ladleReady : State :=
  let s := withTxn 14 { phase := .opened, online := true }
  s.setLadle 0 { prog := some (prog (.z .nop)), priv := priv, phase := .idle }

theorem witness_LadleCommands :
    (let e : CmdEntry := { tagged 14 ([0, 0, 0, 0] ++ le 4 0 ++ le 4 68) with bufLen := 68, buf := endImage }
     let s := ladleReady
     let u := s.taken e
     s.admits Op.ldlLoad e = true ∧ u.onlineTxn e = some 0 ∧ e.param 0 1 < 16 ∧ e.param 4 4 = 0 ∧
       e.param 8 4 = e.buf.length ∧ e.buf ≠ [] ∧ e.buf.length ≤ 278592 ∧ e.bufOut = false ∧ u.conflicts (some 0) [.ladle (e.param 0 1)] = false ∧ (u.txn 0).pieces = [] ∧
       passes (loadProgram e.buf (e.param 0 1) (u.proposedInfo 0) (u.takenBy 0 (e.param 0 1))) = true) ∧
    (let e := tagged 14 [15]
     let u := ladleReady.taken e
     ladleReady.admits Op.ldlUnload e = true ∧ u.onlineTxn e = some 0 ∧ e.param 0 1 = 15 ∧ (u.txn 0).isLocal = false ∧
       u.conflicts (some 0) (Change.targets (.program 15 none)) = false ∧ withinLimits (addChange (u.txn 0).changes (.program 15 none)) = true) ∧
    (let e := inEntry 14 ([0, 0, 0, 0] ++ le 4 3) [1, 2, 3, 4]
     let u := ladleReady.taken e
     ladleReady.admits Op.ldlTable e = true ∧ u.defaulted = false ∧ e.bufLen.toNat % 4 = 0 ∧ e.bufLen ≠ 0 ∧
       e.bufOut = false ∧ e.param 4 4 + e.bufLen.toNat / 4 ≤ u.tableRoom none 0 ∧ u.conflicts none (Change.targets (.table (.ladle 0) (4 * e.param 4 4) e.buf)) = false) ∧
    (let s : State := { ladleReady with waits := [someWait (.ldlTable 0 3 [1, 2, 3, 4] 0)] }
     (someWait (.ldlTable 0 3 [1, 2, 3, 4] 0)).table? 0 = some (3, [1, 2, 3, 4], 0) ∧ s.ladleIdle 0 = true) ∧
    (let e := outEntry 14 ([0, 3] ++ [0, 0] ++ le 2 0 ++ le 2 2) 32
     let u := ladleReady.taken e
     ladleReady.admits Op.ldlState e = true ∧ e.param 1 1 < 4 ∧ 1 ≤ e.param 6 2 ∧ e.param 6 2 ≤ 4096 ∧ e.bufOut = true ∧
       e.bufLen.toNat = 16 * e.param 6 2 ∧ ((u.ladle 0).prog).isSome = true ∧ e.param 4 2 + e.param 6 2 ≤ (prog (.z .nop)).declared (e.param 1 1)) := by decide +kernel

/-- `up` with its control cycle as a function changes it. -/
def cycling (s : State) (f : Cyc → Cyc) : State := { s with cyc := f { s.cyc with period := 50000000, margin := 2000000 } }

theorem witness_ControlCycle :
    (let s := cycling up fun c => { c with next := some 0 }
     s.cyc.next = some 0 ∧ 0 ≤ s.now ∧ s.leads = true ∧ s.defaulted = false ∧ s.handStops 0 = false) ∧
    (let s := cycling up fun c => { c with next := some (10 ^ 11) }; s.now < 10 ^ 11) ∧
    (let s := ((cycling up fun c => { c with phase := .charging }).setLadle 0 { phase := .charging }).setLadle 15 { phase := .charging }
     s.cyc.phase = .charging ∧ (s.ladle 0).phase = .charging ∧ (s.ladle 15).phase = .charging) ∧
    (let s := (cycling up fun c => { c with phase := .charging }).setLadle 15 { phase := .charging }
     s.cyc.phase = .charging ∧ (s.ladle 15).phase = .charging ∧ (List.range 15).all (fun m => decide ((s.ladle m).phase ≠ .charging)) = true) ∧
    (let s := cycling up fun c => { c with phase := .executing }; s.cyc.phase ≠ .between ∧ s.cyc.boundary + s.cyc.period - s.cyc.margin ≤ s.now) ∧
    (let s := cycling { up with clock := {} } fun c => { c with phase := .executing }; s.now < s.cyc.boundary + s.cyc.period - s.cyc.margin) := by decide +kernel

theorem witness_CycleCommands :
    (let e := entry 14 (le 4 50000 ++ le 4 2000 ++ le 4 0 ++ [1])
     let u := (ready 14).taken e
     (ready 14).admits Op.cycSetup e = true ∧ u.cycState = none ∧ cycRange (e.param 0 4) (e.param 4 4) (e.param 8 4) = true ∧
       u.conflicts none [.cycle 16] = false) ∧
    (let e := entry 14 [15, 0, 0, 0, 1]
     let u := (ready 14).taken e
     (ready 14).admits Op.cycSched e = true ∧ e.param 0 1 = 15 ∧ u.conflicts none [.cycle 15] = false) ∧
    (let e := entry 14 (le 4 0xFFFFFFFF)
     (ready 14).admits Op.cycHold e = true ∧ e.param 0 4 ≠ 0) ∧
    (let s : State := { ready 14 with cyc := { hold := some none } }
     s.admits Op.cycRelease (entry 14 []) = true ∧ (s.taken (entry 14 [])).cyc.hold ≠ none) := by decide +kernel


/-- `s` with luminaire 5 (node 0) configured, channel 0 fitted. -/
def lit (s : State) : State := { s with cfg := { s.cfg with lamp := { s.cfg.lamp with lums := [(5, lumRec)], bins := [(32768, 3000)] } } }

/-- `lit`'s record as LMP_RECORD carries it, for luminaire `k` (R250). -/
def lumBytes (k : Nat) : List Byte := le 2 k ++ [0, 0, 1, 0] ++ le 2 0 ++ le 2 100 ++ List.replicate 6 0 ++ le 2 80 ++ le 2 100 ++ List.replicate 12 0

theorem witness_LampEvents :
    (let s : State := { up with lamp := { next := some 0 } }
     let t := (s.lampTick 0).tickGates 0 s.lamp.tick
     0 ≤ s.now ∧ s.lampRuns = true ∧ s.handPending 0 = false ∧ s.keyPhase ≠ 2 ∧ t.leads = true ∧ t.latchImages.tickOutputs.counterHigh = false) ∧
    (let s : State := { up with role := .standby, lamp := { next := some 0 } }
     s.lampRuns = true ∧ ((s.lampTick 0).tickGates 0 s.lamp.tick).leads = false) ∧
    (let s : State := { up with lamp := { next := some (10 ^ 11) } }; s.now < 10 ^ 11) ∧
    ({ up with lamp := { evaluating := true } } : State).lamp.evaluating = true ∧
    (let s : State := { up with lamp := { pours := [(0, 1)] } }; s.leads = true ∧ s.lampRuns = true ∧ s.lamp.pours = (0, 1) :: [] ∧ 0 ≤ s.now) := by decide +kernel

theorem witness_LampCommands :
    ((ready 15).admits Op.lmpEmerg (entry 15 [1]) = true ∧ (ready 0).admits Op.lmpEmerg (entry 0 []) = true) ∧
    (let s := lit (ready 0)
     let e := entry 0 (le 2 5 ++ [15])
     let u := s.taken e
     s.admits Op.lmpProbe e = true ∧ u.defaulted = false ∧ u.cfg.lum (e.param 0 2) = some lumRec ∧ 0 ∈ lumRec.channels ∧ bitOf (e.param 2 1) 0 = true) ∧
    (let s := lit (ready 0)
     let e := inEntry 0 [] (lumBytes 5)
     let u := s.taken e
     s.admits Op.lmpRecord e = true ∧ u.defaulted = false ∧ e.bufOut = false ∧ e.bufLen.toNat % 32 = 0 ∧ passes (u.lampRecords e.buf) = true ∧
       u.conflicts none (((recordsOf 32 1 e.buf).map fun b => Change.table .lampRecord (32 * fieldLe b 0 2) b).flatMap Change.targets) = false) ∧
    (let e := outEntry 0 (le 2 32767 ++ le 2 1) 64
     let u := (ready 0).taken e
     (ready 0).admits Op.lmpChstate e = true ∧ u.defaulted = false ∧ e.param 2 2 = 1 ∧ e.param 0 2 + e.param 2 2 = 32768 ∧ e.bufOut = true ∧
       e.bufLen.toNat = 64 * e.param 2 2) := by decide +kernel

theorem witness_TimeCommands :
    (let e := entry 0 (le 4 1 ++ le 4 0)
     let u := (ready 0).taken e
     (ready 0).admits Op.timStep e = true ∧ u.servoOwns = false ∧ u.stepOk (sext 32 (e.param 0 4)) (sext 32 (e.param 4 4)) = true) ∧
    (let e := entry 0 (le 8 (40 * 2 ^ 32))
     (ready 0).admits Op.timSetincr e = true ∧ ((ready 0).taken e).conflicts none [.reg Reg.TIM_INCRLO, .reg Reg.TIM_INCRHI] = false) ∧
    (let e := entry 0 (le 2 37 ++ [2])
     (ready 0).admits Op.timLeap e = true ∧ ((ready 0).taken e).utcOwned = false ∧ e.param 2 1 = 2 ∧
       ((ready 0).taken e).conflicts none [.reg Reg.TIM_UTCOFF] = false) := by decide +kernel

theorem witness_CalendarCommands :
    (let e := entry 0 (le 4 0 ++ le 2 32767); (ready 0).admits Op.rtcSet e = true ∧ e.param 4 2 = 32767 ∧
       ((ready 0).taken e).conflicts none [.reg Reg.RTC_STG_UTC, .reg Reg.RTC_STG_SUBSEC] = false) ∧
    (let s := (ready 0).setF Reg.TIM_STATUS F.TIM_STATUS_STATE 1; s.admits Op.rtcFromWall (entry 0 []) = true ∧ (s.taken (entry 0 [])).wallUnset = false) ∧
    (let e := entry 0 ([7, 4, 0, 127] ++ le 4 0 ++ le 4 1)
     (ready 0).admits Op.rtcAlarm e = true ∧
       ({ alarm := 7, mode := 4, isLocal := false, dayMask := 127, at_ := 0, ivl := 1 } : AlarmDef).ok 0 = true) ∧
    (let e := entry 0 ([3, 1, 0, 0] ++ le 4 256 ++ le 4 255)
     (ready 0).admits Op.rtcPeriodic e = true ∧ periodicOk (e.param 0 1) (e.param 1 1) (e.param 4 4) (e.param 8 4) = true ∧
       ((ready 0).taken e).conflicts none [.reg (Reg.RTC_PER_CFG 3), .reg (Reg.RTC_PER_PHASE 3)] = false) ∧
    (let s := (ready 0).setF Reg.GLB_STATUS F.GLB_STATUS_MAINT 1
     let e := entry 0 [1, 3, 3]
     s.admits Op.rtcCharger e = true ∧ (s.taken e).maint = true ∧ e.param 1 1 = 3 ∧ e.param 2 1 = 3 ∧
       (s.taken e).conflicts none [.reg Reg.RTC_CTL] = false) ∧
    (let s := (ready 0).setF Reg.RTC_CTL F.RTC_CTL_TRIMSRC 0
     let e := entry 0 (le 2 8590)
     s.admits Op.rtcSettrim e = true ∧ (s.taken e).fld Reg.RTC_CTL F.RTC_CTL_TRIMSRC = 0 ∧ sext 16 (e.param 0 2) = 8590 ∧
       (s.taken e).conflicts none [.reg Reg.RTC_TRIM] = false) := by decide +kernel

theorem witness_TimeEvents :
    ((up.setF Reg.TIM_STATUS F.TIM_STATUS_STATE 3).locked = true ∧ (let s := up.setF Reg.TIM_STATUS F.TIM_STATUS_STATE 3; s.clock.lastSync + 8 * s.clock.syncNs ≤ s.now)) ∧ up.locked = false ∧
    ({ up with calRun := { due := true } } : State).calRun.due = true ∧
    (let s := { (up.setF Reg.TIM_STATUS F.TIM_STATUS_STATE 3).setF Reg.RTC_CTL F.RTC_CTL_FOLLOW 1 with clock := { mono := 64 * secUnits } }
     s.flag Reg.RTC_CTL F.RTC_CTL_FOLLOW = true ∧ s.locked = true ∧ s.arb = false ∧ s.calRun.follow + secs 64 ≤ s.now) ∧
    (let s : State := { up.setF Reg.TIM_UTCOFF F.TIM_UTCOFF_LEAP 1 with cal := { sec := 86399, acc := 2 ^ 40 - 1 } }
     s.leap = 1 ∧ s.cal.sec % 86400 = 86399 ∧ s.cal.leap60 = false ∧ 2 ^ 40 ≤ s.cal.acc + s.crystalStep) ∧
    ({ up with calRun := { goReq := true } } : State).calRun.goReq = true ∧
    (let s := (up.setF (Reg.RTC_PER_CFG 3) F.RTC_PER_CFG_EN 1).setF (Reg.RTC_PER_CFG 3) F.RTC_PER_CFG_PERIOD 1
     s.stage = 7 ∧ s.flag (Reg.RTC_PER_CFG 3) F.RTC_PER_CFG_EN = true ∧ s.flag (Reg.RTC_PER_CFG 3) F.RTC_PER_CFG_LOG = false ∧
       s.calInstant % max 1 (s.fld (Reg.RTC_PER_CFG 3) F.RTC_PER_CFG_PERIOD) = s.fld (Reg.RTC_PER_PHASE 3) F.RTC_PER_PHASE_PHASE ∧ mapFind s.calRun.fired 3 ≠ some s.calInstant) ∧
    (let s := (up.setF Reg.TIM_STATUS F.TIM_STATUS_STATE 3).setF Reg.RTC_CTL F.RTC_CTL_TRIMSRC 1; s.fld Reg.RTC_CTL F.RTC_CTL_TRIMSRC = 1 ∧ s.locked = true) ∧
    (let s : State := { up with clock := { mono := 60 * secUnits }, calRun := { chargeSince := some 0 } }
     0 + secs 60 ≤ s.now ∧ s.fld Reg.GLB_SUPPLY2 F.GLB_SUPPLY2_VBAK < 1000) := by decide +kernel


theorem witness_MemoryEvents : (let s : State := { up with fettle := { test := some (3, 4) } }; s.fettle.test = some (3, 4)) ∧ up.fettle.test = none ∧
    (let s := up.setF Reg.MEM_FETTLE F.MEM_FETTLE_ENABLE 1
     s.sup.inReset = false ∧ s.flag Reg.MEM_FETTLE F.MEM_FETTLE_ENABLE = true ∧ s.outage = false ∧ s.fettle.test = none ∧ s.fettle.at_ ≤ s.now ∧ s.fettle.retries = []) ∧
    (let s : State := { up with fettle := { remap := some (191, 3) } }; s.outage = false ∧ s.fettle.remap = some (191, 3)) ∧ warned.outage = true := by decide +kernel

/-- A row node in the configuration: node 0, UID 7. -/
def nodeEntry : CznEntry := { n := 0, profile := 0, minVersion := 2, uid := 7, hold := 1000, fallback := 0, reportLen := 64 }

/-- `s` with trunk port `p` enabled under PLCA, broadcast admitted, the Carzon master in key slot 0, node 0 configured and SERVING under a fixed root key. -/
def trunked (s : State) (p : Nat) : State :=
  let s := (((s.setF (Reg.TRK_CTL p) F.TRK_CTL_ENABLE 1).setF (Reg.TRK_CTL p) F.TRK_CTL_PLCA_EN 1).setF (Reg.TRK_CTL p) F.TRK_CTL_BCAST 1).setF (Reg.TRK_CTL p) F.TRK_CTL_MAXLEN 1518
  let s := (s.setF Reg.KEY_CZNSRC F.KEY_CZNSRC_VALID 1).setKeySlot 0 { attr := 0xA0000004, data := be 32 5 }
  let s : State := { s with cfg := { s.cfg with czn := { profiles := [[]], nodes := [nodeEntry] } } }
  s.setCznNode 0 { state := 3, version := 3, key := be 16 1, unacked := [⟨9, 0x18, 2, [], 0, 1, []⟩] }

/-! Frames of node 0 at port 0, sealed by an independent implementation of AES-CCM and HMAC-SHA-256: to the broadcast address, EtherType 0x88B5, counter 77. -/

/-- A REPORT with a clean body. -/
def reportFrame : TrunkFrame := { port := 0, plcaId := 2, room := true, fcsOk := true, bytes := be 64 0xFFFFFFFFFFFF02000000010188B5032001000000FF000000004D0000000000085B6A5B389F0ACF6935C83FFFA3D9F23800000000000000000000000000000000 }

/-- A DELAY_REQ. -/
def delayFrame : TrunkFrame := { port := 0, plcaId := 2, room := true, fcsOk := true, bytes := be 64 0xFFFFFFFFFFFF02000000010188B5033101000000FF000000004D0000000000085B6A5B3D9F0ACF690968EAC13A54A8D500000000000000000000000000000000 }

/-- The ACK of OUTPUT 9. -/
def ackFrame : TrunkFrame := { port := 0, plcaId := 2, room := true, fcsOk := true, bytes := be 64 0xFFFFFFFFFFFF02000000010188B5030801000000FF000000004D0000000000085B6A5B31870ACF695BD8015B33FFA28400000000000000000000000000000000 }

/-- A HELLO with UID 7. -/
def helloFrame (versions id mic : Nat) : TrunkFrame :=
  { port := 0, plcaId := 2, room := true, fcsOk := true
    bytes := be 6 0xFFFFFFFFFFFF ++ be 6 0x020000000101 ++ be 2 0x88B5 ++ be 4 0x03010120 ++ be 4 0xFFFEFF00 ++ be 4 77 ++ be 4 0 ++ be 2 28
      ++ be 8 7 ++ be 1 versions ++ be 1 id ++ [1, 8] ++ List.replicate 16 0 ++ be 8 mic ++ be 4 0 }

/-- The body of that HELLO. -/
def helloBody (versions id : Nat) : List Byte := be 8 7 ++ be 1 versions ++ be 1 id ++ [1, 8] ++ List.replicate 16 0

theorem witness_TrunkEvents : let s := trunked up 0
    s.portRole 0 = 2 ∧ s.pausing = false ∧ s.truncated reportFrame = false ∧ 64 ≤ reportFrame.bytes.length ∧ s.destOk reportFrame = true ∧
    fieldBe reportFrame.bytes 12 2 = s.trkEtype ∧ s.formOk reportFrame = true ∧ fieldBe reportFrame.bytes 15 1 = 0x20 ∧
    ((s.bump (Reg.TRK_RXFRAMES 0)).hearNode reportFrame).flag (Reg.TRK_CTL 0) F.TRK_CTL_CAP_ALL = false ∧ (trunked up 63).portRole 63 = 2 ∧ s.sendsCarzon = true ∧
    (let t := s.setPort 0 { listen := some 0 }
     (t.port 0).listen = some 0 ∧ 0 + 2 * (t.fld (Reg.TRK_PLCA 0) F.TRK_PLCA_NCNT * t.fld (Reg.TRK_PLCA 0) F.TRK_PLCA_TO_TIMER + 20) * 100 ≤ t.now) ∧
    (let t : State := { s.setPort 0 { listen := some 0 } with role := .seeding, sup := { s.sup with roleSettled := true } }
     t.role = .seeding ∧ t.sup.roleSettled = true ∧ t.defaulted = false ∧ t.portRole 0 = 2 ∧ 0 + ms (t.fld (Reg.TRK_PLCA2 0) F.TRK_PLCA2_LISTEN) ≤ t.now) ∧
    (let t := (s.setPort 0 { rollCall := true, heard := 1 }).setF (Reg.TRK_PLCA 0) F.TRK_PLCA_NCNT 2
     (t.port 0).rollCall = true ∧ t.fld (Reg.TRK_PLCA 0) F.TRK_PLCA_NCNT ≤ 2 ∧ t.plcaOn 0 = true ∧ (t.setF (Reg.TRK_CTL 0) F.TRK_CTL_PLCA_EN 0).plcaOn 0 = false) ∧ (s.port 0).rollCall = false := by decide +kernel

/-- `trunked` with the gate cycle of the factory list about to open entry 1; the port coordinates where `c` holds. -/
def gated (c : Bool) : State := (trunked up 0).setPort 0 { beacons := c, gates := factoryGates 50, nextE := 1, nextAt := some 0 }

theorem witness_GateEvents :
    (let s := gated false
     (s.port 0).nextAt = some 0 ∧ 0 ≤ s.now ∧ s.portRole 0 ≠ 0 ∧ s.lampRuns = true ∧ (s.port 0).nextE ≠ 0 ∧ s.canSend 0 = false ∧
       (s.port 0).pourDue = none ∧ (((s.port 0).gates.spans s.lamp.tick).getD 1 (0, 0, 0)).2.2 ≠ 1) ∧
    (let s := (gated true).setPort 0 { (gated true).port 0 with nextE := 2 }
     let sp := ((s.port 0).gates.spans s.lamp.tick).getD 2 (0, 0, 0)
     s.canSend 0 = true ∧ bitOf sp.2.2 Gate.mould = false ∧ sp.2.2 ≠ 1 ∧ (s.port 0).pourDue = none) ∧
    (let s := (trunked up 0).setPort 0 { nextAt := some (10 ^ 11) }; s.now < 10 ^ 11) ∧
    (let s := (trunked up 0).setF Reg.TRK_CZNKEY F.TRK_CZNKEY_PHASE 1
     let u := (List.range 4).foldl (fun (t : State) r => t.radAnnounce r) s
     u.keyPhase = 1 ∧ u.sendsCarzon = true ∧ u.czn.rekeyAt + secs 10 ≤ u.now) ∧
    ((List.range 4).foldl (fun (t : State) r => t.radAnnounce r) (trunked up 0)).keyPhase ≠ 1 ∧
    (let s := (trunked up 0).setF Reg.TRK_CZNKEY F.TRK_CZNKEY_PHASE 3
     let u := (List.range 4).foldl (fun (t : State) r => t.radGraceEnd r) s
     u.keyPhase = 3 ∧ u.czn.graceAt ≤ u.now) ∧
    ((List.range 4).foldl (fun (t : State) r => t.radGraceEnd r) (trunked up 0)).keyPhase ≠ 3 := by decide +kernel

theorem witness_GigabitEvents :
    (let s := (((up.setF (Reg.ETH_CTL 1) F.ETH_CTL_ENABLE 1).setF (Reg.ETH_STATUS 1) F.ETH_STATUS_LINK 1).setF (Reg.ETH_PAUSE 1) F.ETH_PAUSE_RX_EN 1).setF (Reg.ETH_PAUSE 1) F.ETH_PAUSE_CAP_US 0
     s.flag (Reg.ETH_CTL 1) F.ETH_CTL_ENABLE = true ∧ s.flag (Reg.ETH_STATUS 1) F.ETH_STATUS_LINK = true ∧ s.flag (Reg.ETH_PAUSE 1) F.ETH_PAUSE_RX_EN = true ∧
       s.fld (Reg.ETH_PAUSE 1) F.ETH_PAUSE_CAP_US = 0) ∧
    ((up.setEth 1 { pausedTo := some 0 }).eth 1).pausedTo = some 0 ∧ up.linkOff = false ∧ up.flag (Reg.ETH_STATUS 0) F.ETH_STATUS_LINK = false := by decide +kernel

/-- An Ethernet frame of a host: no Carzon EtherType, 60 bytes. -/
def hostFrame : List Byte := List.replicate 12 0xFF ++ be 2 0x0800 ++ List.replicate 46 0

theorem witness_TrunkCommands :
    (let s := trunked (ready 10) 0
     let e := inEntry 10 [0] hostFrame
     let u := s.taken e
     s.admits Op.trkSend e = true ∧ u.defaulted = false ∧ e.bufOut = false ∧ u.sendsCarzon = true ∧ fieldBe e.buf 12 2 ≠ u.trkEtype ∧ u.trkOn (e.param 0 1) = true ∧
       60 ≤ e.bufLen.toNat ∧ e.bufLen.toNat + 4 ≤ u.fld (Reg.TRK_CTL (e.param 0 1)) F.TRK_CTL_MAXLEN ∧
       u.startsNow (e.param 0 1) { cls := Gate.mgmt, kind := .host (e.buf.take e.bufLen.toNat) (s.tagOf { op := 0x0700 } e) } = false) ∧
    (someWait (.trkSend 0 0)).kind = .trkSend 0 0 ∧
    (let u := (trunked (ready 10) 0).taken (entry 10 [63, 1])
     (trunked (ready 10) 0).admits Op.trkPort (entry 10 [63, 1]) = true ∧ u.defaulted = false ∧ u.conflicts none [.reg (Reg.TRK_CTL 63)] = false) ∧
    (let s := trunked (ready 10) 0
     let b := le 4 0x1C000000 ++ le 4 0x0A004E20 ++ le 4 0x010007D0 ++ le 4 0x1C000BB8
     let e := inEntry 10 [0, 1] b
     let u := s.taken e
     s.admits Op.trkGates e = true ∧ e.bufOut = false ∧ b.length % 4 = 0 ∧ gatesClean b = true ∧
       (gatesOf (e.param 1 1) b).ok u.lamp.tick = true ∧ u.defaulted = false ∧ u.conflicts none (Change.targets (.table (.gates 0) 0 (be 1 1 ++ b)) ++ (gateRegsOf 0 (gatesOf 1 b)).map .reg) = false ∧
       (((u.writeGates 0 (gatesOf 1 b)).useGates 0 (gatesOf 1 b) false).port 0).fresh = none) ∧
    (let s := (trunked (ready 10) 0).setPort 0 { nextAt := some (10 ^ 11) }
     let b := le 4 0x1C000000 ++ le 4 0x0A004E20 ++ le 4 0x010007D0 ++ le 4 0x1C000BB8
     (((s.writeGates 0 (gatesOf 1 b)).useGates 0 (gatesOf 1 b) false).port 0).fresh ≠ none) := by decide +kernel

/-- `trunked` with an entry open to every class that outlasts the wait for the medium, whatever that is. -/
def opened : State := (trunked up 0).setPort 0 { beacons := true, mask := 0xFF, close := up.now + Config.mediumDelay up.free + 10 ^ 9 }

/-- TRK_SEND that starts at once. -/
theorem witness_TrkSend_starts : opened.startsNow 0 { cls := Gate.mgmt, kind := .host hostFrame ((entry 10 []).tag 0 0) } = true := by
  have h1 : opened.canSend 0 = true := by decide +kernel
  have h2 : (opened.port 0).queue.isEmpty = true := by rfl
  have h3 : bitOf (opened.port 0).mask Gate.mgmt = true := by rfl
  have h4 : (opened.port 0).close = up.now + Config.mediumDelay up.free + 10 ^ 9 := by rfl
  have h5 : opened.mediumAt 0 false = max up.now 0 + Config.mediumDelay up.free := by rfl
  have h6 : wireNs (opened.txLen { cls := Gate.mgmt, kind := .host hostFrame ((entry 10 []).tag 0 0) }) = 67200 := by rfl
  have h7 : opened.now = up.now := by rfl
  have h8 : opened.quietAt 0 = none := by rfl
  simp only [State.startsNow, State.fits, State.endsInEntry, h1, h2, h3, h4, h5, h6, h7, h8]
  simp
  omega


/-- A node entry as CZN_NODETABLE carries it (R309). -/
def nodeBytes : List Byte := be 2 0 ++ [0, 2] ++ be 8 7 ++ be 4 2000 ++ be 2 0 ++ be 2 64 ++ be 4 0

theorem witness_CarzonCommands :
    (let s := trunked (ready 10) 0
     let e := entry 10 (le 2 0)
     let u := s.taken e
     s.admits Op.cznNode e = true ∧ u.sendsCarzon = true ∧ u.cfg.cznEntry (e.param 0 2) = some nodeEntry ∧
       s.admits Op.cznReseat e = true ∧ (u.cznNode (e.param 0 2)).state = 3) ∧
    (let s := trunked (ready 10) 0
     let e := entry 10 []
     s.admits Op.cznRekey e = true ∧ (s.taken e).keyPhase = 0 ∧ (s.taken e).radRekeying = false) ∧
    (let s := trunked (ready 10) 0
     let e := inEntry 10 [] nodeBytes
     let u := s.taken e
     s.admits Op.cznNodetable e = true ∧ e.bufLen.toNat % 24 = 0 ∧ passes (u.cznEntries e.buf) = true ∧
       u.conflicts none (((recordsOf 24 1 e.buf).map fun b => Change.table .cznNodes (24 * fieldBe b 0 2) b).flatMap Change.targets) = false) := by decide +kernel

/-- A HELLO of node 0 that verifies, before the node is admitted: its key, its body, its window. -/
def helloPasses (s : State) (f : TrunkFrame) (versions id : Nat) : Bool :=
  s.sendsCarzon && s.reachesCarzon f && s.formOk f && fieldBe f.bytes 15 1 == 0x01 && fieldBe f.bytes 18 2 == 0xFFFE && fieldBe f.bytes 30 2 == 28 &&
    s.helloKey (fieldBe f.bytes 17 1) 7 == some (nodeRootKey (be 32 5) 7) &&
    cznOpen 3 (keyD (nodeRootKey (be 32 5) 7)) 7 77 0 0x01 28 (slice f.bytes 14 18) (slice f.bytes 32 36) == some (helloBody versions id) &&
    (acceptCounter (s.helloWindows 7) true (fieldBe f.bytes 17 1 % 16) 77).1 == .new

/-- `trunked up 0` before node 0 is admitted. -/
def unheard : State := (trunked up 0).setCznNode 0 {}

theorem witness_CarzonFrames : ({ trunked up 0 with role := .standby } : State).sendsCarzon = false ∧
    (let f := helloFrame 0x0C 2 0xD8DA27B23DF39F6E
     let t := unheard.setHelloWindows 7 (acceptCounter (unheard.helloWindows 7) true 0 77).2
     helloPasses unheard f 0x0C 2 = true ∧ helloOk (helloBody 0x0C 2) = true ∧ t.helloId f (helloBody 0x0C 2) = 2 ∧ t.cfg.cznEntry 0 = some nodeEntry ∧ nodeEntry.uid = 7 ∧
       t.commonVersion nodeEntry 0x0C ≠ 0) := by decide +kernel

theorem witness_CarzonFrames_failed :
    (let f := helloFrame 0x0C 2 0xD8DA27B23DF39F6E
     let s := unheard.setF Reg.KEY_CZNSRC F.KEY_CZNSRC_VALID 0
     s.sendsCarzon = true ∧ s.reachesCarzon f = true ∧ s.formOk f = true ∧ s.helloKey (fieldBe f.bytes 17 1) 7 = none) ∧
    (let f := helloFrame 0x0C 2 0
     unheard.reachesCarzon f = true ∧ unheard.formOk f = true ∧ (unheard.helloKey (fieldBe f.bytes 17 1) 7).isSome = true ∧
       cznOpen 3 (keyD (nodeRootKey (be 32 5) 7)) 7 77 0 0x01 28 (slice f.bytes 14 18) (slice f.bytes 32 36) = none) := by decide +kernel

/-- A HELLO out of range; IDs 1 and 3, another UID in the table, no version in common. -/
theorem witness_CarzonFrames_refused :
    (helloPasses unheard (helloFrame 0x0C 0 0xDFA95077383DF4CF) 0x0C 0 = true ∧ helloOk (helloBody 0x0C 0) = false) ∧
    (let f := { helloFrame 0x0C 2 0xD8DA27B23DF39F6E with plcaId := 1 }
     helloPasses unheard f 0x0C 2 = true ∧ unheard.helloId f (helloBody 0x0C 2) = 1) ∧
    (let f := { helloFrame 0x0C 2 0xD8DA27B23DF39F6E with plcaId := 3 }
     helloPasses unheard f 0x0C 2 = true ∧ unheard.helloId f (helloBody 0x0C 2) = 3 ∧ unheard.cfg.cznEntry 1 = none) ∧
    (let s : State := { unheard with cfg := { unheard.cfg with czn := { unheard.cfg.czn with nodes := [{ nodeEntry with uid := 8 }] } } }
     helloPasses s (helloFrame 0x0C 2 0xD8DA27B23DF39F6E) 0x0C 2 = true ∧ s.cfg.cznEntry 0 = some { nodeEntry with uid := 8 }) ∧
    (helloPasses unheard (helloFrame 0x02 2 0x5AE4D22F0E51A0F9) 0x02 2 = true ∧ helloOk (helloBody 0x02 2) = true ∧ unheard.commonVersion nodeEntry 0x02 = 0) := by decide +kernel

/-- The frames that do not open, and the body and the state that ACK, REPORT and DELAY_REQ leave for their own rules. -/
theorem witness_CarzonFrames_none : ((trunked up 0).takeFrame reportFrame 0x08).2.isNone = true ∧ ((trunked up 0).takeFrame ackFrame 0x20).2.isNone = true ∧
    ((trunked up 0).takeFrame ackFrame 0x31).2.isNone = true := by decide +kernel

theorem witness_CarzonFrames_report : ((trunked up 0).takeFrame reportFrame 0x20).2.map (·.body) = some (be 8 0) := by decide +kernel

theorem witness_CarzonFrames_delay : ((trunked up 0).takeFrame delayFrame 0x31).2.map (fun c => (c.ver, c.body)) = some (3, be 4 5 ++ be 4 0) := by decide +kernel

theorem witness_CarzonFrames_ack : (let r := (trunked up 0).takeFrame ackFrame 0x08
    r.2.map (fun c => (c.node, c.kcls, c.body)) = some (0, 0, be 4 9 ++ [0x18, 0] ++ be 2 0) ∧ r.1.sendsCarzon = true ∧
      (r.1.cznNode 0).unacked.find? (fun u => u.counter == 9 && u.typ == 0x18 && (u.typ == 0x02) == ((0 : Nat) == 2)) = some ⟨9, 0x18, 2, [], 0, 1, []⟩) := by decide +kernel

/-- R286: an ACK that authenticates ends the transmission it names; one with a changed byte is counted as a failure and ends nothing. -/
theorem test_ack : (match exec (.ack ackFrame) (trunked up 0) with | .next t => (t.cznNode 0).unacked.isEmpty | _ => false) = true ∧
    (match exec (.ack { ackFrame with bytes := ackFrame.bytes.set 40 0 }) (trunked up 0) with
      | .next t => !(t.cznNode 0).unacked.isEmpty && (t.cznNode 0).authFail == 1 | _ => false) = true := by decide +kernel

/-- SealedFramesOpen: a payload shorter than a MIC. -/
theorem witness_SealedFramesOpen : ([1, 2, 3] : List Byte).length < 8 := by decide

theorem witness_CarzonTimers :
    (let s := trunked up 0
     s.sendsCarzon = true ∧ (s.cznNode 0).unacked = [⟨9, 0x18, 2, [], 0, 1, []⟩] ∧ 0 + 3 * ms s.lamp.tick ≤ s.now) ∧
    (let s := (trunked up 0).setPort 0 { beacons := true }
     s.canSend 0 = true ∧ (s.port 0).timeAt ≤ s.now ∧ (List.range 64).all (fun p => p == 0 || !s.canSend p) = true ∧
       (s.setPort 0 { s.port 0 with timeAt := s.now + 1 }).startsNow 0 { cls := Gate.time, kind := .time } = false) ∧
    (List.range 64).all (fun p => !(trunked up 0).canSend p) = true ∧
    (let s := trunked up 0
     s.cfg.cznEntry 0 = some nodeEntry ∧ 2 ≤ (s.cznNode 0).state ∧ (s.cznNode 0).state ≤ 4 ∧ (s.cznNode 0).lastHeard + ms nodeEntry.hold ≤ s.now ∧
       ((s.setCznNode 0 { s.cznNode 0 with cause := 0, reseatSeq := none, parts := [] }).nodeState 0 5).leads = true ∧
       (let t : State := { s with role := .standby }
        ((t.setCznNode 0 { t.cznNode 0 with cause := 0, reseatSeq := none, parts := [] }).nodeState 0 5).leads = false)) ∧
    (let s := (trunked up 0).setCznNode 0 { lastHeard := up.now }; s.now < (s.cznNode 0).lastHeard + ms nodeEntry.hold) ∧
    (someWait (.cznReseat 0 0)).kind = .cznReseat 0 0 := by decide +kernel

/-- A radio node: node 0 of channel 0, UID 9, listening every 10 s. -/
def radioEntry : RadioEntry := { n := 0, profile := 0, wakeOnOutput := false, uid := 9, heartbeat := 10, listen := 10, eventMin := 1, drift := 1, wakeMax := 4 }

/-- `s` with channel 0 enabled and node 0 SERVING on it. -/
def radioed (s : State) : State :=
  let s := (s.setF (Reg.RAD_CTL 0) F.RAD_CTL_ENABLE 1).wrN (Reg.RAD_BEACON 0) 1000
  let s : State := { s with cfg := { s.cfg with radio := { profiles := [[]], nodes := [radioEntry] } } }
  s.setRadNode 0 { state := 3, key := be 16 1 }

theorem witness_RadioCommands :
    (let s := radioed (ready 8)
     let e := entry 8 (le 2 0)
     let u := s.taken e
     s.admits Op.radNode e = true ∧ u.defaulted = false ∧ u.radEntry (e.param 0 2) = some radioEntry ∧ u.flag (Reg.RAD_CTL (radioChan (e.param 0 2))) F.RAD_CTL_ENABLE = true) ∧
    (let s := radioed (ready 8)
     let e := entry 8 (le 2 0 ++ [1])
     let u := s.taken e
     s.admits Op.radWake e = true ∧ e.param 2 1 = 1 ∧ u.leads = true ∧ u.radTx 0 = true ∧ u.wakeSpent 0 = false) ∧
    (let s := radioed (ready 8)
     let b := be 2 0 ++ [0, 0] ++ be 8 9 ++ be 2 10 ++ be 2 0 ++ be 2 1 ++ be 2 1 ++ [1] ++ [0, 0, 0]
     let e := inEntry 8 [] b
     let u := s.taken e
     s.admits Op.radNodetable e = true ∧ u.defaulted = false ∧ e.bufLen.toNat % 24 = 0 ∧ passes (u.radioEntries (e.buf.take e.bufLen.toNat)) = true ∧
       u.conflicts none (((recordsOf 24 1 e.buf).map fun b => Change.table .radioNodes (24 * fieldBe b 0 2) b).flatMap Change.targets) = false) ∧
    (radioed (ready 8)).admits Op.radChannel (entry 8 [3, 1]) = true ∧ ((radioed (ready 8)).taken (entry 8 [3, 1])).defaulted = false ∧
    ((radioed (ready 8)).taken (entry 8 [3, 1])).conflicts none [.reg (Reg.RAD_CTL 3)] = false := by decide +kernel

/-- A PSDU whose Carzon part says `typ`, with a form that R318 admits. -/
def radioFrame (typ : Nat) : RadioFrame :=
  let c := cznHeader 3 typ 0 0 0x1000 0xFF00 1 0 0 ++ List.replicate 8 0
  { chan := 0, ok := true, rssi := 0, psdu := [0x20] ++ be 2 (up.fld (Reg.RAD_PHY 0) F.RAD_PHY_SEGID) ++ [0] ++ c ++ [0, 0] }

theorem witness_RadioEvents :
    up.radOn 0 = false ∧ (radioed up).radOn 0 = true ∧ ({ chan := 0, ok := true, rssi := 0, psdu := List.replicate 7 0 } : RadioFrame).psdu.length < 8 ∧
    ([0x01, 0x20].all fun ty =>
      let f := radioFrame ty
      f.ok && decide (8 ≤ f.psdu.length ∧ f.psdu.length ≤ 255) && !bitOf (fieldBe f.psdu 0 1) 3 && fieldBe f.psdu 0 1 / 32 == 1 && fieldBe f.psdu 0 1 % 8 == 0 &&
        fieldBe f.psdu 1 2 == (radioed up).fld (Reg.RAD_PHY 0) F.RAD_PHY_SEGID && radFormOk (radioCarzon f) && fieldBe (radioCarzon f) 1 1 == ty &&
        !((radioed up).bump (Reg.RAD_RXFRAMES 0)).flag (Reg.RAD_CTL 0) F.RAD_CTL_CAP_ALL) = true ∧
    (let s := (radioed up).setRadNode 0 { state := 1 }; (s.radNode 0).state = 1 ∧ (s.radNode 0).helloAt + secs 5 ≤ s.now) ∧ ((radioed up).radNode 0).state ≠ 1 ∧
    (radioed up).radEntry 8191 = none ∧ (radioed up).radEntry 0 = some radioEntry := by decide +kernel

/-- `radioed` at wall time 20 s. -/
def listening (x : RadioNode) : State := { radioed up with clock := { mono := 20 * secUnits } } |>.setRadNode 0 x

theorem witness_ListenWindow :
    (let s := listening { state := 3, key := be 16 1 }
     s.lastWindow radioEntry = some 20000 ∧ s.radTx 0 = true ∧ (s.radNode 0).lastWin ≠ 20000 ∧
       (let t := if 1000000 ≤ s.radGuard 0 then s.radWakeOnly 0 else s
        (t.setRadNode 0 { t.radNode 0 with lastWin := 20000 }).radWaits 0 = false)) ∧
    (let s := listening { state := 3, key := be 16 1, listen := 2, pend := [(0x18, [])] }
     let t := if 1000000 ≤ s.radGuard 0 then s.radWakeOnly 0 else s
     let u := t.setRadNode 0 { t.radNode 0 with lastWin := 20000 }
     u.radWaits 0 = true ∧ (u.radNode 0).listen = 2) ∧
    (let s := (listening { state := 3, key := be 16 1, pend := [(0x18, [])] }).setRadChan 0 { beacons := [(0, 20 * 10 ^ 9)], busyTo := 0 }
     let t := if 1000000 ≤ s.radGuard 0 then s.radWakeOnly 0 else s
     let u := t.setRadNode 0 { t.radNode 0 with lastWin := 20000 }
     u.radWaits 0 = true ∧ (u.radNode 0).listen ≠ 2 ∧ max t.now (t.radChan 0).busyTo ≤ t.monoOfMs 20000 + s.radGuard 0 * 1000) ∧
    (let s := (listening { state := 3, key := be 16 1, pend := [(0x18, [])] }).setRadChan 0 { beacons := [(0, 20 * 10 ^ 9)], busyTo := 30 * 10 ^ 9 }
     let t := if 1000000 ≤ s.radGuard 0 then s.radWakeOnly 0 else s
     let u := t.setRadNode 0 { t.radNode 0 with lastWin := 20000 }
     u.radWaits 0 = true ∧ (u.radNode 0).listen ≠ 2 ∧ t.monoOfMs 20000 + s.radGuard 0 * 1000 < max t.now (t.radChan 0).busyTo) := by decide +kernel

theorem witness_StandbyBeaconMiss :
    let s (x : RadioChan) (n : Nat) : State := { (radioed up).setF (Reg.RAD_STATUS 0) F.RAD_STATUS_BCNMISS n with role := .standby } |>.setRadChan 0 x
    let k := ((s {} 0).wallMs - 100) / 1000 * 1000
    (s {} 0).radOn 0 = true ∧ (s {} 0).radPeriod 0 = 1000 ∧ ((s {} 0).radChan 0).beaconMs ≠ k ∧ (s {} 0).rdn.roleAt + ms 10 ≤ (s {} 0).monoOfMs k ∧
    (s {} 0).monoOfMs k ≤ ((s { heardAt := 9 * 10 ^ 9 } 0).radChan 0).heardAt + ms 10 ∧ ((s {} 0).radChan 0).heardAt = 0 ∧
    (((s {} 2).setRadChan 0 { beaconMs := k }).bumpSat (Reg.RAD_STATUS 0) F.RAD_STATUS_BCNMISS).fld (Reg.RAD_STATUS 0) F.RAD_STATUS_BCNMISS = 3 ∧
    (((s {} 1).setRadChan 0 { beaconMs := k }).bumpSat (Reg.RAD_STATUS 0) F.RAD_STATUS_BCNMISS).fld (Reg.RAD_STATUS 0) F.RAD_STATUS_BCNMISS < 3 ∧
    ((s {} 2).radChan 0).voted = false := by decide +kernel

theorem witness_RadioTimers :
    (let s : State := { radioed up with clock := { mono := 100 * secUnits } }
     s.radEntry 0 = some radioEntry ∧ (s.radNode 0).state = 3 ∧ (s.radNode 0).lastHeard + secs (2 * 10 + 30) ≤ s.now ∧ (s.radNode 0).lastHeard + secs (6 * 10) ≤ s.now ∧
       ((s.setRadNode 0 { s.radNode 0 with pend := [], unacked := [], outputs := [] }).radNodeState 0 5).leads = true) ∧
    (let s : State := { radioed up with role := .standby }
     ((s.setRadNode 0 { s.radNode 0 with pend := [], unacked := [], outputs := [] }).radNodeState 0 5).leads = false) ∧
    (radioed up).now < ((radioed up).radNode 0).lastHeard + secs (2 * 10 + 30) ∧ (someWait (.radWake 0 0)).kind = .radWake 0 0 ∧
    (radioed up).radio.nodes ≠ [] := by decide +kernel

/-- A current channel that is enabled. -/
def mtrCurrent : MtrCCfg := { enable := true, kind := 0, ref := 0, invert := false, scale := 0x3F800000, gain := 0x3F800000, phase := 0, creep := 0 }

/-- A closed interval record of channel 0. -/
def mtrRec : MtrRec where
  seq := 4
  chan := 0
  unitRole := 2
  flags := 0
  count := 1
  intervalS := 900
  cause := 4
  openStamp := 0
  closeStamp := 0
  measuredMs := 900000
  unmeasuredMs := 0
  energy := List.replicate 8 0
  iRms := 0
  vRms := 0
  freq := 0
  overload := 0
  calClose := 0

/-- `s` metering on channel 0, metering state `k`. -/
def metered (s : State) (k : Nat) : State :=
  let s := s.setF Reg.MTR_STATUS F.MTR_STATUS_STATE k
  { s with cfg := { s.cfg with meter := { s.cfg.meter with currents := [mtrCurrent] } } }

theorem witness_MeteringSamples : (up.setF Reg.MTR_STATUS F.MTR_STATUS_STATE 2).mtrState ≠ 1 ∧
    (let s := up.setF Reg.MTR_STATUS F.MTR_STATUS_STATE 1; s.mtrState = 1 ∧ s.mtrRole = true ∧ s.meter.stepped = false ∧ s.cfg.meter.currents = [] ∧ s.cfg.meter.pulses = []) ∧
    ((up.setMtrPulse 7 { on := some up.now }).mtrPulse 7).on = some up.now ∧ (up.mtrPulse 7).on = none ∧
    (let s := ((metered up 1).setMtrVolt 3 { n := 1 }).setF (Reg.MTR_V_STATUS 3) F.MTR_V_STATUS_QUALITY 0; s.mtrState = 1 ∧ s.mtrRole = true ∧ 0 < (s.mtrVolt 3).n ∧ s.mtrVq 3 ≠ Q.absent) ∧
    (let s := metered up 1; s.mtrState = 1 ∧ s.mtrRole = true ∧ s.meter.writeAt + secs 1 ≤ s.now) ∧
    (let s : State := { metered up 1 with meter := { writeAt := up.now } }; s.now < s.meter.writeAt + secs 1) ∧
    (let s : State := { metered up 1 with meter := { nextEnd := 0 } }; s.meter.unaligned = false ∧ s.meter.nextEnd ≤ s.utcNow) ∧
    (let s : State := { metered up 1 with meter := { unaligned := true, nextEnd := up.now } }; s.meter.unaligned = true ∧ s.meter.nextEnd ≤ s.now) ∧
    (let s : State := { metered up 1 with meter := { closed := [mtrRec, { mtrRec with seq := 5 }] } }
     s.mtrState = 1 ∧ (s.formRecord mtrRec).meter.closed.any (fun r => r.cause == 4) = true) ∧ up.meter.closed = [] := by decide +kernel

/-- A calibration entry of channel 31. -/
def calEntry : List Byte := le 4 31 ++ [1, 0, 0, 0] ++ le 4 0x3F800000 ++ le 4 0x3F800000 ++ List.replicate 20 0

theorem witness_MeteringCommands :
    (let s : State := { ready 0 with flash := { (ready 0).flash with archive := [mtrRec] } }
     let e := outEntry 0 (le 4 4 ++ le 4 1 ++ le 4 512) 65536
     s.admits Op.mtrArchive e = true ∧ (s.taken e).mtrCheck true = none ∧ e.param 8 4 = 512 ∧ e.bufOut = true ∧ e.bufLen.toNat = 128 * e.param 8 4 ∧
       ((s.taken e).flash.archive.filter fun r => decide (0 ≤ seqDiff r.seq (e.param 0 4)) && bitOf (e.param 4 4) r.chan).take (e.param 8 4) = [mtrRec]) ∧
    (let s := metered (ready 0) 1
     let e := entry 0 []
     s.admits Op.mtrClose e = true ∧ (s.taken e).mtrCheck false = none ∧ (s.taken e).mtrState = 1 ∧ (s.taken e).mtrOn ≠ []) ∧
    ((ready 0).admits Op.mtrClose (entry 0 []) = true ∧ ((ready 0).taken (entry 0 [])).mtrOn = []) ∧
    (let s := metered (ready 0) 1
     let e := inEntry 0 [] calEntry
     let u := s.taken e
     s.admits Op.mtrCaldata e = true ∧ e.txn = 0 ∧ u.mtrCheck false = none ∧ e.bufLen.toNat = 36 ∧ e.bufOut = false ∧
       (parseCals 1 e.buf).map (fun cs => cs.map (·.1)) = some [31] ∧
       u.conflicts none (((List.range 1).map fun i => Change.table .calibration (36 * fieldLe e.buf (36 * i) 4) (slice e.buf (36 * i) 36)).flatMap Change.targets) = false) ∧
    (let s := (ready 0).setF Reg.GLB_STATUS F.GLB_STATUS_MAINT 1
     let e := entry 0 ([31, 7] ++ List.replicate 6 0 ++ le 8 5)
     s.admits Op.mtrPreset e = true ∧ (s.taken e).mtrCheck false = none ∧ (s.taken e).maint = true ∧
       e.param 0 1 ≤ 31 ∧ e.param 1 1 ≤ 7) := by decide +kernel

/-- A record of sequence `q`. -/
def rec64 (q : Nat) : EvRec := { seq := q, stamp := 0, source := 0, typ := 0x1403, sev := 1, early := false, payload := [], check := 0 }

/-- `s` with record 9 in flash and record 10 buffered. -/
def recorded (s : State) : State :=
  { s with flash := { s.flash with events := { ring := [rec64 9] } }, evr := { next := 11, buffer := [rec64 10] } }

theorem witness_EventRecorder : up.evDue = false ∧ (let s : State := { recorded up with waits := [someWait (.evrSync 11 0)] }; s.evDue = true) ∧
    ({ up with evr := { winReady := false } } : State).evr.winReady = false ∧ up.evr.winReady = true ∧
    (let s := ((ringUp (recorded up) 4).wrN Reg.EVR_STREAM 10).setF Reg.EVR_CFG F.EVR_CFG_RING_MIN 1
     s.ringRoom 4 = true ∧ (s.recordsFrom (s.rdN Reg.EVR_STREAM)).find? (fun r => decide (s.fld Reg.EVR_CFG F.EVR_CFG_RING_MIN ≤ r.sev)) = some (rec64 10)) ∧
    up.ringRoom 4 = false ∧
    ((ready 0).admits Op.evrSync (entry 0 []) = true ∧ ((ready 0).taken (entry 0 [])).evr.buffer = [] ∧ ((ready 0).taken (entry 0 [])).evr.holding = false) ∧
    ((recorded (ready 0)).admits Op.evrSync (entry 0 []) = true ∧ ((recorded (ready 0)).taken (entry 0 [])).evr.buffer ≠ []) ∧
    (let s := (ready 0).setF Reg.GLB_STATUS F.GLB_STATUS_MAINT 1
     let e := entry 0 (le 4 0xC1EAC1EA)
     s.admits Op.evrClear e = true ∧ (s.taken e).maint = true ∧ e.param 0 4 = 0xC1EAC1EA ∧ (s.taken e).pfw = false) ∧
    (let s := recorded (ready 0)
     let e := outEntry 0 (le 4 9 ++ le 4 1024) 65536
     s.admits Op.evrRead e = true ∧ e.param 4 4 = 1024 ∧ e.bufOut = true ∧ e.bufLen.toNat = 64 * e.param 4 4 ∧
       ((s.taken e).recordsFrom (e.param 0 4)).take (e.param 4 4) = [rec64 9, rec64 10]) := by decide +kernel

/-- R399: a record is 64 bytes, the check its last four over the first sixty. -/
theorem test_evrec_bytes : (let s := up.event 0x1403 1 noInst [7]
    (s.evr.buffer.map fun r => (r.seq, r.typ, r.sev, r.bytes.length, fieldLe r.bytes 60 4 == crc32c (r.bytes.take 60)))) = [(0, 0x1403, 1, 64, true)] := by decide +kernel

theorem witness_EventNumbering : up.evr.holding = false ∧ up.evr.dropped = 0 ∧ up.evr.buffer.length + up.evr.offered.length < evCapacity ∧
    (let s : State := { up with evr := { holding := true } }; s.evr.holding = true ∧ s.evr.buffer.length + s.evr.offered.length < evCapacity) ∧
    ({ up with evr := { buffer := List.replicate evCapacity (rec64 0) } } : State).evr.dropped = 0 := by decide +kernel

/-- EventNumbering: a full buffer. -/
theorem witness_EventNumbering_full :
    (let s : State := { up with evr := { buffer := List.replicate evCapacity (rec64 0) } }; evCapacity ≤ s.evr.buffer.length + s.evr.offered.length) := by
  simp only [List.length_replicate]; exact Nat.le_add_right _ _

/-- Slot `k` holding a direct 16-byte key that seals (KIND 1, CCM), `s` in life-cycle state 1. -/
def keyed (s : State) (k use : Nat) (d : List Byte) : State :=
  let s := s.setF Reg.KEY_LC F.KEY_LC_STATE 1
  s.setKeySlot k { attr := F.KEY_SLOT_ATTR_VALID.set (F.KEY_SLOT_ATTR_KIND.set (BitVec.ofNat 32 use) (if d.length = 16 then 1 else 2)) 1, data := d }

theorem witness_KeyCommands :
    (let s := ((ready 12).setF Reg.KEY_LC F.KEY_LC_STATE 1).setF Reg.KEY_MODE F.KEY_MODE_MODE 2
     let attr := (F.KEY_SLOT_ATTR_KIND.set (1 : Word) 1).toNat
     let e := { inEntry 12 ([255, 0] ++ le 2 0 ++ le 4 attr) (be 16 1) with cmdId := 3 }
     let u := s.taken e
     s.admits Op.keySlotSet e = true ∧ e.txn = 0 ∧ e.bufOut = false ∧ e.param 0 1 = 255 ∧
       attrOk (u.fld Reg.KEY_MODE F.KEY_MODE_MODE) (BitVec.ofNat 32 (e.param 4 4)) e.buf = true ∧ u.keyWriteCheck (attrLock (u.keySlot 255).attr) true = none ∧
       u.conflicts none (Change.targets (.key 255 (.set (BitVec.ofNat 32 (e.param 4 4)) (e.param 2 2) e.buf))) = false) ∧
    (let s := keyed (ready 12) 255 1 (be 16 1)
     let e := entry 12 [255]
     let u := s.taken e
     s.admits Op.keySlotClear e = true ∧ e.txn = 0 ∧ u.keyWriteCheck (attrLock (u.keySlot (e.param 0 1)).attr) true = none ∧
       attrValid (u.keySlot (e.param 0 1)).attr = true ∧ u.conflicts none (Change.targets (.key (e.param 0 1) .clear)) = false) ∧
    (let s := ((ready 12).setF Reg.KEY_LC F.KEY_LC_STATE 1).setF Reg.KEY_MODE F.KEY_MODE_MODE 1
     let e := inEntry 12 [7, 0, 0, 0, 1] (be 32 1)
     let u := s.taken e
     s.admits Op.keyRootSet e = true ∧ e.txn = 0 ∧ e.param 0 1 = 7 ∧ e.buf.length = 32 ∧ e.bufOut = false ∧
       u.fld Reg.KEY_MODE F.KEY_MODE_MODE ≠ 0 ∧ u.keyWriteCheck (attrLock (u.keyRoot (e.param 0 1)).attr) true = none) ∧
    (let e := outEntry 12 (List.replicate 32 9 ++ [32]) 2048
     let u := (ready 12).taken e
     (ready 12).admits Op.keyAttest e = true ∧ e.param 32 1 = 32 ∧ e.bufOut = true ∧ u.lifeCycle ≠ 3 ∧ u.keys.zeroised = false) ∧
    (let e := outEntry 12 [] 2048; (ready 12).admits Op.keyIdcert e = true ∧ e.bufOut = true ∧ e.bufLen.toNat = 2048) ∧
    (let s := (((keyed (ready 12) 3 4 (be 32 5)).setF Reg.KEY_CZNSRC F.KEY_CZNSRC_VALID 1).setF Reg.KEY_CZNSRC F.KEY_CZNSRC_SLOT 3).setF Reg.GLB_STATUS F.GLB_STATUS_MAINT 1
     let e := outEntry 12 (le 8 7) 16
     let u := s.taken e
     s.admits Op.keyNodekey e = true ∧ e.bufOut = true ∧ e.bufLen.toNat = 16 ∧ u.maint = true ∧ u.czMaster = some (be 32 5)) := by decide +kernel

theorem witness_PatternCommands :
    (let e := entry 11 ([0, 0, 0, 0] ++ le 4 4096)
     let u := (ready 11).taken e
     (ready 11).admits Op.patBegin e = true ∧ e.param 0 1 = 0 ∧ u.trialOpen = false ∧ e.param 4 4 = 4096 ∧
       (entry 11 ([0, 0, 0, 0] ++ le 4 268435456)).param 4 4 = 268435456) ∧
    (let e := inEntry 11 ([0, 0, 0, 0] ++ le 4 1) [1, 2, 3]
     (ready 11).admits Op.patBlock e = true ∧ e.bufOut = false ∧ e.param 0 1 = 0) ∧
    (let s := withTxn 11 { phase := .opened, online := true, load := some { total := 8, blocks := [] } }
     let e (total : Nat) := tagged 11 ([1, 0, 0, 0] ++ le 4 total)
     [4, 67108864].all (fun n => s.admits Op.patBegin (e n) && (e n).param 0 1 == 1 && (match (s.taken (e n)).loadTxn (e n) with | .ok k => k == 0 | .error _ => false)
       && (e n).param 4 4 == n) = true ∧
     (let b : CmdEntry := { e 0 with bufLen := 3, buf := [1, 2, 3] }
      s.admits Op.patBlock b = true ∧ b.bufOut = false) ∧ s.admits Op.patQuery (tagged 11 [1]) = true ∧
     (s.taken (tagged 11 [1])).txnOf (tagged 11 [1]).txn.toNat = some 0 ∧ (((s.taken (tagged 11 [1])).txn 0).load.map (·.total)) = some 8) ∧
    (let s : State := { (ready 11).setPatState 1 1 with flash := { (ready 11).flash with pats := [(1, { load := some { total := 4096, blocks := [] } })] } }
     let e := entry 11 [0]
     let u := s.taken e
     s.admits Op.patQuery e = true ∧ u.patState u.loadSlot ≠ 0 ∧ ((u.pat u.loadSlot).load.map (·.total)) = some 4096) ∧
    (let s := ((ready 11).setF Reg.GLB_STATUS F.GLB_STATUS_RISER_OK 1).setF Reg.GLB_SUPPLY2 F.GLB_SUPPLY2_VBAK 65535 |>.setPatState 1 3
     let e := entry 11 [3]
     let u := s.taken e
     s.admits Op.patActivate e = true ∧ u.patState (otherSlot u.runSlot) = 3 ∧ u.activateBlock (bitOf (e.param 0 1) 0) = none) ∧
    (let s := (ready 11).setPatState 0 5; s.admits Op.patConfirm (entry 11 []) = true ∧ (s.taken (entry 11 [])).patState (s.taken (entry 11 [])).runSlot = 5) ∧
    ((ready 11).admits Op.patConfirm (entry 11 []) = true ∧ ((ready 11).taken (entry 11 [])).patState ((ready 11).taken (entry 11 [])).runSlot ≠ 5) := by decide +kernel

/-- PAT_VERIFY: an image that is too short to be one. -/
theorem witness_PatternVerify :
    let s : State := { (ready 11).setPatState 1 2 with flash := { (ready 11).flash with pats := [(1, { shipped := false, image := [1] })] } }
    let u := s.taken (entry 11 [])
    s.admits Op.patVerify (entry 11 []) = true ∧ u.patState u.loadSlot = 2 ∧ (u.pat u.loadSlot).shipped = false ∧
      u.patCheck (u.pat u.loadSlot).image = some St.badFormat := by decide +kernel

/-- `s` with both gigabit ports enabled and their links up. -/
def linked (s : State) : State :=
  [0, 1].foldl (fun (s : State) g => (s.setF (Reg.ETH_CTL g) F.ETH_CTL_ENABLE 1).setF (Reg.ETH_STATUS g) F.ETH_STATUS_LINK 1) s

/-- `s` as one unit of a pair whose peer has UID 9, under the link key 1 and the witness key 2, protocol `p`. -/
def peered (s : State) (p : Nat) : State :=
  let s := (keyed (keyed (linked s) 3 1 (be 16 1)) 4 2 (be 32 2)).setF Reg.RDN_CFG F.RDN_CFG_PROTO p |>.setF Reg.RDN_CFG F.RDN_CFG_LOSS_MS 32
  { s with cfg := { s.cfg with rdn := { s.cfg.rdn with mode := 1, peerUid := 9, peerSlot := 3, witnessUid := 11, witnessSlot := 4, pairId := 1 } } }

/-- Bytes under EtherType 0x88B6 in a clean frame to gigabit port `g` of `up`, padded, with four bytes for the FCS. -/
def ethFrame (g : Nat) (b : List Byte) : EthFrame :=
  { level := 0, fcsOk := true, bytes := be 4 (up.rdN (Reg.ETH_ADDRHI g 0) * 65536 % 2 ^ 32 + up.rdN (Reg.ETH_ADDRLO g 0) / 65536) ++ be 2 (up.rdN (Reg.ETH_ADDRLO g 0)) ++
    be 6 0 ++ be 2 0x88B6 ++ b ++ List.replicate (46 - b.length + 4) 0 }

/-- A frame of the peer as R430 lays it out, counter 5. -/
def peerFrame (p typ claim : Nat) (body : List Byte) : EthFrame :=
  let h := be 1 p ++ be 1 typ ++ [0, 0] ++ be 8 9 ++ be 4 5 ++ be 4 claim ++ be 2 body.length ++ [0, 0]
  ethFrame 0 (h ++ ccmSeal 8 (be 16 1) (be 8 9 ++ be 4 5 ++ [0xFE]) h body)

/-- What a frame of the peer leaves for its type's rule: its claim and body, and the state it is applied to. -/
def heard (s : State) (typ claim : Nat) (body : List Byte) : State × Option (Nat × List Byte) :=
  let r := s.peerFrom typ (peerFrame s.rdnProto typ claim body)
  (r.1, r.2.map fun m => (m.claim, m.body))

/-- A BEACON body of role `r`. -/
def beaconBody (r : Byte) : List Byte := r :: List.replicate 23 0

theorem witness_PeerFrames :
    (up.peerFrom 1 (peerFrame 4 1 0 (beaconBody 1))).2 = none ∧ ((peered up 4).peerFrom 1 (peerFrame 3 1 0 (beaconBody 1))).2 = none ∧
    (heard (peered up 4) 1 7 (beaconBody 1)).2 = some (7, beaconBody 1) ∧ (heard (peered up 4) 1 7 (beaconBody 1)).1.role ≠ .seeding ∧
    (let r := heard ((peered { up with role := .seeding } 4).setF Reg.RDN_STATUS F.RDN_STATUS_SEEDING_ACT 1) 1 7 (beaconBody 1)
     r.2 = some (7, beaconBody 1) ∧ r.1.role = .seeding ∧ r.1.flag Reg.RDN_STATUS F.RDN_STATUS_SEEDING_ACT = true) ∧ (beaconBody 1).length = 24 ∧ fieldBe (beaconBody 1) 0 1 ≠ 0 ∧
    (let r := heard (peered up 4) 1 7 (beaconBody 0)
     let v := r.1.noteBeacon 7 0 0
     r.2 = some (7, beaconBody 0) ∧ fieldBe (beaconBody 0) 0 1 = 0 ∧ v.role = .active ∧ v.claim < 7) ∧
    (let r := heard (peered up 4) 1 0 (beaconBody 0)
     r.2 = some (0, beaconBody 0) ∧ 0 ≤ (r.1.noteBeacon 0 0 0).claim) ∧
    (heard (peered up 4) 2 0 (List.replicate 12 0)).2 = some (0, List.replicate 12 0) ∧ ((peered up 4).peerFrom 2 (ethFrame 0 [])).2 = none := by decide +kernel

theorem witness_PeerFrames_mirror :
    (let s := peered { up with rdn := { mirror := true, unacked := [3] } } 4
     [(0 : Byte), 1].all (fun st => let b := be 4 3 ++ [st, 0, 0, 0]
       let r := heard s 3 0 b
       r.2 == some (0, b) && r.1.rdn.mirror) = true) ∧
    (let r := heard (peered up 4) 4 0 (be 4 0); r.2 = some (0, be 4 0) ∧ r.1.role = .active) ∧
    (let r := heard (peered { up with role := .standby } 4) 4 0 (be 4 0); r.2 = some (0, be 4 0) ∧ r.1.role ≠ .active) ∧
    (let s := (peered { up with role := .seeding } 4).setF Reg.RDN_STATUS F.RDN_STATUS_SEEDING_ACT 1
     [(0 : Nat), 1].all (fun last => let b := be 4 1 ++ be 4 0 ++ be 4 last
       let r := heard s 5 0 b
       let x : RdnParts := { seq := 0, batch := 1, last := last, parts := mapPut [] 0 [] }
       r.2 == some (0, b) && r.1.role == .seeding && r.1.flag Reg.RDN_STATUS F.RDN_STATUS_SEEDING_ACT && r.1.rdn.seed.isNone &&
         (x.complete == (last == 0))) = true) := by decide +kernel

theorem witness_PeerFrames_handover :
    (let b := be 8 (stampAdd up.stamp 10000000) ++ be 8 0
     let r := heard (peered { up with role := .standby } 4) 6 0 b
     r.2 = some (0, b) ∧ b.length = 16 ∧ r.1.role = .standby ∧ r.1.rdn.hand = none ∧ stampTime r.1.stamp < stampTime (fieldBe b 0 8)) ∧
    (let h : Handover := { old := true, t := up.now + 1000000, stamp := 0 }
     let r := heard (peered { up with rdn := { hand := some h } } 4) 7 0 (be 4 8)
     r.2 = some (0, be 4 8) ∧ r.1.rdn.hand = some h ∧ h.old = true ∧ h.passed = false ∧ r.1.now + 1000000 = h.t) ∧
    (let h : Handover := { old := true, t := 0, stamp := 0, passed := true }
     let r := heard (peered { up with rdn := { hand := some h } } 4) 8 0 (be 8 8)
     r.2 = some (0, be 8 8) ∧ r.1.rdn.hand = some h ∧ h.old = true ∧ h.passed = true ∧ r.1.rdn.req = none ∧ r.1.waits = []) ∧
    (heard (peered up 4) 9 0 (be 4 4)).2 = some (0, be 4 4) ∧
    (let r := heard (peered up 3) 0xA 0 (be 4 1); r.2 = some (0, be 4 1) ∧ r.1.role = .active ∧ r.1.rdnProto = 3) := by decide +kernel

/-- A witness message as R433 lays it out, counter 6. -/
def witFrame (typ uid : Nat) (body : List Byte) : EthFrame :=
  let f := [0x81] ++ be 1 typ ++ be 2 1 ++ be 8 uid ++ be 4 6 ++ be 2 body.length ++ [0, 0] ++ body
  ethFrame 1 (f ++ (hmac (be 32 2) f).take 16)

/-- What a witness message leaves for its type's rule at a unit, and at a witness. -/
def witHeard (s : State) (typ : Nat) (f : EthFrame) : Option (List Byte × State) := (s.fromWitness typ f).2.map fun b => (b, (s.fromWitness typ f).1)
def unitHeard (s : State) (f : EthFrame) : Option (WitMsg × PairCfg × Nat × State) := (s.witFrom f).2.map fun m => (m.1, m.2.1, m.2.2, (s.witFrom f).1)

/-- A request of reason `r` under nonce 8. -/
def asked (s : State) (r : Nat) (d : Bool) : State := { s with rdn := { s.rdn with req := some { nonce := 8, reason := r, first := 0, last := 0, trigger := 1, denied := d } } }

theorem witness_WitnessFrames_unit :
    (up.fromWitness 3 (witFrame 3 11 (be 4 8 ++ be 4 3))).2 = none ∧
    (let s := asked (peered { up with role := .standby } 4) 2 false
     let b := be 4 8 ++ be 4 3
     (witHeard s 3 (witFrame 3 11 b)).any (fun r => r.1 == b && ((r.2.sawEpoch 3).answered b).any (fun q => q.reason == 2) && (r.2.sawEpoch 3).role == .standby) = true) ∧
    (let s := asked (peered up 4) 1 false
     let b := be 4 8 ++ [2, 0, 0, 0]
     (witHeard s 4 (witFrame 4 11 b)).any (fun r => r.1 == b && (r.2.answered b).any (fun q => q.reason == 1)) = true) ∧
    (let s := peered { up with role := .standby } 4
     let b := be 4 3 ++ [0, 0, 0, 0]
     (witHeard s 5 (witFrame 5 11 b)).any (fun r => r.1 == b && !(((r.2.wrN Reg.RDN_WEPOCH 3).sawEpoch 3).contact.role == .active)) = true) ∧
    (let b := [1, 0, 0, 0]
     (witHeard (peered { up with role := .standby } 4) 7 (witFrame 7 11 b)).any (fun r => !(r.2.role == .active)) = true ∧
       (witHeard ((peered up 4).setF Reg.RDN_CFG F.RDN_CFG_RADIO_ROTATE 1) 7 (witFrame 7 11 b)).any (fun r => r.2.role == .active &&
         r.2.flag Reg.RDN_CFG F.RDN_CFG_RADIO_ROTATE && r.2.rdnProto != 3) = true) ∧
    (witHeard (peered up 4) 8 (witFrame 8 11 (be 4 3))).any (fun r => r.1 == be 4 3 && (r.2.sawEpoch 3).role == .active && decide ((r.2.sawEpoch 3).rdn.epoch < 3)) = true := by
  decide +kernel

/-- The pair that `witnessing` serves. -/
def pairOne : PairCfg := { pairId := 1, slot := 4, uids := [9, 10], addrs := [[0, 0, 0, 0, 0, 1], [0, 0, 0, 0, 0, 2]] }

/-- A witness of one pair, what it holds of it as given. -/
def witnessing (p : WitPair) : State :=
  let s := keyed (linked { up with role := .witness }) 4 2 (be 32 2)
  ({ s with cfg := { s.cfg with rdn := { s.cfg.rdn with mode := 2, pairs := [pairOne] } } } : State).setWitPair 1 p

theorem witness_WitnessFrames_witness :
    (up.witFrom (witFrame 1 9 (be 8 0))).2 = none ∧
    (unitHeard (witnessing {}) (witFrame 1 9 ([1, 0, 0, 0] ++ be 4 3))).any (fun r => r.1.typ == 1 && fieldBe r.1.body 0 1 != 0) = true ∧
    (let b := be 4 8 ++ [1, 0, 0, 0] ++ be 8 0
     (unitHeard (witnessing { units := [(0, { nonce := some 8 })] }) (witFrame 2 9 b)).any (fun r => r.1.typ == 2 &&
        ((r.2.2.2.witPair r.2.1.pairId).unit r.2.2.1).nonce == some (fieldBe r.1.body 0 4)) = true ∧
     (unitHeard (witnessing {}) (witFrame 2 10 b)).any (fun r => r.1.typ == 2 && r.2.2.1 == 1 &&
        ((r.2.2.2.witPair r.2.1.pairId).unit r.2.2.1).nonce != some (fieldBe r.1.body 0 4)) = true) ∧
    (unitHeard (witnessing { act := some 1 }) (witFrame 6 9 [0, 0, 0, 0])).any (fun r => r.1.typ == 6 && (r.2.2.2.witPair r.2.1.pairId).act == some 1) = true := by decide +kernel

theorem witness_RedundancyTimers :
    (let s : State := { up with rdn := { beaconAt := up.now + 1, healthAt := up.now + 1 } }; s.now < s.rdn.beaconAt ∧ s.now < s.rdn.healthAt) ∧
    ((peered up 4).peerReady = true ∧ (peered up 4).rdn.beaconAt ≤ up.now) ∧
    (let s := peered { up with role := .standby } 3; s.peerReady = true ∧ s.rdnProto = 3 ∧ s.role = .standby ∧ s.rdn.healthAt ≤ s.now) ∧
    (let s := (peered up 4).wrN Reg.RDN_ROTATE 1; s.rotateAt = some 1000000000 ∧ s.peerReady = true ∧ 1000000000 ≤ s.now) ∧ up.rotateAt = none ∧
    (let s : State := { up with rdn := { hand := some { old := true, t := up.now, stamp := 0 } } }; s.rdn.hand.isSome = true ∧ s.role = .active) ∧
    (let s : State := { up with role := .standby, rdn := { hand := some { old := false, t := up.now, stamp := 0 } } }; s.rdn.hand.isSome = true ∧ s.role = .standby) ∧
    up.rdn.hand = none ∧
    (let h : Handover := { old := false, t := up.now - ms 15, stamp := 0, passed := true }
     h.old = false ∧ h.passed = true ∧ h.delta = false ∧ h.t + ms 15 ≤ up.now) ∧
    (let s : State := { up with role := .standby, rdn := { hand := some { old := true, t := 0, stamp := 0, passed := true } } }
     s.rdn.req = none ∧ 0 + ms s.lamp.tick + s.rdN Reg.CYC_PERIOD * 1000 + ms 20 ≤ s.now ∧ s.role = .standby) ∧
    (let s := peered { up with role := .standby } 4
     s.peerReady = true ∧ s.peerLost = true ∧ s.role = .standby ∧ s.rdn.roleAt + s.lossNs ≤ s.now ∧ s.rdn.hand = none) ∧
    ({ peered up 4 with rdn := { peerAt := some up.now } } : State).peerLost = false := by decide +kernel

theorem witness_RedundancyTimers_requests :
    (let s := (peered up 4).setF Reg.RDN_TIMING F.RDN_TIMING_ISOLATE_MS 1000
     s.peerReady = true ∧ s.role = .active ∧ s.rdn.isolated = false ∧ s.rdn.contactAt + ms (s.fld Reg.RDN_TIMING F.RDN_TIMING_ISOLATE_MS) ≤ s.now) ∧
    (let s := peered { up with role := .seeding } 4
     s.peerReady = true ∧ s.role = .seeding ∧ s.rdn.listenAt + ms 100 ≤ s.now ∧ s.flag Reg.RDN_STATUS F.RDN_STATUS_SEEDING_ACT = false ∧ s.rdn.req = none ∧ s.peerSeen = false) ∧
    (let s := asked ((peered { up with role := .seeding } 4).setF Reg.RDN_CFG F.RDN_CFG_SELF_GRANT 1) 1 false
     s.rdn.req = some { nonce := 8, reason := 1, first := 0, last := 0, trigger := 1, denied := false } ∧ s.role = .seeding ∧ 0 + ms 200 ≤ s.now ∧ 0 + secs 1 ≤ s.now ∧
       s.flag Reg.RDN_CFG F.RDN_CFG_SELF_GRANT = true) ∧ up.rdn.req = none ∧ up.role ≠ .witness ∧
    (let s := witnessing { startAt := some (up.now - ms 100) }
     s.role = .witness ∧ s.cfg.rdn.pairs.find? (fun x => x.pairId == 1) = some pairOne ∧ (s.witPair 1).startAt = some (s.now - ms 100) ∧ (s.witPair 1).statusAt ≤ s.now) ∧
    (let s : State := { witnessing {} with rdn := { holdUntil := 1 } }; s.role = .witness ∧ s.rdn.holdUntil ≠ 0 ∧ s.rdn.holdUntil ≤ s.now) := by decide +kernel

theorem witness_RedundancyCommands :
    (let s : State := { peered (ready 0) 4 with lamp := { next := some 0 }, clock := { mono := 100 * secUnits } }
     let s : State := { s with rdn := { peerRole := 1, peerAt := some s.now, witAt := some s.now, peerSince := some 0, peerFlags := 1, mirror := true } }
     let e := entry 0 []
     let u := s.taken e
     s.admits Op.rdnRotate e = true ∧ u.paired = true ∧ u.role = .active ∧ u.rdnProto ≠ 3 ∧ u.rdn.hand = none ∧
       u.rotateBlock true = none ∧ u.lamp.next ≠ none) ∧
    (let s := (peered (ready 0) 4).setF Reg.GLB_STATUS F.GLB_STATUS_MAINT 1
     let u := s.taken (entry 0 [])
     s.admits Op.rdnYield (entry 0 []) = true ∧ u.paired = true ∧ u.role = .active ∧ u.maint = true) ∧
    (let s := peered { ready 0 with role := .standby } 4
     s.admits Op.rdnReseed (entry 0 []) = true ∧ (s.taken (entry 0 [])).paired = true ∧ (s.taken (entry 0 [])).role = .standby) := by decide +kernel

theorem witness_KeyEvents :
    (let s := up.setKeySlot 255 { prev := some (1, []), prevSends := true, sendAt := up.now, graceEnd := up.now }
     (s.keySlot 255).prev.isSome = true ∧ (s.keySlot 255).prevSends = true ∧ (s.keySlot 255).sendAt ≤ s.now ∧ (s.keySlot 255).graceEnd ≤ s.now) ∧
    (up.keySlot 0).prev = none ∧ ({ up with keys := { intent := some 3, lcAt := up.now - ms 1 } } : State).zeroiseDue = true ∧ up.zeroiseDue = false ∧
    (let s : State := { up with keys := { intent := some 3, zeroised := true, lcAt := up.now - secs 2 } }
     s.keys.intent = some 3 ∧ s.keys.zeroised = true ∧ s.keys.lcAt + secs 2 ≤ s.now) ∧ up.keys.intent = none ∧
    (someWait (.keyAttest [] 0 2048)).kind = .keyAttest [] 0 2048 ∧ up.noIdentity = false ∧ up.waits = [] := by decide +kernel

theorem witness_PatternEvents :
    (let s : State := (({ up with waits := [someWait (.patActivate false false)], role := .alone
                                  flash := { up.flash with pats := [(1, { shipped := true })] } } : State).setF Reg.GLB_STATUS F.GLB_STATUS_RISER_OK 1).setF
        Reg.GLB_SUPPLY2 F.GLB_SUPPLY2_VBAK 65535 |>.setPatState 1 3
     s.patState (otherSlot s.runSlot) = 3 ∧ s.slotVerifies (otherSlot s.runSlot) = true ∧ s.waits.find? (fun w => w.activates.isSome) = some (someWait (.patActivate false false)) ∧ s.pausing = false ∧ s.outage = false ∧ s.pauseStart ≤ s.now ∧
       (someWait (.patActivate false false)).activates = some (false, false) ∧ s.activateBlock false = none) ∧ up.waits = [] ∧ up.pausing = false ∧
    (let s := up.setPatState 0 5 |>.setF Reg.PAT_CFG F.PAT_CFG_AUTOCONFIRM 1 |>.setF Reg.PAT_CFG F.PAT_CFG_TRIAL_S 10
     s.patState s.runSlot = 5 ∧ s.flag Reg.PAT_CFG F.PAT_CFG_AUTOCONFIRM = true ∧ s.pausing = false ∧ s.outage = false ∧
       s.sup.trialAt + secs (max 1 (s.fld Reg.PAT_CFG F.PAT_CFG_TRIAL_S)) ≤ s.now) ∧ up.patState up.runSlot ≠ 5 ∧
    (let s := up.setF Reg.PAT_STATUS F.PAT_STATUS_PAUSING 1
     s.pausing = true ∧ s.sup.pauseBack = false ∧ s.patternTakes s.runSlot = false ∧ s.outage = false ∧ s.sup.flush = .idle) ∧
    (let s := (atStage 0xF).setF Reg.PAT_HALTGO F.PAT_HALTGO_RESULT 1; s.stage = 0xF ∧ s.fld Reg.PAT_HALTGO F.PAT_HALTGO_RESULT = 1) ∧ up.stage ≠ 0xF := by decide +kernel

/-! ### The cipher and the hash on published values -/

/-- FIPS 180-4's example: the digest of "abc". -/
theorem test_sha256 : sha256 (ascii "abc") = be 32 0xba7816bf8f01cfea414140de5dae2223b00361a396177a9cb410ff61f20015ad := by decide +kernel

/-- FIPS 197, appendix C.1. -/
theorem test_aes128 : (aes128 ((be 16 0x000102030405060708090a0b0c0d0e0f).map (·.toNat)) ((be 16 0x00112233445566778899aabbccddeeff).map (·.toNat))).map (BitVec.ofNat 8) =
    be 16 0x69c4e0d86a7b0430d8cdb78070b4c55a := by
  decide +kernel

/-- RFC 3610, packet vector 1. -/
theorem test_ccm : ccmSeal 8 (be 16 0xc0c1c2c3c4c5c6c7c8c9cacbcccdcecf) (be 13 0x00000003020100a0a1a2a3a4a5) (be 8 0x0001020304050607)
    (be 23 0x08090a0b0c0d0e0f101112131415161718191a1b1c1d1e) = be 31 0x588c979a61c663d2f066d0c2c0f989806d5f6b61dac38417e8d12cfdf926e0 := by decide +kernel

end Sys2Proof.Tests
end

section
/-!
SUPPORT. Every operation of the model keeps the canonical form of the register map (log entry 14) and the module's identity: one lemma per operation, in the order of
the model. The register map changes in three places alone: a register is stored (`State.wr`), a Function Level Reset drops entries, and module reset builds the map anew.
Everything else composes these, so a lemma's proof follows its operation: `h.f.g` is the proof about the state after `f` and then `g`.
-/
set_option autoImplicit false
namespace Sys2Proof.Machine

/-- State `s` keeps what `s₀` has of the module's identity and of the canonical form of the register map. -/
def State.Keeps (s s₀ : State) : Prop :=
  s.ident = s₀.ident ∧ (mapWf (regDefault s₀.ident) s₀.regs = true → mapWf (regDefault s₀.ident) s.regs = true)

/-- The state in a command's answer, completed or waiting, keeps what `s₀` has. -/
def Res.Keeps (s₀ : State) : Res → Prop
  | .done _ _ _ _ _ s => s.Keeps s₀
  | .wait _ s => s.Keeps s₀

/-- The next state, if that is the answer, keeps what `s₀` has. -/
def Answer.Keeps (s₀ : State) : Answer → Prop
  | .next s => s.Keeps s₀
  | .fault _ => True
  | .refused _ => True

/-- The state, if there is one, keeps what `s₀` has. -/
def KeepsOpt (s₀ : State) (x : Option State) : Prop := ∀ ⦃t : State⦄, x = some t → t.Keeps s₀

/-! ### Canonical maps -/

theorem mapSorted_filter {α : Type} (p : Nat × α → Bool) (m : List (Nat × α)) {lo : Nat} (h : mapSorted lo m = true) : mapSorted lo (m.filter p) = true := by
  induction m generalizing lo with
  | nil => rfl
  | cons e m ih =>
    simp only [mapSorted, Bool.and_eq_true, decide_eq_true_eq] at h
    rw [List.filter_cons]
    split
    · simp only [mapSorted, Bool.and_eq_true, decide_eq_true_eq]; exact ⟨h.1, ih h.2⟩
    · exact mapSorted_mono _ (by omega) (ih h.2)

theorem mapWf_filter {α : Type} [DecidableEq α] {d : Nat → α} {m : List (Nat × α)} (p : Nat × α → Bool) (h : mapWf d m = true) : mapWf d (m.filter p) = true := by
  simp only [mapWf, Bool.and_eq_true, List.all_eq_true, decide_eq_true_eq] at *
  exact ⟨mapSorted_filter p m h.1, fun e he => h.2 e (List.mem_of_mem_filter he)⟩

/-- A map built by writes is canonical. -/
theorem mapWf_foldl_mapSet {α β : Type} [DecidableEq α] {d : Nat → α} (k : β → Nat) (v : β → α) (l : List β) {m : List (Nat × α)} (h : mapWf d m = true) :
    mapWf d (l.foldl (fun m e => mapSet d m (k e) (v e)) m) = true := by
  induction l generalizing m with
  | nil => exact h
  | cons e l ih => exact ih (mapWf_mapSet _ _ _ _ h)

/-! ### How the proofs compose -/

theorem Answer.Keeps.next {s₀ s : State} (h : s.Keeps s₀) : Answer.Keeps s₀ (.next s) := h

theorem Answer.Keeps.ite {s₀ : State} {c : Prop} [Decidable c] {a b : Answer} (ha : Answer.Keeps s₀ a) (hb : Answer.Keeps s₀ b) :
    Answer.Keeps s₀ (if c then a else b) := by
  split
  exacts [ha, hb]

namespace KeepsOpt

variable {s₀ s : State}

theorem some (h : s.Keeps s₀) : KeepsOpt s₀ (some s) := by
  rintro t ⟨rfl⟩
  exact h

theorem none : KeepsOpt s₀ none := by rintro t ⟨⟩

theorem ite {c : Prop} [Decidable c] {a b : Option State} (ha : KeepsOpt s₀ a) (hb : KeepsOpt s₀ b) : KeepsOpt s₀ (if c then a else b) := by
  split
  exacts [ha, hb]

end KeepsOpt

namespace Res.Keeps

variable {s₀ s : State} {r : Res}

theorem done {status r0 r1 flags : Nat} {payload : List (Nat × List Byte)} (h : s.Keeps s₀) : (Res.done status r0 r1 flags payload s).Keeps s₀ := h

theorem wait {k : WaitKind} (h : s.Keeps s₀) : (Res.wait k s).Keeps s₀ := h

theorem stat {status : Nat} (h : s.Keeps s₀) : (Res.stat status s).Keeps s₀ := h

theorem okWith {r0 r1 : Nat} (h : s.Keeps s₀) : (Res.okWith r0 r1 s).Keeps s₀ := h

theorem staged {r0 : Nat} (h : s.Keeps s₀) : (Res.staged r0 s).Keeps s₀ := h

theorem ite {c : Prop} [Decidable c] {a b : Res} (ha : a.Keeps s₀) (hb : b.Keeps s₀) : (if c then a else b).Keeps s₀ := by
  split
  exacts [ha, hb]

end Res.Keeps

namespace State.Keeps

variable {s₀ s : State}

/-- Whatever else changes: identity and registers stand. -/
theorem frame {pending held waits cur rdData pcie rings rrLast txns txnTag txnRank hostMem outs clock cal calRun shadows evr flash sup fettle role cfg
    restoreStamp points forces subs noticeQ batch deferred ladles cyc lamp keys czn radio meter rdn free}
    (h : s.Keeps s₀) :
    State.Keeps (.mk pending held waits cur s.ident s.regs rdData pcie rings rrLast txns txnTag txnRank hostMem outs clock cal calRun shadows evr flash sup
      fettle role cfg restoreStamp points forces subs noticeQ batch deferred ladles cyc lamp keys czn radio meter rdn free) s₀ := h

section
variable {c : Prop} [Decidable c] {a b : State}

theorem ite (ha : a.Keeps s₀) (hb : b.Keeps s₀) : (if c then a else b).Keeps s₀ := by
  split
  exacts [ha, hb]

theorem ifThen (h : s.Keeps s₀) (ha : s.Keeps s₀ → a.Keeps s₀) : (if c then a else s).Keeps s₀ := .ite (ha h) h

theorem ifElse (h : s.Keeps s₀) (ha : s.Keeps s₀ → a.Keeps s₀) : (if c then s else a).Keeps s₀ := .ite h (ha h)

theorem ifBoth (h : s.Keeps s₀) (ha : s.Keeps s₀ → a.Keeps s₀) (hb : s.Keeps s₀ → b.Keeps s₀) : (if c then a else b).Keeps s₀ := .ite (ha h) (hb h)

end

theorem pair {α : Type} {x : α} (h : s.Keeps s₀) : (s, x).1.Keeps s₀ := h

theorem fstIte {α : Type} {c : Prop} [Decidable c] {p q : State × α} (hp : p.1.Keeps s₀) (hq : q.1.Keeps s₀) : (if c then p else q).1.Keeps s₀ := by
  split
  exacts [hp, hq]

theorem airIte {c : Prop} [Decidable c] {m n : RadAir} (hm : m.s.Keeps s₀) (hn : n.s.Keeps s₀) : (if c then m else n).s.Keeps s₀ := by
  split
  exacts [hm, hn]

theorem mouldIte {c : Prop} [Decidable c] {m n : Moulds} (hm : m.s.Keeps s₀) (hn : n.s.Keeps s₀) : (if c then m else n).s.Keeps s₀ := by
  split
  exacts [hm, hn]

/-- The state of a pair, once the pair is taken apart. -/
theorem ofFst {α : Type} {p : State × α} {t : State} {x : α} (h : p.1.Keeps s₀) (he : p = (t, x)) : t.Keeps s₀ := by
  subst he
  exact h

/-- A fold keeps what each of its steps keeps; `st` finds the state in the value folded. -/
theorem foldlOf {α β : Type} (st : β → State) {f : β → α → β} {l : List α} {b : β} (h : (st b).Keeps s₀)
    (hf : ∀ b x, (st b).Keeps s₀ → (st (f b x)).Keeps s₀) : (st (l.foldl f b)).Keeps s₀ := by
  induction l generalizing b with
  | nil => exact h
  | cons x l ih => exact ih (hf b x h)

theorem foldl {α : Type} {f : State → α → State} {l : List α} (h : s.Keeps s₀) (hf : ∀ t x, t.Keeps s₀ → (f t x).Keeps s₀) : (l.foldl f s).Keeps s₀ :=
  foldlOf (fun t => t) h hf

theorem foldlFst {α β : Type} {f : State × β → α → State × β} {l : List α} {b : β} (h : s.Keeps s₀)
    (hf : ∀ p x, p.1.Keeps s₀ → (f p x).1.Keeps s₀) : (l.foldl f (s, b)).1.Keeps s₀ :=
  foldlOf (b := (s, b)) Prod.fst h hf

theorem air {a : Nat} {b : Bool} (h : s.Keeps s₀) : (RadAir.mk s a b).s.Keeps s₀ := h

theorem mould {ns : List Nat} {bs : List Byte} {b : Bool} (h : s.Keeps s₀) : (Moulds.mk s ns bs b).s.Keeps s₀ := h

theorem foldlAir {α : Type} {f : RadAir → α → RadAir} {l : List α} {m : RadAir} (h : m.s.Keeps s₀) (hf : ∀ m x, m.s.Keeps s₀ → (f m x).s.Keeps s₀) :
    (l.foldl f m).s.Keeps s₀ :=
  foldlOf RadAir.s h hf

theorem foldlMould {α : Type} {f : Moulds → α → Moulds} {l : List α} {m : Moulds} (h : m.s.Keeps s₀) (hf : ∀ m x, m.s.Keeps s₀ → (f m x).s.Keeps s₀) :
    (l.foldl f m).s.Keeps s₀ :=
  foldlOf Moulds.s h hf

/-! ### Machine/Ops.lean -/

/-- The one operation that stores a register. -/
theorem wr {a : Nat} {v : Word} (h : s.Keeps s₀) : (s.wr a v).Keeps s₀ := by
  obtain ⟨hi, hw⟩ := h
  refine ⟨hi, fun ho => ?_⟩
  rw [← hi] at hw ho ⊢
  exact mapWf_mapSet _ _ _ _ (hw ho)

theorem setF {a : Nat} {f : Fld} {v : Nat} (h : s.Keeps s₀) : (s.setF a f v).Keeps s₀ := h.wr

theorem wrN {a v : Nat} (h : s.Keeps s₀) : (s.wrN a v).Keeps s₀ := h.wr

theorem bump {a n : Nat} (h : s.Keeps s₀) : (s.bump a n).Keeps s₀ := h.wrN

theorem bumpSat {a : Nat} {f : Fld} {n : Nat} (h : s.Keeps s₀) : (s.bumpSat a f n).Keeps s₀ := h.setF

theorem bumpF {a : Nat} {f : Fld} {n : Nat} (h : s.Keeps s₀) : (s.bumpF a f n).Keeps s₀ := h.setF

theorem nextFree (h : s.Keeps s₀) : s.nextFree.Keeps s₀ := h.frame

theorem emit {o : Out} (h : s.Keeps s₀) : (s.emit o).Keeps s₀ := h.frame

theorem setEth {g : Nat} {x : EthPort} (h : s.Keeps s₀) : (s.setEth g x).Keeps s₀ := h.frame

theorem ethOut {g : Nat} {o : Out} (h : s.Keeps s₀) : (s.ethOut g o).Keeps s₀ := .ite h (.ite h.setEth h.emit.bump)

theorem sendMsix {v : Nat} (h : s.Keeps s₀) : (s.sendMsix v).Keeps s₀ := .ite (.ite h.emit h.wrN) h

theorem setCause {k : Nat} (h : s.Keeps s₀) : (s.setCause k).Keeps s₀ := .ite h (h.wrN.ifThen (·.sendMsix))

theorem setHifErr {k : Nat} (h : s.Keeps s₀) : (s.setHifErr k).Keeps s₀ := h.wrN.setCause

theorem numberRecord {o : EvOffer} (h : s.Keeps s₀) : (s.numberRecord o).Keeps s₀ := h.frame

theorem reportDropped (h : s.Keeps s₀) : s.reportDropped.Keeps s₀ := .ite h.frame.numberRecord h

theorem offer {o : EvOffer} (h : s.Keeps s₀) : (s.offer o).Keeps s₀ := h.reportDropped.ifBoth (·.frame) fun ht => .ite ht.frame ht.numberRecord

theorem eventAt {stamp typ sev inst : Nat} {payload : List Byte} (h : s.Keeps s₀) : (s.eventAt stamp typ sev inst payload).Keeps s₀ := h.offer

theorem event {typ sev inst : Nat} {payload : List Byte} (h : s.Keeps s₀) : (s.event typ sev inst payload).Keeps s₀ := h.eventAt

theorem hostWrite {addr : Nat} {bytes : List Byte} {payload : Bool} (h : s.Keeps s₀) : (s.hostWrite addr bytes payload).Keeps s₀ := h.frame.emit

theorem setRing {n : Nat} {r : RingSt} (h : s.Keeps s₀) : (s.setRing n r).Keeps s₀ := h.frame

theorem writeback {n : Nat} (h : s.Keeps s₀) : (s.writeback n).Keeps s₀ := .ite (h.hostWrite.setRing.ifThen (·.sendMsix)) h.setRing

theorem advance {n : Nat} (h : s.Keeps s₀) : (s.advance n).Keeps s₀ := h.bump.setRing.ifThen (·.writeback)

theorem takeEntry {n : Nat} (h : s.Keeps s₀) : (s.takeEntry n).Keeps s₀ := h.advance.setRing.setF

theorem loseEntry {n k : Nat} (h : s.Keeps s₀) : (s.loseEntry n k).Keeps s₀ := h.setRing

theorem enqueue {n : Nat} {mk : Bool → List Byte} (h : s.Keeps s₀) : (s.enqueue n mk).Keeps s₀ := h.setRing

theorem post {n : Nat} {mk : Bool → List Byte} (h : s.Keeps s₀) : (s.post n mk).Keeps s₀ := .ite h.enqueue h.loseEntry

theorem postDia {kind unit : Nat} {payload : List Byte} (h : s.Keeps s₀) : (s.postDia kind unit payload).Keeps s₀ := h.setRing.post

theorem closeId {t : CmdTag} {status r0 r1 : Nat} {forget : Bool} (h : s.Keeps s₀) : (s.closeId t status r0 r1 forget).Keeps s₀ := .ite h h.setRing

theorem postCpl {t : CmdTag} {status flags r0 r1 : Nat} {payload : List (Nat × List Byte)} (h : s.Keeps s₀) :
    (s.postCpl t status flags r0 r1 payload).Keeps s₀ := .ite h (.ite h.setRing h)

theorem countPwr {t : CmdTag} {status : Nat} (h : s.Keeps s₀) : (s.countPwr t status).Keeps s₀ := .ite h.bump h

theorem dropSync {t : CmdTag} (h : s.Keeps s₀) : (s.dropSync t).Keeps s₀ := h.frame

theorem complete {t : CmdTag} {status r0 r1 flags : Nat} {payload : List (Nat × List Byte)} {forget : Bool} (h : s.Keeps s₀) :
    (s.complete t status r0 r1 flags payload forget).Keeps s₀ := h.closeId.countPwr.postCpl.dropSync

theorem syncPass {k : Nat} (h : s.Keeps s₀) : (State.syncPass k s).Keeps s₀ := by
  induction k generalizing s with
  | zero => exact h
  | succ k ih =>
    unfold State.syncPass
    split
    · exact h
    · exact ih h.frame.complete

theorem finish {w : Wait} {status r0 r1 : Nat} {payload : List (Nat × List Byte)} (h : s.Keeps s₀) : (s.finish w status r0 r1 payload).Keeps s₀ :=
  h.frame.complete.syncPass

theorem finishAll {p : Wait → Bool} {status r0 r1 : Nat} (h : s.Keeps s₀) : (s.finishAll p status r0 r1).Keeps s₀ := h.foldl fun _ _ ht => ht.finish

/-! ### Machine/HostCmd.lean -/

theorem stat {status : Nat} (h : s.Keeps s₀) : (Res.stat status s).Keeps s₀ := .done h

theorem okWith {r0 r1 : Nat} (h : s.Keeps s₀) : (Res.okWith r0 r1 s).Keeps s₀ := .done h

theorem staged {r0 : Nat} (h : s.Keeps s₀) : (Res.staged r0 s).Keeps s₀ := .done h

theorem setTxn {k : Nat} {t : TxnSlot} (h : s.Keeps s₀) : (s.setTxn k t).Keeps s₀ := h.frame

theorem nameTxn {tag : Nat} (h : s.Keeps s₀) : (s.nameTxn tag).Keeps s₀ := by
  unfold State.nameTxn
  split
  · exact .ite h.setTxn h
  · exact h

theorem repeated {t : CmdTag} (h : s.Keeps s₀) : KeepsOpt s₀ (s.repeated t) := by
  unfold State.repeated
  refine .ite .none ?_
  dsimp only
  split
  · exact .some h.setRing.countPwr.postCpl.dropSync
  · exact .ite (.some h.countPwr.postCpl.dropSync) .none

theorem settle {t : CmdTag} {r : Res} (h : r.Keeps s₀) : (Machine.settle t r).Keeps s₀ := by
  cases r with
  | done => exact (State.Keeps.complete h).syncPass
  | wait => exact State.Keeps.frame h

theorem named {tag : Nat} {r : Res} (h : r.Keeps s₀) : (r.named tag).Keeps s₀ := by
  cases r with
  | done => exact .done (.ite h (State.Keeps.nameTxn h))
  | wait => exact h

theorem staging {o : OpSpec} {e : CmdEntry} {r : Res} (h : r.Keeps s₀) : (o.staging e r).Keeps s₀ := .ite (named h) h

theorem runChecked {t : CmdTag} {op : Nat} {body : CmdTag → State → Res} (h : s.Keeps s₀) (hb : ∀ s, s.Keeps s₀ → (body t s).Keeps s₀) :
    (s.runChecked t op body).Keeps s₀ := by
  unfold State.runChecked
  split
  · next u he => exact (h.repeated he).syncPass
  · exact .ite (settle (.stat (.ite h h.setRing))) (settle (hb _ (.ite h h.setRing)))

theorem consume {o : OpSpec} {e : CmdEntry} {t : CmdTag} {body : CmdTag → State → Res} (h : s.Keeps s₀) (hb : ∀ t s, s.Keeps s₀ → (body t s).Keeps s₀) :
    (s.consume o e t body).Keeps s₀ := by
  unfold State.consume
  split
  · exact h.postCpl.dropSync.syncPass
  · exact h.runChecked fun _ hs => .ite (.stat hs) (.ite (.stat hs) (staging (hb _ _ hs)))

/-- A host command keeps what the body of its opcode keeps. -/
theorem runCmd {o : OpSpec} {c : Instr} {e : CmdEntry} {body : CmdTag → State → Res} (h : s.Keeps s₀) (hb : ∀ t s, s.Keeps s₀ → (body t s).Keeps s₀) :
    Answer.Keeps s₀ (runCmd o c e body s) := by
  unfold Machine.runCmd
  split
  · exact .next (h.frame.consume hb)
  · exact .ite (.ite (.next h.takeEntry.frame) (.next (h.takeEntry.consume hb))) (.next h)

/-! ### Machine/Txn.lean -/

theorem conflict (h : s.Keeps s₀) : (Res.conflict s).Keeps s₀ := .stat h.bump

theorem stageChanges {k : Nat} {cs : List Change} {r0 : Nat} (h : s.Keeps s₀) : (s.stageChanges k cs r0).Keeps s₀ :=
  .ite (.stat h) (.ite (.stat h) (.ite h.conflict (.ite (.staged h.setTxn) (.stat h))))

theorem freeRegs {regs : List Nat} {r : Res} (h : s.Keeps s₀) (hr : r.Keeps s₀) : (s.freeRegs regs r).Keeps s₀ := .ite h.conflict hr

theorem stageOr {e : CmdEntry} {c : Change} {now : State → Res} (h : s.Keeps s₀) (hn : ∀ t, t.Keeps s₀ → (now t).Keeps s₀) :
    (s.stageOr e c now).Keeps s₀ := by
  unfold State.stageOr
  split
  · exact h.stageChanges
  · exact .ite h.conflict (hn s h)

theorem stageTable {e : CmdEntry} {cs : List Change} {r0 : Nat} {now : State → State} (h : s.Keeps s₀) (hn : ∀ t, t.Keeps s₀ → (now t).Keeps s₀) :
    (s.stageTable e cs r0 now).Keeps s₀ := by
  unfold State.stageTable
  split
  · exact h.stageChanges
  · exact .ite h.conflict (.okWith (hn s h))

theorem closeTxn {k : Nat} (h : s.Keeps s₀) : (s.closeTxn k).Keeps s₀ := h.setTxn

theorem dropDeferred {k : Nat} (h : s.Keeps s₀) : (s.dropDeferred k).Keeps s₀ := h.frame

theorem abortTxn {k status : Nat} (h : s.Keeps s₀) : (s.abortTxn k status).Keeps s₀ := .ite h h.dropDeferred.closeTxn.bump.finishAll

theorem abortTxnEv {k cause : Nat} (h : s.Keeps s₀) : (s.abortTxnEv k cause).Keeps s₀ := .ite h h.event.abortTxn

theorem abortAll {cause : Nat} (h : s.Keeps s₀) : (s.abortAll cause).Keeps s₀ := h.foldl fun _ _ ht => ht.abortTxnEv

theorem abortForRole {dest : Role} (h : s.Keeps s₀) : (s.abortForRole dest).Keeps s₀ := h.foldl fun _ _ ht => .ite ht.abortTxnEv ht

theorem doomReg {off : Nat} (h : s.Keeps s₀) : (s.doomReg off).Keeps s₀ :=
  h.foldl fun _ _ ht => .ite (ht.dropDeferred.setTxn.bump.ifThen (·.finishAll)) ht

/-! ### Machine/Points.lean -/

theorem setPt {a : Nat} {r : PtRec} (h : s.Keeps s₀) : (s.setPt a r).Keeps s₀ := h.frame

theorem absorb {a : Nat} {f : Force} {r : PtRec} (h : s.Keeps s₀) : (s.absorb a f r).Keeps s₀ := h.frame.bump

theorem ptOp {a : PtOp} (h : s.Keeps s₀) : (s.ptOp a).Keeps s₀ := by
  unfold State.ptOp
  split
  · dsimp only
    split
    · exact h.absorb
    · exact h.setPt
  · split
    · exact h.absorb
    · exact h.setPt
  · exact h.setPt
  · exact h.frame.setPt
  · split
    · exact h
    · dsimp only
      split
      · exact h.frame.setPt
      · exact h.frame
  · split
    · exact h
    · exact h.frame

theorem notePoint {a : Nat} {old : PtView} {acc : List Notice} (h : s.Keeps s₀) : (s.notePoint a old acc).1.Keeps s₀ :=
  .fstIte h (h.foldlFst fun _ _ ht => ht.frame)

theorem noteOutput {a : Nat} {old : PtView} (h : s.Keeps s₀) : (s.noteOutput a old).Keeps s₀ :=
  .ite h (.ite (h.frame.ifThen (·.setPt)) (.ite (h.frame.ifThen (·.setPt)) (.ite (.ite h.setPt h) h)))

theorem applyVia {touched : List Nat} {f : State → State} (h : s.Keeps s₀) (hf : ∀ t, t.Keeps s₀ → (f t).Keeps s₀) : (s.applyVia touched f).Keeps s₀ :=
  (((hf _ h.frame).foldl fun _ _ ht => ht.noteOutput).foldlFst fun _ _ ht => ht.notePoint).bump.frame

theorem apply {ops : List PtOp} (h : s.Keeps s₀) : (s.apply ops).Keeps s₀ := h.applyVia fun _ ht => ht.foldl fun _ _ hu => hu.ptOp

/-! ### Machine/Keys.lean -/

theorem setKeySlot {k : Nat} {x : KeySlot} (h : s.Keeps s₀) : (s.setKeySlot k x).Keeps s₀ := h.frame

theorem setKeyRoot {k : Nat} {x : KeyRoot} (h : s.Keeps s₀) : (s.setKeyRoot k x).Keeps s₀ := h.frame

theorem touchKey {k : Nat} (h : s.Keeps s₀) : (s.touchKey k).Keeps s₀ := .ite h.frame.bumpSat h

theorem keySet {k : Nat} {attr : Word} {delay : Nat} {data : List Byte} (h : s.Keeps s₀) : (s.keySet k attr delay data).Keeps s₀ := h.setKeySlot.event

theorem keyClear {k : Nat} (h : s.Keeps s₀) : (s.keyClear k).Keeps s₀ := h.setKeySlot.event

theorem keyRootSet {r : Nat} {lock : Bool} {data : List Byte} (h : s.Keeps s₀) : (s.keyRootSet r lock data).Keeps s₀ := h.setKeyRoot.frame.event

theorem keyReject {target index cause : Nat} (h : s.Keeps s₀) : (s.keyReject target index cause).Keeps s₀ := h.setF.setF.event

theorem doomKey {k : Nat} (h : s.Keeps s₀) : (s.doomKey k).Keeps s₀ := h.foldl fun _ _ ht => .ite (ht.setTxn.bump.ifThen (·.finishAll)) ht

theorem zeroiseKeys (h : s.Keeps s₀) : s.zeroiseKeys.Keeps s₀ := h.frame.setF.setF

/-! ### Machine/Mirror.lean -/

theorem takeCounter {port last n : Nat} {t : State} (h : s.Keeps s₀) (he : s.takeCounter port last = some (n, t)) : t.Keeps s₀ := by
  simp only [State.takeCounter] at he
  split at he
  · cases he
  · split at he <;> cases he
    exacts [h.frame, h]

theorem sendPeer {typ : Nat} {body : List Byte} (h : s.Keeps s₀) : (s.sendPeer typ body).Keeps s₀ := by
  unfold State.sendPeer
  refine .ite h ?_
  split
  · next he => exact (h.takeCounter he).touchKey.frame.ethOut
  · exact h

theorem mirrorLag (h : s.Keeps s₀) : s.mirrorLag.Keeps s₀ := h.frame.event

theorem showUnacked (h : s.Keeps s₀) : s.showUnacked.Keeps s₀ := h.setF

theorem sendDelta {records : List (List Byte)} (h : s.Keeps s₀) : (s.sendDelta records).Keeps s₀ :=
  .ite h ((h.wrN.foldl fun _ _ ht => ht.sendPeer).ifElse fun ht => (ht.frame.ifThen (·.mirrorLag)).showUnacked)

theorem applyWith {ops : List PtOp} {cmds : List DeltaCmd} {more : List (List Byte)} (h : s.Keeps s₀) : (s.applyWith ops cmds more).Keeps s₀ :=
  h.apply.sendDelta

theorem applyM {ops : List PtOp} (h : s.Keeps s₀) : (s.applyM ops).Keeps s₀ := .ite h (.ite h.frame h.applyWith)

theorem applyHost {t : CmdTag} {op : PtOp} (h : s.Keeps s₀) : (s.applyHost t op).Keeps s₀ := .ite (.wait h.frame) (.okWith h.applyWith)

theorem applyDeferred (h : s.Keeps s₀) : s.applyDeferred.Keeps s₀ := by
  unfold State.applyDeferred
  refine h.frame.foldl fun _ _ ht => ?_
  split
  · split
    · exact ht.applyWith.finish
    · exact ht
  · exact ht
  · exact ht.applyWith

/-! ### Machine/Rings.lean -/

theorem ringErr {n : Nat} {f : Fld} (h : s.Keeps s₀) : (s.ringErr n f).Keeps s₀ := h.setF.setHifErr

theorem enableRing {n : Nat} (h : s.Keeps s₀) : (s.enableRing n).Keeps s₀ := .ite h.setF.wrN.wrN.wrN.setRing.setF.setF.writeback h.ringErr

theorem disableRing {n : Nat} (h : s.Keeps s₀) : (s.disableRing n).Keeps s₀ :=
  (h.setF.ifThen (·.writeback)).ifBoth (fun ht => ht.setRing.ifElse (·.loseEntry)) (·.setRing)

theorem writeRingCfg {n : Nat} {v : Word} (h : s.Keeps s₀) : (s.writeRingCfg n v).Keeps s₀ :=
  .ite h ((h.setF.setF.ifBoth (fun ht => .ite ht.ringErr ht) (·.setF.setF)).ifBoth (·.enableRing) fun ht => .ite ht.disableRing ht)

theorem writeRingAddr {a n : Nat} {v : Word} (h : s.Keeps s₀) : (s.writeRingAddr a n v).Keeps s₀ := .ite (.ite h h.ringErr) h.wr

theorem ringDoorbell {n : Nat} {v : Word} (h : s.Keeps s₀) : (s.ringDoorbell n v).Keeps s₀ := .ite h.ringErr (.ite h (.ite h.event.ringErr h.wr))

theorem writeDoorbell {n : Nat} {v : Word} (h : s.Keeps s₀) : (s.writeDoorbell n v).Keeps s₀ :=
  .ite h (h.wr.ifBoth (·.ringDoorbell) (·.setRing.setHifErr))

theorem becomeReady (h : s.Keeps s₀) : s.becomeReady.Keeps s₀ := h.setF.foldl fun _ _ ht => by split; exacts [ht.setRing.ifThen (·.ringDoorbell), ht]

theorem writeVersion {v : Word} (h : s.Keeps s₀) : (s.writeVersion v).Keeps s₀ := .ite h.setHifErr h.setF.setF

theorem sendPending (h : s.Keeps s₀) : s.sendPending.Keeps s₀ := .ite (h.foldl fun _ _ ht => .ite ht.wrN.emit ht) h

theorem resumeRings (h : s.Keeps s₀) : s.resumeRings.Keeps s₀ := (h.foldl fun _ _ ht => .ite ht.writeback ht).sendPending

theorem execBusMasterEnableChange {bme d3hot : Bool} (h : s.Keeps s₀) : Answer.Keeps s₀ (execBusMasterEnableChange bme d3hot s) :=
  .next (h.frame.ifElse fun ht => .ite ht.resumeRings (ht.foldl fun _ _ hu => .ite hu.setRing hu))

theorem muteAll (h : s.Keeps s₀) : s.muteAll.Keeps s₀ := h.frame

/-- A Function Level Reset drops entries of the map; what is left is canonical. -/
theorem flr {linkDown : Bool} (h : s.Keeps s₀) : (s.flr linkDown).Keeps s₀ :=
  setF ⟨h.1, fun ho => mapWf_filter _ (h.2 ho)⟩

theorem execFuncReset {linkDown : Bool} (h : s.Keeps s₀) : Answer.Keeps s₀ (execFuncReset linkDown s) :=
  .next (h.flr.abortAll.event.setHifErr.ifThen (·.wrN.wrN))

theorem writeDevCtl {v : Word} (h : s.Keeps s₀) : (s.writeDevCtl v).Keeps s₀ := h.frame

theorem writeMsixCtl {v : Word} (h : s.Keeps s₀) : (s.writeMsixCtl v).Keeps s₀ := h.frame.sendPending

theorem execMsixUnmask {enable : Bool} {vector : Nat} (h : s.Keeps s₀) : Answer.Keeps s₀ (execMsixUnmask enable vector s) :=
  .next ((ite h.frame (.ite h.wrN h)).sendPending)

theorem execPcieLinkTrained {width speed : Nat} (h : s.Keeps s₀) : Answer.Keeps s₀ (execPcieLinkTrained width speed s) :=
  .ite (.next h.wrN.wrN) (.next h)

theorem moveOut {n : Nat} (h : s.Keeps s₀) : (s.moveOut n).1.Keeps s₀ := by
  unfold State.moveOut
  dsimp only
  split
  · exact h
  · split
    · exact h.hostWrite.setRing
    · split
      · exact h.setRing
      · exact .fstIte h.hostWrite.setRing.advance h.hostWrite.setRing

theorem moveIn {n : Nat} {buf : Nat × Nat} (h : s.Keeps s₀) : (s.moveIn n buf).1.Keeps s₀ := by
  unfold State.moveIn
  dsimp only
  split <;> exact h.setRing

theorem slag {n sq cause offset : Nat} (h : s.Keeps s₀) : (s.slag n sq cause offset).Keeps s₀ :=
  h.setF.setF.bump.postDia.ifElse (·.setF.writeback.setCause.postDia.event)

theorem slagNext {n cause offset : Nat} {entry : Option (Half × CmdEntry)} (h : s.Keeps s₀) : (s.slagNext n cause offset entry).Keeps s₀ :=
  h.advance.setRing.countPwr.postCpl.slag

theorem refuseEntry {op : Nat} {e : CmdEntry} {st : Nat} (h : s.Keeps s₀) : (s.refuseEntry op e st).Keeps s₀ := h.takeEntry.postCpl

theorem execRunnerReadFail {n cause offset : Nat} {entry : Option (Half × CmdEntry)} (h : s.Keeps s₀) :
    Answer.Keeps s₀ (execRunnerReadFail n cause offset entry s) := by
  unfold Machine.execRunnerReadFail
  refine .next ?_
  exact .ite h (by split; exacts [h.slagNext, .ite h (by split; exacts [h.refuseEntry, .ite h h.slagNext])])

theorem resumeRunner {n : Nat} (h : s.Keeps s₀) : (s.resumeRunner n).Keeps s₀ := h.setF.setF.ifThen (·.writeback)

theorem execWritebackTimer {n : Nat} (h : s.Keeps s₀) : Answer.Keeps s₀ (execWritebackTimer n s) := .next (.ite h.writeback h)

theorem tablePending {n : Nat} (h : s.Keeps s₀) : (s.tablePending n).Keeps s₀ := h.setF

theorem requestFlush {n : Nat} (h : s.Keeps s₀) : (s.requestFlush n).Keeps s₀ := h.setRing

theorem discardPackets {n status : Nat} (h : s.Keeps s₀) : (s.discardPackets n status).Keeps s₀ :=
  (h.frame.foldl fun _ _ ht => by split; exacts [ht.tablePending, ht]).foldl fun _ _ ht => ht.complete

theorem discardOut {n : Nat} (h : s.Keeps s₀) : (s.discardOut n).Keeps s₀ := h.setRing.ifElse (·.loseEntry)

theorem execTundishFlushApply {n : Nat} (h : s.Keeps s₀) : Answer.Keeps s₀ (execTundishFlushApply n s) :=
  .ite (.next h) (.next ((h.setRing.ifBoth (·.discardPackets) (·.discardOut)).finishAll.syncPass))

theorem execTunFlush {e : CmdEntry} (h : s.Keeps s₀) : Answer.Keeps s₀ (execTunFlush e s) :=
  h.runCmd fun _ _ hs => .ite (.stat hs) (.wait hs.requestFlush)

theorem execRunnerResume {e : CmdEntry} (h : s.Keeps s₀) : Answer.Keeps s₀ (execRunnerResume e s) :=
  h.runCmd fun _ _ hs => .ite (.stat hs) (.ite (.stat hs.resumeRunner) (.stat hs))

theorem execUnknownOpcode {op : Half} {e : CmdEntry} (h : s.Keeps s₀) : Answer.Keeps s₀ (execUnknownOpcode op e s) := .next (.ite h.refuseEntry h)

theorem execNop {e : CmdEntry} (h : s.Keeps s₀) : Answer.Keeps s₀ (execNop e s) := h.runCmd fun _ _ hs => .stat hs

theorem execEcho {e : CmdEntry} (h : s.Keeps s₀) : Answer.Keeps s₀ (execEcho e s) := h.runCmd fun _ _ hs => .okWith hs

theorem withdraw {w : Wait} (h : s.Keeps s₀) : (s.withdraw w).Keeps s₀ := by
  unfold State.withdraw
  dsimp only
  split
  · exact h.dropDeferred.setTxn
  · exact h.frame.wrN
  · exact h.frame.tablePending
  · exact .ite h.frame.wrN.wrN h
  · exact .ite h.frame.setF h
  · exact .ite h.frame h
  · exact h.frame
  · exact h

theorem cancel {ring : Nat} {id : Word} (h : s.Keeps s₀) : (s.cancel ring id).Keeps s₀ := by
  unfold State.cancel
  split
  · exact .stat h.frame.complete
  · split
    · exact .stat h
    · exact .ite (.stat h.withdraw.finish) (.stat h)

theorem execCancel {e : CmdEntry} (h : s.Keeps s₀) : Answer.Keeps s₀ (execCancel e s) := h.runCmd fun _ _ hs => hs.cancel

theorem execSync {e : CmdEntry} (h : s.Keeps s₀) : Answer.Keeps s₀ (execSync e s) :=
  .ite h.execUnknownOpcode (h.runCmd fun _ _ hs => .ite (.stat hs) (.wait hs))

theorem execChangeNoticePost (h : s.Keeps s₀) : Answer.Keeps s₀ (execChangeNoticePost s) := .next (h.frame.foldl fun _ _ ht => ht.post)

/-! ### Machine/TxnCmd.lean -/

theorem openTxn {txn : Nat} {online isLocal : Bool} (h : s.Keeps s₀) : (s.openTxn txn online isLocal).Keeps s₀ := by
  unfold State.openTxn
  refine .ite (.stat h) ?_
  split
  · exact .stat h
  · split
    · exact .stat h
    · exact .ite (.stat h) (.okWith h.frame.setTxn)

theorem execTxnOpen {e : CmdEntry} (h : s.Keeps s₀) : Answer.Keeps s₀ (execTxnOpen e s) := h.runCmd fun _ _ hs => hs.openTxn

theorem execTxnAbort {e : CmdEntry} (h : s.Keeps s₀) : Answer.Keeps s₀ (execTxnAbort e s) :=
  h.runCmd fun _ _ hs => by split; exacts [.stat hs, .stat hs.abortTxn]

theorem execTxnRegwr {e : CmdEntry} (h : s.Keeps s₀) : Answer.Keeps s₀ (execTxnRegwr e s) := by
  unfold Machine.execTxnRegwr
  refine h.runCmd fun _ _ hs => ?_
  split
  · exact .stat hs
  · exact .ite (.stat hs) (.ite (.stat hs) hs.stageChanges)

theorem execTxnQuery {e : CmdEntry} (h : s.Keeps s₀) : Answer.Keeps s₀ (execTxnQuery e s) :=
  h.runCmd fun _ _ hs => by split; exacts [.stat hs, .okWith hs]

theorem execTxnIdleTimeout {slot : Nat} (h : s.Keeps s₀) : Answer.Keeps s₀ (execTxnIdleTimeout slot s) := .next (.ite h.abortTxnEv h)

theorem execTxnWaitTimeout {slot : Nat} (h : s.Keeps s₀) : Answer.Keeps s₀ (execTxnWaitTimeout slot s) := by
  unfold Machine.execTxnWaitTimeout
  dsimp only
  split
  · exact .next h
  · exact .next (.ite h.abortTxn h)

/-! ### Machine/PointCmd.lean -/

theorem hostPoint {t : CmdTag} {e : PwrEntry} {quality : Nat} (h : s.Keeps s₀) : (s.hostPoint t e quality).Keeps s₀ := by
  unfold State.hostPoint
  refine .ite (.stat h) ?_
  split
  · exact .ite h.conflict (.stat h)
  · split
    · exact h.stageChanges
    · exact h.applyHost

theorem runPwr {e : PwrEntry} (h : s.Keeps s₀) : Answer.Keeps s₀ (runPwr e s) := by
  unfold Machine.runPwr
  refine .ite ?_ (.next h)
  refine .ite (.next h.takeEntry.bump.postCpl) ?_
  dsimp only
  split
  · next u he =>
    exact .next ((h.takeEntry.repeated he).syncPass)
  · exact .ite (.next (settle (.stat (h.takeEntry.ifElse (·.setRing))))) (.next (settle (named ((h.takeEntry.ifElse (·.setRing)).hostPoint))))

theorem execWrite {e : PwrEntry} (h : s.Keeps s₀) : Answer.Keeps s₀ (execWrite e s) := h.runPwr

theorem execWriteQuality {e : PwrEntry} (h : s.Keeps s₀) : Answer.Keeps s₀ (execWriteQuality e s) := h.runPwr

theorem execPntRead {e : CmdEntry} (h : s.Keeps s₀) : Answer.Keeps s₀ (execPntRead e s) := h.runCmd fun _ _ hs => .ite (.stat hs) (.done hs)

theorem execPntReadList {e : CmdEntry} (h : s.Keeps s₀) : Answer.Keeps s₀ (execPntReadList e s) := h.runCmd fun _ _ hs => .ite (.stat hs) (.done hs)

theorem forcePoint {t : CmdTag} {e : CmdEntry} (h : s.Keeps s₀) : (s.forcePoint t e).Keeps s₀ := by
  unfold State.forcePoint
  dsimp only
  split
  · exact .ite h.conflict (.stat h)
  · exact .ite (.stat h) (.ite (.stat h) (by split; exacts [h.stageChanges, h.applyHost]))

theorem execPntForce {e : CmdEntry} (h : s.Keeps s₀) : Answer.Keeps s₀ (execPntForce e s) := h.runCmd fun _ _ hs => hs.forcePoint

theorem unforcePoint {t : CmdTag} {e : CmdEntry} (h : s.Keeps s₀) : (s.unforcePoint t e).Keeps s₀ := by
  unfold State.unforcePoint
  refine .ite (.stat h) ?_
  refine .ite (.stat h) ?_
  refine .ite (.stat h) ?_
  refine .ite (.stat h) ?_
  exact .ite h.conflict (by split; exacts [.stat h, by split; exacts [h.stageChanges, h.applyHost]])

theorem execPntUnforce {e : CmdEntry} (h : s.Keeps s₀) : Answer.Keeps s₀ (execPntUnforce e s) := h.runCmd fun _ _ hs => hs.unforcePoint

theorem execPntForceList {e : CmdEntry} (h : s.Keeps s₀) : Answer.Keeps s₀ (execPntForceList e s) := h.runCmd fun _ _ hs => .ite (.stat hs) (.done hs)

theorem execPntSubscribe {e : CmdEntry} (h : s.Keeps s₀) : Answer.Keeps s₀ (execPntSubscribe e s) :=
  h.runCmd fun _ _ hs => .ite (.stat hs) (.ite (.stat hs) (.okWith hs.frame.bump.frame))

theorem execPntUnsubscribe {e : CmdEntry} (h : s.Keeps s₀) : Answer.Keeps s₀ (execPntUnsubscribe e s) :=
  h.runCmd fun _ _ hs => .ite (.stat hs.frame) (.stat hs)

/-! ### Machine/EventRec.lean -/

theorem writeEvents (h : s.Keeps s₀) : s.writeEvents.Keeps s₀ := h.frame

theorem execEvrFlashWrite {ok : Bool} (h : s.Keeps s₀) : Answer.Keeps s₀ (execEvrFlashWrite ok s) :=
  .ite (.next h) (.ite (.next h.writeEvents.finishAll.reportDropped) (.next ((h.frame.ifThen (·.frame.event)).ifThen (·.finishAll))))

theorem startWindow {from_ : Nat} (h : s.Keeps s₀) : (s.startWindow from_).Keeps s₀ := h.frame

theorem nextWindow (h : s.Keeps s₀) : s.nextWindow.Keeps s₀ := h.startWindow

theorem execEvrWindowReady (h : s.Keeps s₀) : Answer.Keeps s₀ (execEvrWindowReady s) := .next (.ite h h.frame)

theorem execEvsDelivery (h : s.Keeps s₀) : Answer.Keeps s₀ (execEvsDelivery s) := .next (.ite (by split; exacts [h.enqueue.wrN, h]) h)

theorem execEvrSync {e : CmdEntry} (h : s.Keeps s₀) : Answer.Keeps s₀ (execEvrSync e s) := h.runCmd fun _ _ hs => .ite (.stat hs) (.wait hs)

theorem clearEvents (h : s.Keeps s₀) : s.clearEvents.Keeps s₀ := h.frame.nextFree.numberRecord.reportDropped

theorem execEvrClear {e : CmdEntry} (h : s.Keeps s₀) : Answer.Keeps s₀ (execEvrClear e s) :=
  h.runCmd fun _ _ hs => .ite (.stat hs) (.ite (.stat hs) (.ite (.stat hs) (.stat hs.clearEvents)))

theorem execEvrRead {e : CmdEntry} (h : s.Keeps s₀) : Answer.Keeps s₀ (execEvrRead e s) :=
  h.runCmd fun _ _ hs => .ite (.stat hs) (by split; exacts [.stat hs, .done hs])

/-! ### Machine/Gigabit.lean -/

theorem post9 {port plca reason stamp : Nat} {kept whole : List Byte} (h : s.Keeps s₀) : (s.post9 port plca reason stamp kept whole).Keeps s₀ :=
  h.frame.post

theorem sendPause {g quanta : Nat} (h : s.Keeps s₀) : (s.sendPause g quanta).Keeps s₀ := h.emit.bump.setF

theorem flowControl {g level : Nat} (h : s.Keeps s₀) : (s.flowControl g level).Keeps s₀ := .ite h (.ite h.sendPause (.ite h.sendPause h))

theorem ethIn {g etype : Nat} {f : EthFrame} (h : s.Keeps s₀) : (s.ethIn g etype f).1.Keeps s₀ := by
  unfold State.ethIn
  refine .fstIte h ?_
  refine .fstIte h.flowControl.bump ?_
  refine .fstIte h.flowControl.bump ?_
  exact .fstIte ((h.flowControl.bump.ifThen (·.post9)).bump) (.fstIte (h.flowControl.bump.ifThen (·.post9)) (h.flowControl.bump.ifThen (·.post9)))

/-! ### Machine/Time.lean -/

theorem setServo {n : Nat} (h : s.Keeps s₀) : (s.setServo n).Keeps s₀ := .ite h h.setF.event

theorem loadIncr {v : Nat} (h : s.Keeps s₀) : (s.loadIncr v).Keeps s₀ := h.frame.wrN.wrN

theorem servoIncrement (h : s.Keeps s₀) : s.servoIncrement.Keeps s₀ := h.nextFree.loadIncr

theorem dropMaster (h : s.Keeps s₀) : s.dropMaster.Keeps s₀ := by
  unfold State.dropMaster
  split
  · exact .ite h h.frame.setF
  · exact h

theorem refreshServo (h : s.Keeps s₀) : s.refreshServo.Keeps s₀ := by
  unfold State.refreshServo
  refine .ite h.setF.dropMaster.setServo ?_
  split
  · exact h.setF.dropMaster.ifElse (·.setServo)
  · exact h.setF.dropMaster.ifBoth (·.servoIncrement.setServo) fun hu => .ite hu hu.setServo

theorem ignoreTime (h : s.Keeps s₀) : s.ignoreTime.Keeps s₀ := h.setF

theorem writeIncrHi {v : Word} (h : s.Keeps s₀) : (s.writeIncrHi v).Keeps s₀ := .ite h.ignoreTime h.loadIncr

theorem stepWall {secs_ ns_ : Int} {by_ : Nat} (h : s.Keeps s₀) : (s.stepWall secs_ ns_ by_).Keeps s₀ := h.frame.bump.eventAt.refreshServo

theorem goStep (h : s.Keeps s₀) : s.goStep.Keeps s₀ := .ite h.ignoreTime (.ite h.stepWall h.setF)

theorem execTimStep {e : CmdEntry} (h : s.Keeps s₀) : Answer.Keeps s₀ (execTimStep e s) :=
  h.runCmd fun _ _ hs => .ite (.stat hs) (.ite (.stat hs) (.okWith hs.stepWall))

theorem execTimSetincr {e : CmdEntry} (h : s.Keeps s₀) : Answer.Keeps s₀ (execTimSetincr e s) :=
  h.runCmd fun _ _ hs => .ite (.stat hs) (hs.freeRegs (.wait hs.loadIncr))

theorem setUtcOff {off leap : Nat} (h : s.Keeps s₀) : (s.setUtcOff off leap).Keeps s₀ := h.setF.setF.setF

theorem execTimLeap {e : CmdEntry} (h : s.Keeps s₀) : Answer.Keeps s₀ (execTimLeap e s) :=
  h.runCmd fun _ _ hs => .ite (.stat hs) (.ite (.stat hs) (hs.freeRegs (.stat hs.setUtcOff)))

theorem showPorts (h : s.Keeps s₀) : s.showPorts.Keeps s₀ := h.setF.setF

theorem ptpAnnounce {port identity rank cls : Nat} {off : Half} {valid l61 l59 arb_ : Bool} (h : s.Keeps s₀) :
    (s.ptpAnnounce port identity rank cls off valid l61 l59 arb_).Keeps s₀ :=
  .ite h (.ite h (((h.frame.ifElse (·.event)).setF.ifThen (·.setUtcOff)).refreshServo.showPorts))

theorem servoStep {offset : Int} (h : s.Keeps s₀) : (s.servoStep offset).Keeps s₀ := h.stepWall.frame

theorem ptpSync {port identity : Nat} {offset : Int} {interval : Nat} (h : s.Keeps s₀) : (s.ptpSync port identity offset interval).Keeps s₀ := by
  unfold State.ptpSync
  split
  · exact h
  · exact .ite h ((h.wrN.frame.ifElse (·.setServo)).ifBoth (fun hu => .ite hu.servoStep hu) fun hu => hu.servoIncrement.ifThen (·.setServo))

theorem ptpSilent {port : Nat} (h : s.Keeps s₀) : (s.ptpSilent port).Keeps s₀ := by
  unfold State.ptpSilent
  split
  · exact .ite h.frame.setF.refreshServo.showPorts h
  · exact h

theorem ptpTake {port : Nat} {a : PtpMsg} (h : s.Keeps s₀) : (s.ptpTake port a).Keeps s₀ := by
  unfold State.ptpTake
  split
  · exact h.ptpAnnounce
  · exact h.ptpSync
  · exact .ite h.ethOut h
  · exact .ite (h.ethOut.ifThen (·.ethOut)) h
  · exact h
  · exact h

theorem execPtpMessage {port : Nat} {m : PtpIn} (h : s.Keeps s₀) : Answer.Keeps s₀ (execPtpMessage port m s) := by
  unfold Machine.execPtpMessage
  refine .ite (.next h) ?_
  refine .ite (.next h.ptpSilent) ?_
  split
  · next t he =>
    exact .next (h.ethIn.ofFst he)
  · next t val he =>
    exact .next ((h.ethIn.ofFst he).ptpTake)

theorem execPtpSyncInterval {port : Nat} (h : s.Keeps s₀) : Answer.Keeps s₀ (execPtpSyncInterval port s) :=
  .ite (.next h) (.ite (.next (h.ethOut.ethOut.ifThen (·.ethOut))) (.ite (.next h.ethOut) (.next h)))

theorem execHoldoverEntry (h : s.Keeps s₀) : Answer.Keeps s₀ (execHoldoverEntry s) := .next (.ite h.servoIncrement.setServo h)

theorem freeze {g : RfGroup} (h : s.Keeps s₀) : (s.freeze g).Keeps s₀ := .ite (h.frame.ifThen (·.setF)) h.frame

theorem execRfGroupFreeze {g : RfGroup} (h : s.Keeps s₀) : Answer.Keeps s₀ (execRfGroupFreeze g s) := .next h.freeze

theorem execRfGroupEnd {g : RfGroup} (h : s.Keeps s₀) : Answer.Keeps s₀ (execRfGroupEnd g s) := .next (.ite (h.frame.ifThen (·.setF)) h.frame)

theorem execPntRdrec0Read (h : s.Keeps s₀) : Answer.Keeps s₀ (execPntRdrec0Read s) := .next h.freeze

theorem execRtcSubsecRead (h : s.Keeps s₀) : Answer.Keeps s₀ (execRtcSubsecRead s) := .next h.freeze

/-! ### Machine/Cal.lean -/

theorem countPoint {off : Nat} (h : s.Keeps s₀) : (s.countPoint off).Keeps s₀ := h.apply

theorem fireAlarm {a inst skipped : Nat} {late : Bool} (h : s.Keeps s₀) : (s.fireAlarm a inst skipped late).Keeps s₀ := h.wrN.countPoint.event

theorem evalAlarm {stepped : Bool} {a : Nat} (h : s.Keeps s₀) : (s.evalAlarm stepped a).Keeps s₀ := .ite h (.ite h.wrN.fireAlarm.wrN.wrN (.ite h.wrN h))

theorem evalAlarms {stepped : Bool} (h : s.Keeps s₀) : (s.evalAlarms stepped).Keeps s₀ := .ite (h.foldl fun _ _ ht => ht.evalAlarm) h

theorem defineAlarm {d : AlarmDef} (h : s.Keeps s₀) : (s.defineAlarm d).Keeps s₀ := h.wrN.wrN.wrN.wrN.wrN

theorem leapDone {dir : Nat} (h : s.Keeps s₀) : (s.leapDone dir).Keeps s₀ := h.setUtcOff.event

theorem nextSecond (h : s.Keeps s₀) : s.nextSecond.Keeps s₀ := h.frame.ifBoth (·.frame.leapDone) fun ht => .ite ht.frame.leapDone ht.frame

theorem crystalTick (h : s.Keeps s₀) : s.crystalTick.Keeps s₀ := h.frame.ifThen (·.nextSecond)

theorem calStep {sec acc cause : Nat} (h : s.Keeps s₀) : (s.calStep sec acc cause).Keeps s₀ := h.frame.setF.event.frame.evalAlarms

theorem tick (h : s.Keeps s₀) : s.tick.Keeps s₀ := h.frame.finishAll.nextFree.ifThen (·.crystalTick)

theorem execLeapSecond (h : s.Keeps s₀) : Answer.Keeps s₀ (execLeapSecond s) := .next (.ite h.crystalTick h)

theorem writeStatus (h : s.Keeps s₀) : s.writeStatus.Keeps s₀ := h.apply.nextFree

theorem execCalendarSecond (h : s.Keeps s₀) : Answer.Keeps s₀ (execCalendarSecond s) := .next (.ite h.frame.evalAlarms.apply.writeStatus h)

theorem execPeriodicFire {k : Nat} (h : s.Keeps s₀) : Answer.Keeps s₀ (execPeriodicFire k s) :=
  .ite (.next (h.frame.countPoint.wrN.ifThen (·.event))) (.next h)

theorem askWall {cause : Nat} (h : s.Keeps s₀) : (s.askWall cause).Keeps s₀ := h.frame

theorem stageTime {subsec : Bool} {v : Word} (h : s.Keeps s₀) : (s.stageTime subsec v).Keeps s₀ := (ite h.wrN h.wr).setF

theorem askGo (h : s.Keeps s₀) : s.askGo.Keeps s₀ := .ite h.frame h

theorem commitFromWall (h : s.Keeps s₀) : s.commitFromWall.Keeps s₀ := .ite h.setF h.askWall

theorem execCalendarStep (h : s.Keeps s₀) : Answer.Keeps s₀ (execCalendarStep s) :=
  .ite (.next h.frame.setF.calStep.finishAll) (.ite (.next h.frame.calStep.finishAll) (.next h))

theorem execCalendarFollow (h : s.Keeps s₀) : Answer.Keeps s₀ (execCalendarFollow s) := .ite (.next (h.frame.ifThen (·.askWall))) (.next h)

theorem execTrimMeasurementEnd {x : Int} (h : s.Keeps s₀) : Answer.Keeps s₀ (execTrimMeasurementEnd x s) := .ite (.next h.setF.setF.event) (.next h)

theorem execRtcSet {e : CmdEntry} (h : s.Keeps s₀) : Answer.Keeps s₀ (execRtcSet e s) :=
  h.runCmd fun _ _ hs => .ite (.stat hs) (hs.freeRegs (.wait hs.stageTime.stageTime.askGo))

theorem execRtcFromWall {e : CmdEntry} (h : s.Keeps s₀) : Answer.Keeps s₀ (execRtcFromWall e s) :=
  h.runCmd fun _ _ hs => .ite (.stat hs) (.wait hs.askWall)

theorem execRtcAlarm {e : CmdEntry} (h : s.Keeps s₀) : Answer.Keeps s₀ (execRtcAlarm e s) :=
  h.runCmd fun _ _ hs => .ite (.stat hs.defineAlarm) (.stat hs)

theorem definePeriodic {k flags period phase : Nat} (h : s.Keeps s₀) : (s.definePeriodic k flags period phase).Keeps s₀ := h.frame.wrN.wrN

theorem execRtcPeriodic {e : CmdEntry} (h : s.Keeps s₀) : Answer.Keeps s₀ (execRtcPeriodic e s) :=
  h.runCmd fun _ _ hs => .ite (hs.freeRegs (.stat hs.definePeriodic)) (.stat hs)

theorem refreshCharger (h : s.Keeps s₀) : s.refreshCharger.Keeps s₀ := h.setF.frame

theorem execRtcCharger {e : CmdEntry} (h : s.Keeps s₀) : Answer.Keeps s₀ (execRtcCharger e s) :=
  h.runCmd fun _ _ hs => .ite (.stat hs) (.ite (.stat hs) (hs.freeRegs (.stat hs.setF.setF.setF.refreshCharger)))

theorem execRtcSettrim {e : CmdEntry} (h : s.Keeps s₀) : Answer.Keeps s₀ (execRtcSettrim e s) :=
  h.runCmd fun _ _ hs => .ite (.stat hs) (.ite (.stat hs) (hs.freeRegs (.stat hs.setF)))

theorem execChargerFault (h : s.Keeps s₀) : Answer.Keeps s₀ (execChargerFault s) := by
  unfold Machine.execChargerFault
  dsimp only
  split
  · exact .ite (.next h.setF.setF.refreshCharger.event) (.next h)
  · exact .next h

theorem loadKept {c : TimeCfg} (h : s.Keeps s₀) : (s.loadKept c).Keeps s₀ := h.setF.setF.setF

theorem loadTime {c : TimeCfg} (h : s.Keeps s₀) : (s.loadTime c).Keeps s₀ := by
  unfold State.loadTime
  refine showPorts ?_
  refine refreshServo ?_
  refine foldl ?_ fun _ _ ht => .ite ht ht.defineAlarm
  exact h.frame.setF.setF.setF.setF.setF.setF.setF.foldl fun _ _ ht => by split <;> exact ht.definePeriodic

/-! ### Machine/Meter.lean -/

theorem setMtrChan {k : Nat} {c : MtrChan} (h : s.Keeps s₀) : (s.setMtrChan k c).Keeps s₀ := h.frame

theorem setMtrVolt {v : Nat} {c : MtrVolt} (h : s.Keeps s₀) : (s.setMtrVolt v c).Keeps s₀ := h.frame

theorem setMtrPulse {j : Nat} {c : MtrPulse} (h : s.Keeps s₀) : (s.setMtrPulse j c).Keeps s₀ := h.frame

theorem mtrSetNext (h : s.Keeps s₀) : s.mtrSetNext.Keeps s₀ := h.frame.setF

theorem mtrOpenOne {onBoundary : Bool} {flags unmeas k : Nat} (h : s.Keeps s₀) : (s.mtrOpenOne onBoundary flags unmeas k).Keeps s₀ := h.setMtrChan

theorem mtrShowOpen (h : s.Keeps s₀) : s.mtrShowOpen.Keeps s₀ := h.wrN.wrN

theorem apportion {k cause energy : Nat} {drive : List (Nat × Nat)} (h : s.Keeps s₀) : (s.apportion k cause energy drive).Keeps s₀ := h.apply

theorem mtrCloseOne {cause k : Nat} (h : s.Keeps s₀) : (s.mtrCloseOne cause k).Keeps s₀ := by
  unfold State.mtrCloseOne
  dsimp only
  split
  · exact h
  · exact h.setMtrChan.frame.apportion

theorem mtrTurn {cause : Nat} {ks : List Nat} (h : s.Keeps s₀) : (s.mtrTurn cause ks).Keeps s₀ :=
  ((h.foldl fun _ _ ht => ht.mtrCloseOne).mtrSetNext.foldl fun _ _ ht => .ite ht.mtrOpenOne ht).mtrShowOpen

theorem mtrReopen {cause : Nat} (h : s.Keeps s₀) : (s.mtrReopen cause).Keeps s₀ := by
  unfold State.mtrReopen
  refine .ite h ?_
  refine mtrShowOpen ?_
  refine frame ?_
  exact (((ite h (h.foldl fun _ _ ht => ht.setMtrChan)).ifElse (·.frame)).frame.mtrSetNext.foldl fun _ _ ht => ht.mtrOpenOne).setF.setF.wrN.event

theorem setMtrVq {q v : Nat} (h : s.Keeps s₀) : (s.setMtrVq q v).Keeps s₀ := .ite h h.setF.event

theorem mtrShut (h : s.Keeps s₀) : s.mtrShut.Keeps s₀ := .ite h ((h.setF.apply.foldl fun _ _ ht => ht.setMtrVq).event.frame)

theorem pulseOff {j : Nat} (h : s.Keeps s₀) : (s.pulseOff j).Keeps s₀ := h.setMtrPulse.setF

theorem mtrCut (h : s.Keeps s₀) : s.mtrCut.Keeps s₀ := .ite h (((h.foldl fun _ _ ht => ht.pulseOff).foldl fun _ _ ht => ht.mtrCloseOne).frame)

theorem mtrVSample {v : Nat} {u : Int} (h : s.Keeps s₀) : (s.mtrVSample v u).1.Keeps s₀ := by
  unfold State.mtrVSample
  split <;> exact h.setMtrVolt

theorem mtrISample {k : Nat} {g : MtrCCfg} {c f : Int} {clip : Bool} {v q : Rat} (h : s.Keeps s₀) : (s.mtrISample k g c f clip v q).1.Keeps s₀ :=
  (h.setMtrChan.setF.ifElse (·.bump)).ifThen (·.bump)

theorem showPulse {g : MtrPulseCfg} (h : s.Keeps s₀) : (s.showPulse g).Keeps s₀ := (ite h h.pulseOff).setF.setF.wrN

theorem pulseAdd {e : Nat} {g : MtrPulseCfg} (h : s.Keeps s₀) : (s.pulseAdd e g).Keeps s₀ :=
  (((h.setMtrPulse.ifThen (·.bump)).ifThen (·.setF.emit)).ifThen (·.event)).showPulse

theorem pulseSample {e : Nat} {g : MtrPulseCfg} (h : s.Keeps s₀) : (s.pulseSample e g).Keeps s₀ := h.setMtrPulse.pulseAdd

theorem presetOne {k r v : Nat} (h : s.Keeps s₀) : (s.presetOne k r v).Keeps s₀ := h.setMtrChan.event

theorem presetAll (h : s.Keeps s₀) : s.presetAll.Keeps s₀ := h.foldl fun _ _ ht => by split; exacts [ht.presetOne.finish, ht]

theorem execMeterSample {c f : List Int} {clip : Nat} {u : List Int} (h : s.Keeps s₀) : Answer.Keeps s₀ (execMeterSample c f clip u s) := by
  unfold Machine.execMeterSample
  refine .ite (.next h) ?_
  refine .next ?_
  refine nextFree ?_
  refine foldl ?_ fun _ _ ht => ht.pulseSample
  refine foldlFst ?_ fun _ _ ht => by split; exacts [ht, ht.mtrISample.pair]
  exact (((ite h.mtrTurn h).presetAll.ifThen (·.mtrShowOpen)).frame.foldlFst fun _ _ ht => ht.mtrVSample.pair)

theorem execPulseEnd {j : Nat} (h : s.Keeps s₀) : Answer.Keeps s₀ (execPulseEnd j s) := .next (by split; exacts [.ite h.pulseOff h, h])

theorem mtrWinChan {k : Nat} {g : MtrCCfg} {vrms freq : Word} {vq vclip n : Nat} {d : Rat} (h : s.Keeps s₀) :
    (s.mtrWinChan k g vrms freq vq vclip n d).1.Keeps s₀ :=
  ((h.setMtrChan.setF.ifThen (·.setF)).ifThen (·.event)).foldl fun _ _ ht => .ite ht.pulseAdd ht

theorem mtrRecal {v : Nat} (h : s.Keeps s₀) : (s.mtrRecal v).Keeps s₀ :=
  .ite h ((((h.foldl fun _ _ ht => ht.mtrCloseOne).frame.foldl fun _ _ ht => ht.setF).ifThen (·.setF)).foldl fun _ _ ht => .ite ht.mtrOpenOne ht)

theorem execWindowEnd {v dur : Nat} (h : s.Keeps s₀) : Answer.Keeps s₀ (execWindowEnd v dur s) := by
  unfold Machine.execWindowEnd
  refine .ite (.next h) ?_
  refine .next ?_
  refine mtrRecal ?_
  refine setMtrVq ?_
  refine frame ?_
  refine setMtrVolt ?_
  exact (h.foldlFst fun _ _ ht => by split; exacts [ht, .fstIte ht (.fstIte ht.mtrWinChan.pair ht)]).apply

theorem execAccumulatorWrite (h : s.Keeps s₀) : Answer.Keeps s₀ (execAccumulatorWrite s) := .ite (.next h) (.next h.apply.frame)

theorem execIntervalBoundary (h : s.Keeps s₀) : Answer.Keeps s₀ (execIntervalBoundary s) := .next (.ite h.mtrTurn h)

theorem postRecord {r : MtrRec} (h : s.Keeps s₀) : (s.postRecord r).Keeps s₀ := .ite h.setRing h.setRing.event

theorem formRecord {r : MtrRec} (h : s.Keeps s₀) : (s.formRecord r).Keeps s₀ := h.frame.wrN.postRecord.apply

theorem execIntervalRecord (h : s.Keeps s₀) : Answer.Keeps s₀ (execIntervalRecord s) :=
  .ite (.next h) (by split; exacts [.next h, .next (h.formRecord.ifElse (·.finishAll))])

theorem mtrPour (h : s.Keeps s₀) : s.mtrPour.Keeps s₀ := .ite h (h.foldl fun _ _ ht => by dsimp only; split; exacts [ht, ht.setMtrChan])

theorem execMtrArchive {e : CmdEntry} (h : s.Keeps s₀) : Answer.Keeps s₀ (execMtrArchive e s) := by
  unfold Machine.execMtrArchive
  refine h.runCmd fun _ _ hs => ?_
  split
  · exact .stat hs
  · exact .ite (.stat hs) (by dsimp only; split; exacts [.stat hs, .done hs])

theorem execMtrClose {e : CmdEntry} (h : s.Keeps s₀) : Answer.Keeps s₀ (execMtrClose e s) :=
  h.runCmd fun _ _ hs => by split; exacts [.stat hs, .ite (.stat hs) (.wait hs.mtrTurn)]

theorem loadCals {cs : List (Nat × MtrCCfg)} (h : s.Keeps s₀) : (s.loadCals cs).Keeps s₀ := h.frame

theorem execMtrCaldata {e : CmdEntry} (h : s.Keeps s₀) : Answer.Keeps s₀ (execMtrCaldata e s) := by
  unfold Machine.execMtrCaldata
  refine h.runCmd fun _ _ hs => ?_
  split
  · exact .stat hs
  · exact .ite (.stat hs) (by split; exacts [.stat hs, hs.stageTable fun _ hw3 => hw3.loadCals])

theorem execMtrPreset {e : CmdEntry} (h : s.Keeps s₀) : Answer.Keeps s₀ (execMtrPreset e s) :=
  h.runCmd fun _ _ hs => by split; exacts [.stat hs, .ite (.stat hs) (.ite (.stat hs) (.wait hs))]

/-! ### Machine/LadleExec.lean -/

theorem setLadle {n : Nat} {x : Ladle} (h : s.Keeps s₀) : (s.setLadle n x).Keeps s₀ := h.frame

theorem ladleDo {n : Nat} {ins : LIns} {f : LOp} (h : s.Keeps s₀) : Answer.Keeps s₀ (ladleDo n ins f s) := by
  unfold Machine.ladleDo
  dsimp only
  split
  · exact .next h
  · exact .next h.setLadle

/-! ### Machine/LadleIns.lean -/

theorem execLiLd {n b off m : Nat} (h : s.Keeps s₀) : Answer.Keeps s₀ (execLiLd n b off m s) := h.ladleDo

theorem execLiAnd {n b off m : Nat} (h : s.Keeps s₀) : Answer.Keeps s₀ (execLiAnd n b off m s) := h.ladleDo

theorem execLiOr {n b off m : Nat} (h : s.Keeps s₀) : Answer.Keeps s₀ (execLiOr n b off m s) := h.ladleDo

theorem execLiXor {n b off m : Nat} (h : s.Keeps s₀) : Answer.Keeps s₀ (execLiXor n b off m s) := h.ladleDo

theorem execLiSt {n b off m : Nat} (h : s.Keeps s₀) : Answer.Keeps s₀ (execLiSt n b off m s) := h.ladleDo

theorem execLiSet {n b off m : Nat} (h : s.Keeps s₀) : Answer.Keeps s₀ (execLiSet n b off m s) := h.ladleDo

theorem execLiRst {n b off m : Nat} (h : s.Keeps s₀) : Answer.Keeps s₀ (execLiRst n b off m s) := h.ladleDo

theorem execLiLdq {n b off m : Nat} (h : s.Keeps s₀) : Answer.Keeps s₀ (execLiLdq n b off m s) := h.ladleDo

theorem execLiLdw {n b off m : Nat} (h : s.Keeps s₀) : Answer.Keeps s₀ (execLiLdw n b off m s) := h.ladleDo

theorem execLiStw {n b off m : Nat} (h : s.Keeps s₀) : Answer.Keeps s₀ (execLiStw n b off m s) := h.ladleDo

theorem execLiQld {n b off m : Nat} (h : s.Keeps s₀) : Answer.Keeps s₀ (execLiQld n b off m s) := h.ladleDo

theorem execLiEdge {n k b m : Nat} (h : s.Keeps s₀) : Answer.Keeps s₀ (execLiEdge n k b m s) := h.ladleDo

theorem execLiTmr {n k b m : Nat} (h : s.Keeps s₀) : Answer.Keeps s₀ (execLiTmr n k b m s) := h.ladleDo

theorem execLiCtu {n k b m : Nat} (h : s.Keeps s₀) : Answer.Keeps s₀ (execLiCtu n k b m s) := h.ladleDo

theorem execLiCtd {n k b m : Nat} (h : s.Keeps s₀) : Answer.Keeps s₀ (execLiCtd n k b m s) := h.ladleDo

theorem execLiTcr {n k b m : Nat} (h : s.Keeps s₀) : Answer.Keeps s₀ (execLiTcr n k b m s) := h.ladleDo

theorem execLiTcld {n k b m : Nat} (h : s.Keeps s₀) : Answer.Keeps s₀ (execLiTcld n k b m s) := h.ladleDo

theorem execLiLdm {n k b m : Nat} (h : s.Keeps s₀) : Answer.Keeps s₀ (execLiLdm n k b m s) := h.ladleDo

theorem execLiStm {n k b m : Nat} (h : s.Keeps s₀) : Answer.Keeps s₀ (execLiStm n k b m s) := h.ladleDo

theorem execLiBopen {n : Nat} (h : s.Keeps s₀) : Answer.Keeps s₀ (execLiBopen n s) := h.ladleDo

theorem execLiBand {n : Nat} (h : s.Keeps s₀) : Answer.Keeps s₀ (execLiBand n s) := h.ladleDo

theorem execLiBor {n : Nat} (h : s.Keeps s₀) : Answer.Keeps s₀ (execLiBor n s) := h.ladleDo

theorem execLiBpeek {n : Nat} (h : s.Keeps s₀) : Answer.Keeps s₀ (execLiBpeek n s) := h.ladleDo

theorem execLiBdrop {n : Nat} (h : s.Keeps s₀) : Answer.Keeps s₀ (execLiBdrop n s) := h.ladleDo

theorem execLiRet {n : Nat} (h : s.Keeps s₀) : Answer.Keeps s₀ (execLiRet n s) := h.ladleDo

theorem execLiEndl {n : Nat} (h : s.Keeps s₀) : Answer.Keeps s₀ (execLiEndl n s) := h.ladleDo

theorem execLiBrk {n : Nat} (h : s.Keeps s₀) : Answer.Keeps s₀ (execLiBrk n s) := h.ladleDo

theorem execLiNop {n : Nat} (h : s.Keeps s₀) : Answer.Keeps s₀ (execLiNop n s) := h.ladleDo

theorem execLiLaop {n k : Nat} (h : s.Keeps s₀) : Answer.Keeps s₀ (execLiLaop n k s) := h.ladleDo

theorem execLiWbit {n dir k : Nat} (h : s.Keeps s₀) : Answer.Keeps s₀ (execLiWbit n dir k s) := h.ladleDo

theorem execLiLdi {n imm : Nat} (h : s.Keeps s₀) : Answer.Keeps s₀ (execLiLdi n imm s) := h.ladleDo

theorem execLiLdih {n imm : Nat} (h : s.Keeps s₀) : Answer.Keeps s₀ (execLiLdih n imm s) := h.ladleDo

theorem execLiMov {n dir w : Nat} (h : s.Keeps s₀) : Answer.Keeps s₀ (execLiMov n dir w s) := h.ladleDo

theorem execLiSel {n w : Nat} (h : s.Keeps s₀) : Answer.Keeps s₀ (execLiSel n w s) := h.ladleDo

theorem execLiAlu {n fn w : Nat} (h : s.Keeps s₀) : Answer.Keeps s₀ (execLiAlu n fn w s) := h.ladleDo

theorem execLiAlui {n fn imm : Nat} (h : s.Keeps s₀) : Answer.Keeps s₀ (execLiAlui n fn imm s) := h.ladleDo

theorem execLiFpu {n fn w : Nat} (h : s.Keeps s₀) : Answer.Keeps s₀ (execLiFpu n fn w s) := h.ladleDo

theorem execLiCmp {n cond comb w : Nat} (h : s.Keeps s₀) : Answer.Keeps s₀ (execLiCmp n cond comb w s) := h.ladleDo

theorem execLiCmpi {n cond comb imm : Nat} (h : s.Keeps s₀) : Answer.Keeps s₀ (execLiCmpi n cond comb imm s) := h.ladleDo

theorem execLiTbl {n mode base : Nat} (h : s.Keeps s₀) : Answer.Keeps s₀ (execLiTbl n mode base s) := h.ladleDo

theorem execLiJmp {n cond target : Nat} (h : s.Keeps s₀) : Answer.Keeps s₀ (execLiJmp n cond target s) := h.ladleDo

theorem execLiCall {n cond target : Nat} (h : s.Keeps s₀) : Answer.Keeps s₀ (execLiCall n cond target s) := h.ladleDo

theorem execLiLoop {n b w count : Nat} (h : s.Keeps s₀) : Answer.Keeps s₀ (execLiLoop n b w count s) := h.ladleDo

theorem execLiSetb {n b range window : Nat} (h : s.Keeps s₀) : Answer.Keeps s₀ (execLiSetb n b range window s) := h.ladleDo

theorem execLiBidx {n b mode imm : Nat} (h : s.Keeps s₀) : Answer.Keeps s₀ (execLiBidx n b mode imm s) := h.ladleDo

theorem execLiBld {n b : Nat} (h : s.Keeps s₀) : Answer.Keeps s₀ (execLiBld n b s) := h.ladleDo

theorem execLiLcall {n fn wt wf : Nat} (h : s.Keeps s₀) : Answer.Keeps s₀ (execLiLcall n fn wt wf s) := h.ladleDo

theorem execLiEnd {n : Nat} (h : s.Keeps s₀) : Answer.Keeps s₀ (execLiEnd n s) := by
  unfold Machine.execLiEnd
  dsimp only
  split
  · exact .next h
  · exact .next h.setLadle.wrN.wrN.wrN.setF

theorem execLdlMaxnsRead {n : Nat} (h : s.Keeps s₀) : Answer.Keeps s₀ (execLdlMaxnsRead n s) := .next (.ite h.frame.wr h.frame)

/-! ### Machine/LadleCmd.lean -/

theorem showProg {n : Nat} {p : Option Prog} (h : s.Keeps s₀) : (s.showProg n p).Keeps s₀ := by
  unfold State.showProg
  split
  · exact h.setF.foldl fun _ _ hu => hu.wrN
  · exact h.wrN.setF.setF.wrN.wrN.setF.setF.setF.setF.setF.wrN

theorem placeProgram {n : Nat} {p : Option Prog} (h : s.Keeps s₀) : (s.placeProgram n p).Keeps s₀ := h.setLadle.showProg

theorem writeTable {n first : Nat} {b : List Byte} (h : s.Keeps s₀) : (s.writeTable n first b).Keeps s₀ := h.setLadle

theorem loadPiece {k n off total : Nat} {b : List Byte} (h : s.Keeps s₀) : (s.loadPiece k n off total b).Keeps s₀ := by
  unfold State.loadPiece
  refine .ite (.stat h) ?_
  refine .ite (.staged h.setTxn) ?_
  dsimp only
  split
  · exact .done h.setTxn
  · exact .done (h.setTxn.ifElse (·.nextFree))

theorem execLdlLoad {e : CmdEntry} (h : s.Keeps s₀) : Answer.Keeps s₀ (execLdlLoad e s) :=
  h.runCmd fun _ _ hs => by split; exacts [.stat hs, .ite (.stat hs) (.ite hs.conflict hs.loadPiece)]

theorem execLdlUnload {e : CmdEntry} (h : s.Keeps s₀) : Answer.Keeps s₀ (execLdlUnload e s) :=
  h.runCmd fun _ _ hs => by split; exacts [.stat hs, .ite (.stat hs) hs.stageChanges]

theorem execLdlTable {e : CmdEntry} (h : s.Keeps s₀) : Answer.Keeps s₀ (execLdlTable e s) := by
  unfold Machine.execLdlTable
  refine h.runCmd fun _ _ hs => ?_
  refine .ite (.stat hs) ?_
  exact .ite (.stat hs) (by dsimp only; split; exacts [hs.stageChanges, .ite hs.conflict (.wait hs.setF)])

theorem execLdlTableIdleApply {n : Nat} (h : s.Keeps s₀) : Answer.Keeps s₀ (execLdlTableIdleApply n s) := by
  unfold Machine.execLdlTableIdleApply
  refine .next ?_
  refine .ite ?_ h
  exact (h.foldl fun _ _ ht => by split; exacts [ht, .ite ht.writeTable.finish (.ite ht.finish ht)]).setF

theorem execLdlState {e : CmdEntry} (h : s.Keeps s₀) : Answer.Keeps s₀ (execLdlState e s) := by
  unfold Machine.execLdlState
  refine h.runCmd fun _ _ hs => ?_
  exact .ite (.stat hs) (.ite (.stat hs) (by split; exacts [.stat hs, .ite (.stat hs) (.done hs)]))

/-! ### Machine/Mem.lean -/

theorem showBudget (h : s.Keeps s₀) : s.showBudget.Keeps s₀ := h.wrN.wrN.wrN.setF.setF

theorem writeFettle {v : Word} (h : s.Keeps s₀) : (s.writeFettle v).Keeps s₀ := h.setF.setF.showBudget.ifThen (·.event)

theorem setBank {b v : Nat} (h : s.Keeps s₀) : (s.setBank b v).Keeps s₀ := h.setF

theorem writeChill {b : Nat} {on : Bool} (h : s.Keeps s₀) : (s.writeChill b on).Keeps s₀ := .ite h (h.setF.ifElse (·.setBank))

theorem wakeLadle {n : Nat} (h : s.Keeps s₀) : (s.wakeLadle n).Keeps s₀ := h.foldl fun _ _ ht => ht.writeChill

theorem wakeBank {b : Nat} (h : s.Keeps s₀) : (s.wakeBank b).Keeps s₀ := .ite h.writeChill h

theorem wakeLamp (h : s.Keeps s₀) : s.wakeLamp.Keeps s₀ := h.foldl fun _ _ ht => .ite ht ht.wakeBank

theorem setWalk {b r : Nat} (h : s.Keeps s₀) : (s.setWalk b r).Keeps s₀ := h.setF.setF

theorem endPass (h : s.Keeps s₀) : s.endPass.Keeps s₀ := h.bumpF.frame

theorem skipChilled {k : Nat} (h : s.Keeps s₀) : (s.skipChilled k).Keeps s₀ := by
  induction k generalizing s with
  | zero => exact h
  | succ k ih => exact .ite (ih (h.bumpF.setWalk.ifThen (·.endPass))) h

theorem restBank {b : Nat} (h : s.Keeps s₀) : (s.restBank b).Keeps s₀ := .ite h h.setBank

theorem testRegion {b r : Nat} {retry : Bool} (h : s.Keeps s₀) : (s.testRegion b r retry).Keeps s₀ := (ite h h.setBank).frame

theorem startRemap {b cause : Nat} (h : s.Keeps s₀) : (s.startRemap b cause).Keeps s₀ := .ite h.setBank.frame h.frame.setBank.setF.event

theorem needSpare {b cause : Nat} (h : s.Keeps s₀) : (s.needSpare b cause).Keeps s₀ := .ite h (.ite h.frame h.startRemap)

theorem nextRemap (h : s.Keeps s₀) : s.nextRemap.Keeps s₀ := h.foldl fun _ _ ht => .ite ht ht.frame.startRemap

theorem execFettleRegionStart (h : s.Keeps s₀) : Answer.Keeps s₀ (execFettleRegionStart s) :=
  .next (.ite h (by split; exacts [h.testRegion, h.skipChilled.testRegion]))

theorem walkOn {b r : Nat} (h : s.Keeps s₀) : (s.walkOn b r).Keeps s₀ := h.setWalk.ifThen (·.endPass)

theorem abortTest {b r : Nat} (h : s.Keeps s₀) : (s.abortTest b r).Keeps s₀ := h.frame.ifThen (·.bumpF)

theorem execFettleRegionEnd {r : FettleEnd} (h : s.Keeps s₀) : Answer.Keeps s₀ (execFettleRegionEnd r s) := by
  unfold Machine.execFettleRegionEnd
  refine .next ?_
  split
  · exact h
  · dsimp only
    split
    · exact (h.frame.restBank.ifElse (·.walkOn)).frame
    · exact (h.frame.restBank.ifElse (·.walkOn)).abortTest
    · exact (h.frame.restBank.ifElse (·.walkOn)).frame.postDia.needSpare

theorem sramCorrected {b : Nat} (h : s.Keeps s₀) : (s.sramCorrected b).Keeps s₀ := .ite h (h.wakeBank.bumpSat.frame.ifThen (·.needSpare))

theorem switchBank {b cause : Nat} (h : s.Keeps s₀) : (s.switchBank b cause).Keeps s₀ := h.frame.setF.setBank.setF.postDia.event.nextRemap

theorem execBankRemapDone {b cause : Nat} (h : s.Keeps s₀) : Answer.Keeps s₀ (execBankRemapDone b cause s) := .next (.ite h.switchBank h)

theorem stopFettle (h : s.Keeps s₀) : s.stopFettle.Keeps s₀ := by
  unfold State.stopFettle
  dsimp only
  split
  · exact restBank (by split; exacts [h.frame.restBank, h.frame])
  · split
    · exact h.frame.restBank
    · exact h.frame

/-! ### Machine/Burst.lean -/

theorem resetTundish {n : Nat} (h : s.Keeps s₀) : (s.resetTundish n).Keeps s₀ :=
  (h.setRing.ifBoth (·.discardPackets) (·.discardOut)).bump.event.postDia.finishAll.syncPass

theorem sramError {bank addr : Nat} (h : s.Keeps s₀) : (s.sramError bank addr).Keeps s₀ := h.wakeBank.bumpSat.event.postDia.ifThen (·.needSpare)

theorem dropFront {n : Nat} (h : s.Keeps s₀) : (s.dropFront n).Keeps s₀ := by
  unfold State.dropFront
  dsimp only
  split
  · exact h
  · exact h.setRing.ifThen (·.loseEntry)

theorem burst {n : Nat} {buf : Nat × Nat} (h : s.Keeps s₀) : (s.burst n buf).Keeps s₀ := frame (ifElse (.fstIte h.moveIn h.moveOut) (·.setRing))

theorem dramError {addr : Nat} (h : s.Keeps s₀) : (s.dramError addr).Keeps s₀ := h.bumpSat.event.postDia

theorem burstError {entry : Option (Half × CmdEntry)} (h : s.Keeps s₀) : (s.burstError entry).Keeps s₀ := by
  unfold State.burstError
  split
  · exact h
  · exact .ite h.nextFree.slagNext h.dropFront

theorem execRunnerBurst {err : BurstErr} (h : s.Keeps s₀) : Answer.Keeps s₀ (execRunnerBurst err s) := by
  unfold Machine.execRunnerBurst
  refine .next ?_
  split
  · split
    · exact h.burst
    · exact h
  · exact .ite h.resetTundish h
  · exact .ite h h.sramError.burstError
  · exact .ite h h.sramCorrected
  · exact .ite h (.ite h.bumpSat h.dramError)

/-! ### Machine/Lamp.lean -/

theorem cycAlign (h : s.Keeps s₀) : s.cycAlign.Keeps s₀ := by
  unfold State.cycAlign
  split
  · exact h
  · exact .ite h h.frame.setF

theorem recfg {c : RunCfg} {addrs : List Nat} (h : s.Keeps s₀) : (s.recfg c addrs).Keeps s₀ := h.frame

theorem swapCfg {c : RunCfg} {addrs : List Nat} (h : s.Keeps s₀) : (s.swapCfg c addrs).Keeps s₀ := h.frame

theorem setChan {l c : Nat} {x : Chan} (h : s.Keeps s₀) : (s.setChan l c x).Keeps s₀ := h.frame

theorem setLum {l : Nat} {x : Lum} (h : s.Keeps s₀) : (s.setLum l x).Keeps s₀ := h.frame

theorem setCznNode {n : Nat} {x : CznNode} (h : s.Keeps s₀) : (s.setCznNode n x).Keeps s₀ := h.frame

theorem post6 {kind unit channel new old current word stamp detail : Nat} (h : s.Keeps s₀) :
    (s.post6 kind unit channel new old current word stamp detail).Keeps s₀ := h.frame.ifBoth (·.loseEntry) (·.enqueue)

theorem refreshChan {meas : Option Nat} {l c : Nat} {r : LumRec} (h : s.Keeps s₀) : (s.refreshChan meas l c r).1.Keeps s₀ :=
  .fstIte h.setChan (.fstIte h (.ite h.setChan (by split <;> exact h.setChan.post6)))

theorem refreshLum {meas : Option Nat} {l : Nat} {r : LumRec} (h : s.Keeps s₀) : (s.refreshLum meas l r).1.Keeps s₀ :=
  .fstIte ((h.foldlFst fun _ _ ht => ht.refreshChan.pair).setLum.pair) ((h.foldlFst fun _ _ ht => ht.refreshChan.pair).setLum.pair)

theorem evalChan {l c p tick : Nat} {r : LumRec} {leaving : Bool} {maint derate : Rat} (h : s.Keeps s₀) :
    (s.evalChan l c p tick r leaving maint derate).1.Keeps s₀ := h.setChan.bump.bump.bump.bump

theorem evalLum {p tick : Nat} {leaving : Bool} {l : Nat} {r : LumRec} (h : s.Keeps s₀) : (s.evalLum p tick leaving l r).1.Keeps s₀ := by
  unfold State.evalLum
  refine .fstIte ((h.foldlFst fun _ _ ht => ht.evalChan.pair).setLum.pair) ?_
  refine pair ?_
  refine refreshLum ?_
  refine setLum ?_
  refine ifThen ?_ (·.post6)
  split
  · exact (h.foldlFst fun _ _ hu => hu.evalChan.pair).ifElse (·.post6)
  · exact h.foldlFst fun _ _ hu => hu.evalChan.pair

theorem takeRecords (h : s.Keeps s₀) : s.takeRecords.Keeps s₀ := .ite h (h.frame.recfg.wakeLamp.ifThen (·.applyM))

theorem takeTick {t0 : Nat} (h : s.Keeps s₀) : (s.takeTick t0).Keeps s₀ := by
  unfold State.takeTick
  split
  · exact h
  · exact h.frame.ifElse (·.frame.event.cycAlign)

theorem latchEmerg {t0 p : Nat} (h : s.Keeps s₀) : (s.latchEmerg t0 p).Keeps s₀ := .ite h.frame.event (.ite h.frame.event h)

theorem writeZones (h : s.Keeps s₀) : s.writeZones.Keeps s₀ := h.frame.applyM

theorem pourWrites {p : Nat} (h : s.Keeps s₀) : (s.pourWrites p).Keeps s₀ := (h.foldl fun _ _ ht => ht.foldl fun _ _ hu => hu.setChan).applyM

theorem makePour {p : Nat} (h : s.Keeps s₀) : (s.makePour p).Keeps s₀ := h.pourWrites.writeZones.mtrPour

theorem duePours (h : s.Keeps s₀) : s.duePours.Keeps s₀ := by
  unfold State.duePours
  split
  · exact h
  · exact .ite h.makePour.frame h

theorem execPour (h : s.Keeps s₀) : Answer.Keeps s₀ (execPour s) := .next (.ite h.duePours h)

theorem lampTick {t0 : Nat} (h : s.Keeps s₀) : (s.lampTick t0).Keeps s₀ :=
  ((ite h.duePours h.wrN).takeRecords.frame.takeTick.latchEmerg.wrN.foldlFst fun _ _ ht => ht.evalLum.pair).nextFree.frame.ifThen (·.applyM)

theorem evalEnd {us : Nat} (h : s.Keeps s₀) : (s.evalEnd us).Keeps s₀ := h.frame.setF.setF

theorem evalLate (h : s.Keeps s₀) : s.evalLate.Keeps s₀ := .ite h.frame.setF.event h

theorem lateEntries {seq : Nat} {on : Nat → Bool} (h : s.Keeps s₀) : (s.lateEntries seq on).Keeps s₀ := h.bump.applyM

theorem writeLumRuns {all : Bool} (h : s.Keeps s₀) : (s.writeLumRuns all).Keeps s₀ := (h.foldl fun _ _ ht => ht.setLum).applyM

theorem execLumRunWrite (h : s.Keeps s₀) : Answer.Keeps s₀ (execLumRunWrite s) := .next (.ite h.writeLumRuns h)

theorem lampStart (h : s.Keeps s₀) : s.lampStart.Keeps s₀ := by
  unfold State.lampStart
  dsimp only
  split <;> exact h.frame

theorem writeTick {v : Nat} (h : s.Keeps s₀) : (s.writeTick v).Keeps s₀ := h.setF.frame

theorem execLmpEvalRead (h : s.Keeps s₀) : Answer.Keeps s₀ (execLmpEvalRead s) := .next (.ite h.frame.setF h.frame)

theorem execLmpEmerg {e : CmdEntry} (h : s.Keeps s₀) : Answer.Keeps s₀ (execLmpEmerg e s) := h.runCmd fun _ _ hs => .ite (.stat hs) (.okWith hs.frame)

theorem mirrorProbes {ks : List Nat} (h : s.Keeps s₀) : (s.mirrorProbes ks).Keeps s₀ := .ite h h.sendDelta

theorem execLmpProbe {e : CmdEntry} (h : s.Keeps s₀) : Answer.Keeps s₀ (execLmpProbe e s) := by
  unfold Machine.execLmpProbe
  refine h.runCmd fun _ _ hs => ?_
  refine .ite (.stat hs) ?_
  split
  · exact .stat hs
  · exact .stat ((hs.foldl fun _ _ hv => hv.setChan).mirrorProbes)

theorem queueRecords {rs : List (Nat × LumRec)} (h : s.Keeps s₀) : (s.queueRecords rs).Keeps s₀ := h.frame

theorem execLmpRecord {e : CmdEntry} (h : s.Keeps s₀) : Answer.Keeps s₀ (execLmpRecord e s) := by
  unfold Machine.execLmpRecord
  refine h.runCmd fun _ _ hs => ?_
  refine .ite (.stat hs) ?_
  exact .ite (.stat hs) (by split; exacts [.stat hs, hs.stageTable fun _ hv => hv.queueRecords])

theorem execLmpChstate {e : CmdEntry} (h : s.Keeps s₀) : Answer.Keeps s₀ (execLmpChstate e s) :=
  h.runCmd fun _ _ hs => .ite (.stat hs) (.ite (.stat hs) (.done hs))

/-! ### Machine/TrunkBase.lean -/

theorem setPort {p : Nat} {x : TrunkPort} (h : s.Keeps s₀) : (s.setPort p x).Keeps s₀ := h.frame

theorem setStranger {uid : Nat} {ws : List CznWindow} (h : s.Keeps s₀) : (s.setStranger uid ws).Keeps s₀ := h.frame

theorem random16 (h : s.Keeps s₀) : s.random16.2.Keeps s₀ := h.nextFree.nextFree

theorem groupKey {p g : Nat} (h : s.Keeps s₀) : (s.groupKey p g).2.Keeps s₀ := by
  unfold State.groupKey
  split
  · exact h
  · exact h.random16.setPort

theorem onWire {p cls at_ : Nat} {b : List Byte} (h : s.Keeps s₀) : (s.onWire p cls at_ b).Keeps s₀ := h.emit.bump.setPort

theorem cznFrame {p ver typ flags sel dst n : Nat} {key body b : List Byte} {t : State} (h : s.Keeps s₀)
    (he : s.cznFrame p ver typ flags sel dst key body = some (b, n, t)) : t.Keeps s₀ := by
  simp only [State.cznFrame] at he
  split at he
  · cases he
  · next hc => cases he; exact (h.takeCounter hc).wrN

theorem sendGroup {p cls typ at_ : Nat} {body : List Byte} (h : s.Keeps s₀) : (s.sendGroup p cls typ at_ body).Keeps s₀ := by
  unfold State.sendGroup
  dsimp only
  split
  · next b fst t he =>
    exact (h.groupKey.cznFrame he).onWire
  · exact h.groupKey

theorem sendNode {p cls at_ n typ kcls : Nat} {gen : Option Nat} {flags : Nat} {body : List Byte} {carries : List Nat} (h : s.Keeps s₀) :
    (s.sendNode p cls at_ n typ kcls gen flags body carries).Keeps s₀ := by
  unfold State.sendNode
  dsimp only
  split
  · exact h
  · split
    · exact h
    · next b c t he =>
      exact (h.cznFrame he).onWire.ifThen (·.setCznNode)

theorem startFrame {p at_ : Nat} {f : TxFrame} (h : s.Keeps s₀) : (s.startFrame p at_ f).Keeps s₀ := by
  unfold State.startFrame
  split
  · exact h.onWire.finishAll
  · exact h.onWire
  · exact h.sendNode
  · exact h.sendGroup.frame.setPort

theorem pumpQueue {p : Nat} {fs : List TxFrame} (h : s.Keeps s₀) : (s.pumpQueue p fs).Keeps s₀ := by
  induction fs generalizing s with
  | nil => exact h
  | cons f fs ih => exact .ite (ih h.nextFree.startFrame) (ih (h.ifThen (·.bump)).setPort)

theorem pump {p : Nat} (h : s.Keeps s₀) : (s.pump p).Keeps s₀ := .ite h.setPort.pumpQueue h

theorem await {p : Nat} {f : TxFrame} (h : s.Keeps s₀) : (s.await p f).Keeps s₀ := h.bump.setPort

theorem transmit {p : Nat} {f : TxFrame} (h : s.Keeps s₀) : (s.transmit p f).Keeps s₀ := .ite h.nextFree.startFrame h.await

theorem toNode {n typ kcls : Nat} {gen : Option Nat} {flags : Nat} {body : List Byte} {carries : List Nat} (h : s.Keeps s₀) :
    (s.toNode n typ kcls gen flags body carries).Keeps s₀ := h.transmit

theorem showNode {n : Nat} (h : s.Keeps s₀) : (s.showNode n).Keeps s₀ := .ite h h.applyM

theorem nodeState {n st : Nat} (h : s.Keeps s₀) : (s.nodeState n st).Keeps s₀ :=
  (h.setCznNode.showNode.foldlFst fun _ _ ht => ht.refreshLum.pair).ifThen (·.applyM)

theorem sweep {addrs : List Nat} {q : Nat} (h : s.Keeps s₀) : (s.sweep addrs q).Keeps s₀ := .ite h h.applyM

theorem missed {n : Nat} {outs : List Nat} {lamps : Bool} (h : s.Keeps s₀) : (s.missed n outs lamps).Keeps s₀ := .ite h h.applyM

theorem reseat {n cause : Nat} (h : s.Keeps s₀) : (s.reseat n cause).Keeps s₀ := h.setCznNode.nodeState

theorem writeGates {p : Nat} {g : GateList} (h : s.Keeps s₀) : (s.writeGates p g).Keeps s₀ := h.setF.setF.foldl fun _ _ ht => ht.setF.setF

theorem useGates {p : Nat} {g : GateList} {factory : Bool} (h : s.Keeps s₀) : (s.useGates p g factory).Keeps s₀ := .ite h.setPort h.setPort

theorem checkGates {p tickMs : Nat} (h : s.Keeps s₀) : (s.checkGates p tickMs).Keeps s₀ := .ite h.useGates h.useGates.event

theorem sendOutputs {n : Nat} {offs : List Nat} (h : s.Keeps s₀) : (s.sendOutputs n offs).Keeps s₀ := h.setCznNode.foldl fun _ _ ht => ht.toNode

/-! ### Machine/RadioBase.lean -/

theorem setRadNode {n : Nat} {x : RadioNode} (h : s.Keeps s₀) : (s.setRadNode n x).Keeps s₀ := h.frame

theorem setRadChan {r : Nat} {x : RadioChan} (h : s.Keeps s₀) : (s.setRadChan r x).Keeps s₀ := h.frame

theorem showRadState {r : Nat} (h : s.Keeps s₀) : (s.showRadState r).Keeps s₀ := .ite h.setF.event h

theorem showRadStates (h : s.Keeps s₀) : s.showRadStates.Keeps s₀ := h.foldl fun _ _ ht => ht.showRadState

theorem setRadGen {r g : Nat} {x : RadioChan} (h : s.Keeps s₀) : (s.setRadGen r g x).Keeps s₀ := h.frame.setRadChan

theorem radGroup {r g : Nat} (h : s.Keeps s₀) : (s.radGroup r g).2.Keeps s₀ := by
  unfold State.radGroup
  split
  · exact h
  · exact h.random16.setRadChan

theorem radHold {r : Nat} (h : s.Keeps s₀) : (s.radHold r).Keeps s₀ := h.bump.ifElse (·.setF.event)

theorem radSent {r at_ air : Nat} (h : s.Keeps s₀) : (s.radSent r at_ air).Keeps s₀ := h.setRadChan

theorem onAir {r : Nat} {b : List Byte} (h : s.Keeps s₀) : (s.onAir r b).Keeps s₀ := h.emit.bump

theorem radFrame {r typ flags sel dst n : Nat} {key body b : List Byte} {t : State} (h : s.Keeps s₀)
    (he : s.radFrame r typ flags sel dst key body = some (b, n, t)) : t.Keeps s₀ := by
  simp only [State.radFrame] at he
  split at he
  · cases he
  · next hc => cases he; exact (h.takeCounter hc).wrN

theorem radSend {n typ kcls gen flags : Nat} {body : List Byte} {carries : List Nat} {at_ : Nat} (h : s.Keeps s₀) :
    (s.radSend n typ kcls gen flags body carries at_).Keeps s₀ := by
  unfold State.radSend
  dsimp only
  split
  · exact h
  · split
    · exact h
    · next b c t he =>
      exact (h.radFrame he).onAir.ifThen (·.setRadNode)

theorem radSwitch {r : Nat} (h : s.Keeps s₀) : (s.radSwitch r).Keeps s₀ := h.frame.wrN.setRadGen

theorem sendBeacon {r dst at_ : Nat} (h : s.Keeps s₀) : (s.sendBeacon r dst at_).Keeps s₀ := by
  unfold State.sendBeacon
  dsimp only
  split
  · exact (ite h.radSwitch h).radGroup
  · next b fst t he =>
    exact ((ite h.radSwitch h).radGroup.radFrame he).onAir.wrN.radSent.setRadChan

theorem radPoints {n : Nat} {l : List (Nat × Nat)} (h : s.Keeps s₀) : (s.radPoints n l).Keeps s₀ := .ite h.applyM h

theorem radNodeState {n st : Nat} (h : s.Keeps s₀) : (s.radNodeState n st).Keeps s₀ := .ite h h.setRadNode.radPoints

theorem airPut {m : RadAir} {r air : Nat} {f : Nat → State → State} (h : m.s.Keeps s₀) (hf : ∀ a t, t.Keeps s₀ → (f a t).Keeps s₀) :
    (m.put r air f).s.Keeps s₀ :=
  .airIte h (.airIte h (.airIte h.radHold (hf _ _ h.setF).radSent))

theorem radNotAcked {n : Nat} {u : CznUnacked} (h : s.Keeps s₀) : (s.radNotAcked n u).Keeps s₀ := h.setRadNode.event.ifThen (·.applyM)

theorem airAgain {m : RadAir} {n : Nat} {u : CznUnacked} (h : m.s.Keeps s₀) : (m.again n u).s.Keeps s₀ :=
  .airIte h (.airIte h.radNotAcked.air (h.airPut fun _ _ ht => ht.setRadNode.onAir))

theorem airPend {m : RadAir} {n : Nat} {f : Nat × List Byte} (h : m.s.Keeps s₀) : (m.pend n f).s.Keeps s₀ :=
  h.airPut fun _ _ ht => ht.setRadNode.radSend

theorem airOutputs {m : RadAir} {n : Nat} (h : m.s.Keeps s₀) : (m.outputs n).s.Keeps s₀ := by
  unfold RadAir.outputs
  split
  · exact h
  · exact h.airPut fun _ _ hu => hu.setRadNode.radSend

theorem airAgains {m : RadAir} {n : Nat} {us : List CznUnacked} (h : m.s.Keeps s₀) : (us.foldl (fun m u => m.again n u) m).s.Keeps s₀ := by
  induction us generalizing m with
  | nil => exact h
  | cons u us ih =>
    rw [List.foldl_cons]
    exact ih h.airAgain

theorem airServe {m : RadAir} {n : Nat} (h : m.s.Keeps s₀) : (m.serve n).s.Keeps s₀ :=
  .airIte (h.airAgains.foldlAir fun _ _ ht => ht.airPend).airOutputs h

theorem radPend {n typ : Nat} {body : List Byte} (h : s.Keeps s₀) : (s.radPend n typ body).Keeps s₀ := h.setRadNode

theorem radKeys {n g : Nat} (h : s.Keeps s₀) : (s.radKeys n g).Keeps s₀ := h.radGroup.radPend

theorem radWakeOnly {n : Nat} (h : s.Keeps s₀) : (s.radWakeOnly n).Keeps s₀ := .ite h h.setRadNode.event.radPoints

theorem callOut {n cmd : Nat} (h : s.Keeps s₀) : (s.callOut n cmd).Keeps s₀ := h.setRadNode.emit.bump.radPoints

theorem airBeacon {m : RadAir} {n : Nat} (h : m.s.Keeps s₀) : (m.beacon n).s.Keeps s₀ := .airIte h.air h.sendBeacon.air

theorem airAfterCall {m : RadAir} {n : Nat} (h : m.s.Keeps s₀) : (m.afterCall n).s.Keeps s₀ := airServe (.airIte h.airBeacon h)

theorem radCall {n cmd : Nat} (h : s.Keeps s₀) : (s.radCall n cmd).Keeps s₀ :=
  .ite h.setRadNode (.ite (h.setRadNode.air.airPut fun _ _ ht => ht.callOut) ((h.setRadNode.air.airPut fun _ _ ht => ht.callOut).air.airAfterCall))

theorem radCalls {r : Nat} (h : s.Keeps s₀) : (s.radCalls r).Keeps s₀ := .ite h (h.foldl fun _ _ ht => .ite ht ht.radCall)

theorem allCalls (h : s.Keeps s₀) : s.allCalls.Keeps s₀ := h.foldl fun _ _ ht => ht.radCalls

theorem radRekey {hd : Nat} (h : s.Keeps s₀) : (s.radRekey hd).Keeps s₀ :=
  h.foldl fun _ _ ht => .ite ht (.ite ht.setRadGen (ht.setRadChan.foldl fun _ _ hu => hu.setRadNode.radKeys))

theorem radAnnounce {r : Nat} (h : s.Keeps s₀) : (s.radAnnounce r).Keeps s₀ := .ite h.setRadChan h

theorem radGraceEnd {r : Nat} (h : s.Keeps s₀) : (s.radGraceEnd r).Keeps s₀ := .ite h.setRadChan h

/-! ### Machine/Roles.lean -/

theorem setEpoch {e : Nat} (h : s.Keeps s₀) : (s.setEpoch e).Keeps s₀ := h.frame.wrN

theorem sawEpoch {e : Nat} (h : s.Keeps s₀) : (s.sawEpoch e).Keeps s₀ := h.frame

theorem roleTrunks {was : Bool} (h : s.Keeps s₀) : (s.roleTrunks was).Keeps s₀ := h.foldl fun _ _ ht => ht.setPort

theorem stopCycles (h : s.Keeps s₀) : s.stopCycles.Keeps s₀ := h.applyDeferred.wrN.frame

theorem startCycles (h : s.Keeps s₀) : s.startCycles.Keeps s₀ := by
  unfold State.startCycles
  dsimp only
  split
  · exact .ite h.frame.setF h
  · exact h

theorem roleLamp (h : s.Keeps s₀) : s.roleLamp.Keeps s₀ := .ite (.ite h.lampStart h) h.frame

theorem roleMeter (h : s.Keeps s₀) : s.roleMeter.Keeps s₀ := (ite (.ite h.setF h) (.ite h.setF h)).foldl fun _ _ ht => ht.showPulse

theorem roleRadio (h : s.Keeps s₀) : s.roleRadio.Keeps s₀ := ((ite h (h.foldl fun _ _ ht => ht.setRadNode)).foldl fun _ _ ht => ht.setF).showRadStates

theorem enterRole {r : Role} (h : s.Keeps s₀) : (s.enterRole r).Keeps s₀ :=
  .ite h ((h.abortForRole.ifThen (·.stopCycles.finishAll)).frame.setF.wrN.roleTrunks.roleLamp.roleMeter.roleRadio.refreshServo.event.setCause)

theorem inService (h : s.Keeps s₀) : s.inService.Keeps s₀ := .ite h h.setF.event

theorem enterSeeding (h : s.Keeps s₀) : s.enterSeeding.Keeps s₀ := (ite h.finishAll h).enterRole.frame.setF

theorem sendYield {cause : Nat} (h : s.Keeps s₀) : (s.sendYield cause).Keeps s₀ := h.sendPeer.frame

theorem confirmHandover (h : s.Keeps s₀) : s.confirmHandover.Keeps s₀ := by
  unfold State.confirmHandover
  split
  · exact .ite h h.sendPeer.bump.frame
  · exact h

theorem demote {cause claim : Nat} (h : s.Keeps s₀) : (s.demote cause claim).Keeps s₀ := .ite h.bump.event.enterSeeding h

theorem enterActive {epoch : Nat} (h : s.Keeps s₀) : (s.enterActive epoch).Keeps s₀ := h.setEpoch.frame.enterRole.finishAll.startCycles

theorem endRotate {status : Nat} (h : s.Keeps s₀) : (s.endRotate status).Keeps s₀ := h.frame.finishAll

theorem revert {epoch : Nat} (h : s.Keeps s₀) : (s.revert epoch).Keeps s₀ := h.enterActive.bump.event.frame.endRotate

theorem planRevert {q : RdnReq} {epoch : Nat} (h : s.Keeps s₀) : (s.planRevert q epoch).Keeps s₀ := by
  unfold State.planRevert
  dsimp only
  split
  · exact .ite h.revert h.frame
  · exact h.revert

theorem revertNow (h : s.Keeps s₀) : s.revertNow.Keeps s₀ := by
  unfold State.revertNow
  split
  · exact .ite (h.revert.ifThen (·.frame)) h
  · exact h

theorem claimHigher {node claim : Nat} (h : s.Keeps s₀) : (s.claimHigher node claim).Keeps s₀ :=
  h.sawEpoch.ifThen fun ht => ht.event.ifBoth (·.setEpoch) (·.demote)

/-! ### Machine/Trunk.lean -/

theorem latchImages (h : s.Keeps s₀) : s.latchImages.Keeps s₀ := h.foldl fun _ _ ht => ht.setCznNode

theorem tickOutputs (h : s.Keeps s₀) : s.tickOutputs.Keeps s₀ := h.foldl fun _ _ ht => ht.sendOutputs

theorem sendKeys {n g : Nat} (h : s.Keeps s₀) : (s.sendKeys n g).Keeps s₀ := h.groupKey.toNode

theorem startRekey (h : s.Keeps s₀) : s.startRekey.Keeps s₀ := .ite h ((h.setF.setF.frame.foldl fun _ _ ht => ht.setCznNode.sendKeys).radRekey)

theorem execKeyAnnounce (h : s.Keeps s₀) : Answer.Keeps s₀ (execKeyAnnounce s) := .next ((h.foldl fun _ _ ht => ht.radAnnounce).ifThen (·.setF.wrN))

theorem execGenerationGraceEnd (h : s.Keeps s₀) : Answer.Keeps s₀ (execGenerationGraceEnd s) :=
  .next ((h.foldl fun _ _ ht => ht.radGraceEnd).ifThen fun ht => ht.setF.setF.wrN.foldl fun _ _ hu => hu.setPort)

theorem keySwitch (h : s.Keeps s₀) : s.keySwitch.Keeps s₀ := (h.setF.setF.foldl fun _ _ ht => ht.setPort).frame.event.finishAll

theorem portFresh {p : Nat} (h : s.Keeps s₀) : (s.portFresh p).Keeps s₀ := .ite h.frame.wrN.setPort h

theorem portSwitch {p seq : Nat} (h : s.Keeps s₀) : (s.portSwitch p seq).Keeps s₀ := (ite h.keySwitch h).ifThen (·.portFresh)

theorem endSwitch (h : s.Keeps s₀) : s.endSwitch.Keeps s₀ := (ite h.keySwitch h).foldl fun _ _ ht => ht.portFresh

theorem nodeStale {n : Nat} (h : s.Keeps s₀) : (s.nodeStale n).Keeps s₀ := (ite h.nodeState h).sweep

theorem missedCycle {p ins : Nat} (h : s.Keeps s₀) : (s.missedCycle p ins).Keeps s₀ := h.bumpSat.bumpF.ifThen (·.nodeStale)

theorem countMissed {p heard : Nat} (h : s.Keeps s₀) : (s.countMissed p heard).Keeps s₀ := h.setPort.wrN.foldl fun _ _ ht => .ite ht.setF ht.missedCycle

theorem missedReports {p : Nat} {pour : Option Nat} (h : s.Keeps s₀) : (s.missedReports p pour).Keeps s₀ :=
  h.foldl fun _ _ ht => .ite ht.setCznNode (.ite ht.missed ht)

theorem tickMissed {p : Nat} (h : s.Keeps s₀) : (s.tickMissed p).Keeps s₀ := .ite (h.foldl fun _ _ ht => ht.missedCycle) (.ite h.countMissed h)

theorem tickGates {t0 oldTick : Nat} (h : s.Keeps s₀) : (s.tickGates t0 oldTick).Keeps s₀ :=
  h.foldl fun _ _ ht => ht.tickMissed.ifBoth (·.setPort.checkGates.setPort) fun hu => .ite hu.setPort hu

theorem execTickBoundary (h : s.Keeps s₀) : Answer.Keeps s₀ (execTickBoundary s) := by
  unfold Machine.execTickBoundary
  split
  · exact .next h
  · exact .ite (.next h) (.next (h.endSwitch.lampTick.tickGates.ifThen fun hu => hu.latchImages.tickOutputs.ifThen (·.startRekey)))

theorem markSent {n seq : Nat} (h : s.Keeps s₀) : (s.markSent n seq).Keeps s₀ :=
  (h.foldl fun _ _ ht => ht.foldl fun _ _ hu => by split; exacts [hu.setChan, hu]).setCznNode.setPort

theorem mouldFlush {m : Moulds} {p seq : Nat} (h : m.s.Keeps s₀) : (m.flush p seq).s.Keeps s₀ :=
  .mouldIte h (.mouldIte ((h.nextFree.sendGroup.foldl fun _ _ ht => ht.markSent).mould) h.bump.mould)

theorem mouldPart {m : Moulds} {p seq n : Nat} {body : List Byte} (h : m.s.Keeps s₀) : (m.part p seq n body).s.Keeps s₀ :=
  .mouldIte h (.mouldIte ((h.nextFree.sendNode.setCznNode.ifThen (·.markSent)).mould) h.bump.mould)

theorem mouldNode {m : Moulds} {p seq n : Nat} (h : m.s.Keeps s₀) : (m.node p seq n).s.Keeps s₀ := by
  unfold Moulds.node
  refine .mouldIte h (.mouldIte (h.mouldFlush.foldlMould fun _ _ ht => ht.mouldPart) (.mouldIte (.mouldIte h ?_) h))
  exact .mouldIte (.mouldIte h.mouldFlush h) (mould (.mouldIte h.mouldFlush h))

theorem releaseMoulds {p : Nat} (h : s.Keeps s₀) : (s.releaseMoulds p).Keeps s₀ := .ite ((h.mould.foldlMould fun _ _ ht => ht.mouldNode).mouldFlush) h

theorem execLampEvaluationEnd {us : Nat} (h : s.Keeps s₀) : Answer.Keeps s₀ (execLampEvaluationEnd us s) :=
  .next (.ite (h.evalEnd.foldl fun _ _ ht => ht.releaseMoulds) h)

theorem sendPour {p : Nat} (h : s.Keeps s₀) : (s.sendPour p).Keeps s₀ := by
  unfold State.sendPour
  split
  · exact h
  · exact .ite h.portSwitch.nextFree.sendGroup.wrN.setPort h.nextFree

theorem pourEntryOpens {p : Nat} (h : s.Keeps s₀) : (s.pourEntryOpens p).Keeps s₀ := by
  unfold State.pourEntryOpens
  split
  · exact h
  · exact h.lateEntries.setPort.sendPour

theorem pourEntryCloses {p : Nat} (h : s.Keeps s₀) : (s.pourEntryCloses p).Keeps s₀ := by
  unfold State.pourEntryCloses
  split
  · exact h
  · exact h.setPort.ifThen (·.bump.event)

theorem execGateEntryStart {p : Nat} (h : s.Keeps s₀) : Answer.Keeps s₀ (execGateEntryStart p s) := by
  unfold Machine.execGateEntryStart
  split
  · exact .next h
  · refine .ite (.next h) ?_
    refine .next ?_
    refine ifElse ?_ fun hu => (ite hu.evalLate.releaseMoulds hu).pump
    exact ((ite h.pourEntryCloses h).ifThen (·.finishAll)).setPort.ifThen (·.pourEntryOpens)

theorem portStateEvent {p : Nat} (h : s.Keeps s₀) : (s.portStateEvent p).Keeps s₀ := h.event

theorem beaconStart {p : Nat} (h : s.Keeps s₀) : (s.beaconStart p).Keeps s₀ := h.setPort.emit.portStateEvent.sendPour

theorem execCoordinatorListenEnd {p : Nat} (h : s.Keeps s₀) : Answer.Keeps s₀ (execCoordinatorListenEnd p s) :=
  .next (by split; exacts [.ite h.beaconStart h, h])

theorem execSeedingListenEnd {p : Nat} (h : s.Keeps s₀) : Answer.Keeps s₀ (execSeedingListenEnd p s) :=
  .next (by split; exacts [.ite h.beaconStart h, h])

theorem execForeignBeacon {p : Nat} (h : s.Keeps s₀) : Answer.Keeps s₀ (execForeignBeacon p s) :=
  .ite (.next h) (.ite (.next h.setPort) (.next ((h.setPort.bumpSat.setPort.ifThen (·.event)).ifThen (·.setPort.portStateEvent))))

theorem execRollCallCycleEnd {p : Nat} (h : s.Keeps s₀) : Answer.Keeps s₀ (execRollCallCycleEnd p s) :=
  .ite (.next h) (.next (h.setPort.missedReports.ifThen (·.countMissed)))

theorem hearNode {f : TrunkFrame} (h : s.Keeps s₀) : (s.hearNode f).Keeps s₀ := by
  unfold State.hearNode
  split
  · exact h.setPort
  · exact h

theorem cznReject {f : TrunkFrame} {reason : Nat} (h : s.Keeps s₀) : (s.cznReject f reason).Keeps s₀ := h.bump.ifThen (·.post9)

theorem execTrunkFrameReceived {f : TrunkFrame} (h : s.Keeps s₀) : Answer.Keeps s₀ (execTrunkFrameReceived f s) := by
  unfold Machine.execTrunkFrameReceived
  refine .ite (.next h) ?_
  refine .ite (.next h.bump) ?_
  refine .ite (.next h.bump) ?_
  refine .ite (.next (((ite h.bump h.bump.hearNode).ifThen (·.post9)).bump)) ?_
  refine .ite (.next (((ite h.bump h.bump.hearNode).ifThen (·.post9)).ifBoth (·.post9) (·.bump))) ?_
  refine .ite (.next (((ite h.bump h.bump.hearNode).ifThen (·.post9)).cznReject)) ?_
  exact .ite (.next ((ite h.bump h.bump.hearNode).ifThen (·.post9))) (.next (((ite h.bump h.bump.hearNode).ifThen (·.post9)).cznReject))

theorem execTrkSend {e : CmdEntry} (h : s.Keeps s₀) : Answer.Keeps s₀ (execTrkSend e s) := by
  unfold Machine.execTrkSend
  refine h.runCmd fun _ _ hs => ?_
  refine .ite (.stat hs) ?_
  exact .ite (.stat hs) (.ite (.stat hs) (.ite (.stat hs) (.ite (.stat hs) (.ite (.okWith hs.nextFree.startFrame) (.wait hs.await)))))

theorem execTrkSendTimeout {p : Nat} (h : s.Keeps s₀) : Answer.Keeps s₀ (execTrkSendTimeout p s) := .next (h.foldl fun _ _ ht => ht.setPort.finish)

theorem setPortOn {p : Nat} {on : Bool} (h : s.Keeps s₀) : (s.setPortOn p on).Keeps s₀ := .ite h h.setF.setPort.portStateEvent

theorem execTrkPort {e : CmdEntry} (h : s.Keeps s₀) : Answer.Keeps s₀ (execTrkPort e s) :=
  h.runCmd fun _ _ hs => .ite (.stat hs) (.ite (.stat hs) (hs.freeRegs (.stat hs.setPortOn)))

theorem execTrkGates {e : CmdEntry} (h : s.Keeps s₀) : Answer.Keeps s₀ (execTrkGates e s) := by
  unfold Machine.execTrkGates
  refine h.runCmd fun _ _ hs => ?_
  refine .ite (.stat hs) ?_
  refine .ite (.stat hs) ?_
  refine .ite (.stat hs) ?_
  split
  · exact hs.stageChanges
  · exact .ite hs.conflict (.ite (.wait hs.writeGates.useGates) (.stat hs.writeGates.useGates))

theorem setGatectl {p : Nat} {entry : Option Nat} {v : Word} (h : s.Keeps s₀) : (s.setGatectl p entry v).Keeps s₀ := by
  unfold State.setGatectl
  split
  · exact h.setF.setF
  · exact .ite h.setF.setF h

theorem writeGatectl {p : Nat} {entry : Option Nat} {v : Word} (h : s.Keeps s₀) : (s.writeGatectl p entry v).Keeps s₀ := h.setGatectl.checkGates

theorem ethResume {g : Nat} (h : s.Keeps s₀) : (s.ethResume g).Keeps s₀ := h.setEth.setF.foldl fun _ _ ht => ht.ethOut

theorem execPauseFrameReceived {g quanta : Nat} (h : s.Keeps s₀) : Answer.Keeps s₀ (execPauseFrameReceived g quanta s) :=
  .ite (.next h) (.ite (.next h.bump) (.next (((h.bump.ifThen (·.bump)).ifThen (·.setEth.event)).ifBoth (·.ethResume) (·.setEth.setF))))

theorem execPauseQuantaEnd {g : Nat} (h : s.Keeps s₀) : Answer.Keeps s₀ (execPauseQuantaEnd g s) := .next (by split; exacts [.ite h.ethResume h, h])

theorem execLinkChange {g : Nat} {up : Bool} (h : s.Keeps s₀) : Answer.Keeps s₀ (execLinkChange g up s) :=
  .next (.ite h ((h.setF.ifElse (·.setEth.setF)).event))

/-! ### Machine/Czn.lean -/

theorem authFailed {f : TrunkFrame} (h : s.Keeps s₀) : (s.authFailed f).Keeps s₀ := by
  unfold State.authFailed
  dsimp only
  split
  · exact (h.cznReject.setPort.ifThen (·.event)).setCznNode.showNode
  · exact h.cznReject.setPort.ifThen (·.event)

theorem openFrame {f : TrunkFrame} {typ : Nat} (h : s.Keeps s₀) : (s.openFrame f typ).1.Keeps s₀ := by
  unfold State.openFrame
  refine .fstIte h ?_
  refine .fstIte h.cznReject ?_
  dsimp only
  split
  · split
    · exact h.authFailed
    · split
      · exact h.authFailed
      · exact h
  · exact h.authFailed

theorem ackFrame {c : CznIn} {typ status : Nat} (h : s.Keeps s₀) : (s.ackFrame c typ status).Keeps s₀ := .ite h.toNode h

theorem nodeHeard {f : TrunkFrame} {n counter : Nat} (h : s.Keeps s₀) : (s.nodeHeard f n counter).Keeps s₀ :=
  h.setCznNode.ifBoth (fun ht => .ite ht.reseat ht.nodeState) fun ht => .ite ht.nodeState ht

theorem takeFrame {f : TrunkFrame} {typ : Nat} (h : s.Keeps s₀) : (s.takeFrame f typ).1.Keeps s₀ := by
  unfold State.takeFrame
  split
  · next t he =>
    exact h.openFrame.ofFst he
  · next t c he =>
    have h1 := h.openFrame.ofFst he
    dsimp only
    split
    · exact h1.bump
    · exact h1.bump.nodeHeard.setCznNode.showNode.ackFrame
    · exact h1.setCznNode.nodeHeard.claimHigher

theorem badContent {f : TrunkFrame} {c : CznIn} {typ : Nat} (h : s.Keeps s₀) : (s.badContent f c typ).Keeps s₀ := h.bump.ackFrame

theorem refuseNode {p id reason uid : Nat} (h : s.Keeps s₀) : (s.refuseNode p id reason uid).Keeps s₀ := h.event.ifThen (·.nodeState)

theorem admitNode {n ver : Nat} {e : CznEntry} {key mac : List Byte} {ws : List CznWindow} {counter stamp : Nat} {b : List Byte} (h : s.Keeps s₀) :
    (s.admitNode n ver e key mac ws counter stamp b).Keeps s₀ := (h.setCznNode.ifThen (·.event)).setCznNode.event.nodeState.toNode

theorem setHelloWindows {uid : Nat} {ws : List CznWindow} (h : s.Keeps s₀) : (s.setHelloWindows uid ws).Keeps s₀ := by
  unfold State.setHelloWindows
  split
  · exact h.setCznNode
  · exact h.setStranger

theorem judgeHello {f : TrunkFrame} {key body : List Byte} (h : s.Keeps s₀) : (s.judgeHello f key body).Keeps s₀ := by
  unfold State.judgeHello
  refine .ite h.refuseNode ?_
  split
  · exact h.refuseNode
  · exact .ite h.refuseNode (.ite h.refuseNode h.admitNode.claimHigher)

theorem execHello {f : TrunkFrame} (h : s.Keeps s₀) : Answer.Keeps s₀ (execHello f s) := by
  unfold Machine.execHello
  refine .ite (.next h) ?_
  refine .ite (.next h.cznReject) ?_
  split
  · exact .next h.authFailed
  · dsimp only
    split
    · exact .next h.authFailed
    · split
      · exact .next h.bump
      · exact .next h.bump
      · exact .next (h.setHelloWindows.ifBoth (·.bump) (·.judgeHello))

theorem acked {n : Nat} {u : CznUnacked} {status : Nat} (h : s.Keeps s₀) : (s.acked n u status).Keeps s₀ :=
  .ite (.ite h (.ite h.nodeState (h.reseat.sendKeys.ifThen (·.sendKeys)))) (.ite (.ite h.setCznNode h) (.ite (.ite h.missed h.applyM) h))

theorem execAck {f : TrunkFrame} (h : s.Keeps s₀) : Answer.Keeps s₀ (execAck f s) := by
  unfold Machine.execAck
  split
  · next t he =>
    exact .next (h.takeFrame.ofFst he)
  · next t c he =>
    have h1 := h.takeFrame.ofFst he
    refine .ite (.next h1.badContent) ?_
    dsimp only
    split
    · exact .next h1
    · exact .next (h1.setCznNode.ifThen (·.acked))

theorem execRetransmitTimeout {n : Nat} (h : s.Keeps s₀) : Answer.Keeps s₀ (execRetransmitTimeout n s) := by
  unfold Machine.execRetransmitTimeout
  refine .next ?_
  refine .ite h ?_
  refine h.foldl fun _ _ ht => ?_
  exact .ite ht.setCznNode.transmit (ht.setCznNode.event.ifBoth (fun hu => .ite hu.nodeState hu) fun hu => .ite hu.missed hu.missed)

theorem takeMeas {items : List Item} (h : s.Keeps s₀) : (s.takeMeas items).Keeps s₀ := h.foldl fun _ _ ht => by split; exacts [ht.setChan, ht]

theorem deliver {n p : Nat} {pick : LampEntry → Bool} (h : s.Keeps s₀) : (s.deliver n p pick).Keeps s₀ :=
  h.foldl fun _ _ ht => ht.foldl fun _ _ hu => by dsimp only; split; exacts [.ite hu.setChan hu, hu]

theorem imagePoured {n p : Nat} (h : s.Keeps s₀) : (s.imagePoured n p).Keeps s₀ := h.foldl fun _ _ ht => ht.setChan

theorem reseated {n seq : Nat} (h : s.Keeps s₀) : (s.reseated n seq).Keeps s₀ := h.setCznNode.applyM.post6.event.nodeState.finishAll

theorem mouldFlags {n seq flags : Nat} (h : s.Keeps s₀) : (s.mouldFlags n seq flags).Keeps s₀ :=
  ((ite h.deliver.imagePoured.reseated (.ite h.deliver (.ite h.missed h))).ifThen (·.pourWrites)).ifThen (·.reseat)

theorem reportFlags {n seq flags : Nat} (h : s.Keeps s₀) : (s.reportFlags n seq flags).Keeps s₀ :=
  (h.setCznNode.mouldFlags.showNode.ifThen (·.sendKeys)).ifThen (·.startRekey)

theorem execReport {f : TrunkFrame} (h : s.Keeps s₀) : Answer.Keeps s₀ (execReport f s) := by
  unfold Machine.execReport
  split
  · next t he =>
    exact .next (h.takeFrame.ofFst he)
  · next t c he =>
    have h1 := h.takeFrame.ofFst he
    refine .ite (.next h1.badContent) ?_
    exact .ite (.next h1) (.next ((h1.bump.applyM.takeMeas.foldlFst fun _ _ hu => hu.refreshLum.pair).applyM.reportFlags.ackFrame))

theorem execDelayReq {f : TrunkFrame} (h : s.Keeps s₀) : Answer.Keeps s₀ (execDelayReq f s) := by
  unfold Machine.execDelayReq
  split
  · next t he =>
    exact .next (h.takeFrame.ofFst he)
  · next t c he =>
    have h1 := h.takeFrame.ofFst he
    exact .ite (.next h1.badContent) (.ite (.next h1) (.next h1.toNode))

theorem execTimeFrameDue (h : s.Keeps s₀) : Answer.Keeps s₀ (execTimeFrameDue s) := .next (h.foldl fun _ _ ht => .ite ht.setPort.transmit ht)

theorem execNodeHoldExpiry {n : Nat} (h : s.Keeps s₀) : Answer.Keeps s₀ (execNodeHoldExpiry n s) :=
  .next (by split; exacts [h, .ite (h.setCznNode.nodeState.ifThen (·.sweep.post6.event)) h])

theorem execCznNode {e : CmdEntry} (h : s.Keeps s₀) : Answer.Keeps s₀ (execCznNode e s) :=
  h.runCmd fun _ _ hs => .ite (.stat hs) (.ite (.stat hs) (.ite (.stat hs) (.okWith hs)))

theorem execCznReseat {e : CmdEntry} (h : s.Keeps s₀) : Answer.Keeps s₀ (execCznReseat e s) :=
  h.runCmd fun _ _ hs => .ite (.stat hs) (.ite (.stat hs) (.ite (.stat hs) (.ite (.stat hs) (.wait (.ite hs.reseat hs)))))

theorem execCznReseatTimeout {n : Nat} (h : s.Keeps s₀) : Answer.Keeps s₀ (execCznReseatTimeout n s) := .next h.finishAll

theorem execCznRekey {e : CmdEntry} (h : s.Keeps s₀) : Answer.Keeps s₀ (execCznRekey e s) :=
  h.runCmd fun _ _ hs => .ite (.stat hs) (.ite (.stat hs) (.ite (.stat hs) (.wait hs.startRekey)))

theorem loadCznEntries {es : List CznEntry} (h : s.Keeps s₀) : (s.loadCznEntries es).Keeps s₀ := by
  unfold State.loadCznEntries
  refine foldl ?_ fun _ _ ht => by split; exacts [.ite ht.setCznNode.nodeState (.ite ht.nodeState ht), ht]
  exact h.swapCfg

theorem execCznNodetable {e : CmdEntry} (h : s.Keeps s₀) : Answer.Keeps s₀ (execCznNodetable e s) := by
  unfold Machine.execCznNodetable
  refine h.runCmd fun _ _ hs => ?_
  refine .ite (.stat hs) ?_
  refine .ite (.stat hs) ?_
  exact .ite (.stat hs) (by split; exacts [.stat hs, hs.stageTable fun _ hv => hv.loadCznEntries])

/-! ### Machine/Pat.lean -/

theorem setPat {k : Nat} {x : PatSlot} (h : s.Keeps s₀) : (s.setPat k x).Keeps s₀ := h.frame

theorem setPatState {k v : Nat} (h : s.Keeps s₀) : (s.setPatState k v).Keeps s₀ := h.setF

theorem execPatBegin {e : CmdEntry} (h : s.Keeps s₀) : Answer.Keeps s₀ (execPatBegin e s) := by
  unfold Machine.execPatBegin
  refine h.runCmd fun _ _ hs => ?_
  refine .ite (.ite (.stat hs) (.ite (.stat hs) (.stat hs.setPat.setPatState.wr))) ?_
  exact .ite (by split; exacts [.stat hs, .ite (.stat hs) (.staged hs.setTxn)]) (.stat hs)

theorem patBlock {off : Nat} {buf : List Byte} (h : s.Keeps s₀) : (s.patBlock off buf).Keeps s₀ := by
  unfold State.patBlock
  dsimp only
  split
  · exact .stat h
  · split
    · exact .stat h
    · exact .ite (.okWith h.setPat.setPatState.wrN) (.okWith h.setPat)

theorem cfgBlock {k off : Nat} {buf : List Byte} (h : s.Keeps s₀) : (s.cfgBlock k off buf).Keeps s₀ := by
  unfold State.cfgBlock
  dsimp only
  split
  · exact .stat h
  · split
    · exact .stat h
    · exact .staged h.setTxn

theorem execPatBlock {e : CmdEntry} (h : s.Keeps s₀) : Answer.Keeps s₀ (execPatBlock e s) := by
  unfold Machine.execPatBlock
  refine h.runCmd fun _ _ hs => ?_
  exact .ite (.stat hs) (.ite hs.patBlock (.ite (by split; exacts [.stat hs, hs.cfgBlock]) (.stat hs)))

theorem execPatQuery {e : CmdEntry} (h : s.Keeps s₀) : Answer.Keeps s₀ (execPatQuery e s) := by
  unfold Machine.execPatQuery
  refine h.runCmd fun _ _ hs => ?_
  refine .ite ?_ ?_
  · exact .ite (.stat hs) (by split <;> exact .okWith hs)
  · refine .ite ?_ (.stat hs)
    split <;> dsimp only <;> split
    exacts [.stat hs, .okWith hs, .stat hs, .okWith hs]

theorem execPatVerify {e : CmdEntry} (h : s.Keeps s₀) : Answer.Keeps s₀ (execPatVerify e s) := by
  unfold Machine.execPatVerify
  refine h.runCmd fun _ _ hs => ?_
  refine .ite (.stat hs) ?_
  refine .ite (.stat hs) ?_
  exact .ite (.stat hs) (by split; exacts [.stat hs, .stat ((ite hs.setPatState hs).event)])

/-! ### Machine/KeyCmd.lean -/

theorem execKeySlotSet {e : CmdEntry} (h : s.Keeps s₀) : Answer.Keeps s₀ (execKeySlotSet e s) := by
  unfold Machine.execKeySlotSet
  refine h.runCmd fun _ _ hs => ?_
  exact .ite (.stat hs) (by split; exacts [.stat hs, hs.stageOr fun _ hv => .stat hv.keySet])

theorem execKeySlotClear {e : CmdEntry} (h : s.Keeps s₀) : Answer.Keeps s₀ (execKeySlotClear e s) := by
  unfold Machine.execKeySlotClear
  refine h.runCmd fun _ _ hs => ?_
  dsimp only
  split
  · exact .stat hs
  · exact .ite (.stat hs) (hs.stageOr fun _ hv => .stat hv.keyClear)

theorem execKeyRootSet {e : CmdEntry} (h : s.Keeps s₀) : Answer.Keeps s₀ (execKeyRootSet e s) :=
  h.runCmd fun _ _ hs => .ite (.stat hs) (by split; exacts [.stat hs, .stat hs.keyRootSet])

theorem wrDone (h : s.Keeps s₀) : s.wrDone.Keeps s₀ := (h.foldl fun _ _ ht => ht.wr).setF

theorem keyGo (h : s.Keeps s₀) : s.keyGo.Keeps s₀ := by
  unfold State.keyGo
  refine .ite ?_ ?_
  · split
    · exact h.keyReject
    · exact h.keyRootSet.wrDone
  · dsimp only
    split
    · exact h.keyReject
    · exact h.doomKey.keySet.wrDone

theorem writeKeyMode {value : Word} (h : s.Keeps s₀) : (s.writeKeyMode value).Keeps s₀ :=
  .ite h (by split; exacts [h.setF.setF, h.setF.ifElse (·.event)])

theorem writeCznSrc {value : Word} (h : s.Keeps s₀) : (s.writeCznSrc value).Keeps s₀ := by
  unfold State.writeCznSrc
  split
  · exact h.setF.setF
  · exact h.wr

theorem writeOwnerLock {value : Word} (h : s.Keeps s₀) : (s.writeOwnerLock value).Keeps s₀ := .ite h.setF h

theorem execKeySendDelayEnd {slot : Nat} (h : s.Keeps s₀) : Answer.Keeps s₀ (execKeySendDelayEnd slot s) := .next (.ite h.setKeySlot h)

theorem execOldKeyGraceEnd {slot : Nat} (h : s.Keeps s₀) : Answer.Keeps s₀ (execOldKeyGraceEnd slot s) := .next (.ite h.setKeySlot h)

theorem abortKeyTxns (h : s.Keeps s₀) : s.abortKeyTxns.Keeps s₀ := h.foldl fun _ _ ht => .ite ht.abortTxn ht

theorem writeLcReq {value : Word} (h : s.Keeps s₀) : (s.writeLcReq value).Keeps s₀ := .ite h.setF.setF.frame.abortKeyTxns h.setF

theorem execKeyAttest {e : CmdEntry} (h : s.Keeps s₀) : Answer.Keeps s₀ (execKeyAttest e s) :=
  h.runCmd fun _ _ hs => .ite (.stat hs) (.ite (.stat hs) (.wait hs.frame.setF))

theorem execStatementSigned (h : s.Keeps s₀) : Answer.Keeps s₀ (execStatementSigned s) := by
  unfold Machine.execStatementSigned
  split
  · exact .next h
  · split
    · exact .ite (.next h.setF.finish) (.ite (.next h.setF.event.frame.finish) (.next h.setF.event.frame.finish))
    · exact .next h

theorem execKeyIdcert {e : CmdEntry} (h : s.Keeps s₀) : Answer.Keeps s₀ (execKeyIdcert e s) :=
  h.runCmd fun _ _ hs => .ite (.stat hs) (.ite (.stat hs) (.done hs))

theorem execKeyNodekey {e : CmdEntry} (h : s.Keeps s₀) : Answer.Keeps s₀ (execKeyNodekey e s) := by
  unfold Machine.execKeyNodekey
  refine h.runCmd fun _ _ hs => ?_
  exact .ite (.stat hs) (.ite (.stat hs) (by split; exacts [.stat hs, .done hs.touchKey]))

/-! ### Machine/Witness.lean -/

theorem sendWit {slot pairId typ : Nat} {addr body : List Byte} (h : s.Keeps s₀) : (s.sendWit slot addr pairId typ body).Keeps s₀ := by
  unfold State.sendWit
  split
  · next he => exact (h.takeCounter he).touchKey.frame.ethOut
  · exact h

theorem setWitPair {p : Nat} {x : WitPair} (h : s.Keeps s₀) : (s.setWitPair p x).Keeps s₀ := h.frame

theorem setWitE {p e : Nat} (h : s.Keeps s₀) : (s.setWitE p e).Keeps s₀ := h.frame

theorem setWitUnit {p u : Nat} {y : WitUnit} (h : s.Keeps s₀) : (s.setWitUnit p u y).Keeps s₀ := h.setWitPair

theorem witSend {c : PairCfg} {u typ : Nat} {body : List Byte} (h : s.Keeps s₀) : (s.witSend c u typ body).Keeps s₀ := h.sendWit

theorem witStatus {c : PairCfg} (h : s.Keeps s₀) : (s.witStatus c).Keeps s₀ := h.witSend.witSend

theorem witAnswer {c : PairCfg} {u : Nat} (h : s.Keeps s₀) : (s.witAnswer c u).Keeps s₀ := .ite h.witSend (.ite h.witSend h)

theorem witGrant {c : PairCfg} {u : Nat} (h : s.Keeps s₀) : (s.witGrant c u).Keeps s₀ := h.setWitE.setWitPair.witAnswer.witStatus

theorem witDeny {c : PairCfg} {u reason : Nat} (h : s.Keeps s₀) : (s.witDeny c u reason).Keeps s₀ := h.setWitUnit.witAnswer

theorem witDecide {c : PairCfg} (h : s.Keeps s₀) : (s.witDecide c).Keeps s₀ := by
  unfold State.witDecide
  dsimp only
  split
  · exact h.setWitPair.ifBoth (·.witGrant.witDeny) (·.witGrant.witDeny)
  · exact h.setWitPair.witGrant
  · exact h.setWitPair.witGrant
  · exact h.setWitPair

theorem witRequest {c : PairCfg} {u nonce reason lae seen : Nat} (h : s.Keeps s₀) : (s.witRequest c u nonce reason lae seen).Keeps s₀ := by
  unfold State.witRequest
  refine (ite h.setWitE h).setWitUnit.ifBoth (·.witDeny) fun ht => ?_
  refine .ite (.ite ht.witDeny (ht.setWitPair.ifThen (·.witDecide))) ?_
  exact .ite (.ite ht.witDeny ht.witGrant) (.ite (.ite ht.witGrant ht.witDeny) (.ite (.ite ht.witGrant ht.witDeny) ht))

theorem witFrom {f : EthFrame} (h : s.Keeps s₀) : (s.witFrom f).1.Keeps s₀ := by
  unfold State.witFrom
  split
  · next t he =>
    exact h.ethIn.ofFst he
  · next t b he =>
    have h1 := h.ethIn.ofFst he
    refine .fstIte h1 ?_
    split
    · exact h1
    · split
      · exact h1
      · split
        · exact h1
        · exact .fstIte h1 h1.setWitUnit

theorem execHeartbeat {f : EthFrame} (h : s.Keeps s₀) : Answer.Keeps s₀ (execHeartbeat f s) := by
  unfold Machine.execHeartbeat
  refine .next ?_
  split
  · next t m c u he =>
    have h1 := h.witFrom.ofFst he
    exact .ite h1 (h1.setWitUnit.ifBoth (fun hu => hu.setWitE.ifThen (·.setWitPair)) fun hu => .ite hu.witSend hu)
  · next t he =>
    exact h.witFrom.ofFst he

theorem execRequest {f : EthFrame} (h : s.Keeps s₀) : Answer.Keeps s₀ (execRequest f s) := by
  unfold Machine.execRequest
  refine .next ?_
  split
  · next t m c u he =>
    have h1 := h.witFrom.ofFst he
    exact .ite h1 (.ite h1.witAnswer h1.witRequest)
  · next t he =>
    exact h.witFrom.ofFst he

theorem execVote {f : EthFrame} (h : s.Keeps s₀) : Answer.Keeps s₀ (execVote f s) := by
  unfold Machine.execVote
  refine .next ?_
  split
  · next t m c u he =>
    have h1 := h.witFrom.ofFst he
    exact .ite h1 (by split; exacts [h1.witSend, h1])
  · next t he =>
    exact h.witFrom.ofFst he

theorem execWitnessStartHoldEnd {pair : Nat} (h : s.Keeps s₀) : Answer.Keeps s₀ (execWitnessStartHoldEnd pair s) :=
  .next (.ite h (by split; exacts [.ite h.witDecide h, h]))

theorem execWitnessStatusDue {pair : Nat} (h : s.Keeps s₀) : Answer.Keeps s₀ (execWitnessStatusDue pair s) :=
  .next (.ite h (by split; exacts [.ite h.witStatus.setWitPair h, h]))

theorem execWitnessHoldingEnd (h : s.Keeps s₀) : Answer.Keeps s₀ (execWitnessHoldingEnd s) := .next (.ite h.frame h)

/-! ### Machine/Radio.lean -/

theorem post7 {f : RadioFrame} {reason : Nat} (h : s.Keeps s₀) : (s.post7 f reason).Keeps s₀ := h.frame.post

theorem radReject {f : RadioFrame} {reg reason : Nat} (h : s.Keeps s₀) : (s.radReject f reg reason).Keeps s₀ := h.bump.ifThen (·.post7)

theorem radLoad {r : Nat} (h : s.Keeps s₀) : (s.radLoad r).Keeps s₀ := h.setRadChan.ifBoth (·.setF.event) fun ht => .ite ht.setF ht

theorem radAuthFailed {f : RadioFrame} {n : Option Nat} (h : s.Keeps s₀) : (s.radAuthFailed f n).Keeps s₀ := by
  unfold State.radAuthFailed
  dsimp only
  split
  · exact h.radReject.setRadChan.ifThen (·.event)
  · exact (h.radReject.setRadChan.ifThen (·.event)).setRadNode.radPoints

theorem postUplink {n : Nat} {ack : Option (Nat × Nat × List Byte)} (h : s.Keeps s₀) : (s.postUplink n ack).Keeps s₀ :=
  .ite h (.ite h (airServe (by split; exacts [h.air.airPut fun _ _ hu => hu.radSend, h.air])))

theorem radHeard {f : RadioFrame} {n counter : Nat} {fresh : Bool} (h : s.Keeps s₀) : (s.radHeard f n counter fresh).Keeps s₀ :=
  ((h.setRadNode.ifBoth (·.radWakeOnly) (·.setRadNode)).radPoints.ifBoth (·.radNodeState) fun ht => .ite ht.radNodeState ht).finishAll

theorem radAcked {n : Nat} {u : CznUnacked} {status : Nat} (h : s.Keeps s₀) : (s.radAcked n u status).Keeps s₀ := by
  unfold State.radAcked
  refine .ite (.ite h (.ite h.setRadNode.radNodeState (h.radKeys.ifThen (·.radKeys)))) ?_
  refine .ite ?_ (.ite (.ite h.radNodeState h) (.ite (.ite h.applyM (h.applyM.ifThen (·.radNodeState))) h))
  dsimp only
  split
  · exact (ite h.setRadNode h).ifThen (·.radPend)
  · exact .ite h.setRadNode h

theorem radReport {f : RadioFrame} {c : RadIn} (h : s.Keeps s₀) : (s.radReport f c).Keeps s₀ :=
  .ite h.bump.postUplink (.ite h (((h.bump.applyM.ifThen (·.radKeys)).ifThen (·.startRekey)).postUplink))

theorem radAck {f : RadioFrame} {c : RadIn} (h : s.Keeps s₀) : (s.radAck f c).Keeps s₀ := by
  unfold State.radAck
  refine .ite h.bump.postUplink ?_
  dsimp only
  split
  · exact h.postUplink
  · exact (h.setRadNode.ifThen (·.radAcked)).postUplink

theorem radNodeFrame {f : RadioFrame} (h : s.Keeps s₀) : (s.radNodeFrame f).Keeps s₀ := by
  unfold State.radNodeFrame
  dsimp only
  split
  · exact h.radReject
  · split
    · exact h.radAuthFailed
    · split
      · exact h.bump
      · exact h.bump.radHeard.setRadNode.radPoints.postUplink
      · exact h.setRadNode.radHeard.claimHigher.ifBoth (·.radAck) (·.radReport)

theorem radRefuse {r reason uid : Nat} (h : s.Keeps s₀) : (s.radRefuse r reason uid).Keeps s₀ := h.event

theorem setRadHelloWindows {uid : Nat} {ws : List CznWindow} (h : s.Keeps s₀) : (s.setRadHelloWindows uid ws).Keeps s₀ := by
  unfold State.setRadHelloWindows
  split
  · exact h.setRadNode
  · exact h.setStranger

theorem radJudge {f : RadioFrame} {key b : List Byte} (h : s.Keeps s₀) : (s.radJudge f key b).Keeps s₀ := by
  unfold State.radJudge
  dsimp only
  split
  · exact h.radRefuse
  · exact .ite h.radRefuse.radNodeState h.setRadNode.radHeard.event.radNodeState.claimHigher.nextFree.radPend.postUplink

theorem radHello {f : RadioFrame} (h : s.Keeps s₀) : (s.radHello f).Keeps s₀ := by
  unfold State.radHello
  refine .ite h ?_
  refine .ite h.radReject ?_
  split
  · exact h.radAuthFailed
  · split
    · exact h.radAuthFailed
    · dsimp only
      split
      · exact h.bump
      · exact h.bump
      · exact h.setRadHelloWindows.ifBoth (·.bump) (·.radJudge)

theorem radHearBeacon {f : RadioFrame} (h : s.Keeps s₀) : (s.radHearBeacon f).Keeps s₀ := by
  unfold State.radHearBeacon
  dsimp only
  split
  · exact h.radAuthFailed
  · exact .ite h.radAuthFailed (.ite h.bump (.ite h.bump (h.setRadChan.ifBoth (·.bump) fun hu => .ite hu hu.wrN.setF.setRadChan)))

theorem execRadioFrameReceived {f : RadioFrame} (h : s.Keeps s₀) : Answer.Keeps s₀ (execRadioFrameReceived f s) := by
  unfold Machine.execRadioFrameReceived
  refine .ite (.next h) ?_
  refine .ite (.next h.bump) ?_
  refine .ite (.next (((h.bump.ifThen (·.post7)).ifElse (·.setRadChan.radLoad)).radReject)) ?_
  refine .ite (.next (((h.bump.ifThen (·.post7)).ifElse (·.setRadChan.radLoad)).radReject)) ?_
  refine .ite (.next (((h.bump.ifThen (·.post7)).ifElse (·.setRadChan.radLoad)).ifThen (·.radHearBeacon))) ?_
  refine .ite (.next (((h.bump.ifThen (·.post7)).ifElse (·.setRadChan.radLoad)).radHello)) ?_
  exact .next (((h.bump.ifThen (·.post7)).ifElse (·.setRadChan.radLoad)).radNodeFrame)

theorem execRadioAdmissionTimeout {n : Nat} (h : s.Keeps s₀) : Answer.Keeps s₀ (execRadioAdmissionTimeout n s) :=
  .next (.ite h.setRadNode.radNodeState h)

theorem radInstant {receiving r : Nat} (h : s.Keeps s₀) : (s.radInstant receiving r).Keeps s₀ :=
  .ite ((h.setRadChan.ifThen (·.bump)).sendBeacon.frame.radLoad.radCalls) h

theorem execBeaconInstant {receiving : Nat} (h : s.Keeps s₀) : Answer.Keeps s₀ (execBeaconInstant receiving s) :=
  .next (h.foldl fun _ _ ht => ht.radInstant)

theorem execListenWindow {n : Nat} (h : s.Keeps s₀) : Answer.Keeps s₀ (execListenWindow n s) := by
  unfold Machine.execListenWindow
  split
  · exact .next h
  · dsimp only
    split
    · exact .next h
    · refine .ite (.next h) ?_
      refine .ite (.next ((ite h.radWakeOnly h).setRadNode)) ?_
      refine .ite (.next ((ite h.radWakeOnly h).setRadNode.radCall)) ?_
      exact .ite (.next ((ite h.radWakeOnly h).setRadNode.bump)) (.next ((ite h.radWakeOnly h).setRadNode.air.airServe))

theorem execStandbyBeaconMiss {r : Nat} (h : s.Keeps s₀) : Answer.Keeps s₀ (execStandbyBeaconMiss r s) :=
  .ite (.next h) (.ite (.next h.setRadChan) (.ite (.next h.setRadChan.bumpSat) (.next h.setRadChan.bumpSat.setRadChan.event.sendWit.event)))

theorem execRadioNodeStale {n : Nat} (h : s.Keeps s₀) : Answer.Keeps s₀ (execRadioNodeStale n s) :=
  .next (by split; exacts [h, .ite h.radNodeState.sweep h])

theorem execRadioNodeAbsent {n : Nat} (h : s.Keeps s₀) : Answer.Keeps s₀ (execRadioNodeAbsent n s) :=
  .next (by split; exacts [h, .ite (h.setRadNode.radNodeState.ifThen (·.sweep.post6.event)) h])

theorem execRadNode {e : CmdEntry} (h : s.Keeps s₀) : Answer.Keeps s₀ (execRadNode e s) :=
  h.runCmd fun _ _ hs => .ite (.stat hs) (.ite (.stat hs) (.ite (.stat hs) (.okWith hs)))

theorem execRadWake {e : CmdEntry} (h : s.Keeps s₀) : Answer.Keeps s₀ (execRadWake e s) := by
  unfold Machine.execRadWake
  refine h.runCmd fun _ _ hs => ?_
  exact .ite (.stat hs) (.ite (.stat hs) (.ite (.stat hs) (.ite (.stat hs) (.ite (.stat hs) (.ite (.stat hs.radCall) (.wait hs.radCall))))))

theorem execRadWakeTimeout {n : Nat} (h : s.Keeps s₀) : Answer.Keeps s₀ (execRadWakeTimeout n s) := .next h.finishAll

theorem execWallClockHour (h : s.Keeps s₀) : Answer.Keeps s₀ (execWallClockHour s) := .next ((h.foldl fun _ _ ht => .ite ht ht.setRadNode).allCalls)

theorem loadRadioEntries {es : List RadioEntry} (h : s.Keeps s₀) : (s.loadRadioEntries es).Keeps s₀ := by
  unfold State.loadRadioEntries
  refine h.swapCfg.foldl fun _ _ ht => ?_
  split
  · exact .ite (ht.setRadNode.ifElse (·.radPoints)) (.ite ht.radNodeState (.ite ht.radPend ht))
  · exact ht

theorem execRadNodetable {e : CmdEntry} (h : s.Keeps s₀) : Answer.Keeps s₀ (execRadNodetable e s) := by
  unfold Machine.execRadNodetable
  refine h.runCmd fun _ _ hs => ?_
  refine .ite (.stat hs) ?_
  exact .ite (.stat hs) (by split; exacts [.stat hs, hs.stageTable fun _ hv => hv.loadRadioEntries])

theorem setRadOn {r : Nat} {on : Bool} (h : s.Keeps s₀) : (s.setRadOn r on).Keeps s₀ := .ite h ((h.setF.ifThen (·.setRadGen)).showRadState)

theorem execRadChannel {e : CmdEntry} (h : s.Keeps s₀) : Answer.Keeps s₀ (execRadChannel e s) :=
  h.runCmd fun _ _ hs => .ite (.stat hs) (.ite (.stat hs) (hs.freeRegs (.stat hs.setRadOn)))

theorem writeDuty {r limit : Nat} (h : s.Keeps s₀) : (s.writeDuty r limit).Keeps s₀ := h.setF

/-! ### Machine/RegWrite.lean -/

theorem plainReg {a : Nat} {v : Word} (h : s.Keeps s₀) : (s.plainReg a v).Keeps s₀ := by
  unfold State.plainReg
  split
  · exact h.wr
  · exact h

theorem plainClamp {a : Nat} {v : Word} {f : Fld} {lo hi : Nat} (h : s.Keeps s₀) : (s.plainClamp a v f lo hi).Keeps s₀ := h.plainReg.setF

theorem ebbUnbudgeted (h : s.Keeps s₀) : s.ebbUnbudgeted.Keeps s₀ := .ite h h.event

theorem rampTo {ebb : Bool} (h : s.Keeps s₀) : (s.rampTo ebb).Keeps s₀ := .ite h (h.frame.ifThen (·.ebbUnbudgeted))

theorem requestEbb {ebb : Bool} (h : s.Keeps s₀) : (s.requestEbb ebb).Keeps s₀ := h.setF.ifElse (·.rampTo)

theorem showRiser (h : s.Keeps s₀) : s.showRiser.Keeps s₀ := h.setF

theorem writeLow {a : Nat} {v : Word} (h : s.Keeps s₀) : KeepsOpt s₀ (s.writeLow a v) := by
  unfold State.writeLow
  refine .ite (.some h.requestEbb) ?_
  refine .ite (.some h.plainClamp.showRiser) ?_
  refine .ite (.some h.writeVersion) ?_
  refine .ite (.some h.plainReg.sendPending) ?_
  split
  · exact .some h.writeRingCfg
  · split
    · exact .some h.writeRingAddr
    · split
      · exact .some h.writeRingAddr
      · split
        · exact .some h.writeRingAddr
        · split
          · exact .some h.writeRingAddr
          · split
            · exact .some h.writeDoorbell
            · refine .ite (.some h.plainClamp) ?_
              split
              · exact .some (h.plainReg.ifThen (·.setF))
              · refine .ite (.some h.setF) ?_
                split
                · exact .some (.ite h.resumeRunner h)
                · split
                  · exact .some (.ite h.requestFlush h)
                  · exact .ite (.some h.writeFettle) (by split; exacts [.some (.ite h h.writeChill), .none])

theorem writeTrkCtl {p : Nat} {v : Word} (h : s.Keeps s₀) : (s.writeTrkCtl p v).Keeps s₀ :=
  (h.plainClamp.setF.ifElse (·.setPort.portStateEvent)).setPortOn

theorem writeRadCtl {r : Nat} {v : Word} (h : s.Keeps s₀) : (s.writeRadCtl r v).Keeps s₀ := (h.plainReg.setF.ifBoth (·.setF.setF) (·.setF)).setRadOn

theorem writeEthCtl {g : Nat} {v : Word} (h : s.Keeps s₀) : (s.writeEthCtl g v).Keeps s₀ := h.plainReg.ifElse (·.setEth.setF)

theorem writeMid {a : Nat} {v : Word} (h : s.Keeps s₀) : KeepsOpt s₀ (s.writeMid a v) := by
  unfold State.writeMid
  refine .ite (.some h.writeTick) ?_
  refine .ite (.some h.plainClamp) ?_
  split
  · exact .some h.writeTrkCtl
  · split
    · exact .some h.writeGatectl
    · split
      · exact .some h.writeEthCtl
      · split
        · exact .some h.writeRadCtl
        · split
          · exact .some h.setF.setF
          · split
            · exact .some h.writeDuty
            · exact .none

theorem writeTrim {v : Word} (h : s.Keeps s₀) : (s.writeTrim v).Keeps s₀ := .ite h h.setF

theorem writeRdnCfg {v : Word} (h : s.Keeps s₀) : (s.writeRdnCfg v).Keeps s₀ := h.plainClamp.setF

theorem writeHigh {a : Nat} {v : Word} (h : s.Keeps s₀) : KeepsOpt s₀ (s.writeHigh a v) := by
  unfold State.writeHigh
  refine .ite (.some (h.setF.ifElse (·.setF.refreshServo.showPorts))) ?_
  refine .ite (.some h.writeIncrHi) ?_
  refine .ite (.some (.ite h.goStep h)) ?_
  refine .ite (.some h.plainClamp) ?_
  refine .ite (.some (.ite h h.setUtcOff)) ?_
  refine .ite (.some h.plainReg.showPorts) ?_
  refine .ite (.some (h.plainReg.ifThen (·.setF))) ?_
  refine .ite (.some h.stageTime) ?_
  refine .ite (.some h.stageTime) ?_
  refine .ite (.some ((ite h.askGo h).ifThen (·.commitFromWall))) ?_
  refine .ite (.some h.writeTrim) ?_
  split
  · exact .some h.plainClamp
  · split
    · exact .some h.plainClamp
    · refine .ite (.some (h.plainReg.foldl fun _ _ hv => hv.showPulse)) ?_
      refine .ite (.some h.plainClamp) ?_
      refine .ite (.some h.wr.startWindow) ?_
      refine .ite (.some (.ite h.nextWindow h)) ?_
      refine .ite (.some (.ite h h.wr)) ?_
      refine .ite (.some h.writeRdnCfg) ?_
      refine .ite (.some h.nextFree.wrN) ?_
      refine .ite (.some h.plainClamp) ?_
      refine .ite (.some h.writeKeyMode) ?_
      refine .ite (.some h.writeOwnerLock) ?_
      refine .ite (.some h.writeLcReq) ?_
      refine .ite (.some (.ite h.keyGo h)) ?_
      exact .ite (.some h.writeCznSrc) (.ite (.some h.plainClamp) (.ite (.some (.ite h.wr h)) (.ite (.some (.ite h.setF h)) .none)))

theorem writeReg {a : Nat} {v : Word} (h : s.Keeps s₀) : (s.writeReg a v).Keeps s₀ := by
  unfold State.writeReg
  refine .ite h ?_
  split
  · next t he =>
    exact h.writeLow he
  · split
    · next t he =>
      exact h.writeMid he
    · split
      · next t he =>
        exact h.writeHigh he
      · exact h.plainReg

theorem hostReg {a : Nat} {v : Word} (h : s.Keeps s₀) : (s.hostReg a v).Keeps s₀ := .ite h.doomReg.writeReg h

theorem stagedReg {a : Nat} {v m : Word} (h : s.Keeps s₀) : (s.stagedReg a v m).Keeps s₀ := by
  unfold State.stagedReg
  dsimp only
  split
  · exact h.setGatectl
  · exact h.writeReg

theorem configWrite {addr : Nat} {v : Word} (h : s.Keeps s₀) : (s.configWrite addr v).Keeps s₀ := .ite h (.ite h.writeDevCtl (.ite h.writeMsixCtl h))

theorem execRegisterWrite {addr size : Nat} {v : Word} (h : s.Keeps s₀) : Answer.Keeps s₀ (execRegisterWrite addr size v s) :=
  .next (.ite (.ite h.configWrite h.hostReg) h)

theorem execGlbVstateWrite {v : Word} (h : s.Keeps s₀) : Answer.Keeps s₀ (execGlbVstateWrite v s) := .next h.hostReg

theorem execHifVersionSelectWrite {v : Word} (h : s.Keeps s₀) : Answer.Keeps s₀ (execHifVersionSelectWrite v s) := .next h.hostReg

theorem execRingCfgWrite {n : Nat} {v : Word} (h : s.Keeps s₀) : Answer.Keeps s₀ (execRingCfgWrite n v s) := .next (.ite h.hostReg h)

theorem execDoorbellWrite {n : Nat} {index : Word} (h : s.Keeps s₀) : Answer.Keeps s₀ (execDoorbellWrite n index s) := .next (.ite h.hostReg h)

theorem execDmaCtlResume {n : Nat} (h : s.Keeps s₀) : Answer.Keeps s₀ (execDmaCtlResume n s) := .next (.ite h.hostReg h)

theorem execTunCtlFlush {n : Nat} (h : s.Keeps s₀) : Answer.Keeps s₀ (execTunCtlFlush n s) := .next (.ite h.hostReg h)

theorem execMemFettleWrite {v : Word} (h : s.Keeps s₀) : Answer.Keeps s₀ (execMemFettleWrite v s) := .next h.hostReg

theorem execMemBankChillWrite {b : Nat} {on : Bool} (h : s.Keeps s₀) : Answer.Keeps s₀ (execMemBankChillWrite b on s) := .next (.ite h.hostReg h)

theorem execLmpTickWrite {v : Word} (h : s.Keeps s₀) : Answer.Keeps s₀ (execLmpTickWrite v s) := .next h.hostReg

theorem execLmpCtlEmergSw {on : Bool} (h : s.Keeps s₀) : Answer.Keeps s₀ (execLmpCtlEmergSw on s) := .next h.hostReg

theorem execGatectlWrite {p : Nat} {entry : Option Nat} {v : Word} (h : s.Keeps s₀) : Answer.Keeps s₀ (execGatectlWrite p entry v s) :=
  .next (.ite (by split; exacts [h.hostReg, .ite h.hostReg h]) h)

theorem execRadDutyWrite {r limit : Nat} (h : s.Keeps s₀) : Answer.Keeps s₀ (execRadDutyWrite r limit s) := .next (.ite h.hostReg h)

theorem execTimIncrloWrite {v : Word} (h : s.Keeps s₀) : Answer.Keeps s₀ (execTimIncrloWrite v s) := .next h.hostReg

theorem execTimIncrhiWrite {v : Word} (h : s.Keeps s₀) : Answer.Keeps s₀ (execTimIncrhiWrite v s) := .next h.hostReg

theorem execTimStepGo (h : s.Keeps s₀) : Answer.Keeps s₀ (execTimStepGo s) := .next h.hostReg

theorem execRtcStgWrite {subsec : Bool} {v : Word} (h : s.Keeps s₀) : Answer.Keeps s₀ (execRtcStgWrite subsec v s) := .next h.hostReg

theorem execRtcCommitGo (h : s.Keeps s₀) : Answer.Keeps s₀ (execRtcCommitGo s) := .next h.hostReg

theorem execRtcCommitFromWall (h : s.Keeps s₀) : Answer.Keeps s₀ (execRtcCommitFromWall s) := .next h.hostReg

theorem execEvrCursorWrite {v : Word} (h : s.Keeps s₀) : Answer.Keeps s₀ (execEvrCursorWrite v s) := .next h.hostReg

theorem execEvrWinctlNext (h : s.Keeps s₀) : Answer.Keeps s₀ (execEvrWinctlNext s) := .next h.hostReg

theorem execKeyWrgo {value : Word} (h : s.Keeps s₀) : Answer.Keeps s₀ (execKeyWrgo value s) := .next h.hostReg

theorem execKeyModeWrite {value : Word} (h : s.Keeps s₀) : Answer.Keeps s₀ (execKeyModeWrite value s) := .next h.hostReg

theorem execKeyCznsrcWrite {value : Word} (h : s.Keeps s₀) : Answer.Keeps s₀ (execKeyCznsrcWrite value s) := .next h.hostReg

theorem execOwnerLockWrite {value : Word} (h : s.Keeps s₀) : Answer.Keeps s₀ (execOwnerLockWrite value s) := .next h.hostReg

theorem execKeyLcreqWrite {value : Word} (h : s.Keeps s₀) : Answer.Keeps s₀ (execKeyLcreqWrite value s) := .next h.hostReg

/-! ### Machine/Install.lean -/

theorem showSched {n : Nat} {c : Sched} (h : s.Keeps s₀) : (s.showSched n c).Keeps s₀ := h.setF.setF.setF.setF.setF

theorem setTiming {p m o : Nat} {budget : Bool} (h : s.Keeps s₀) : (s.setTiming p m o budget).Keeps s₀ := h.wrN.wrN.wrN.frame

theorem loadCycle {c : CycCfg} (h : s.Keeps s₀) : (s.loadCycle c).Keeps s₀ := h.setTiming.setF.foldl fun _ _ ht => ht.showSched

theorem loadLamp {c : LampCfg} (h : s.Keeps s₀) : (s.loadLamp c).Keeps s₀ := h.setF.setF.wrN.writeTick

theorem loadTrunks {ts : List TrunkPortCfg} {es : List Bool} (h : s.Keeps s₀) : (s.loadTrunks ts es).Keeps s₀ := by
  unfold State.loadTrunks
  refine foldl ?_ fun _ _ ht => ht.writeEthCtl
  exact h.foldl fun _ _ ht => by split <;> exact ht.setPortOn.writeGates.checkGates

theorem loadCzn {c : CznCfg} (h : s.Keeps s₀) : (s.loadCzn c).Keeps s₀ := h.setF.setF

theorem loadChan {seg r : Nat} {c : RadioChanCfg} (h : s.Keeps s₀) : (s.loadChan seg r c).Keeps s₀ :=
  h.setF.setF.setF.setF.setF.setF.setF.wrN.setF.setRadOn

theorem loadRadio {c : RadioCfg} (h : s.Keeps s₀) : (s.loadRadio c).Keeps s₀ := h.foldl fun _ _ ht => by split; exacts [ht.loadChan, ht]

theorem loadMeter (h : s.Keeps s₀) : s.loadMeter.Keeps s₀ := by
  unfold State.loadMeter
  refine ifThen ?_ (·.mtrSetNext)
  refine foldl ?_ fun _ _ ht => ht.showPulse
  exact (((ite h.mtrTurn h).setF.foldl fun _ _ ht => ht.setF).foldl fun _ _ ht => ht.setF).foldl fun _ _ ht => ht.setF.setF

theorem loadRecorder {c : Option (Nat × Nat × Nat)} (h : s.Keeps s₀) : (s.loadRecorder c).Keeps s₀ := h.setF.setF.setF

theorem loadRdn {c : RdnCfg} (h : s.Keeps s₀) : (s.loadRdn c).Keeps s₀ := h.setF.setF.setF.setF.setF.setF.setF.setF.wrN.setF.setF

theorem loadRegs {c : RunCfg} {has : Nat → Bool} (h : s.Keeps s₀) : (s.loadRegs c has).Keeps s₀ := by
  unfold State.loadRegs
  refine ifThen ?_ (·.requestEbb)
  refine showBudget ?_
  refine ifThen ?_ (·.loadRdn)
  refine ifThen ?_ (·.loadRecorder)
  refine ifThen ?_ (·.loadMeter)
  exact (((((h.wrN.ifThen (·.loadCycle)).ifThen (·.loadLamp)).ifThen (·.loadTrunks)).ifThen (·.loadCzn)).ifThen (·.loadRadio)).ifThen (·.loadTime)

theorem placeFrom {img : Image} {n : Nat} (h : s.Keeps s₀) : (s.placeFrom img n).Keeps s₀ := by
  unfold State.placeFrom
  split
  · dsimp only
    split
    · exact h.wakeLadle.placeProgram.writeTable
    · exact h.wakeLadle.placeProgram
  · exact h.placeProgram

theorem queueMeter {m : MtrCfg} (h : s.Keeps s₀) : (s.queueMeter m).Keeps s₀ := .ite h.frame h.frame

theorem freshLums {old : LampCfg} (h : s.Keeps s₀) : (s.freshLums old).Keeps s₀ :=
  (h.foldl fun _ _ ht => ht.setLum.foldl fun _ _ hu => hu.setChan).frame

theorem postLostLums {new : LampCfg} (h : s.Keeps s₀) : (s.postLostLums new).Keeps s₀ := h.foldl fun _ _ ht => ht.foldl fun _ _ hu => .ite hu hu.post6

theorem swapAll {c : RunCfg} (h : s.Keeps s₀) : (s.swapAll c).Keeps s₀ :=
  (ite h.postLostLums h).queueMeter.swapCfg.freshLums.wakeLamp.foldl fun _ _ ht => ht.ptOp

theorem renewNodes {old : RunCfg} (h : s.Keeps s₀) : (s.renewNodes old).Keeps s₀ := by
  unfold State.renewNodes
  refine foldl ?_ fun _ _ ht => ?_
  · refine h.foldl fun _ _ ht => ?_
    split
    · exact ht.setCznNode
    · exact .ite ht.setCznNode.nodeState (.ite ht.nodeState ht)
  · split
    · exact ht.setRadNode
    · exact .ite (ht.setRadNode.ifElse (·.radPoints)) ht

theorem place {p : Plan} (h : s.Keeps s₀) : (s.place p).Keeps s₀ :=
  ((h.foldl fun _ _ ht => ht.placeFrom).foldl fun _ _ ht => ht.writeTable).ifBoth (·.swapAll) (·.frame)

theorem writeImage {b : List Byte} (h : s.Keeps s₀) : (s.writeImage b).Keeps s₀ := h.frame

theorem beginRole (h : s.Keeps s₀) : s.beginRole.Keeps s₀ := .ite h.setEpoch.enterRole.startCycles (.ite h.enterSeeding h.enterRole)

theorem noteWidths {old : RunCfg} (h : s.Keeps s₀) : (s.noteWidths old).Keeps s₀ :=
  h.foldl fun _ _ ht => .ite ht (ht.setCznNode.showNode.ifThen (·.event))

theorem afterPlan {p : Plan} {old : RunCfg} (h : s.Keeps s₀) : (s.afterPlan p old).Keeps s₀ := by
  unfold State.afterPlan
  refine h.writeImage.ifBoth (·.wrN.showBudget) fun ht => ?_
  exact ((ht.loadRegs.ifThen (·.loadKept)).setF.renewNodes.ifThen (·.noteWidths)).ifBoth (·.beginRole) (·.cycAlign)

/-! ### Machine/Cycle.lean -/

theorem loadTable {t : TableId} {off : Nat} {b : List Byte} (h : s.Keeps s₀) : (s.loadTable t off b).Keeps s₀ := by
  unfold State.loadTable
  split
  · exact h.writeTable
  · split
    · exact h.queueRecords
    · exact h
  · exact h.writeGates.useGates
  · split
    · exact h.loadCals
    · exact h
  · split
    · exact h.loadCznEntries
    · exact h
  · split
    · exact h.loadRadioEntries
    · exact h

theorem applyChange {online : Bool} {a : Change} (h : s.Keeps s₀) : (s.applyChange online a).Keeps s₀ := by
  unfold State.applyChange
  split
  · exact h.stagedReg
  · exact .ite h h.writeTable
  · exact h.loadTable
  · exact h.keySet
  · exact h.keyClear
  · exact h.setTiming.showBudget.cycAlign
  · split
    · exact h.showSched
    · exact h
  · exact h

theorem endPlanned (h : s.Keeps s₀) : s.endPlanned.Keeps s₀ := by
  unfold State.endPlanned
  split
  · exact h
  · exact h.frame.event

theorem endCuts (h : s.Keeps s₀) : s.endCuts.Keeps s₀ := by
  unfold State.endCuts
  split
  · exact .ite h.endPlanned h
  · exact h

theorem endHolds (h : s.Keeps s₀) : s.endHolds.Keeps s₀ := by
  unfold State.endHolds
  split
  · exact .ite h h.endPlanned
  · exact h

theorem startRun {kind : Nat} (h : s.Keeps s₀) : (s.startRun kind).Keeps s₀ := h.endPlanned.frame

theorem notePlanned {kind : Nat} (h : s.Keeps s₀) : (s.notePlanned kind).Keeps s₀ := by
  unfold State.notePlanned
  dsimp only
  split
  · exact h.bump.ifBoth (·.frame) (·.startRun)
  · exact h.bump.startRun

theorem cutLadles (h : s.Keeps s₀) : s.cutLadles.Keeps s₀ := h.foldl fun _ _ ht => ht.setLadle

theorem cutCycle (h : s.Keeps s₀) : s.cutCycle.Keeps s₀ := .ite h h.cutLadles.notePlanned.frame

theorem batchEffect {b : Batch} {st : Nat} (h : s.Keeps s₀) : (State.batchEffect b st s).Keeps s₀ := by
  unfold State.batchEffect
  dsimp only
  split
  · refine foldl ?_ fun _ _ hu => hu.ptOp
    refine foldl ?_ fun _ _ hu => hu.foldl fun _ _ hv => hv.ptOp
    refine foldl ?_ fun _ _ hu => hu.ptOp
    split
    · exact ((h.foldl fun _ _ hv => hv.ptOp).foldl fun _ _ hv => hv.ptOp).place
    · exact (h.foldl fun _ _ hv => hv.ptOp).foldl fun _ _ hv => hv.ptOp
  · refine foldl ?_ fun _ _ hu => hu.foldl fun _ _ hv => hv.ptOp
    refine foldl ?_ fun _ _ hu => hu.ptOp
    split
    · exact ((h.foldl fun _ _ hv => hv.ptOp).foldl fun _ _ hv => hv.ptOp).place
    · exact (h.foldl fun _ _ hv => hv.ptOp).foldl fun _ _ hv => hv.ptOp

theorem applyRest {k : Nat} (h : s.Keeps s₀) : (s.applyRest k).Keeps s₀ := (h.foldl fun _ _ ht => ht.applyChange).foldl fun _ _ ht => ht.checkGates

theorem orphanEvents {old : List (Nat × Force)} (h : s.Keeps s₀) : (s.orphanEvents old).Keeps s₀ := h.foldl fun _ _ ht => ht.event

theorem settlePlan {p : Plan} {old : Machine.State} (h : s.Keeps s₀) : (s.settlePlan p old).Keeps s₀ := h.orphanEvents.afterPlan.event

theorem applyBatch {b : Batch} {st : Nat} {more : Machine.State → List (List Byte)} {late : Nat} {cmds : List DeltaCmd} {quiet : Bool} (h : s.Keeps s₀) :
    (s.applyBatch b st more late cmds quiet).Keeps s₀ := by
  unfold State.applyBatch
  refine allCalls ?_
  refine foldl ?_ fun _ _ ht => ht.closeTxn.bump.finishAll
  refine ifElse ?_ (·.sendDelta)
  split
  · exact ((ite h (h.applyVia fun _ hu => hu.batchEffect)).foldl fun _ _ hu => hu.applyRest).settlePlan
  · exact (ite h (h.applyVia fun _ hu => hu.batchEffect)).foldl fun _ _ hu => hu.applyRest

theorem reopenTxn {k status : Nat} (h : s.Keeps s₀) : (s.reopenTxn k status).Keeps s₀ := h.dropDeferred.setTxn.finishAll

theorem applyTxn {k late : Nat} {cmds : List DeltaCmd} (h : s.Keeps s₀) : (s.applyTxn k late cmds).Keeps s₀ := by
  unfold State.applyTxn
  split
  · exact h.reopenTxn
  · exact (ite h.cutCycle h).applyBatch

theorem execTxnApply {slot : Nat} (h : s.Keeps s₀) : Answer.Keeps s₀ (execTxnApply slot s) := .next (.ite (.ite (.ite h h.frame) h.applyTxn) h)

theorem bindTxn {k point st : Nat} (h : s.Keeps s₀) : (s.bindTxn k point st).Keeps s₀ := h.frame.setTxn

theorem commitAtOnce {t : CmdTag} {k point st late : Nat} (h : s.Keeps s₀) : (s.commitAtOnce t k point st late).Keeps s₀ :=
  .ite (.wait h.bindTxn.frame) (by split; exacts [.stat h, .okWith h.applyTxn])

theorem commitTxn {t : CmdTag} {k point st : Nat} (h : s.Keeps s₀) : (s.commitTxn t k point st).Keeps s₀ := by
  unfold State.commitTxn
  refine .ite (.stat h) ?_
  refine .ite (.stat h) ?_
  refine .ite (.stat h) ?_
  refine .ite (.stat h) ?_
  refine .ite (.stat h) ?_
  split
  · exact .stat h
  · exact .ite h.commitAtOnce (.ite (.ite h.commitAtOnce (.wait h.bindTxn)) (.ite h.commitAtOnce (.wait h.bindTxn)))

theorem execTxnCommit {e : CmdEntry} (h : s.Keeps s₀) : Answer.Keeps s₀ (execTxnCommit e s) :=
  h.runCmd fun _ _ hs => by split; exacts [.stat hs, hs.commitTxn]

theorem afterCharge (h : s.Keeps s₀) : s.afterCharge.Keeps s₀ :=
  h.frame.foldl fun _ _ ht => by split; exacts [ht.frame.applyDeferred, .ite ht.applyTxn ht]

theorem chargeOne {k n : Nat} (h : s.Keeps s₀) : (s.chargeOne k n).Keeps s₀ := by
  unfold State.chargeOne
  dsimp only
  split
  · exact h
  · exact h.setLadle.wrN

theorem beginCharge {k : Nat} (h : s.Keeps s₀) : (s.beginCharge k).Keeps s₀ :=
  (((h.foldl fun _ _ ht => .ite ht.setLadle ht).foldl fun _ _ ht => ht.chargeOne).wrN.frame.ifThen (·.wrN)).inService

theorem applySetup {w : Wait} {p m o : Nat} {budget : Bool} (h : s.Keeps s₀) : (s.applySetup w p m o budget).Keeps s₀ :=
  .ite h.setTiming.showBudget.finish h.finish

theorem applyWaiting (h : s.Keeps s₀) : s.applyWaiting.Keeps s₀ := by
  unfold State.applyWaiting
  refine h.foldl fun _ _ ht => ?_
  split
  · exact ht.applySetup
  · split
    · exact ht.showSched.finish
    · exact ht.finish
  · exact ht

theorem nextBoundary {b oldP : Nat} (h : s.Keeps s₀) : (s.nextBoundary b oldP).Keeps s₀ := by
  unfold State.nextBoundary
  dsimp only
  split
  · exact h.frame
  · exact h.setF.ifBoth (·.frame) (·.frame)

theorem heldBoundary (h : s.Keeps s₀) : s.heldBoundary.Keeps s₀ := h.frame.wrN.finishAll

theorem beginCycle {k : Nat} (h : s.Keeps s₀) : (s.beginCycle k).Keeps s₀ :=
  h.frame.ifBoth (·.endPlanned.bump.frame) fun ht => .ite ht.endHolds.beginCharge ((ite ht.heldBoundary ht).notePlanned.frame)

theorem commitLadle {n : Nat} (h : s.Keeps s₀) : (s.commitLadle n).Keeps s₀ := h.bump.bump.bump.setLadle

theorem moveOn {ks : List Nat} (h : s.Keeps s₀) : (s.moveOn ks).Keeps s₀ := h.foldl fun _ _ ht => .ite ht ht.setTxn

theorem checkRiders {ks : List Nat} (h : s.Keeps s₀) : (s.checkRiders ks).1.Keeps s₀ := h.foldlFst fun _ _ ht => by split; exacts [ht.reopenTxn, ht]

theorem showRan {ran cut : List Nat} (h : s.Keeps s₀) : (s.showRan ran cut).Keeps s₀ := h.setF.setF

theorem cycleCommit (h : s.Keeps s₀) : s.cycleCommit.Keeps s₀ := by
  unfold State.cycleCommit
  refine confirmHandover ?_
  refine ifThen ?_ (·.mtrReopen)
  exact (h.endCuts.foldl fun _ _ ht => ht.commitLadle).showRan.frame.moveOn.checkRiders.bump.applyBatch.bump.wrN.setF.setF.setF.frame

theorem noteStuck (h : s.Keeps s₀) : s.noteStuck.Keeps s₀ := .ite h (h.setF.event.ifThen (·.sendYield))

theorem overrun (h : s.Keeps s₀) : s.overrun.Keeps s₀ :=
  (((h.endCuts.cutLadles.showRan.bump.setF.ifThen (·.setF)).bumpSat.event.ifThen (·.nextFree)).frame.ifThen (·.afterCharge)).noteStuck.moveOn

theorem deadline (h : s.Keeps s₀) : s.deadline.Keeps s₀ := by
  unfold State.deadline
  split
  · exact h
  · exact h.showRan.setF.frame.moveOn
  · exact .ite h.cycleCommit h.overrun

theorem execCommitDeadline (h : s.Keeps s₀) : Answer.Keeps s₀ (execCommitDeadline s) := .next (.ite h.deadline h)

theorem execCycleBoundary (h : s.Keeps s₀) : Answer.Keeps s₀ (execCycleBoundary s) := by
  unfold Machine.execCycleBoundary
  dsimp only
  split
  · exact .next h.revertNow
  · exact .ite (.next h.revertNow) (.next h.revertNow.deadline.wrN.applyWaiting.frame.nextBoundary.beginCycle)

theorem execChargeEnd {n : Nat} (h : s.Keeps s₀) : Answer.Keeps s₀ (execChargeEnd n s) :=
  .ite (.ite (.next h.setLadle) (.next h.setLadle.frame.wrN.afterCharge)) (.next h)

theorem execCycSetup {e : CmdEntry} (h : s.Keeps s₀) : Answer.Keeps s₀ (execCycSetup e s) := by
  unfold Machine.execCycSetup
  refine h.runCmd fun _ _ hs => ?_
  dsimp only
  split
  · exact .stat hs
  · exact .ite (.stat hs) (by split; exacts [hs.stageChanges, .ite hs.conflict (.wait hs)])

theorem execCycSched {e : CmdEntry} (h : s.Keeps s₀) : Answer.Keeps s₀ (execCycSched e s) := by
  unfold Machine.execCycSched
  refine h.runCmd fun _ _ hs => ?_
  dsimp only
  split
  · exact .stat hs
  · split
    · exact .stat hs
    · exact .ite (.stat hs) (by split; exacts [hs.stageChanges, .ite hs.conflict (.wait hs)])

theorem execCycHold {e : CmdEntry} (h : s.Keeps s₀) : Answer.Keeps s₀ (execCycHold e s) :=
  h.runCmd fun _ _ hs => by split; exacts [.stat hs, .wait hs.frame.wrN]

theorem execCycRelease {e : CmdEntry} (h : s.Keeps s₀) : Answer.Keeps s₀ (execCycRelease e s) :=
  h.runCmd fun _ _ hs => .ite (.stat hs) (.ite (.stat hs) (.stat hs.frame.wrN.finishAll))

/-! ### Machine/KeyLife.lean -/

theorem zeroiseNodes (h : s.Keeps s₀) : s.zeroiseNodes.Keeps s₀ :=
  (((h.foldl fun _ _ ht => ht.setCznNode).foldl fun _ _ ht => ht.setPort).foldl fun _ _ ht => ht.setRadNode).foldl fun _ _ ht => ht.setRadChan

theorem takeDefaults (h : s.Keeps s₀) : s.takeDefaults.Keeps s₀ := (h.foldl fun _ _ ht => ht.placeProgram).swapAll.loadRegs.setF.renewNodes.enterRole

theorem completeLc {dest : Nat} {atStart : Bool} (h : s.Keeps s₀) : (s.completeLc dest atStart).Keeps s₀ :=
  h.setF.setF.setF.frame.event.ifThen (·.takeDefaults)

theorem execLcZeroise (h : s.Keeps s₀) : Answer.Keeps s₀ (execLcZeroise s) := .next (.ite h.zeroiseKeys.zeroiseNodes h)

theorem execLcTransitionEnd (h : s.Keeps s₀) : Answer.Keeps s₀ (execLcTransitionEnd s) := .next (by split; exacts [.ite h.completeLc h, h])

/-! ### Machine/Peer.lean -/

theorem peerFrom {typ : Nat} {e : EthFrame} (h : s.Keeps s₀) : (s.peerFrom typ e).1.Keeps s₀ := by
  unfold State.peerFrom
  split
  · next s he =>
    exact h.ethIn.ofFst he
  · next s f he =>
    have h1 := h.ethIn.ofFst he
    refine .fstIte h1 ?_
    split
    · exact h1
    · exact .fstIte h1 (.fstIte ((h1.frame.ifElse (·.event)).frame) h1.frame.frame)

theorem takePriv {r : Nat × Nat × Nat × List (List Byte)} (h : s.Keeps s₀) : (s.takePriv r).Keeps s₀ := h.setLadle

theorem takeNode {r : Nat × Nat × Nat × Nat} (h : s.Keeps s₀) : (s.takeNode r).Keeps s₀ := .ite h.setF.setCznNode h.setRadGen.setRadNode

theorem takeKey {r : Nat × Nat × List Byte} (h : s.Keeps s₀) : (s.takeKey r).Keeps s₀ := .ite h.setPort h.setRadChan

theorem takeCmd {r : Nat × CmdRec} (h : s.Keeps s₀) : (s.takeCmd r).Keeps s₀ := h.setRing

theorem copyNode {a : Nat} (h : s.Keeps s₀) : (s.copyNode a).Keeps s₀ := .ite h.setCznNode (.ite h.setRadNode h)

theorem peerEffect {d : PeerData} {p : Option Plan} {seed : Bool} (h : s.Keeps s₀) : (State.peerEffect d p seed s).Keeps s₀ := by
  unfold State.peerEffect
  dsimp only
  split
  · refine foldl ?_ fun _ _ hu => hu.ptOp
    exact foldl (foldl (frame (by split; exacts [h.place, h])) fun _ _ hu => hu.frame) fun _ _ hu => hu.setPt
  · exact foldl (foldl (frame (by split; exacts [h.place, h])) fun _ _ hu => hu.frame) fun _ _ hu => hu.setPt

theorem takeLampEntry {b : List Byte} (h : s.Keeps s₀) : (s.takeLampEntry b).Keeps s₀ := .ite h.setLum h.setChan

theorem takeLamp {b : List Byte} (h : s.Keeps s₀) : (s.takeLamp b).Keeps s₀ := h.frame.wrN.foldl fun _ _ ht => ht.takeLampEntry

theorem takeProbes {b : List Byte} (h : s.Keeps s₀) : (s.takeProbes b).Keeps s₀ := h.foldl fun _ _ ht => ht.setChan

theorem applyPeer {d : PeerData} {seed : Bool} (h : s.Keeps s₀) : KeepsOpt s₀ (s.applyPeer d seed) := by
  unfold State.applyPeer
  dsimp only
  split
  · exact .none
  · refine .ite .none (.some ?_)
    refine foldl (foldl (foldl (foldl (foldl ?_ fun _ _ ht => ht.copyNode) fun _ _ ht => ht.takeNode) fun _ _ ht => ht.takeKey) fun _ _ ht => ht.takeCmd) ?_
    · split
      · refine settlePlan (((h.applyVia fun _ ht => ht.peerEffect).foldl fun _ _ ht => ht.takePriv).foldl fun _ _ ht => ?_)
        split
        exacts [ht.loadTable, ht]
      · refine ((h.applyVia fun _ ht => ht.peerEffect).foldl fun _ _ ht => ht.takePriv).foldl fun _ _ ht => ?_
        split
        exacts [ht.loadTable, ht]
    · intro t x ht
      split
      exacts [ht.takeLamp, ht.takeProbes]

/-! ### Machine/RdnPeer.lean -/

theorem contact (h : s.Keeps s₀) : s.contact.Keeps s₀ := h.frame

theorem sendRequest {q : RdnReq} (h : s.Keeps s₀) : (s.sendRequest q).Keeps s₀ := h.sendWit.frame

theorem request {reason trigger : Nat} (h : s.Keeps s₀) : (s.request reason trigger).Keeps s₀ := h.random16.sendRequest

theorem askSeed (h : s.Keeps s₀) : s.askSeed.Keeps s₀ := h.sendPeer.frame.setF

theorem restartSeed (h : s.Keeps s₀) : s.restartSeed.Keeps s₀ := h.frame.setF.setF

theorem becomeStandby {base : Nat} (h : s.Keeps s₀) : (s.becomeStandby base).Keeps s₀ := h.setF.setF.frame.enterRole.inService.event.finishAll

theorem ackDelta {seq status : Nat} (h : s.Keeps s₀) : (s.ackDelta seq status).Keeps s₀ := h.sendPeer.wrN

theorem cannotApply {seq : Nat} (h : s.Keeps s₀) : (s.cannotApply seq).Keeps s₀ := h.sendPeer.enterSeeding

theorem applyDelta {x : RdnParts} (h : s.Keeps s₀) : (s.applyDelta x).Keeps s₀ := by
  unfold State.applyDelta
  dsimp only
  split
  · exact h.frame.cannotApply
  · next he =>
    obtain ⟨d, -, hd⟩ := Option.bind_eq_some_iff.mp he
    have ht := (h.frame.applyPeer hd)
    split
    · exact (ht.frame.ackDelta.ifThen (·.mtrReopen)).ifThen (·.frame.event)
    · exact ht.frame.ackDelta.ifThen (·.mtrReopen)

theorem drainDeltas {k : Nat} (h : s.Keeps s₀) : (s.drainDeltas k).Keeps s₀ := by
  induction k generalizing s with
  | zero => exact h
  | succ k ih =>
    unfold State.drainDeltas
    dsimp only
    split
    · exact ih h.applyDelta
    · exact h

theorem reseedOld (h : s.Keeps s₀) : s.reseedOld.Keeps s₀ := h.frame.enterSeeding.frame

theorem deltaFrame {b : List Byte} (h : s.Keeps s₀) : (s.deltaFrame b).Keeps s₀ := by
  unfold State.deltaFrame
  refine .ite h.frame ?_
  refine .ite h ?_
  refine .ite h.reseedOld ?_
  split
  · exact .ite h.ackDelta (h.frame.drainDeltas.ifThen (·.cannotApply))
  · exact h.frame.drainDeltas

theorem execDelta {f : EthFrame} (h : s.Keeps s₀) : Answer.Keeps s₀ (execDelta f s) := by
  unfold Machine.execDelta
  refine .next ?_
  split
  · next t he =>
    exact h.peerFrom.ofFst he
  · next t m he =>
    have h1 := h.peerFrom.ofFst he
    exact .ite h1 h1.deltaFrame

theorem execDeltaAck {f : EthFrame} (h : s.Keeps s₀) : Answer.Keeps s₀ (execDeltaAck f s) := by
  unfold Machine.execDeltaAck
  refine .next ?_
  split
  · next t he =>
    exact h.peerFrom.ofFst he
  · next t m he =>
    have h1 := h.peerFrom.ofFst he
    exact .ite h1 (.ite h1.frame.wrN.showUnacked h1.mirrorLag.showUnacked)

theorem execSeedReq {f : EthFrame} (h : s.Keeps s₀) : Answer.Keeps s₀ (execSeedReq f s) := by
  unfold Machine.execSeedReq
  refine .next ?_
  split
  · next t he =>
    exact h.peerFrom.ofFst he
  · next t m he =>
    have h1 := h.peerFrom.ofFst he
    exact .ite h1 ((h1.foldl fun _ _ hu => hu.sendPeer).frame.showUnacked)

theorem applySeed {x : RdnParts} (h : s.Keeps s₀) : (s.applySeed x).Keeps s₀ := by
  unfold State.applySeed
  split
  · exact h.restartSeed
  · split
    · exact h.restartSeed
    · next t he =>
      exact (h.applyPeer he).frame.drainDeltas.ifThen (·.becomeStandby)

theorem execSeed {f : EthFrame} (h : s.Keeps s₀) : Answer.Keeps s₀ (execSeed f s) := by
  unfold Machine.execSeed
  refine .next ?_
  split
  · next t he =>
    exact h.peerFrom.ofFst he
  · next t m he =>
    have h1 := h.peerFrom.ofFst he
    exact .ite h1 (h1.frame.setF.ifThen (·.applySeed))

theorem noteBeacon {claim role flags : Nat} (h : s.Keeps s₀) : (s.noteBeacon claim role flags).Keeps s₀ := h.frame.wrN.sawEpoch.contact

theorem execPeerBeacon {f : EthFrame} (h : s.Keeps s₀) : Answer.Keeps s₀ (execPeerBeacon f s) := by
  unfold Machine.execPeerBeacon
  refine .next ?_
  split
  · next t he =>
    exact h.peerFrom.ofFst he
  · next t m he =>
    have h1 := h.peerFrom.ofFst he
    refine .ite h1 ?_
    refine .ite (h1.noteBeacon.ifThen (·.restartSeed)) ?_
    refine .ite ((h1.noteBeacon.ifThen (·.restartSeed)).ifThen (·.demote)) ?_
    refine .ite ?_ ((h1.noteBeacon.ifThen (·.restartSeed)).ifThen (·.askSeed))
    dsimp only
    split
    · exact (h1.noteBeacon.ifThen (·.restartSeed)).frame.ifThen (·.enterSeeding)
    · exact (h1.noteBeacon.ifThen (·.restartSeed)).frame

theorem selfTest (h : s.Keeps s₀) : s.selfTest.Keeps s₀ := .ite h.setF (h.wrN.setF.frame.ifThen (·.event))

theorem execPeerBeaconDue (h : s.Keeps s₀) : Answer.Keeps s₀ (execPeerBeaconDue s) := .next (.ite h h.selfTest.sendPeer.sendWit.frame)

theorem execHealthDue (h : s.Keeps s₀) : Answer.Keeps s₀ (execHealthDue s) := .next (.ite h ((ite h h.writeFettle).selfTest.sendPeer.postDia.frame))

theorem execHealth {f : EthFrame} (h : s.Keeps s₀) : Answer.Keeps s₀ (execHealth f s) := by
  unfold Machine.execHealth
  refine .next ?_
  split
  · next t he =>
    exact h.peerFrom.ofFst he
  · next t m he =>
    have h1 := h.peerFrom.ofFst he
    exact .ite h1 h1.wrN.postDia

theorem requestTakeover {trigger : Nat} (h : s.Keeps s₀) : (s.requestTakeover trigger).Keeps s₀ := .ite h.request h

theorem execYield_ {f : EthFrame} (h : s.Keeps s₀) : Answer.Keeps s₀ (execYield_ f s) := by
  unfold Machine.execYield_
  refine .next ?_
  split
  · next t he =>
    exact h.peerFrom.ofFst he
  · next t m he =>
    have h1 := h.peerFrom.ofFst he
    exact .ite h1 h1.requestTakeover

theorem execHandover {f : EthFrame} (h : s.Keeps s₀) : Answer.Keeps s₀ (execHandover f s) := by
  unfold Machine.execHandover
  refine .next ?_
  split
  · next t he =>
    exact h.peerFrom.ofFst he
  · next t m he =>
    have h1 := h.peerFrom.ofFst he
    exact .ite h1 h1.frame.request

theorem execReady {f : EthFrame} (h : s.Keeps s₀) : Answer.Keeps s₀ (execReady f s) := by
  unfold Machine.execReady
  refine .next ?_
  split
  · next t he =>
    exact h.peerFrom.ofFst he
  · next t m he =>
    have h1 := h.peerFrom.ofFst he
    split
    · exact .ite h1.frame h1
    · exact h1

theorem execConfirm {f : EthFrame} (h : s.Keeps s₀) : Answer.Keeps s₀ (execConfirm f s) := by
  unfold Machine.execConfirm
  refine .next ?_
  split
  · next t he =>
    exact h.peerFrom.ofFst he
  · next t m he =>
    have h1 := h.peerFrom.ofFst he
    split
    · exact .ite h1.bump.event.frame.finishAll h1
    · exact h1

/-! ### Machine/Reset.lean -/

/-- Module reset writes the map anew, register by register. -/
theorem moduleReset (h : s.Keeps s₀) : s.moduleReset.Keeps s₀ := by
  obtain ⟨hi, -⟩ := h
  refine ⟨hi, fun _ => ?_⟩
  rw [← hi]
  exact mapWf_foldl_mapSet _ _ _ (mapWf_nil _)

theorem resumeCounters (h : s.Keeps s₀) : s.resumeCounters.Keeps s₀ := ((h.foldl fun _ _ ht => ht.wrN).foldl fun _ _ ht => ht.wrN.setRadGen).frame

theorem restartEvents (h : s.Keeps s₀) : s.restartEvents.Keeps s₀ := h.frame.wrN.event

theorem latchPins (h : s.Keeps s₀) : s.latchPins.Keeps s₀ := h.setF.setF.setF

theorem endReset (h : s.Keeps s₀) : s.endReset.Keeps s₀ := h.frame.latchPins.resumeCounters.restartEvents

theorem restart (h : s.Keeps s₀) : s.restart.Keeps s₀ := h.moduleReset.ifThen (·.endReset)

theorem cutSupply (h : s.Keeps s₀) : s.cutSupply.Keeps s₀ := .ite h (h.cutLadles.endPlanned.bump.frame.ifThen (·.afterCharge))

theorem stopService (h : s.Keeps s₀) : s.stopService.Keeps s₀ := h.abortAll.cutSupply.stopFettle

theorem openSlot (h : s.Keeps s₀) : s.openSlot.Keeps s₀ := h.frame

theorem closeSlot (h : s.Keeps s₀) : s.closeSlot.Keeps s₀ := h.frame

theorem beginFlush {for_ : FlushFor} (h : s.Keeps s₀) : (s.beginFlush for_).Keeps s₀ :=
  ((ite h.writeLumRuns h).mtrCut.setF.setF.frame.ifThen (·.openSlot)).showRadStates

theorem flushNow {for_ : FlushFor} (h : s.Keeps s₀) : (s.flushNow for_).Keeps s₀ := h.mtrShut.stopService.frame.beginFlush.frame

theorem numberHeld (h : s.Keeps s₀) : s.numberHeld.Keeps s₀ := h.frame.foldl fun _ _ ht => ht.offer

theorem endFlush (h : s.Keeps s₀) : s.endFlush.Keeps s₀ := (h.writeEvents.finishAll.ifThen (·.closeSlot)).frame.setF.setF.ifElse (·.numberHeld)

theorem flagRings (h : s.Keeps s₀) : s.flagRings.Keeps s₀ := .ite (h.foldl fun _ _ ht => .ite ht.writeback ht) h

theorem resumeOutputs (h : s.Keeps s₀) : s.resumeOutputs.Keeps s₀ := (h.flagRings.ifThen (·.lampStart)).showRadStates

/-! ### Machine/PatRun.lean -/

theorem execPatActivate {e : CmdEntry} (h : s.Keeps s₀) : Answer.Keeps s₀ (execPatActivate e s) :=
  h.runCmd fun _ _ hs => .ite (.stat hs) (by split; exacts [.done hs, .wait hs])

theorem runPattern {k : Nat} (h : s.Keeps s₀) : (s.runPattern k).Keeps s₀ := h.setPatState.setPatState.setF.setF.wrN

theorem startPause {k : Nat} {back : Bool} (h : s.Keeps s₀) : (s.startPause k back).Keeps s₀ :=
  (h.runPattern.setF.foldl fun _ _ ht => ht.setPort).frame.flagRings

theorem execActivatePauseStart (h : s.Keeps s₀) : Answer.Keeps s₀ (execActivatePauseStart s) := by
  unfold Machine.execActivatePauseStart
  split
  · exact .next h
  · refine .ite (.next h) ?_
    exact .ite (.next h.finish) (by split; exacts [.next h.finish, .next (h.startPause.ifThen (·.event))])

theorem finishActivate (h : s.Keeps s₀) : s.finishActivate.Keeps s₀ := by
  unfold State.finishActivate
  split
  · exact h
  · exact .ite h.finish h.finish

theorem pauseAgain (h : s.Keeps s₀) : s.pauseAgain.Keeps s₀ := h.startPause.setPatState.event

theorem pauseRole (h : s.Keeps s₀) : s.pauseRole.Keeps s₀ := .ite h.enterSeeding (.ite h.frame h)

theorem execActivatePauseEnd (h : s.Keeps s₀) : Answer.Keeps s₀ (execActivatePauseEnd s) := by
  unfold Machine.execActivatePauseEnd
  refine .ite (.next h) ?_
  refine .next ?_
  exact (h.setF.setF.frame.ifThen (·.event.pauseRole)).ifBoth (·.beginFlush) fun ht => .ite ht (.ite ht.pauseAgain ht.resumeOutputs.finishActivate)

theorem confirmPattern (h : s.Keeps s₀) : s.confirmPattern.Keeps s₀ := h.setPatState.wrN.event

theorem execPatConfirm {e : CmdEntry} (h : s.Keeps s₀) : Answer.Keeps s₀ (execPatConfirm e s) :=
  h.runCmd fun _ _ hs => .ite (.stat hs.confirmPattern) (.stat hs)

theorem execTrialTimeout (h : s.Keeps s₀) : Answer.Keeps s₀ (execTrialTimeout s) := .next (.ite h.confirmPattern h)

theorem execPatHaltgo {value : Word} (h : s.Keeps s₀) : Answer.Keeps s₀ (execPatHaltgo value s) := .next h.hostReg

theorem execHaltRecoveryDone {image : Option (List Byte)} (h : s.Keeps s₀) : Answer.Keeps s₀ (execHaltRecoveryDone image s) := by
  unfold Machine.execHaltRecoveryDone
  refine .ite (.next h) ?_
  dsimp only
  split
  · exact .next h.setF
  · exact .ite (.next h.setF) (.next h.setPat.setPatState.wrN.restart.event)

/-! ### Machine/RdnCmd.lean -/

theorem fromWitness {typ : Nat} {f : EthFrame} (h : s.Keeps s₀) : (s.fromWitness typ f).1.Keeps s₀ := by
  unfold State.fromWitness
  split
  · next t he =>
    exact h.ethIn.ofFst he
  · next t b he =>
    have h1 := h.ethIn.ofFst he
    exact .fstIte h1 (by split; exacts [h1, .fstIte h1 h1.frame])

theorem refreshOutputs (h : s.Keeps s₀) : s.refreshOutputs.Keeps s₀ := h.foldl fun _ _ ht => .ite ht.sendOutputs ht

theorem takeover {q : RdnReq} {epoch : Nat} (h : s.Keeps s₀) : (s.takeover q epoch).Keeps s₀ := h.enterActive.setF.bump.frame.refreshOutputs.event

theorem execGrant {f : EthFrame} (h : s.Keeps s₀) : Answer.Keeps s₀ (execGrant f s) := by
  unfold Machine.execGrant
  refine .next ?_
  split
  · next t he =>
    exact h.fromWitness.ofFst he
  · next t b he =>
    have h1 := h.fromWitness.ofFst he
    dsimp only
    split
    · exact h1.sawEpoch
    · refine .ite (h1.sawEpoch.frame.ifThen (·.enterActive.setF)) ?_
      refine .ite (h1.sawEpoch.frame.ifThen (·.takeover)) ?_
      refine .ite ?_ (h1.sawEpoch.frame.ifThen (·.planRevert))
      split
      · exact h1.sawEpoch.frame.ifElse (·.frame.sendPeer)
      · exact h1.sawEpoch.frame

theorem execDeny {f : EthFrame} (h : s.Keeps s₀) : Answer.Keeps s₀ (execDeny f s) := by
  unfold Machine.execDeny
  refine .next ?_
  split
  · next t he =>
    exact h.fromWitness.ofFst he
  · next t b he =>
    have h1 := h.fromWitness.ofFst he
    dsimp only
    split
    · exact h1
    · exact .ite h1.frame (.ite h1.frame.event (.ite h1.frame.frame h1.frame.frame.endRotate))

theorem execStatus {f : EthFrame} (h : s.Keeps s₀) : Answer.Keeps s₀ (execStatus f s) := by
  unfold Machine.execStatus
  refine .next ?_
  split
  · next t he =>
    exact h.fromWitness.ofFst he
  · next t b he =>
    exact (h.fromWitness.ofFst he).wrN.sawEpoch.contact.frame.ifThen (·.demote)

theorem execRevoke {f : EthFrame} (h : s.Keeps s₀) : Answer.Keeps s₀ (execRevoke f s) := by
  unfold Machine.execRevoke
  refine .next ?_
  split
  · next t he =>
    exact h.fromWitness.ofFst he
  · next t b he =>
    exact (h.fromWitness.ofFst he).sawEpoch.ifThen (·.demote)

theorem startHandover (h : s.Keeps s₀) : s.startHandover.Keeps s₀ := by
  unfold State.startHandover
  split
  · exact h
  · exact h.sendPeer.frame

theorem postpone {cond : Nat} (h : s.Keeps s₀) : (s.postpone cond).Keeps s₀ := h.frame.event

theorem tryHandover {age : Bool} (h : s.Keeps s₀) : (s.tryHandover age).Keeps s₀ := .ite h (by split; exacts [h.postpone, h.startHandover])

theorem execRotationDue (h : s.Keeps s₀) : Answer.Keeps s₀ (execRotationDue s) := .next (by split; exacts [.ite h.tryHandover h, h])

theorem execNotice {f : EthFrame} (h : s.Keeps s₀) : Answer.Keeps s₀ (execNotice f s) := by
  unfold Machine.execNotice
  refine .next ?_
  split
  · next t he =>
    exact h.fromWitness.ofFst he
  · next t b he =>
    have h1 := h.fromWitness.ofFst he
    exact .ite h1 (.ite h1.tryHandover h1.event)

theorem handOver {hd : Handover} (h : s.Keeps s₀) : (s.handOver hd).Keeps s₀ := .ite h.enterRole.inService.frame h.endRotate

theorem takeHandover {hd : Handover} (h : s.Keeps s₀) : (s.takeHandover hd).Keeps s₀ := by
  unfold State.takeHandover
  split
  · exact h.frame
  · exact h.enterActive.setF.frame.ifThen (·.event)

theorem execHandoverTick (h : s.Keeps s₀) : Answer.Keeps s₀ (execHandoverTick s) := by
  unfold Machine.execHandoverTick
  refine .next ?_
  split
  · exact .ite h (.ite (.ite h.handOver h.endRotate) (.ite h.takeHandover h.frame))
  · exact h

theorem execHandoverDeltaTimeout (h : s.Keeps s₀) : Answer.Keeps s₀ (execHandoverDeltaTimeout s) := .next (by split; exacts [.ite h.frame.event h, h])

theorem execConfirmTimeout (h : s.Keeps s₀) : Answer.Keeps s₀ (execConfirmTimeout s) :=
  .next (by split; exacts [.ite (.ite h.request h.endRotate) h, h])

theorem execPeerLoss (h : s.Keeps s₀) : Answer.Keeps s₀ (execPeerLoss s) := .next (.ite h (.ite (.ite h.requestTakeover h) (.ite h.restartSeed h)))

theorem execIsolated (h : s.Keeps s₀) : Answer.Keeps s₀ (execIsolated s) := .next (.ite h.frame.event h)

theorem execSeedingPeerListenEnd (h : s.Keeps s₀) : Answer.Keeps s₀ (execSeedingPeerListenEnd s) := .next (.ite h (.ite h.askSeed h.request))

theorem execWitnessNoAnswer (h : s.Keeps s₀) : Answer.Keeps s₀ (execWitnessNoAnswer s) := .next (by split; exacts [.ite h.enterActive.setF.event h, h])

theorem execRequestRepeat (h : s.Keeps s₀) : Answer.Keeps s₀ (execRequestRepeat s) := by
  unfold Machine.execRequestRepeat
  refine .next ?_
  split
  · exact .ite (.ite h (.ite h.sendRequest (.ite h h.request))) (.ite (.ite h (.ite h.frame (.ite h.request h.sendRequest))) h)
  · exact h

theorem execRdnRotate {e : CmdEntry} (h : s.Keeps s₀) : Answer.Keeps s₀ (execRdnRotate e s) :=
  h.runCmd fun _ _ hs => .ite (.stat hs) (.ite (.stat hs) (.ite (.stat hs) (.wait hs.startHandover.frame)))

theorem execRdnYield {e : CmdEntry} (h : s.Keeps s₀) : Answer.Keeps s₀ (execRdnYield e s) :=
  h.runCmd fun _ _ hs => .ite (.stat hs) (.ite (.stat hs) (.ite (.stat hs) (.stat hs.sendYield)))

theorem execRdnReseed {e : CmdEntry} (h : s.Keeps s₀) : Answer.Keeps s₀ (execRdnReseed e s) :=
  h.runCmd fun _ _ hs => .ite (.stat hs) (.ite (.stat hs) (.wait hs.enterSeeding))

/-! ### Machine/Supply.lean -/

theorem showVin {vin : Half} (h : s.Keeps s₀) : (s.showVin vin).Keeps s₀ := h.setF

theorem execPowerGood {vin : Half} (h : s.Keeps s₀) : Answer.Keeps s₀ (execPowerGood vin s) :=
  .ite (.next h) (.next ((h.frame.ifThen (·.endReset)).showVin))

theorem riserSample {vin riser : Nat} (h : s.Keeps s₀) : (s.riserSample vin riser).Keeps s₀ := h.frame.setF.showRiser

theorem execPerstAssert (h : s.Keeps s₀) : Answer.Keeps s₀ (execPerstAssert s) :=
  .next (h.frame.ifElse fun ht => .ite ht.frame.restart (.ite ht.frame ht.flushNow))

theorem execPerstRelease (h : s.Keeps s₀) : Answer.Keeps s₀ (execPerstRelease s) :=
  .ite (.next h) (.ite (.next h.frame) (.next (h.frame.ifThen (·.endReset))))

theorem execUnitSelChange {level : Bool} (h : s.Keeps s₀) : Answer.Keeps s₀ (execUnitSelChange level s) := .next (h.frame.ifElse (·.event))

theorem execMaintNChange {asserted : Bool} (h : s.Keeps s₀) : Answer.Keeps s₀ (execMaintNChange asserted s) := .next (h.frame.ifElse (·.setF))

theorem execEmergNChange {asserted : Bool} (h : s.Keeps s₀) : Answer.Keeps s₀ (execEmergNChange asserted s) :=
  .next (h.frame.ifElse fun ht => ht.setF.ifElse (·.setCause))

theorem execBackupLost (h : s.Keeps s₀) : Answer.Keeps s₀ (execBackupLost s) := .next (.ite h h.frame)

theorem warnAgain {vin : Nat} (h : s.Keeps s₀) : (s.warnAgain vin).Keeps s₀ := h.frame

theorem warn {vin riser : Nat} (h : s.Keeps s₀) : (s.warn vin riser).Keeps s₀ :=
  ((h.setF.mtrShut.event.endPlanned.setCause.ifThen (·.sendYield)).frame.ifThen (·.frame)).stopService.flagRings

theorem execPowerFailWarning {vin riser : Half} (h : s.Keeps s₀) : Answer.Keeps s₀ (execPowerFailWarning vin riser s) :=
  .ite (.next h) (.ite (.next h.frame) (.next (h.riserSample.showVin.setF.ifBoth (·.warnAgain) (·.warn))))

theorem execFlushBegin (h : s.Keeps s₀) : Answer.Keeps s₀ (execFlushBegin s) :=
  .ite (.next h) (.ite (.next h.mtrCut.frame.showRadStates) (.next h.beginFlush))

theorem execFlushDone (h : s.Keeps s₀) : Answer.Keeps s₀ (execFlushDone s) := by
  unfold Machine.execFlushDone
  refine .ite (.next h) ?_
  dsimp only
  split
  · exact .next h.endFlush.setF
  · exact .next h.endFlush.setF
  · exact .next h.endFlush.frame.restart

theorem execVinRestored {vin : Half} (h : s.Keeps s₀) : Answer.Keeps s₀ (execVinRestored vin s) := .ite (.next h) (.next (h.showVin.ifThen (·.frame)))

theorem resumeService (h : s.Keeps s₀) : s.resumeService.Keeps s₀ := h.setF.setF.setF.setF.frame.event.setCause.ifThen (·.mtrReopen)

theorem execServiceResume (h : s.Keeps s₀) : Answer.Keeps s₀ (execServiceResume s) := by
  unfold Machine.execServiceResume
  split
  · exact .next h
  · exact .ite (.next h) (.next (h.resumeService.ifBoth (·.pauseAgain) (·.resumeOutputs.finishActivate)))

theorem cutFlush {written : Nat} (h : s.Keeps s₀) : (s.cutFlush written).Keeps s₀ := .ite h h.frame

theorem execRiserExhausted {written : Nat} (h : s.Keeps s₀) : Answer.Keeps s₀ (execRiserExhausted written s) :=
  .ite (.next h) (.next h.cutFlush.frame.moduleReset)

theorem execRiserOk (h : s.Keeps s₀) : Answer.Keeps s₀ (execRiserOk s) := .next (.ite h h.frame.setF.showRiser)

theorem execEbbRampEnd (h : s.Keeps s₀) : Answer.Keeps s₀ (execEbbRampEnd s) := .next (by split; exacts [h, h.frame.setF])

theorem execGlbPaceRead (h : s.Keeps s₀) : Answer.Keeps s₀ (execGlbPaceRead s) := .next (.ite h.frame.setF h.frame)

theorem noteSlow {pace : Nat} (h : s.Keeps s₀) : (s.noteSlow pace).Keeps s₀ := .ite h.frame (h.frame.ifThen (·.setF.event))

theorem execPaceSample {pace die vin riser vbak : Half} (h : s.Keeps s₀) : Answer.Keeps s₀ (execPaceSample pace die vin riser vbak s) :=
  .ite (.next h) (.next h.setF.setF.setF.showVin.riserSample.setF.frame.refreshCharger.noteSlow)

theorem thermalEvent {temp : Half} {action : Nat} (h : s.Keeps s₀) : (s.thermalEvent temp action).Keeps s₀ := h.setF.event

theorem execThermalEbb {temp : Half} (h : s.Keeps s₀) : Answer.Keeps s₀ (execThermalEbb temp s) :=
  .ite (.next h) (.next h.setF.setF.thermalEvent.setCause.rampTo)

theorem execThermalEbbRelease {temp : Half} (h : s.Keeps s₀) : Answer.Keeps s₀ (execThermalEbbRelease temp s) :=
  .ite (.next h) (.next ((ite h.frame h).ifBoth (·.setF.thermalEvent.setCause.rampTo) (·.setF)))

theorem execThermalHold {temp : Half} (h : s.Keeps s₀) : Answer.Keeps s₀ (execThermalHold temp s) :=
  .ite (.next h) (.next ((ite h.sendYield h).thermalEvent.ifBoth (·.flushNow) fun ht => .ite (.ite ht ht.frame) ht.frame.setF))

theorem execThermalRestart {temp : Half} (h : s.Keeps s₀) : Answer.Keeps s₀ (execThermalRestart temp s) := .ite (.next h) (.next h.restart.thermalEvent)

/-! ### Machine/Start.lean -/

theorem setStage {n : Nat} (h : s.Keeps s₀) : (s.setStage n).Keeps s₀ := h.setF

theorem execVcoreReady {pace die : Half} (h : s.Keeps s₀) : Answer.Keeps s₀ (execVcoreReady pace die s) := .ite (.next h) (.next h.setF.setF.frame)

theorem setBoot {k : Nat} (h : s.Keeps s₀) : (s.setBoot k).Keeps s₀ := h.setF

theorem rollTrial (h : s.Keeps s₀) : s.rollTrial.Keeps s₀ := .ite h.setPatState.setBoot.event h

theorem bootPattern {k : Nat} (h : s.Keeps s₀) : (s.bootPattern k).Keeps s₀ := h.setBoot.setPatState.setF.wrN.setStage

theorem execStagePattern (h : s.Keeps s₀) : Answer.Keeps s₀ (execStagePattern s) := by
  unfold Machine.execStagePattern
  refine .ite (.next h) ?_
  exact .ite (.next h.rollTrial.bootPattern.frame) (.ite (.next h.rollTrial.setPatState.setF.event.bootPattern.frame) (.next h.rollTrial.setStage))

theorem applyRemap (h : s.Keeps s₀) : s.applyRemap.Keeps s₀ := (h.foldl fun _ _ ht => ht.setF).setF

theorem execStageMemory (h : s.Keeps s₀) : Answer.Keeps s₀ (execStageMemory s) := by
  unfold Machine.execStageMemory
  refine .ite (.next h) ?_
  exact .next (by split; exacts [h.applyRemap.setStage.zeroiseKeys.completeLc, h.applyRemap.setStage])

theorem copyBad {k check : Nat} (h : s.Keeps s₀) : (s.copyBad k check).Keeps s₀ := h.setF.event

theorem runCopy {k : Nat} (h : s.Keeps s₀) : (s.runCopy k).Keeps s₀ := by
  unfold State.runCopy
  split
  · exact h
  · exact (h.frame.foldl fun _ _ hu => hu.placeFrom).loadRegs

theorem startDefaults (h : s.Keeps s₀) : s.startDefaults.Keeps s₀ := h.loadRegs.setF

theorem selectCopy {k : Nat} {rewrite : Bool} (h : s.Keeps s₀) : (s.selectCopy k rewrite).Keeps s₀ := h.runCopy.frame

theorem selectConfig (h : s.Keeps s₀) : s.selectConfig.Keeps s₀ := by
  unfold State.selectConfig
  split
  · exact h.selectCopy
  · exact h.selectCopy.setF.copyBad
  · exact h.selectCopy.setF.copyBad
  · exact h.startDefaults.copyBad.copyBad.event

theorem execStageConfig (h : s.Keeps s₀) : Answer.Keeps s₀ (execStageConfig s) :=
  .ite (.next h) (.next ((ite h.startDefaults h.selectConfig).setStage.becomeReady))

theorem newHeat (h : s.Keeps s₀) : s.newHeat.Keeps s₀ := h.frame.setF.setF

theorem calLost (h : s.Keeps s₀) : s.calLost.Keeps s₀ := h.setF.setF.setF.setF.loadKept.frame.event

theorem wallFromCal (h : s.Keeps s₀) : s.wallFromCal.Keeps s₀ := h.frame

theorem startTime (h : s.Keeps s₀) : s.startTime.Keeps s₀ := (h.newHeat.ifBoth (·.calLost) (·.wallFromCal)).refreshServo.refreshCharger

theorem restorePoint {a : Nat} {r : PtRec} (h : s.Keeps s₀) : (s.restorePoint a r).Keeps s₀ := .ite h h.setPt

theorem restorePoints {slot : Option (Nat × FlushSlot)} (h : s.Keeps s₀) : (s.restorePoints slot).Keeps s₀ := by
  unfold State.restorePoints
  dsimp only
  split
  · exact h.frame
  · exact h.frame.ifElse fun hu => .ite hu.setF.event (hu.foldl fun _ _ hv => hv.restorePoint)

theorem restoreMeter {slot : Option (Nat × FlushSlot)} (h : s.Keeps s₀) : (s.restoreMeter slot).Keeps s₀ := by
  unfold State.restoreMeter
  dsimp only
  split
  · exact h.frame
  · exact (h.wrN.foldl fun _ _ hu => hu.setMtrPulse.wrN).frame.foldl fun _ _ hu => hu.showPulse

theorem reportFlush {slot : Option (Nat × FlushSlot)} (h : s.Keeps s₀) : (s.reportFlush slot).Keeps s₀ := by
  unfold State.reportFlush
  split
  · exact h
  · exact (ite h h.nextFree).frame.setF.event

theorem execStageRestore (h : s.Keeps s₀) : Answer.Keeps s₀ (execStageRestore s) :=
  .ite (.next h) (.next h.setStage.startTime.restorePoints.restoreMeter.reportFlush)

theorem execStageRole (h : s.Keeps s₀) : Answer.Keeps s₀ (execStageRole s) :=
  .ite (.next h) (.next (((h.setStage.ifElse (·.beginRole)).ifThen (·.frame)).roleTrunks.showRadStates))

theorem execRoleSettled (h : s.Keeps s₀) : Answer.Keeps s₀ (execRoleSettled s) := .ite (.next h) (.next h.frame.roleLamp.roleMeter.showRadStates)

theorem execStageRun (h : s.Keeps s₀) : Answer.Keeps s₀ (execStageRun s) := .ite (.next h) (.next (h.setStage.startCycles.ifThen (·.inService)))

theorem execCfgCopyRewrite (h : s.Keeps s₀) : Answer.Keeps s₀ (execCfgCopyRewrite s) := .ite (.next h) (by split; exacts [.next h, .next h.frame.setF])

/-! ### Machine/Dispatch.lean -/

/-- Every command. -/
theorem exec {ins : Instr} (h : s.Keeps s₀) : Answer.Keeps s₀ (exec ins s) := by
  unfold Machine.exec
  split
  · exact h.execPowerGood
  · exact h.execVcoreReady
  · exact h.execPowerFailWarning
  · exact h.execVinRestored
  · exact h.execRiserExhausted
  · exact h.execUnitSelChange
  · exact h.execMaintNChange
  · exact h.execEmergNChange
  · exact h.execThermalEbb
  · exact h.execThermalEbbRelease
  · exact h.execThermalHold
  · exact h.execThermalRestart
  · exact h.execPaceSample
  · exact h.execGlbVstateWrite
  · exact h.execBusMasterEnableChange
  · exact h.execFuncReset
  · exact h.execMsixUnmask
  · exact h.execRegisterWrite
  · exact h.execRfGroupFreeze
  · exact h.execRfGroupEnd
  · exact h.execLdlMaxnsRead
  · exact h.execHifVersionSelectWrite
  · exact h.execRingCfgWrite
  · exact h.execDoorbellWrite
  · exact h.execRunnerBurst
  · exact h.execRunnerReadFail
  · exact h.execDmaCtlResume
  · exact h.execTunCtlFlush
  · exact h.execTundishFlushApply
  · exact h.execWritebackTimer
  · exact h.execUnknownOpcode
  · exact h.execNop
  · exact h.execEcho
  · exact h.execCancel
  · exact h.execSync
  · exact h.execTxnOpen
  · exact h.execTxnCommit
  · exact h.execTxnAbort
  · exact h.execTxnRegwr
  · exact h.execTxnQuery
  · exact h.execTxnApply
  · exact h.execTxnIdleTimeout
  · exact h.execTxnWaitTimeout
  · exact h.execTunFlush
  · exact h.execRunnerResume
  · exact h.execWrite
  · exact h.execWriteQuality
  · exact h.execPntRead
  · exact h.execPntReadList
  · exact h.execPntForce
  · exact h.execPntUnforce
  · exact h.execPntForceList
  · exact h.execPntSubscribe
  · exact h.execPntUnsubscribe
  · exact h.execNodeHoldExpiry
  · exact h.execLdlLoad
  · exact h.execLdlUnload
  · exact h.execLdlTable
  · exact h.execLdlTableIdleApply
  · exact h.execLdlState
  · exact h.execLiLd
  · exact h.execLiAnd
  · exact h.execLiOr
  · exact h.execLiXor
  · exact h.execLiSt
  · exact h.execLiSet
  · exact h.execLiRst
  · exact h.execLiLdq
  · exact h.execLiLaop
  · exact h.execLiBopen
  · exact h.execLiBand
  · exact h.execLiBor
  · exact h.execLiBpeek
  · exact h.execLiBdrop
  · exact h.execLiEdge
  · exact h.execLiTmr
  · exact h.execLiCtu
  · exact h.execLiCtd
  · exact h.execLiTcr
  · exact h.execLiTcld
  · exact h.execLiLdm
  · exact h.execLiStm
  · exact h.execLiLdw
  · exact h.execLiStw
  · exact h.execLiQld
  · exact h.execLiWbit
  · exact h.execLiLdi
  · exact h.execLiLdih
  · exact h.execLiMov
  · exact h.execLiSel
  · exact h.execLiAlu
  · exact h.execLiAlui
  · exact h.execLiFpu
  · exact h.execLiCmp
  · exact h.execLiCmpi
  · exact h.execLiTbl
  · exact h.execLiJmp
  · exact h.execLiCall
  · exact h.execLiRet
  · exact h.execLiLoop
  · exact h.execLiEndl
  · exact h.execLiBrk
  · exact h.execLiSetb
  · exact h.execLiBidx
  · exact h.execLiBld
  · exact h.execLiLcall
  · exact h.execLiNop
  · exact h.execLiEnd
  · exact h.execChargeEnd
  · exact h.execCycSetup
  · exact h.execCycSched
  · exact h.execCycHold
  · exact h.execCycRelease
  · exact h.execLampEvaluationEnd
  · exact h.execLmpEmerg
  · exact h.execLmpProbe
  · exact h.execLmpRecord
  · exact h.execLmpChstate
  · exact h.execLmpCtlEmergSw
  · exact h.execLmpTickWrite
  · exact h.execGateEntryStart
  · exact h.execTrunkFrameReceived
  · exact h.execForeignBeacon
  · exact h.execCoordinatorListenEnd
  · exact h.execSeedingListenEnd
  · exact h.execRollCallCycleEnd
  · exact h.execTrkSend
  · exact h.execTrkSendTimeout
  · exact h.execTrkPort
  · exact h.execTrkGates
  · exact h.execGatectlWrite
  · exact h.execPauseFrameReceived
  · exact h.execLinkChange
  · exact h.execHello
  · exact h.execAck
  · exact h.execReport
  · exact h.execDelayReq
  · exact h.execRetransmitTimeout
  · exact h.execCznNode
  · exact h.execCznReseat
  · exact h.execCznReseatTimeout
  · exact h.execCznRekey
  · exact h.execCznNodetable
  · exact h.execRadioFrameReceived
  · exact h.execRadioAdmissionTimeout
  · exact h.execBeaconInstant
  · exact h.execListenWindow
  · exact h.execStandbyBeaconMiss
  · exact h.execRadioNodeStale
  · exact h.execRadioNodeAbsent
  · exact h.execRadNode
  · exact h.execRadWake
  · exact h.execRadWakeTimeout
  · exact h.execRadNodetable
  · exact h.execRadChannel
  · exact h.execRadDutyWrite
  · exact h.execTimIncrloWrite
  · exact h.execTimIncrhiWrite
  · exact h.execTimStep
  · exact h.execTimSetincr
  · exact h.execTimLeap
  · exact h.execPtpMessage
  · exact h.execPeriodicFire
  · exact h.execTrimMeasurementEnd
  · exact h.execRtcStgWrite
  · exact h.execRtcSet
  · exact h.execRtcFromWall
  · exact h.execRtcAlarm
  · exact h.execRtcPeriodic
  · exact h.execRtcCharger
  · exact h.execRtcSettrim
  · exact h.execMeterSample
  · exact h.execPulseEnd
  · exact h.execWindowEnd
  · exact h.execMtrArchive
  · exact h.execMtrClose
  · exact h.execMtrCaldata
  · exact h.execMtrPreset
  · exact h.execEvrFlashWrite
  · exact h.execEvrCursorWrite
  · exact h.execEvrSync
  · exact h.execEvrClear
  · exact h.execEvrRead
  · exact h.execPeerBeacon
  · exact h.execDelta
  · exact h.execDeltaAck
  · exact h.execSeedReq
  · exact h.execSeed
  · exact h.execHandover
  · exact h.execReady
  · exact h.execConfirm
  · exact h.execYield_
  · exact h.execHealth
  · exact h.execGrant
  · exact h.execDeny
  · exact h.execStatus
  · exact h.execNotice
  · exact h.execRevoke
  · exact h.execHeartbeat
  · exact h.execRequest
  · exact h.execVote
  · exact h.execWitnessStartHoldEnd
  · exact h.execWitnessStatusDue
  · exact h.execRdnRotate
  · exact h.execRdnYield
  · exact h.execRdnReseed
  · exact h.execKeySlotSet
  · exact h.execKeySlotClear
  · exact h.execKeyRootSet
  · exact h.execKeyAttest
  · exact h.execKeyIdcert
  · exact h.execKeyNodekey
  · exact h.execKeyWrgo
  · exact h.execKeyModeWrite
  · exact h.execKeyCznsrcWrite
  · exact h.execKeySendDelayEnd
  · exact h.execOldKeyGraceEnd
  · exact h.execKeyLcreqWrite
  · exact h.execOwnerLockWrite
  · exact h.execPatBegin
  · exact h.execPatBlock
  · exact h.execPatQuery
  · exact h.execPatVerify
  · exact h.execPatActivate
  · exact h.execPatConfirm
  · exact h.execPatHaltgo
  · exact h.execHaltRecoveryDone
  · exact h.execFettleRegionEnd
  · exact h.execBankRemapDone
  · exact h.execMemBankChillWrite
  · exact h.execMemFettleWrite
  · exact h.execPauseQuantaEnd
  · exact h.execPtpSyncInterval
  · exact h.execPcieLinkTrained
  · exact h.execPerstAssert
  · exact h.execPerstRelease
  · exact h.execStagePattern
  · exact h.execStageMemory
  · exact h.execStageConfig
  · exact h.execStageRestore
  · exact h.execStageRole
  · exact h.execRoleSettled
  · exact h.execStageRun
  · exact h.execCfgCopyRewrite
  · exact h.execFlushBegin
  · exact h.execFlushDone
  · exact h.execServiceResume
  · exact h.execBackupLost
  · exact h.execEbbRampEnd
  · exact h.execPntRdrec0Read
  · exact h.execRtcSubsecRead
  · exact h.execGlbPaceRead
  · exact h.execLmpEvalRead
  · exact h.execChangeNoticePost
  · exact h.execCycleBoundary
  · exact h.execCommitDeadline
  · exact h.execTickBoundary
  · exact h.execPour
  · exact h.execLumRunWrite
  · exact h.execTimeFrameDue
  · exact h.execKeyAnnounce
  · exact h.execGenerationGraceEnd
  · exact h.execTimStepGo
  · exact h.execHoldoverEntry
  · exact h.execCalendarSecond
  · exact h.execCalendarFollow
  · exact h.execLeapSecond
  · exact h.execRtcCommitGo
  · exact h.execRtcCommitFromWall
  · exact h.execCalendarStep
  · exact h.execChargerFault
  · exact h.execAccumulatorWrite
  · exact h.execIntervalBoundary
  · exact h.execIntervalRecord
  · exact h.execEvrWinctlNext
  · exact h.execEvrWindowReady
  · exact h.execEvsDelivery
  · exact h.execPeerBeaconDue
  · exact h.execHealthDue
  · exact h.execWitnessHoldingEnd
  · exact h.execPeerLoss
  · exact h.execIsolated
  · exact h.execSeedingPeerListenEnd
  · exact h.execWitnessNoAnswer
  · exact h.execRequestRepeat
  · exact h.execRotationDue
  · exact h.execHandoverTick
  · exact h.execHandoverDeltaTimeout
  · exact h.execConfirmTimeout
  · exact h.execStatementSigned
  · exact h.execLcZeroise
  · exact h.execLcTransitionEnd
  · exact h.execActivatePauseStart
  · exact h.execActivatePauseEnd
  · exact h.execTrialTimeout
  · exact h.execFettleRegionStart
  · exact h.execRiserOk
  · exact h.execWallClockHour

/-! ### Machine/Idle.lean -/

theorem release {hd : Held} (h : s.Keeps s₀) : Answer.Keeps s₀ (s.release hd) := h.frame.exec

theorem idle (h : s.Keeps s₀) : Answer.Keeps s₀ s.idle := by
  unfold State.idle
  split
  · exact h.release
  · exact .next h.tick

/-! ### Machine/Step.lean -/

/-- Every step: the command at the front of the queue, a packet that a tundish lets go, or one tick. -/
theorem step (h : s.Keeps s₀) : Answer.Keeps s₀ (step s) := by
  unfold Machine.step
  split
  · exact h.frame.exec
  · exact h.idle

end State.Keeps

end Sys2Proof.Machine

open Sys2Proof Sys2Proof.Machine

/-- Settles O4: every operation of the model keeps the identity and the canonical form (`State.Keeps`), and so does the step. -/
theorem stepKeepsRegisterMap : Obligations.StepKeepsRegisterMap := by
  intro s t hw hs
  have h : Answer.Keeps s (step s) := State.Keeps.step ⟨rfl, id⟩
  rw [hs] at h
  obtain ⟨hi, hm⟩ := h
  exact ⟨by rw [State.regsWf, hi]; exact hm hw, hi⟩

end

section
/-!
SUPPORT. Registers: what a plain write does bit by bit (R5), and where a register write falls through to it.
-/
set_option autoImplicit false
namespace Sys2Proof.Machine

/-- Bit `i` of a plain write, in the bits of the row's masks. -/
theorem getLsbD_plainWrite {i : Nat} (hi : i < 32) (r : RegRow) (old v : Word) :
    (plainWrite r old v).getLsbD i =
      ((old.getLsbD i && !(r.rw.testBit i || r.wc.testBit i)) || (v.getLsbD i && r.rw.testBit i) || (old.getLsbD i && r.wc.testBit i && !v.getLsbD i)) := by
  simp only [plainWrite, BitVec.getLsbD_or, BitVec.getLsbD_and, BitVec.getLsbD_not, BitVec.getLsbD_ofNat, Nat.testBit_or, hi, decide_true, Bool.true_and]

/-- A bit is not both stored and cleared on write where the masks share no bit. -/
theorem testBit_wc_of_rw {r : RegRow} (h : r.rw &&& r.wc = 0) {i : Nat} (hrw : r.rw.testBit i = true) : r.wc.testBit i = false := by
  have hb : (r.rw &&& r.wc).testBit i = false := by rw [h, Nat.zero_testBit]
  simpa [Nat.testBit_and, hrw] using hb

end Sys2Proof.Machine

open Sys2Proof Sys2Proof.Machine

/-- Settles O7: each bit of the plain write, by the mask that holds it. -/
theorem accessCodes : Obligations.AccessCodes := by
  intro r old v i hm hi
  rw [getLsbD_plainWrite hi]
  cases hrw : r.rw.testBit i with
  | true => simp [testBit_wc_of_rw hm hrw]
  | false =>
    cases hwc : r.wc.testBit i with
    | true => simp
    | false => simp

/-- Settles O6: the reset state is a constant with an empty register map, and in module reset the link is off. -/
theorem resetState : Obligations.ResetState := by
  have hmap : State.reset.regsWf = true := rfl
  have hlink : State.reset.linkOff = true := rfl
  have hanswers (a : Nat) : State.reset.answers a = false := by simp [State.answers, hlink]
  exact ⟨rfl, rfl, rfl, rfl, rfl, by decide, hmap, fun _ => rfl, hanswers⟩

end

section
/-!
SUPPORT. Reads with effects (R479) and the frozen groups (R5, R154, R355).
-/
set_option autoImplicit false
namespace Sys2Proof.Machine

namespace State

/-- A freeze of a group that answers keeps the words it shows. -/
theorem shadows_freeze {s : State} {g : RfGroup} (h : s.answers (groupBlock g) = true) : (s.freeze g).shadows.get g = some (s.groupWords g) := by
  simp only [freeze, h, if_true]
  cases g <;> rfl

/-- A freeze leaves the points, the calendar and the time base. -/
theorem freeze_frame (s : State) (g : RfGroup) : (s.freeze g).points = s.points ∧ (s.freeze g).cal = s.cal ∧ (s.freeze g).clock = s.clock := by
  unfold freeze
  split
  · cases g <;> exact ⟨rfl, rfl, rfl⟩
  · exact ⟨rfl, rfl, rfl⟩

/-- The state after the read of a group's last register. -/
def unfreeze (s : State) (g : RfGroup) : State :=
  let t : State := { s with shadows := s.shadows.put none g, rdData := ((s.groupShown g).getLast?).toList }
  if g = .rtc then t.setF Reg.RTC_STATUS F.RTC_STATUS_FROZEN 0 else t

theorem execRfGroupEnd_of_answers {s : State} {g : RfGroup} (h : s.answers (groupBlock g) = true) : execRfGroupEnd g s = .next (s.unfreeze g) := by
  simp only [execRfGroupEnd, h, if_true, unfreeze]

theorem unfreeze_shadows (s : State) (g : RfGroup) : (s.unfreeze g).shadows.get g = none := by
  cases g <;> rfl

theorem unfreeze_frame (s : State) (g : RfGroup) : (s.unfreeze g).rdData = ((s.groupShown g).getLast?).toList ∧ (s.unfreeze g).points = s.points ∧
    (s.unfreeze g).cal = s.cal ∧ (s.unfreeze g).clock = s.clock := by
  cases g <;> exact ⟨rfl, rfl, rfl, rfl⟩

end State

/-! ### The three reads of R479 -/

theorem execGlbPaceRead_of_answers {s : State} (h : s.answers Reg.GLB_PACE = true) :
    execGlbPaceRead s =
      .next (({ s with rdData := [s.rd Reg.GLB_PACE] } : State).setF Reg.GLB_PACE F.GLB_PACE_PACE_MIN (s.fld Reg.GLB_PACE F.GLB_PACE_PACE)) := by
  simp only [execGlbPaceRead, h, if_true]

theorem execLmpEvalRead_of_answers {s : State} (h : s.answers Reg.LMP_EVAL = true) :
    execLmpEvalRead s = .next (({ s with rdData := [s.rd Reg.LMP_EVAL] } : State).setF Reg.LMP_EVAL F.LMP_EVAL_MAX_US 0) := by
  simp only [execLmpEvalRead, h, if_true]

theorem execLdlMaxnsRead_of_answers {s : State} {n : Nat} (hn : n < 16) (h : s.answers (Reg.LDL_MAXNS n) = true) :
    execLdlMaxnsRead n s = .next (({ s with rdData := [s.rd (Reg.LDL_MAXNS n)] } : State).wr (Reg.LDL_MAXNS n) 0) := by
  simp only [execLdlMaxnsRead, h, hn, decide_true, Bool.and_self, if_true]

end Sys2Proof.Machine

open Sys2Proof Sys2Proof.Machine

/-- Settles O9: each read is one register write beside the word returned; a freeze puts the group's words by and the last read drops them. -/
theorem readsWithEffects : Obligations.ReadsWithEffects := by
  refine ⟨fun s => ⟨fun h => ?_, fun h => ?_, fun n hn h => ?_⟩, fun s => ⟨fun _ => rfl, rfl, rfl, fun g h => ?_, fun g h => ?_⟩⟩
  · refine ⟨_, execGlbPaceRead_of_answers h, rfl, ?_, ?_, fun b hb => ?_, rfl⟩
    · rw [State.fld_setF_self _ _ _ (by decide)]
      exact Nat.mod_mod _ _
    · exact State.fld_setF_apart _ _ _ (by decide) (by decide)
    · exact State.rd_setF_other _ _ _ _ hb _
  · refine ⟨_, execLmpEvalRead_of_answers h, rfl, ?_, fun b hb => ?_, rfl⟩
    · exact State.fld_setF_self _ _ _ (by decide)
    · exact State.rd_setF_other _ _ _ _ hb _
  · refine ⟨_, execLdlMaxnsRead_of_answers hn h, rfl, ?_, fun b hb => ?_, rfl⟩
    · exact State.rd_wr_self _ _ _
    · exact State.rd_wr_other _ _ _ _ hb
  · exact ⟨_, State.execRfGroupEnd_of_answers h, s.unfreeze_shadows g, s.unfreeze_frame g⟩
  · exact ⟨_, rfl, State.shadows_freeze h, s.freeze_frame g⟩

end

section
/-!
SUPPORT. The write of one register: a write dooms the transactions that hold the register (R110), and does nothing else to it where none is open.
-/
set_option autoImplicit false
namespace Sys2Proof.Machine

/-- Every register the maps list lies below the configuration space. -/
theorem lt_cfgSpace_of_regRow {a : Nat} {r : RegRow} (h : regRow? a = some r) : a < cfgSpace := by
  by_contra hge
  have hge : 0x60000 ≤ a := Nat.le_of_not_lt hge
  have hrows : rowsAt a = [] := by
    unfold rowsAt
    iterate 24 rw [if_neg (by omega)]
  rw [regRow?, hrows] at h
  cases h

namespace State

variable {s : State} {a : Nat} {v : Word}

/-- No transaction is open. -/
def NoTxn (s : State) : Prop := ∀ k, k < 4 → (s.txn k).phase = .free

/-- With no transaction open there is none to doom. -/
theorem NoTxn.doomReg (h : s.NoTxn) (a : Nat) : s.doomReg a = s := by
  refine List.foldlRecOn (motive := fun t => t = s) _ _ rfl ?_
  intro t ht k hk
  rw [ht]
  simp [h k (List.mem_range.mp hk)]

theorem hostReg_of_answers (h : s.answers a = true) : s.hostReg a v = (s.doomReg a).writeReg a v := if_pos h

theorem hostReg_of_silent (h : s.answers a = false) : s.hostReg a v = s := by simp [hostReg, h]

theorem answers_of_linkOff (h : s.linkOff = true) (a : Nat) : s.answers a = false := by simp [answers, h]

/-- A write reaches a register the map lists, a radio register where there are radios. -/
theorem writeReg_reaches (hrow : (regRow? a).isNone = false) (hrad : a < 0x21000 ∨ 0x22000 ≤ a ∨ s.ident.radios ≠ 0) :
    ¬ ((regRow? a).isNone || (0x21000 ≤ a && a < 0x22000 && s.ident.radios == 0)) = true := by
  simp only [hrow, Bool.false_or, Bool.and_eq_true, decide_eq_true_eq, beq_iff_eq]
  omega

/-- A register without effects of its own takes the plain write. -/
theorem writeReg_plain {r : RegRow} (hrow : regRow? a = some r) (hrad : a < 0x21000 ∨ 0x22000 ≤ a ∨ s.ident.radios ≠ 0) (hlow : s.writeLow a v = none)
    (hmid : s.writeMid a v = none) (hhigh : s.writeHigh a v = none) : s.writeReg a v = s.wr a (plainWrite r (s.rd a) v) := by
  rw [writeReg, if_neg (writeReg_reaches (by simp [hrow]) hrad), hlow, hmid, hhigh]
  simp only [plainReg, hrow]

end State

theorem execRegisterWrite_of_aligned {s : State} {a : Nat} {v : Word} (h4 : a % 4 = 0) (h : a < cfgSpace) :
    execRegisterWrite a 4 v s = .next (s.hostReg a v) := by
  simp [execRegisterWrite, h4, Nat.not_le.mpr h]

theorem execRegisterWrite_of_misaligned {s : State} {a size : Nat} {v : Word} (h : size ≠ 4 ∨ a % 4 ≠ 0) : execRegisterWrite a size v s = .next s := by
  have hword : ¬ ((decide (size = 4) && a % 4 == 0) = true) := by
    simp only [Bool.and_eq_true, decide_eq_true_eq, beq_iff_eq]
    omega
  rw [execRegisterWrite, if_neg hword]

/-- A register write whose target does not change the state changes nothing, aligned or not. -/
theorem execRegisterWrite_of_silent {s : State} {a : Nat} {v : Word} (size : Nat) (h : s.answers a = false ∧ a < cfgSpace ∨ s.linkOff = true ∧ cfgSpace ≤ a) :
    execRegisterWrite a size v s = .next s := by
  have htarget : (if cfgSpace ≤ a then s.configWrite a v else s.hostReg a v) = s := by
    rcases h with ⟨hs, ha⟩ | ⟨hl, ha⟩
    · rw [if_neg (Nat.not_le.mpr ha), State.hostReg_of_silent hs]
    · rw [if_pos ha, State.configWrite, if_pos hl]
  rw [execRegisterWrite, htarget, ite_self]

end Sys2Proof.Machine

open Sys2Proof Sys2Proof.Machine

/-- Settles O8: with no transaction open the write is the plain write of the register's row; the other targets are read off REGISTER_WRITE's own cases. -/
theorem registerWrite : Obligations.RegisterWrite := by
  intro s a v
  refine ⟨fun r hans h4 hrow hrad hlow hmid hhigh hfree => ?_, fun size h => ?_, fun hlink => ?_⟩
  · have hreg : s.hostReg a v = s.wr a (plainWrite r (s.rd a) v) := by
      rw [State.hostReg_of_answers hans, State.NoTxn.doomReg hfree, State.writeReg_plain hrow hrad hlow hmid hhigh]
    have hexec : exec (.registerWrite a 4 v) s = .next (s.hostReg a v) := execRegisterWrite_of_aligned h4 (lt_cfgSpace_of_regRow hrow)
    rw [hexec, hreg]
    exact ⟨_, rfl, State.rd_wr_self _ _ _, fun b hb => State.rd_wr_other _ _ _ _ hb, rfl⟩
  · rcases h with hs | hs | hw | hw
    · exact execRegisterWrite_of_silent size (.inl hs)
    · exact execRegisterWrite_of_silent size (.inr hs)
    · exact execRegisterWrite_of_misaligned (.inl hw)
    · exact execRegisterWrite_of_misaligned (.inr hw)
  · have hcfg : ∀ b, (s.configWrite b v) = if b = cfgSpace then s.writeDevCtl v else if b = cfgSpace + 4 then s.writeMsixCtl v else s := by
      intro b
      simp [State.configWrite, hlink]
    constructor
    · change (.next (s.configWrite cfgSpace v) : Answer) = _
      rw [hcfg, if_pos rfl]
    · change (.next (s.configWrite (cfgSpace + 4) v) : Answer) = _
      rw [hcfg, if_neg (by decide), if_pos rfl]

end

section
/-!
SUPPORT. What a write of each register with effects of its own does: the register's case of the map. A register at a fixed offset is found by evaluating the map there,
one of sixteen by evaluating it at each; the memory banks and the gate lists, 64 of 64 entries, are found by arithmetic.
-/
set_option autoImplicit false
namespace Sys2Proof.Machine

/-- An offset of the table has its index. -/
theorem regIdx_at {base stride N n : Nat} (hs : 0 < stride) (hn : n < N) : regIdx base stride N (base + stride * n) = some n := by
  simp [regIdx, hs, hn]

/-- An offset outside the table has none. -/
theorem regIdx_off {base stride N a : Nat} (h : a < base ∨ (a - base) % stride ≠ 0 ∨ N ≤ (a - base) / stride) : regIdx base stride N a = none := by
  have hout : ¬ ((decide (base ≤ a) && (a - base) % stride == 0 && decide ((a - base) / stride < N)) = true) := by
    simp only [Bool.and_eq_true, decide_eq_true_eq, beq_iff_eq]
    omega
  rw [regIdx, if_neg hout]

/-- A row that covers the offset is found. -/
theorem regRow_found {a : Nat} {r : RegRow} (hr : r ∈ rowsAt a) (hc : r.covers a = true) : (regRow? a).isNone = false := by
  rw [← Option.not_isSome, regRow?, List.find?_isSome.mpr ⟨r, hr, hc⟩]
  rfl

theorem rowsAt_MEM {a : Nat} (h : 0x7000 ≤ a) (h' : a < 0x8000) : rowsAt a = rowsMEM := by
  simp (disch := omega) only [rowsAt, if_neg, if_pos]

theorem rowsAt_TRK {a : Nat} (h : 0x10000 ≤ a) (h' : a < 0x20000) : rowsAt a = rowsTRK := by
  simp (disch := omega) only [rowsAt, if_neg, if_pos]

/-- From the memory block on, the first part of the map has MEM_FETTLE and the banks. -/
theorem State.writeLow_of_le {s : State} {a : Nat} {v : Word} (h : 0x7000 ≤ a) (hfettle : a ≠ Reg.MEM_FETTLE) :
    s.writeLow a v = (regIdx (Reg.MEM_BANK 0) 4 192 a).map fun b =>
      if s.flag a F.MEM_BANK_CHILL == bitOf v.toNat 0 then s else s.writeChill b (bitOf v.toNat 0) := by
  have hcfg : regIdx (Reg.RNG_CFG 0) 0x40 16 a = none := regIdx_off (by simp only [Reg.RNG_CFG]; omega)
  have hbaselo : regIdx (Reg.RNG_BASELO 0) 0x40 16 a = none := regIdx_off (by simp only [Reg.RNG_BASELO]; omega)
  have hbasehi : regIdx (Reg.RNG_BASEHI 0) 0x40 16 a = none := regIdx_off (by simp only [Reg.RNG_BASEHI]; omega)
  have hwblo : regIdx (Reg.RNG_WBLO 0) 0x40 16 a = none := regIdx_off (by simp only [Reg.RNG_WBLO]; omega)
  have hwbhi : regIdx (Reg.RNG_WBHI 0) 0x40 16 a = none := regIdx_off (by simp only [Reg.RNG_WBHI]; omega)
  have hdbl : regIdx (Reg.DBL_INDEX 0) 0x100 16 a = none := regIdx_off (by simp only [Reg.DBL_INDEX]; omega)
  have hdma : regIdx (Reg.DMA_CFG 0) 0x20 15 a = none := regIdx_off (by simp only [Reg.DMA_CFG]; omega)
  have hctl : regIdx (Reg.DMA_CTL 0) 0x20 16 a = none := regIdx_off (by simp only [Reg.DMA_CTL]; omega)
  have htun : regIdx (Reg.TUN_CTL 0) (Reg.TUN_CTL 1 - Reg.TUN_CTL 0) 16 a = none := regIdx_off (by simp only [Reg.TUN_CTL]; omega)
  have hmsix : (decide (0x1800 ≤ a) && decide (a < 0x1A00)) = false := by
    simp only [Bool.and_eq_false_imp, decide_eq_true_eq, decide_eq_false_iff_not]
    omega
  have hne : a ≠ Reg.GLB_VSTATE ∧ a ≠ Reg.GLB_RISERREADY ∧ a ≠ Reg.HIF_VERSION ∧ a ≠ Reg.TXN_CFG ∧ a ≠ Reg.DMA_CFG 15 := by
    simp only [Reg.GLB_VSTATE, Reg.GLB_RISERREADY, Reg.HIF_VERSION, Reg.TXN_CFG, Reg.DMA_CFG]
    omega
  cases hbank : regIdx (Reg.MEM_BANK 0) 4 192 a with
  | none => simp [writeLow, hcfg, hbaselo, hbasehi, hwblo, hwbhi, hdbl, hdma, hctl, htun, hbank, hmsix, hne, hfettle]
  | some b => simp [writeLow, hcfg, hbaselo, hbasehi, hwblo, hwbhi, hdbl, hdma, hctl, htun, hbank, hmsix, hne, hfettle]

/-- From the point block on, a register the second part of the map knows takes its effect there. -/
theorem State.writeReg_of_writeMid {s t : State} {a : Nat} {v : Word} (hrow : (regRow? a).isNone = false) (ha : 0x8000 ≤ a)
    (hrad : a < 0x21000 ∨ 0x22000 ≤ a ∨ s.ident.radios ≠ 0) (hmid : s.writeMid a v = some t) : s.writeReg a v = t := by
  have hbank : regIdx (Reg.MEM_BANK 0) 4 192 a = none := regIdx_off (by simp only [Reg.MEM_BANK]; omega)
  have hlow : s.writeLow a v = none := by
    rw [State.writeLow_of_le (by omega) (by simp only [Reg.MEM_FETTLE]; omega), hbank]
    rfl
  rw [writeReg, if_neg (writeReg_reaches hrow hrad), hlow, hmid]

/-! ### The memory banks -/

theorem regRow_MEM_BANK {b : Nat} (hb : b < 192) : (regRow? (Reg.MEM_BANK b)).isNone = false := by
  have hrows : rowsAt (Reg.MEM_BANK b) = rowsMEM := rowsAt_MEM (by simp only [Reg.MEM_BANK]; omega) (by simp only [Reg.MEM_BANK]; omega)
  refine regRow_found (r := ⟨0x7100, 0x4, 192, 0x0, 1, 0x1, 0x0, 0x0, 0x0⟩) (by rw [hrows]; decide) ?_
  simp [RegRow.covers, Reg.MEM_BANK, hb]

theorem State.writeReg_MEM_BANK (s : State) (v : Word) {b : Nat} (hb : b < 192) : s.writeReg (Reg.MEM_BANK b) v =
    if s.flag (Reg.MEM_BANK b) F.MEM_BANK_CHILL == bitOf v.toNat 0 then s else s.writeChill b (bitOf v.toNat 0) := by
  have hidx : regIdx (Reg.MEM_BANK 0) 4 192 (Reg.MEM_BANK b) = some b := regIdx_at (by decide) hb
  have hlow := State.writeLow_of_le (s := s) (a := Reg.MEM_BANK b) (v := v) (by simp only [Reg.MEM_BANK]; omega) (by simp only [Reg.MEM_BANK, Reg.MEM_FETTLE]; omega)
  rw [hidx] at hlow
  rw [writeReg, if_neg (writeReg_reaches (regRow_MEM_BANK hb) (.inl (by simp only [Reg.MEM_BANK]; omega))), hlow]
  rfl

/-! ### The gate lists -/

/-- The gate registers of the ports lie in the trunk block, apart from the port controls and TRK_CZNCFG. -/
theorem TRK_GATECTL_bounds {p : Nat} (hp : p < 64) : 0x10000 ≤ Reg.TRK_GATECTL p ∧ Reg.TRK_GATECTL p < 0x20000 ∧
    (Reg.TRK_GATECTL p - 0x10000) % 0x400 ≠ 0 ∧ Reg.TRK_GATECTL p ≠ Reg.TRK_CZNCFG := by
  simp only [Reg.TRK_GATECTL, Reg.TRK_CZNCFG]
  omega

theorem TRK_GATE_bounds {p e : Nat} (hp : p < 64) (he : e < 64) : 0x10000 ≤ Reg.TRK_GATE p e ∧ Reg.TRK_GATE p e < 0x20000 ∧
    (Reg.TRK_GATE p e - 0x10000) % 0x400 ≠ 0 ∧ Reg.TRK_GATE p e ≠ Reg.TRK_CZNCFG := by
  simp only [Reg.TRK_GATE, Reg.TRK_CZNCFG]
  omega

theorem regRow_TRK_GATECTL {p : Nat} (hp : p < 64) : (regRow? (Reg.TRK_GATECTL p)).isNone = false := by
  obtain ⟨hlo, hhi, -, -⟩ := TRK_GATECTL_bounds hp
  have hrows := rowsAt_TRK hlo hhi
  refine regRow_found (r := ⟨0x10010, 0x400, 64, 0x0, 1, 0x7F7F, 0x0, 0x0, 0x0⟩) (by rw [hrows]; decide) ?_
  simp [RegRow.covers, Reg.TRK_GATECTL, hp]

theorem regRow_TRK_GATE {p e : Nat} (hp : p < 64) (he : e < 64) : (regRow? (Reg.TRK_GATE p e)).isNone = false := by
  obtain ⟨hlo, hhi, -, -⟩ := TRK_GATE_bounds hp he
  have hrows := rowsAt_TRK hlo hhi
  refine regRow_found (r := ⟨0x10100, 0x400, 64, 0x4, 64, 0x1F0FFFFF, 0x0, 0x0, 0x0⟩) (by rw [hrows]; decide) ?_
  have hstrides : (0x400 = 0) = False ∧ (0x4 = 0) = False := by decide
  simp only [RegRow.covers, hstrides, if_false, Bool.and_eq_true, decide_eq_true_iff]
  unfold Reg.TRK_GATE
  omega

theorem gateReg_TRK_GATECTL {p : Nat} (hp : p < 64) : gateReg? (Reg.TRK_GATECTL p) = some (p, none) := by
  have hidx : regIdx (Reg.TRK_GATECTL 0) 0x400 64 (Reg.TRK_GATECTL p) = some p := regIdx_at (by decide) hp
  rw [gateReg?, hidx]

theorem gateReg_TRK_GATE {p e : Nat} (hp : p < 64) (he : e < 64) : gateReg? (Reg.TRK_GATE p e) = some (p, some e) := by
  have hidx : regIdx (Reg.TRK_GATECTL 0) 0x400 64 (Reg.TRK_GATE p e) = none :=
    regIdx_off (by simp only [Reg.TRK_GATECTL, Reg.TRK_GATE]; omega)
  have hin : (decide (Reg.TRK_GATE 0 0 ≤ Reg.TRK_GATE p e) && decide (Reg.TRK_GATE p e < Reg.TRK_GATE 63 63 + 4) &&
      decide ((Reg.TRK_GATE p e - Reg.TRK_GATE 0 0) % 0x400 < 0x100)) = true := by
    rw [Bool.and_eq_true, Bool.and_eq_true, decide_eq_true_iff, decide_eq_true_iff, decide_eq_true_iff]
    unfold Reg.TRK_GATE
    omega
  have hport : (Reg.TRK_GATE p e - Reg.TRK_GATE 0 0) / 0x400 = p := by simp only [Reg.TRK_GATE]; omega
  have hentry : (Reg.TRK_GATE p e - Reg.TRK_GATE 0 0) % 0x400 / 4 = e := by simp only [Reg.TRK_GATE]; omega
  rw [gateReg?, hidx, hport, hentry]
  exact if_pos hin

namespace State

variable (s : State) (v : Word)

/-- The gate registers of a port load its gate list. -/
theorem writeMid_of_gateReg {s : State} {a p : Nat} {v : Word} {e : Option Nat} (hg : gateReg? a = some (p, e)) (hctl : (a - 0x10000) % 0x400 ≠ 0)
    (hczn : a ≠ Reg.TRK_CZNCFG) (ha : 0x10000 ≤ a) : s.writeMid a v = some (s.writeGatectl p e v) := by
  have hidx : regIdx (Reg.TRK_CTL 0) 0x400 64 a = none := regIdx_off (.inr (.inl hctl))
  have htick : a ≠ Reg.LMP_TICK := by simp only [Reg.LMP_TICK]; omega
  simp [writeMid, htick, hczn, hidx, hg]

/-- A gate register of the trunk block loads the gate list it belongs to. -/
theorem writeReg_of_gateReg {s : State} {a p : Nat} {v : Word} {e : Option Nat} (hrow : (regRow? a).isNone = false) (hg : gateReg? a = some (p, e))
    (hbounds : 0x10000 ≤ a ∧ a < 0x20000 ∧ (a - 0x10000) % 0x400 ≠ 0 ∧ a ≠ Reg.TRK_CZNCFG) : s.writeReg a v = s.writeGatectl p e v := by
  obtain ⟨hlo, hhi, hctl, hczn⟩ := hbounds
  exact writeReg_of_writeMid hrow (by omega) (.inl (by omega)) (writeMid_of_gateReg hg hctl hczn hlo)

theorem writeReg_TRK_GATECTL {p : Nat} (hp : p < 64) : s.writeReg (Reg.TRK_GATECTL p) v = s.writeGatectl p none v :=
  writeReg_of_gateReg (regRow_TRK_GATECTL hp) (gateReg_TRK_GATECTL hp) (TRK_GATECTL_bounds hp)

theorem writeReg_TRK_GATE {p e : Nat} (hp : p < 64) (he : e < 64) : s.writeReg (Reg.TRK_GATE p e) v = s.writeGatectl p (some e) v :=
  writeReg_of_gateReg (regRow_TRK_GATE hp he) (gateReg_TRK_GATE hp he) (TRK_GATE_bounds hp he)

theorem writeReg_RAD_DUTY {r : Nat} (hr : r < 4) (h : s.ident.radios ≠ 0) :
    s.writeReg (Reg.RAD_DUTY r) v = s.writeDuty r (F.RAD_DUTY_LIMIT.get v) := by
  have hrow : (regRow? (Reg.RAD_DUTY r)).isNone = false := by interval_cases r <;> rfl
  have hmid : s.writeMid (Reg.RAD_DUTY r) v = some (s.writeDuty r (F.RAD_DUTY_LIMIT.get v)) := by interval_cases r <;> rfl
  exact writeReg_of_writeMid hrow (by simp only [Reg.RAD_DUTY]; omega) (.inr (.inr h)) hmid

/-! ### One of sixteen -/

theorem writeReg_RNG_CFG {n : Nat} (h : n < 16) : s.writeReg (Reg.RNG_CFG n) v = s.writeRingCfg n v := by
  interval_cases n <;> rfl

theorem writeReg_DBL_INDEX {n : Nat} (h : n < 16) : s.writeReg (Reg.DBL_INDEX n) v = s.writeDoorbell n v := by
  interval_cases n <;> rfl

theorem writeReg_DMA_CTL {n : Nat} (h : n < 16) : s.writeReg (Reg.DMA_CTL n) v = if bitOf v.toNat 0 then s.resumeRunner n else s := by
  interval_cases n <;> rfl

theorem writeReg_TUN_CTL {n : Nat} (h : n < 16) : s.writeReg (Reg.TUN_CTL n) v = if bitOf v.toNat 0 then s.requestFlush n else s := by
  interval_cases n <;> rfl

/-! ### One register -/

theorem writeReg_GLB_VSTATE : s.writeReg Reg.GLB_VSTATE v = s.requestEbb (bitOf v.toNat 0) := rfl

theorem writeReg_HIF_VERSION : s.writeReg Reg.HIF_VERSION v = s.writeVersion v := rfl

theorem writeReg_MEM_FETTLE : s.writeReg Reg.MEM_FETTLE v = s.writeFettle v := rfl

theorem writeReg_LMP_TICK : s.writeReg Reg.LMP_TICK v = s.writeTick (F.LMP_TICK_MS.get v) := rfl

theorem writeReg_LMP_CTL : s.writeReg Reg.LMP_CTL v = s.plainReg Reg.LMP_CTL v := rfl

theorem writeReg_TIM_INCRHI : s.writeReg Reg.TIM_INCRHI v = s.writeIncrHi v := rfl

theorem writeReg_TIM_STEP : s.writeReg Reg.TIM_STEP v = if bitOf v.toNat 0 then s.goStep else s := rfl

theorem writeReg_RTC_STG_UTC : s.writeReg Reg.RTC_STG_UTC v = s.stageTime false v := rfl

theorem writeReg_RTC_STG_SUBSEC : s.writeReg Reg.RTC_STG_SUBSEC v = s.stageTime true v := rfl

theorem writeReg_RTC_COMMIT_1 : s.writeReg Reg.RTC_COMMIT 1 = s.askGo := rfl

theorem writeReg_RTC_COMMIT_2 : s.writeReg Reg.RTC_COMMIT 2 = s.commitFromWall := rfl

theorem writeReg_EVR_CURSOR : s.writeReg Reg.EVR_CURSOR v = (s.wr Reg.EVR_CURSOR v).startWindow v.toNat := rfl

theorem writeReg_EVR_WINCTL : s.writeReg Reg.EVR_WINCTL v = if bitOf v.toNat 0 then s.nextWindow else s := rfl

theorem writeReg_KEY_WRGO : s.writeReg Reg.KEY_WRGO v = if bitOf v.toNat 0 then s.keyGo else s := rfl

theorem writeReg_KEY_MODE : s.writeReg Reg.KEY_MODE v = s.writeKeyMode v := rfl

theorem writeReg_KEY_CZNSRC : s.writeReg Reg.KEY_CZNSRC v = s.writeCznSrc v := rfl

theorem writeReg_KEY_LCREQ : s.writeReg Reg.KEY_LCREQ v = s.writeLcReq v := rfl

theorem writeReg_KEY_LC : s.writeReg Reg.KEY_LC v = s.writeOwnerLock v := rfl

end State

end Sys2Proof.Machine

end

section
/-!
SUPPORT. The commands that write one register: the command is the write of its register, and the write is the register's case of the map.
-/
set_option autoImplicit false
namespace Sys2Proof.Machine

namespace State

variable {s t : State} {a : Nat} {v : Word}

/-- A write dooms transactions (R110) but leaves the module's identity. -/
theorem doomReg_ident (s : State) (a : Nat) : (s.doomReg a).ident = s.ident := (Keeps.doomReg (s₀ := s) ⟨rfl, id⟩).1

/-- A command that writes register `a` does what the register's case of the map says. -/
theorem next_hostReg (h : s.answers a = true) (hw : (s.doomReg a).writeReg a v = t) : (.next (s.hostReg a v) : Answer) = .next t := by
  rw [hostReg_of_answers h, hw]

theorem next_hostReg_if {c : Prop} [Decidable c] (hc : c) (h : s.answers a = true) (hw : (s.doomReg a).writeReg a v = t) :
    (.next (if c then s.hostReg a v else s) : Answer) = .next t := by
  rw [if_pos hc, next_hostReg h hw]

/-- Where the block is silent the command changes nothing. -/
theorem next_hostReg_silent (h : s.linkOff = true) : (.next (s.hostReg a v) : Answer) = .next s := by
  rw [hostReg_of_silent (answers_of_linkOff h a)]

theorem next_hostReg_if_silent {c : Prop} [Decidable c] (h : s.linkOff = true) : (.next (if c then s.hostReg a v else s) : Answer) = .next s := by
  rw [hostReg_of_silent (answers_of_linkOff h a), ite_self]

end State

/-- A row of writable bits alone stores the word written. -/
theorem plainWrite_all {r : RegRow} (hrw : r.rw = 0xFFFFFFFF) (hwc : r.wc = 0) (old v : Word) : plainWrite r old v = v := by
  refine BitVec.eq_of_getLsbD_eq fun i hi => ?_
  have hbit : r.rw.testBit i = true := by rw [hrw]; exact (Nat.testBit_two_pow_sub_one 32 i).trans (by simpa using hi)
  simp [getLsbD_plainWrite hi, hbit, hwc]

theorem bitOf_ofNat_bit (on : Bool) : bitOf (BitVec.ofNat 32 (bit on)).toNat 0 = on := by
  cases on <;> rfl

theorem get_RAD_DUTY_LIMIT_ofNat {l : Nat} (h : l < 2 ^ 16) : F.RAD_DUTY_LIMIT.get (BitVec.ofNat 32 l) = l := by
  simp only [Fld.get, F.RAD_DUTY_LIMIT, bitsOf, BitVec.toNat_ofNat]
  omega

namespace State

/-- The register takes the word as it is. -/
theorem writeReg_TIM_INCRLO (s : State) (v : Word) : s.writeReg Reg.TIM_INCRLO v = s.wr Reg.TIM_INCRLO v := by
  have hplain : s.writeReg Reg.TIM_INCRLO v = s.wr Reg.TIM_INCRLO (plainWrite ⟨0x22008, 0, 1, 0, 1, 0xFFFFFFFF, 0, 0, 0⟩ (s.rd Reg.TIM_INCRLO) v) := rfl
  rw [hplain, plainWrite_all rfl rfl]

/-- A changed CHILL bit goes to the bank. -/
theorem writeReg_MEM_BANK_chill {s : State} {b : Nat} {on : Bool} (hb : b < 192) (h : s.flag (Reg.MEM_BANK b) F.MEM_BANK_CHILL ≠ on) :
    s.writeReg (Reg.MEM_BANK b) (BitVec.ofNat 32 (bit on)) = s.writeChill b on := by
  rw [writeReg_MEM_BANK _ _ hb, bitOf_ofNat_bit, if_neg (by simpa using h)]

end State

/-! ### The commands, where the block of their register answers -/

section

variable {s : State} {n : Nat} {v : Word}

theorem exec_glbVstateWrite (h : s.answers Reg.GLB_VSTATE = true) :
    exec (.glbVstateWrite v) s = .next ((s.doomReg Reg.GLB_VSTATE).requestEbb (bitOf v.toNat 0)) := State.next_hostReg h (State.writeReg_GLB_VSTATE _ v)

theorem exec_hifVersionSelectWrite (h : s.answers Reg.HIF_VERSION = true) :
    exec (.hifVersionSelectWrite v) s = .next ((s.doomReg Reg.HIF_VERSION).writeVersion v) := State.next_hostReg h (State.writeReg_HIF_VERSION _ v)

theorem exec_ringCfgWrite (hn : n < 16) (h : s.answers (Reg.RNG_CFG n) = true) :
    exec (.ringCfgWrite n v) s = .next ((s.doomReg (Reg.RNG_CFG n)).writeRingCfg n v) := State.next_hostReg_if hn h (State.writeReg_RNG_CFG _ v hn)

theorem exec_doorbellWrite (hn : n < 16) (h : s.answers (Reg.DBL_INDEX n) = true) :
    exec (.doorbellWrite n v) s = .next ((s.doomReg (Reg.DBL_INDEX n)).writeDoorbell n v) := State.next_hostReg_if hn h (State.writeReg_DBL_INDEX _ v hn)

theorem exec_dmaCtlResume (hn : n < 16) (h : s.answers (Reg.DMA_CTL n) = true) :
    exec (.dmaCtlResume n) s = .next ((s.doomReg (Reg.DMA_CTL n)).resumeRunner n) := State.next_hostReg_if hn h ((State.writeReg_DMA_CTL _ 1 hn).trans (if_pos rfl))

theorem exec_tunCtlFlush (hn : n < 16) (h : s.answers (Reg.TUN_CTL n) = true) :
    exec (.tunCtlFlush n) s = .next ((s.doomReg (Reg.TUN_CTL n)).requestFlush n) := State.next_hostReg_if hn h ((State.writeReg_TUN_CTL _ 1 hn).trans (if_pos rfl))

theorem exec_memFettleWrite (h : s.answers Reg.MEM_FETTLE = true) :
    exec (.memFettleWrite v) s = .next ((s.doomReg Reg.MEM_FETTLE).writeFettle v) := State.next_hostReg h (State.writeReg_MEM_FETTLE _ v)

theorem exec_memBankChillWrite {b : Nat} {on : Bool} (hb : b < 192) (h : s.answers (Reg.MEM_BANK b) = true) :
    exec (.memBankChillWrite b on) s = .next ((s.doomReg (Reg.MEM_BANK b)).writeReg (Reg.MEM_BANK b) (BitVec.ofNat 32 (bit on))) :=
  State.next_hostReg_if hb h rfl

theorem exec_lmpTickWrite (h : s.answers Reg.LMP_TICK = true) :
    exec (.lmpTickWrite v) s = .next ((s.doomReg Reg.LMP_TICK).writeTick (F.LMP_TICK_MS.get v)) := State.next_hostReg h (State.writeReg_LMP_TICK _ v)

theorem exec_lmpCtlEmergSw {on : Bool} (h : s.answers Reg.LMP_CTL = true) :
    exec (.lmpCtlEmergSw on) s = .next ((s.doomReg Reg.LMP_CTL).plainReg Reg.LMP_CTL (F.LMP_CTL_EMERG_SW.set (s.rd Reg.LMP_CTL) (bit on))) :=
  State.next_hostReg h (State.writeReg_LMP_CTL _ _)

theorem exec_gatectlWrite {p : Nat} (hp : p < 64) (h : s.answers (Reg.TRK_GATECTL p) = true) :
    exec (.gatectlWrite p none v) s = .next ((s.doomReg (Reg.TRK_GATECTL p)).writeGatectl p none v) :=
  State.next_hostReg_if hp h (State.writeReg_TRK_GATECTL _ v hp)

theorem exec_gateWrite {p e : Nat} (hp : p < 64) (he : e < 64) (h : s.answers (Reg.TRK_GATE p e) = true) :
    exec (.gatectlWrite p (some e) v) s = .next ((s.doomReg (Reg.TRK_GATE p e)).writeGatectl p (some e) v) := by
  have hexec : exec (.gatectlWrite p (some e) v) s = .next (if p < 64 then (if e < 64 then s.hostReg (Reg.TRK_GATE p e) v else s) else s) := rfl
  rw [hexec, if_pos hp]
  exact State.next_hostReg_if he h (State.writeReg_TRK_GATE _ v hp he)

theorem exec_radDutyWrite {r l : Nat} (hr : r < 4) (hl : l < 2 ^ 16) (hrad : s.ident.radios ≠ 0) (h : s.answers (Reg.RAD_DUTY r) = true) :
    exec (.radDutyWrite r l) s = .next ((s.doomReg (Reg.RAD_DUTY r)).writeDuty r l) := by
  have hduty := State.writeReg_RAD_DUTY (s.doomReg (Reg.RAD_DUTY r)) (BitVec.ofNat 32 l) hr (by rwa [State.doomReg_ident])
  rw [get_RAD_DUTY_LIMIT_ofNat hl] at hduty
  exact State.next_hostReg_if hr h hduty

theorem exec_timIncrloWrite (h : s.answers Reg.TIM_INCRLO = true) :
    exec (.timIncrloWrite v) s = .next ((s.doomReg Reg.TIM_INCRLO).wr Reg.TIM_INCRLO v) := State.next_hostReg h (State.writeReg_TIM_INCRLO _ v)

theorem exec_timIncrhiWrite (h : s.answers Reg.TIM_INCRHI = true) :
    exec (.timIncrhiWrite v) s = .next ((s.doomReg Reg.TIM_INCRHI).writeIncrHi v) := State.next_hostReg h (State.writeReg_TIM_INCRHI _ v)

theorem exec_timStepGo (h : s.answers Reg.TIM_STEP = true) :
    exec .timStepGo s = .next (s.doomReg Reg.TIM_STEP).goStep := State.next_hostReg h ((State.writeReg_TIM_STEP _ 1).trans (if_pos rfl))

theorem exec_rtcStgWrite_utc (h : s.answers Reg.RTC_STG_UTC = true) :
    exec (.rtcStgWrite false v) s = .next ((s.doomReg Reg.RTC_STG_UTC).stageTime false v) := State.next_hostReg h (State.writeReg_RTC_STG_UTC _ v)

theorem exec_rtcStgWrite_subsec (h : s.answers Reg.RTC_STG_SUBSEC = true) :
    exec (.rtcStgWrite true v) s = .next ((s.doomReg Reg.RTC_STG_SUBSEC).stageTime true v) := State.next_hostReg h (State.writeReg_RTC_STG_SUBSEC _ v)

theorem exec_rtcCommitGo (h : s.answers Reg.RTC_COMMIT = true) :
    exec .rtcCommitGo s = .next (s.doomReg Reg.RTC_COMMIT).askGo := State.next_hostReg h (State.writeReg_RTC_COMMIT_1 _)

theorem exec_rtcCommitFromWall (h : s.answers Reg.RTC_COMMIT = true) :
    exec .rtcCommitFromWall s = .next (s.doomReg Reg.RTC_COMMIT).commitFromWall := State.next_hostReg h (State.writeReg_RTC_COMMIT_2 _)

theorem exec_evrCursorWrite (h : s.answers Reg.EVR_CURSOR = true) :
    exec (.evrCursorWrite v) s = .next (((s.doomReg Reg.EVR_CURSOR).wr Reg.EVR_CURSOR v).startWindow v.toNat) :=
  State.next_hostReg h (State.writeReg_EVR_CURSOR _ v)

theorem exec_evrWinctlNext (h : s.answers Reg.EVR_WINCTL = true) :
    exec .evrWinctlNext s = .next (s.doomReg Reg.EVR_WINCTL).nextWindow := State.next_hostReg h ((State.writeReg_EVR_WINCTL _ 1).trans (if_pos rfl))

theorem exec_keyWrgo (h : s.answers Reg.KEY_WRGO = true) :
    exec (.keyWrgo v) s = .next (if bitOf v.toNat 0 then (s.doomReg Reg.KEY_WRGO).keyGo else s.doomReg Reg.KEY_WRGO) :=
  State.next_hostReg h (State.writeReg_KEY_WRGO _ v)

theorem exec_keyModeWrite (h : s.answers Reg.KEY_MODE = true) :
    exec (.keyModeWrite v) s = .next ((s.doomReg Reg.KEY_MODE).writeKeyMode v) := State.next_hostReg h (State.writeReg_KEY_MODE _ v)

theorem exec_keyCznsrcWrite (h : s.answers Reg.KEY_CZNSRC = true) :
    exec (.keyCznsrcWrite v) s = .next ((s.doomReg Reg.KEY_CZNSRC).writeCznSrc v) := State.next_hostReg h (State.writeReg_KEY_CZNSRC _ v)

theorem exec_keyLcreqWrite (h : s.answers Reg.KEY_LCREQ = true) :
    exec (.keyLcreqWrite v) s = .next ((s.doomReg Reg.KEY_LCREQ).writeLcReq v) := State.next_hostReg h (State.writeReg_KEY_LCREQ _ v)

theorem exec_ownerLockWrite (h : s.answers Reg.KEY_LC = true) :
    exec (.ownerLockWrite v) s = .next ((s.doomReg Reg.KEY_LC).writeOwnerLock v) := State.next_hostReg h (State.writeReg_KEY_LC _ v)

end

end Sys2Proof.Machine

end

section
/-!
SUPPORT. What the operations behind a register write leave unchanged: events, interrupt messages, error bits, writebacks, the budget registers and the servo. Each
`_rest` lemma says what the operation changes; the fields that stand follow from it.
-/
set_option autoImplicit false
namespace Sys2Proof.Machine

/-! ### Fields -/

theorem Fld.get_mod (f : Fld) (w : Word) : f.get w % 2 ^ f.width = f.get w := Nat.mod_mod _ _

/-- A field of one bit is the bit. -/
theorem Fld.get_beq_one {f : Fld} (hf : f.width = 1) (w : Word) : (f.get w == 1) = w.getLsbD f.lo := by
  rw [Fld.get, bitsOf, hf, BitVec.getLsbD, Nat.testBit_eq_decide_div_mod_eq]
  rfl

theorem bit_beq_one (b : Bool) : (bit b % 2 ^ 1 == 1) = b := by
  cases b <;> rfl

namespace State

variable (s : State)

/-- The flag written holds the bit. -/
theorem flag_setF_self (a : Nat) {f : Fld} (hf : f.fits = true) (hw : f.width = 1) (b : Bool) : (s.setF a f (bit b)).flag a f = b := by
  rw [flag, fld_setF_self _ _ _ hf, hw, bit_beq_one]

theorem flag_setF_one (a : Nat) {f : Fld} (hf : f.fits = true) (hw : f.width = 1) : (s.setF a f 1).flag a f = true := s.flag_setF_self a hf hw true

theorem flag_setF_zero (a : Nat) {f : Fld} (hf : f.fits = true) (hw : f.width = 1) : (s.setF a f 0).flag a f = false := s.flag_setF_self a hf hw false

theorem flag_setF_apart (a n : Nat) {f g : Fld} (hf : f.fits = true) (ha : f.apart g = true) : (s.setF a f n).flag a g = s.flag a g := by
  rw [flag, fld_setF_apart _ _ _ hf ha, flag]

theorem flag_setF_other {a b : Nat} (n : Nat) (h : b ≠ a) (f g : Fld) : (s.setF a f n).flag b g = s.flag b g := by
  rw [flag, fld_setF_other _ _ _ _ h, flag]

theorem rd_wrN_other {a b : Nat} (n : Nat) (h : b ≠ a) : (s.wrN a n).rd b = s.rd b := rd_wr_other _ _ _ _ h

/-- What a register shows depends on the register alone. -/
theorem fld_congr {s t : State} {a : Nat} (h : t.rd a = s.rd a) (f : Fld) : t.fld a f = s.fld a f := by
  rw [fld, h, fld]

theorem flag_congr {s t : State} {a : Nat} (h : t.rd a = s.rd a) (f : Fld) : t.flag a f = s.flag a f := by
  rw [flag, fld_congr h, flag]

/-! ### Events -/

theorem reportDropped_rest : ∃ e f, s.reportDropped = { s with evr := e, flash := f } := by
  unfold reportDropped
  split
  · exact ⟨_, _, rfl⟩
  · exact ⟨_, _, rfl⟩

theorem offer_rest (o : EvOffer) : ∃ e f, s.offer o = { s with evr := e, flash := f } := by
  obtain ⟨e, f, h⟩ := s.reportDropped_rest
  dsimp only [offer]
  rw [h]
  split
  · exact ⟨_, _, rfl⟩
  · split
    · exact ⟨_, _, rfl⟩
    · exact ⟨_, _, rfl⟩

/-- An event reaches the recorder alone. -/
theorem eventAt_rest (stamp typ sev inst : Nat) (payload : List Byte) : ∃ e f, s.eventAt stamp typ sev inst payload = { s with evr := e, flash := f } :=
  s.offer_rest _

section

variable (stamp typ sev inst : Nat) (payload : List Byte)

theorem rd_eventAt (b : Nat) : (s.eventAt stamp typ sev inst payload).rd b = s.rd b := by
  obtain ⟨e, f, h⟩ := s.eventAt_rest stamp typ sev inst payload
  rw [h]
  rfl

theorem rd_event (b : Nat) : (s.event typ sev inst payload).rd b = s.rd b := s.rd_eventAt _ _ _ _ _ b

theorem clock_eventAt : (s.eventAt stamp typ sev inst payload).clock = s.clock := by
  obtain ⟨e, f, h⟩ := s.eventAt_rest stamp typ sev inst payload
  rw [h]

theorem clock_event : (s.event typ sev inst payload).clock = s.clock := s.clock_eventAt _ _ _ _ _

theorem sup_event : (s.event typ sev inst payload).sup = s.sup := by
  obtain ⟨e, f, h⟩ := s.eventAt_rest s.stamp typ sev inst payload
  rw [event, h]

theorem points_event : (s.event typ sev inst payload).points = s.points := by
  obtain ⟨e, f, h⟩ := s.eventAt_rest s.stamp typ sev inst payload
  rw [event, h]

theorem keys_event : (s.event typ sev inst payload).keys = s.keys := by
  obtain ⟨e, f, h⟩ := s.eventAt_rest s.stamp typ sev inst payload
  rw [event, h]

end

/-! ### Interrupts, error bits, writebacks -/

theorem rd_sendMsix (v : Nat) {b : Nat} (h : b ≠ msixPba) : (s.sendMsix v).rd b = s.rd b := by
  unfold sendMsix
  split
  · split
    · rfl
    · exact s.rd_wrN_other _ h
  · rfl

theorem sendMsix_rings (v : Nat) : (s.sendMsix v).rings = s.rings := by
  unfold sendMsix
  split
  · split <;> rfl
  · rfl

theorem sendMsix_points (v : Nat) : (s.sendMsix v).points = s.points := by
  unfold sendMsix
  split
  · split <;> rfl
  · rfl

theorem rd_setCause (k : Nat) {b : Nat} (h : b ≠ Reg.HIF_CAUSE) (hp : b ≠ msixPba) : (s.setCause k).rd b = s.rd b := by
  dsimp only [setCause]
  split
  · rfl
  · split
    · rw [rd_sendMsix _ _ hp, rd_wrN_other _ _ h]
    · exact s.rd_wrN_other _ h

theorem setCause_rings (k : Nat) : (s.setCause k).rings = s.rings := by
  dsimp only [setCause]
  split
  · rfl
  · split
    · rw [sendMsix_rings]; rfl
    · rfl

theorem rd_setHifErr (k : Nat) {b : Nat} (he : b ≠ Reg.HIF_ERR) (hc : b ≠ Reg.HIF_CAUSE) (hp : b ≠ msixPba) : (s.setHifErr k).rd b = s.rd b := by
  rw [setHifErr, rd_setCause _ _ hc hp, rd_wrN_other _ _ he]

theorem setHifErr_ring (k n : Nat) : (s.setHifErr k).ring n = s.ring n := by
  rw [ring, setHifErr, setCause_rings]
  rfl

theorem rd_writeback (n : Nat) {b : Nat} (h : b ≠ msixPba) : (s.writeback n).rd b = s.rd b := by
  dsimp only [writeback]
  split
  · split
    · exact rd_sendMsix _ _ h
    · rfl
  · rfl

theorem writeback_points (n : Nat) : (s.writeback n).points = s.points := by
  dsimp only [writeback]
  split
  · split
    · exact sendMsix_points _ _
    · rfl
  · rfl

/-! ### The registers of a ring stand apart -/

/-- A ring register is none of the host interface's own. -/
theorem rd_setHifErr_ring (k : Nat) {b : Nat} (h : 0x3000 ≤ b) : (s.setHifErr k).rd b = s.rd b :=
  s.rd_setHifErr k (by simp only [Reg.HIF_ERR]; omega) (by simp only [Reg.HIF_CAUSE]; omega) (by simp only [msixPba]; omega)

theorem rd_ringErr {n : Nat} {f : Fld} {b : Nat} (h : 0x3000 ≤ b) (hn : b ≠ Reg.RNG_STATUS n) : (s.ringErr n f).rd b = s.rd b := by
  rw [ringErr, rd_setHifErr_ring _ _ h, rd_setF_other _ _ _ _ hn]

/-- A ring's error bit is set. -/
theorem flag_ringErr (n : Nat) {f : Fld} (hf : f.fits = true) (hw : f.width = 1) : (s.ringErr n f).flag (Reg.RNG_STATUS n) f = true := by
  rw [ringErr, flag_congr (rd_setHifErr_ring _ _ (by simp only [Reg.RNG_STATUS]; omega)), flag_setF_one _ _ hf hw]

/-! ### Budget -/

theorem rd_showBudget {b : Nat} (h : b < 0xC000) : s.showBudget.rd b = s.rd b := by
  have hne : b ≠ Reg.CYC_BUD_FULL ∧ b ≠ Reg.CYC_BUD_EBB ∧ b ≠ Reg.CYC_BUD_COMMIT ∧ b ≠ Reg.CYC_STATUS := by
    simp only [Reg.CYC_BUD_FULL, Reg.CYC_BUD_EBB, Reg.CYC_BUD_COMMIT, Reg.CYC_STATUS]; omega
  obtain ⟨hfull, hebb, hcommit, hstatus⟩ := hne
  simp only [showBudget, rd_setF_other _ _ _ _ hstatus, rd_wrN_other _ _ hcommit, rd_wrN_other _ _ hebb, rd_wrN_other _ _ hfull]

theorem showBudget_points : s.showBudget.points = s.points := by
  simp only [showBudget, setF_points, wrN_points]

/-! ### Time base -/

theorem setServo_clock (n : Nat) : (s.setServo n).clock = s.clock := by
  unfold setServo
  split
  · rfl
  · rw [clock_event]; rfl

/-- The monotonic base and the wall offset stand. -/
def SameBase (s t : State) : Prop := t.clock.wallOff = s.clock.wallOff ∧ t.clock.mono = s.clock.mono

theorem SameBase.setServo {s t : State} (h : SameBase s t) (n : Nat) : SameBase s (t.setServo n) := by
  rw [SameBase, setServo_clock]
  exact h

theorem SameBase.ite {s t u : State} {c : Prop} [Decidable c] (ht : SameBase s t) (hu : SameBase s u) : SameBase s (if c then t else u) := by
  split
  exacts [ht, hu]

theorem SameBase.dropMaster {s t : State} (h : SameBase s t) : SameBase s t.dropMaster := by
  unfold State.dropMaster
  split
  · split
    · exact h
    · exact h
  · exact h

/-- The servo's state follows the master clock; neither base moves. -/
theorem sameBase_refreshServo : SameBase s s.refreshServo := by
  have h : SameBase s (s.setF Reg.TIM_STATUS F.TIM_STATUS_PEER_FORCED (bit (s.role == .standby || s.role == .seeding))).dropMaster :=
    SameBase.dropMaster ⟨rfl, rfl⟩
  unfold refreshServo
  refine .ite (h.setServo _) ?_
  split
  · exact .ite h (h.setServo _)
  · exact .ite (SameBase.setServo (t := State.servoIncrement _) h _) (.ite h (h.setServo _))

end State

end Sys2Proof.Machine

end

section
/-!
SUPPORT. What each of the register writes leaves: the core voltage, the rings, the memory, the lamps and the radios.
-/
set_option autoImplicit false
namespace Sys2Proof.Machine

theorem clampNat_lt {lo hi x b : Nat} (h : lo ≤ hi) (hb : hi < b) : clampNat lo hi x < b := by
  unfold clampNat
  split <;> [skip; split] <;> omega

/-- What the core voltage heads for once `ebb` was asked, from the heading `r` and the present voltage `now`. -/
theorem getD_headed : ∀ (r : Option Bool) (now ebb : Bool),
    (if r.getD now == ebb then r else if now == ebb && r.isNone then none else some ebb).getD now = ebb := by
  decide

namespace State

variable (s : State)

/-! ### Core voltage (R60) -/

theorem rd_ebbUnbudgeted (b : Nat) : s.ebbUnbudgeted.rd b = s.rd b := by
  unfold ebbUnbudgeted
  split
  · rfl
  · exact s.rd_event _ _ _ _ b

theorem ebbUnbudgeted_sup : s.ebbUnbudgeted.sup = s.sup := by
  unfold ebbUnbudgeted
  split
  · rfl
  · exact s.sup_event _ _ _ _

theorem rd_rampTo (ebb : Bool) (b : Nat) : (s.rampTo ebb).rd b = s.rd b := by
  dsimp only [rampTo]
  split
  · rfl
  · split
    · exact rd_ebbUnbudgeted _ b
    · rfl

/-- The core voltage heads for what was asked. -/
theorem ramp_rampTo (ebb : Bool) :
    (s.rampTo ebb).sup.ramp.getD (s.flag Reg.GLB_STATUS F.GLB_STATUS_EBB) = ebb := by
  have hramp : (s.rampTo ebb).sup.ramp = if s.sup.ramp.getD (s.flag Reg.GLB_STATUS F.GLB_STATUS_EBB) == ebb then s.sup.ramp
      else if s.flag Reg.GLB_STATUS F.GLB_STATUS_EBB == ebb && s.sup.ramp.isNone then none else some ebb := by
    dsimp only [rampTo]
    split
    · rfl
    · split
      · rw [ebbUnbudgeted_sup]
      · rfl
  rw [hramp, getD_headed]

theorem requestEbb_spec (ebb : Bool) :
    (s.requestEbb ebb).flag Reg.GLB_VSTATE F.GLB_VSTATE_EBB = ebb ∧
    (s.flag Reg.GLB_STATUS F.GLB_STATUS_FORCED_EBB = true → (s.requestEbb ebb).sup = s.sup) ∧
    (s.flag Reg.GLB_STATUS F.GLB_STATUS_FORCED_EBB = false →
      (s.requestEbb ebb).sup.ramp.getD ((s.requestEbb ebb).flag Reg.GLB_STATUS F.GLB_STATUS_EBB) = ebb) := by
  have hforced : (s.setF Reg.GLB_VSTATE F.GLB_VSTATE_EBB (bit ebb)).flag Reg.GLB_STATUS F.GLB_STATUS_FORCED_EBB =
      s.flag Reg.GLB_STATUS F.GLB_STATUS_FORCED_EBB := flag_setF_other _ _ (by decide) _ _
  have hset : (s.setF Reg.GLB_VSTATE F.GLB_VSTATE_EBB (bit ebb)).flag Reg.GLB_VSTATE F.GLB_VSTATE_EBB = ebb := flag_setF_self _ _ (by decide) rfl _
  dsimp only [requestEbb]
  rw [hforced]
  cases s.flag Reg.GLB_STATUS F.GLB_STATUS_FORCED_EBB with
  | true => exact ⟨hset, fun _ => rfl, by simp⟩
  | false =>
    refine ⟨(flag_congr (rd_rampTo _ _ _) _).trans hset, by simp, fun _ => ?_⟩
    rw [if_neg Bool.false_ne_true, flag_congr (rd_rampTo _ _ _), ramp_rampTo]

/-! ### Ring configuration (R84, R85) -/

/-- The configuration a disabled ring takes. -/
def takeRingCfg (n : Nat) (v : Word) : State :=
  let a := Reg.RNG_CFG n
  (((s.setF a F.RNG_CFG_VECTOR (F.RNG_CFG_VECTOR.get v)).setF a F.RNG_CFG_IRQ_EN (F.RNG_CFG_IRQ_EN.get v)).setF a F.RNG_CFG_ESIZE
    (esizeWrite n (F.RNG_CFG_ESIZE.get v) (s.fld a F.RNG_CFG_ESIZE))).setF a F.RNG_CFG_SIZE (F.RNG_CFG_SIZE.get v)

theorem writeRingCfg_off {n : Nat} (hn : n < 16) (hoff : s.ringOn n = false) (v : Word) :
    s.writeRingCfg n v = if F.RNG_CFG_ENABLE.get v == 1 then (s.takeRingCfg n v).enableRing n else s.takeRingCfg n v := by
  simp [writeRingCfg, takeRingCfg, hn, hoff]

/-- The enable bit is no part of the configuration. -/
theorem takeRingCfg_enable (n : Nat) (v : Word) (x : Nat) : s.takeRingCfg n (F.RNG_CFG_ENABLE.set v x) = s.takeRingCfg n v := by
  have hfit : F.RNG_CFG_ENABLE.fits = true := by decide
  simp only [takeRingCfg, Fld.get_set_apart hfit (g := F.RNG_CFG_VECTOR) (by decide), Fld.get_set_apart hfit (g := F.RNG_CFG_IRQ_EN) (by decide),
    Fld.get_set_apart hfit (g := F.RNG_CFG_ESIZE) (by decide), Fld.get_set_apart hfit (g := F.RNG_CFG_SIZE) (by decide)]

theorem rd_takeRingCfg {n b : Nat} (h : b ≠ Reg.RNG_CFG n) (v : Word) : (s.takeRingCfg n v).rd b = s.rd b := by
  simp only [takeRingCfg, rd_setF_other _ _ _ _ h]

theorem ringOn_takeRingCfg (n : Nat) (v : Word) : (s.takeRingCfg n v).ringOn n = s.ringOn n := by
  rw [takeRingCfg, ringOn, flag_setF_apart _ _ _ (by decide) (by decide), flag_setF_apart _ _ _ (by decide) (by decide),
    flag_setF_apart _ _ _ (by decide) (by decide), flag_setF_apart _ _ _ (by decide) (by decide), ringOn]

theorem fld_takeRingCfg (n : Nat) (v : Word) :
    (s.takeRingCfg n v).fld (Reg.RNG_CFG n) F.RNG_CFG_SIZE = F.RNG_CFG_SIZE.get v ∧
    (s.takeRingCfg n v).fld (Reg.RNG_CFG n) F.RNG_CFG_VECTOR = F.RNG_CFG_VECTOR.get v ∧
    (s.takeRingCfg n v).fld (Reg.RNG_CFG n) F.RNG_CFG_IRQ_EN = F.RNG_CFG_IRQ_EN.get v := by
  refine ⟨?_, ?_, ?_⟩
  · rw [takeRingCfg, fld_setF_self _ _ _ (by decide), Fld.get_mod]
  · rw [takeRingCfg, fld_setF_apart _ _ _ (by decide) (by decide), fld_setF_apart _ _ _ (by decide) (by decide),
      fld_setF_apart _ _ _ (by decide) (by decide), fld_setF_self _ _ _ (by decide), Fld.get_mod]
  · rw [takeRingCfg, fld_setF_apart _ _ _ (by decide) (by decide), fld_setF_apart _ _ _ (by decide) (by decide), fld_setF_self _ _ _ (by decide), Fld.get_mod]

/-- The registers of a ring and its runner's status are different registers. -/
theorem ring_regs_ne (n : Nat) (hn : n < 16) :
    (Reg.RNG_CFG n ≠ Reg.RNG_HOSTIDX n ∧ Reg.RNG_CFG n ≠ Reg.RNG_MODIDX n ∧ Reg.RNG_CFG n ≠ Reg.DBL_INDEX n ∧ Reg.RNG_CFG n ≠ Reg.DMA_STATUS n ∧
      Reg.RNG_CFG n ≠ Reg.RNG_STATUS n) ∧
    (Reg.RNG_HOSTIDX n ≠ Reg.RNG_MODIDX n ∧ Reg.RNG_HOSTIDX n ≠ Reg.DBL_INDEX n ∧ Reg.RNG_HOSTIDX n ≠ Reg.DMA_STATUS n ∧
      Reg.RNG_HOSTIDX n ≠ Reg.RNG_STATUS n) ∧
    (Reg.RNG_MODIDX n ≠ Reg.DBL_INDEX n ∧ Reg.RNG_MODIDX n ≠ Reg.DMA_STATUS n) := by
  simp only [Reg.RNG_CFG, Reg.RNG_HOSTIDX, Reg.RNG_MODIDX, Reg.DBL_INDEX, Reg.DMA_STATUS, Reg.RNG_STATUS]
  omega

/-- A ring whose setup holds is enabled and starts at index 0, its runner released. -/
theorem enableRing_ok {n : Nat} (hn : n < 16) (h : s.setupOk n = true) :
    (s.enableRing n).ringOn n = true ∧ (s.enableRing n).rdN (Reg.RNG_HOSTIDX n) = 0 ∧ (s.enableRing n).rdN (Reg.RNG_MODIDX n) = 0 ∧
      (s.enableRing n).halted n = false := by
  obtain ⟨⟨hch, hcm, hcd, hcs, -⟩, ⟨hhm, hhd, hhs, -⟩, hmd, hms⟩ := ring_regs_ne n hn
  have hp : msixPba < Reg.RNG_CFG n ∧ msixPba < Reg.RNG_HOSTIDX n ∧ msixPba < Reg.RNG_MODIDX n ∧ msixPba < Reg.DMA_STATUS n := by
    simp only [msixPba, Reg.RNG_CFG, Reg.RNG_HOSTIDX, Reg.RNG_MODIDX, Reg.DMA_STATUS]; omega
  obtain ⟨hpc, hph, hpm, hps⟩ := hp
  have hsetRing (t : State) (r : RingSt) (b : Nat) : (t.setRing n r).rd b = t.rd b := rfl
  rw [enableRing, if_pos h]
  refine ⟨?_, ?_, ?_, ?_⟩
  · rw [ringOn, flag_congr (rd_writeback _ _ hpc.ne'), flag_setF_other _ _ hcs, flag_setF_other _ _ hcs, flag_congr (hsetRing _ _ _),
      flag_congr (rd_wrN_other _ _ hcd), flag_congr (rd_wrN_other _ _ hcm), flag_congr (rd_wrN_other _ _ hch), flag_setF_one _ _ (by decide) rfl]
  · rw [rdN, rd_writeback _ _ hph.ne', rd_setF_other _ _ _ _ hhs, rd_setF_other _ _ _ _ hhs, hsetRing, rd_wrN_other _ _ hhd, rd_wrN_other _ _ hhm]
    exact rdN_wrN_self _ _ _
  · rw [rdN, rd_writeback _ _ hpm.ne', rd_setF_other _ _ _ _ hms, rd_setF_other _ _ _ _ hms, hsetRing, rd_wrN_other _ _ hmd]
    exact rdN_wrN_self _ _ _
  · rw [halted, flag_congr (rd_writeback _ _ hps.ne'), flag_setF_apart _ _ _ (by decide) (by decide), flag_setF_zero _ _ (by decide) rfl]

/-- A ring whose setup fails stays as it is, with BAD_SETUP. -/
theorem enableRing_bad {n : Nat} (hn : n < 16) (h : s.setupOk n = false) :
    (s.enableRing n).ringOn n = s.ringOn n ∧ (s.enableRing n).flag (Reg.RNG_STATUS n) F.RNG_STATUS_BAD_SETUP = true := by
  obtain ⟨⟨-, -, -, -, hst⟩, -, -⟩ := ring_regs_ne n hn
  rw [enableRing, if_neg (by simp [h])]
  refine ⟨?_, flag_ringErr _ _ (by decide) rfl⟩
  exact flag_congr (rd_ringErr _ (by simp only [Reg.RNG_CFG]; omega) hst) _

/-- Written without its enable bit the configuration is taken, and nothing else. -/
theorem writeRingCfg_taken {n : Nat} {v : Word} (hn : n < 16) (hoff : s.ringOn n = false) (hen : F.RNG_CFG_ENABLE.get v = 0) :
    s.writeRingCfg n v = s.takeRingCfg n v := by
  rw [s.writeRingCfg_off hn hoff, if_neg (by simp [hen])]

/-- Written with its enable bit the ring is enabled on what the rest of the word configures. -/
theorem writeRingCfg_enabled {n : Nat} {v : Word} (hn : n < 16) (hoff : s.ringOn n = false) (hen : F.RNG_CFG_ENABLE.get v = 1) :
    s.writeRingCfg n v = (s.writeRingCfg n (F.RNG_CFG_ENABLE.set v 0)).enableRing n ∧ (s.writeRingCfg n (F.RNG_CFG_ENABLE.set v 0)).ringOn n = false := by
  have hzero : F.RNG_CFG_ENABLE.get (F.RNG_CFG_ENABLE.set v 0) = 0 := (Fld.get_set (by decide) _ _).trans (Nat.zero_mod _)
  rw [s.writeRingCfg_taken hn hoff hzero, takeRingCfg_enable, ringOn_takeRingCfg, s.writeRingCfg_off hn hoff, if_pos (by simp [hen])]
  exact ⟨rfl, hoff⟩

/-! ### Doorbells (R86, R87) -/

theorem answers_DBL_INDEX {n : Nat} (hn : n < 16) (h : s.answers (Reg.DBL_INDEX n) = true) : s.answers 0x2000 = true := by
  have hglb : decide (Reg.DBL_INDEX n < 0x1000) = false := decide_eq_false (by simp only [Reg.DBL_INDEX]; omega)
  have hhif : decide (0x1000 ≤ Reg.DBL_INDEX n ∧ Reg.DBL_INDEX n < 0x2000) = false := decide_eq_false (by simp only [Reg.DBL_INDEX]; omega)
  have hpat : decide (0x2A000 ≤ Reg.DBL_INDEX n ∧ Reg.DBL_INDEX n < 0x2B000) = false := decide_eq_false (by simp only [Reg.DBL_INDEX]; omega)
  rw [← h]
  simp only [answers, hglb, hhif, hpat]
  rfl

theorem writeDoorbell_of_answers {n : Nat} (hn : n < 16) (h : s.answers (Reg.DBL_INDEX n) = true) (v : Word) :
    s.writeDoorbell n v =
      if s.flag Reg.HIF_STATUS F.HIF_STATUS_READY then (s.wr (Reg.DBL_INDEX n) v).ringDoorbell n v
      else ((s.wr (Reg.DBL_INDEX n) v).setRing n { s.ring n with dbHeld := some v }).setHifErr 0 := by
  have hready : (s.wr (Reg.DBL_INDEX n) v).flag Reg.HIF_STATUS F.HIF_STATUS_READY = s.flag Reg.HIF_STATUS F.HIF_STATUS_READY :=
    flag_congr (rd_wr_other _ _ _ _ (by simp only [Reg.HIF_STATUS, Reg.DBL_INDEX]; omega)) _
  have hring : (s.wr (Reg.DBL_INDEX n) v).ring n = s.ring n := rfl
  have hopen : ¬ ((decide (16 ≤ n) || !s.answers 0x2000) = true) := by
    simp [s.answers_DBL_INDEX hn h, hn]
  rw [writeDoorbell, if_neg hopen]
  dsimp only
  rw [hready, hring]

theorem doorbellBad_congr {s t : State} {n : Nat} (hh : t.rd (Reg.RNG_HOSTIDX n) = s.rd (Reg.RNG_HOSTIDX n)) (hm : t.rd (Reg.RNG_MODIDX n) = s.rd (Reg.RNG_MODIDX n))
    (hc : t.rd (Reg.RNG_CFG n) = s.rd (Reg.RNG_CFG n)) (v : Word) : t.doorbellBad n v = s.doorbellBad n v := by
  have hsize : t.ringSize n = s.ringSize n := by rw [ringSize, fld_congr hc, ringSize]
  have hhost : t.rdN (Reg.RNG_HOSTIDX n) = s.rdN (Reg.RNG_HOSTIDX n) := congrArg BitVec.toNat hh
  have hmod : t.rdN (Reg.RNG_MODIDX n) = s.rdN (Reg.RNG_MODIDX n) := congrArg BitVec.toNat hm
  rw [doorbellBad, hhost, hmod, hsize, doorbellBad]

/-- The doorbell register is none of the ring's own. -/
theorem ring_wr_DBL_INDEX {n : Nat} (hn : n < 16) (v : Word) :
    (s.wr (Reg.DBL_INDEX n) v).rd (Reg.RNG_HOSTIDX n) = s.rd (Reg.RNG_HOSTIDX n) ∧ (s.wr (Reg.DBL_INDEX n) v).ringOn n = s.ringOn n ∧
      (s.wr (Reg.DBL_INDEX n) v).doorbellBad n v = s.doorbellBad n v := by
  obtain ⟨⟨-, -, hcd, -, -⟩, ⟨-, hhd, -, -⟩, hmd, -⟩ := ring_regs_ne n hn
  have hh := rd_wr_other s _ _ v hhd
  have hc := rd_wr_other s _ _ v hcd
  exact ⟨hh, flag_congr hc _, doorbellBad_congr hh (rd_wr_other s _ _ v hmd) hc v⟩

/-- On an enabled ring a doorbell in range moves the host index. -/
theorem writeDoorbell_good {n : Nat} {v : Word} (hn : n < 16) (h : s.answers (Reg.DBL_INDEX n) = true)
    (hready : s.flag Reg.HIF_STATUS F.HIF_STATUS_READY = true) (hon : s.ringOn n = true) (hv : v ≠ s.rd (Reg.RNG_HOSTIDX n)) (hgood : s.doorbellBad n v = false) :
    (s.writeDoorbell n v).rd (Reg.RNG_HOSTIDX n) = v ∧ (s.writeDoorbell n v).rings = s.rings ∧ (s.writeDoorbell n v).points = s.points := by
  obtain ⟨hh, ho, hb⟩ := s.ring_wr_DBL_INDEX hn v
  rw [s.writeDoorbell_of_answers hn h, if_pos hready, ringDoorbell, ho, hh, hb, hon, hgood, if_neg (by simp), if_neg hv, if_neg (by simp)]
  exact ⟨rd_wr_self _ _ _, rfl, rfl⟩

/-- A doorbell out of range is refused by name. -/
theorem writeDoorbell_bad {n : Nat} {v : Word} (hn : n < 16) (h : s.answers (Reg.DBL_INDEX n) = true)
    (hready : s.flag Reg.HIF_STATUS F.HIF_STATUS_READY = true) (hon : s.ringOn n = true) (hv : v ≠ s.rd (Reg.RNG_HOSTIDX n)) (hbad : s.doorbellBad n v = true) :
    (s.writeDoorbell n v).rd (Reg.RNG_HOSTIDX n) = s.rd (Reg.RNG_HOSTIDX n) ∧
      (s.writeDoorbell n v).flag (Reg.RNG_STATUS n) F.RNG_STATUS_DB_RANGE = true := by
  obtain ⟨hh, ho, hb⟩ := s.ring_wr_DBL_INDEX hn v
  obtain ⟨-, ⟨-, -, -, hst⟩, -⟩ := ring_regs_ne n hn
  rw [s.writeDoorbell_of_answers hn h, if_pos hready, ringDoorbell, ho, hh, hb, hon, hbad, if_neg (by simp), if_neg hv, if_pos rfl]
  refine ⟨?_, flag_ringErr _ _ (by decide) rfl⟩
  rw [rd_ringErr _ (by simp only [Reg.RNG_HOSTIDX]; omega) hst, rd_event, hh]

/-- A doorbell on a disabled ring is refused by name. -/
theorem writeDoorbell_disabled {n : Nat} {v : Word} (hn : n < 16) (h : s.answers (Reg.DBL_INDEX n) = true)
    (hready : s.flag Reg.HIF_STATUS F.HIF_STATUS_READY = true) (hoff : s.ringOn n = false) :
    (s.writeDoorbell n v).flag (Reg.RNG_STATUS n) F.RNG_STATUS_DB_DISABLED = true ∧
      (s.writeDoorbell n v).rd (Reg.RNG_HOSTIDX n) = s.rd (Reg.RNG_HOSTIDX n) := by
  obtain ⟨hh, ho, -⟩ := s.ring_wr_DBL_INDEX hn v
  obtain ⟨-, ⟨-, -, -, hst⟩, -⟩ := ring_regs_ne n hn
  rw [s.writeDoorbell_of_answers hn h, if_pos hready, ringDoorbell, ho, hoff, if_pos Bool.not_false]
  refine ⟨flag_ringErr _ _ (by decide) rfl, ?_⟩
  rw [rd_ringErr _ (by simp only [Reg.RNG_HOSTIDX]; omega) hst, hh]

/-- Before READY a doorbell is held. -/
theorem writeDoorbell_held {n : Nat} {v : Word} (hn : n < 16) (h : s.answers (Reg.DBL_INDEX n) = true)
    (hready : s.flag Reg.HIF_STATUS F.HIF_STATUS_READY = false) :
    ((s.writeDoorbell n v).ring n).dbHeld = some v ∧ (s.writeDoorbell n v).rd (Reg.RNG_HOSTIDX n) = s.rd (Reg.RNG_HOSTIDX n) := by
  obtain ⟨hh, -, -⟩ := s.ring_wr_DBL_INDEX hn v
  rw [s.writeDoorbell_of_answers hn h, if_neg (by simp [hready])]
  constructor
  · rw [setHifErr_ring, ring, setRing, mapGet_mapSet_self]
  · rw [rd_setHifErr_ring _ _ (by simp only [Reg.RNG_HOSTIDX]; omega)]
    exact hh

/-! ### Runners and flushes (R123, R127) -/

theorem resumeRunner_spec {n : Nat} :
    (s.resumeRunner n).halted n = false ∧ (s.resumeRunner n).fld (Reg.DMA_STATUS n) F.DMA_STATUS_CONSEC = 0 ∧ (s.resumeRunner n).points = s.points := by
  have hp : Reg.DMA_STATUS n ≠ msixPba := by simp only [Reg.DMA_STATUS, msixPba]; omega
  have hfit : F.DMA_STATUS_CONSEC.fits = true := by decide
  let t := (s.setF (Reg.DMA_STATUS n) F.DMA_STATUS_HALTED 0).setF (Reg.DMA_STATUS n) F.DMA_STATUS_CONSEC 0
  have hreg : (s.resumeRunner n).rd (Reg.DMA_STATUS n) = t.rd (Reg.DMA_STATUS n) := by
    dsimp only [resumeRunner]
    split
    · exact rd_writeback _ _ hp
    · rfl
  have hpoints : (s.resumeRunner n).points = s.points := by
    dsimp only [resumeRunner]
    split
    · rw [writeback_points, setF_points, setF_points]
    · rw [setF_points, setF_points]
  refine ⟨?_, ?_, hpoints⟩
  · rw [halted, flag_congr hreg, flag_setF_apart _ _ _ hfit (by decide), flag_setF_zero _ _ (by decide) rfl]
  · rw [fld_congr hreg, fld_setF_self _ _ _ hfit, Nat.zero_mod]

theorem requestFlush_spec (n : Nat) :
    ((s.requestFlush n).ring n).flushReq = true ∧ (s.requestFlush n).regs = s.regs ∧ ∀ m, m ≠ n → (s.requestFlush n).ring m = s.ring m := by
  refine ⟨?_, rfl, fun m hm => mapGet_mapSet_other _ _ _ _ _ hm⟩
  rw [requestFlush, ring, setRing, mapGet_mapSet_self]

/-! ### Memory, lamps, radios (R132, R215, R229, R332) -/

/-- MEM_FETTLE before the budget is shown anew. -/
def takeFettle (v : Word) : State :=
  (s.setF Reg.MEM_FETTLE F.MEM_FETTLE_ENABLE (F.MEM_FETTLE_ENABLE.get v)).setF Reg.MEM_FETTLE F.MEM_FETTLE_PERIOD
    (clampNat 1 1000 (F.MEM_FETTLE_PERIOD.get v))

/-- After the budget is shown at most an event follows. -/
theorem writeFettle_eq (v : Word) : ∃ (c : Bool) (pl : List Byte),
    s.writeFettle v = if c then (s.takeFettle v).showBudget.event 0x0B06 1 noInst pl else (s.takeFettle v).showBudget := ⟨_, _, rfl⟩

theorem rd_writeFettle (v : Word) : (s.writeFettle v).rd Reg.MEM_FETTLE = (s.takeFettle v).rd Reg.MEM_FETTLE := by
  obtain ⟨c, pl, h⟩ := s.writeFettle_eq v
  rw [h]
  split
  · rw [rd_event, rd_showBudget _ (by decide)]
  · rw [rd_showBudget _ (by decide)]

theorem writeFettle_points (v : Word) : (s.writeFettle v).points = s.points := by
  obtain ⟨c, pl, h⟩ := s.writeFettle_eq v
  rw [h]
  split
  · rw [points_event, showBudget_points, takeFettle, setF_points, setF_points]
  · rw [showBudget_points, takeFettle, setF_points, setF_points]

theorem fld_writeFettle (v : Word) :
    (s.writeFettle v).fld Reg.MEM_FETTLE F.MEM_FETTLE_ENABLE = F.MEM_FETTLE_ENABLE.get v ∧
    (s.writeFettle v).fld Reg.MEM_FETTLE F.MEM_FETTLE_PERIOD = clampNat 1 1000 (F.MEM_FETTLE_PERIOD.get v) := by
  rw [fld_congr (s.rd_writeFettle v), fld_congr (s.rd_writeFettle v), takeFettle]
  constructor
  · rw [fld_setF_apart _ _ _ (by decide) (by decide), fld_setF_self _ _ _ (by decide), Fld.get_mod]
  · rw [fld_setF_self _ _ _ (by decide)]
    exact Nat.mod_eq_of_lt (clampNat_lt (by decide) (by decide))

theorem rd_writeChill {b a : Nat} (on : Bool) (h : a ≠ Reg.MEM_BANK b) : (s.writeChill b on).rd a = s.rd a := by
  dsimp only [writeChill]
  split
  · rfl
  · split
    · exact rd_setF_other _ _ _ _ h _
    · rw [setBank, rd_setF_other _ _ _ _ h, rd_setF_other _ _ _ _ h]

/-- A bank takes the CHILL bit it may take. -/
theorem flag_writeChill (b : Nat) (on : Bool) : (s.writeChill b on).flag (Reg.MEM_BANK b) F.MEM_BANK_CHILL =
    if on && !s.chillOk b then s.flag (Reg.MEM_BANK b) F.MEM_BANK_CHILL else on := by
  dsimp only [writeChill]
  split
  · rfl
  · split
    · exact flag_setF_self _ _ (by decide) rfl _
    · rw [setBank, flag_setF_apart _ _ _ (by decide) (by decide), flag_setF_self _ _ (by decide) rfl]

/-- The write of a bank's CHILL bit, changed or not. -/
theorem writeReg_MEM_BANK_spec {b : Nat} (hb : b < 192) (on : Bool) :
    (s.writeReg (Reg.MEM_BANK b) (BitVec.ofNat 32 (bit on))).flag (Reg.MEM_BANK b) F.MEM_BANK_CHILL =
      (if on && !s.chillOk b then s.flag (Reg.MEM_BANK b) F.MEM_BANK_CHILL else on) ∧
    ∀ a, a ≠ Reg.MEM_BANK b → (s.writeReg (Reg.MEM_BANK b) (BitVec.ofNat 32 (bit on))).rd a = s.rd a := by
  rcases eq_or_ne (s.flag (Reg.MEM_BANK b) F.MEM_BANK_CHILL) on with heq | hne
  · rw [writeReg_MEM_BANK _ _ hb, bitOf_ofNat_bit, if_pos (beq_iff_eq.mpr heq), heq, ite_self]
    exact ⟨rfl, fun _ _ => rfl⟩
  · rw [writeReg_MEM_BANK_chill hb hne]
    exact ⟨s.flag_writeChill b on, fun a ha => s.rd_writeChill on ha⟩

theorem writeTick_spec (v : Nat) :
    (s.writeTick v).fld Reg.LMP_TICK F.LMP_TICK_MS = clampNat 10 200 v ∧ (s.writeTick v).lamp.tick = s.lamp.tick ∧
      ∀ a, a ≠ Reg.LMP_TICK → (s.writeTick v).rd a = s.rd a := by
  have hreg (a : Nat) : (s.writeTick v).rd a = (s.setF Reg.LMP_TICK F.LMP_TICK_MS (clampNat 10 200 v)).rd a := rfl
  refine ⟨?_, rfl, fun a ha => (hreg a).trans (rd_setF_other _ _ _ _ ha _)⟩
  rw [fld_congr (hreg _), fld_setF_self _ _ _ (by decide)]
  exact Nat.mod_eq_of_lt (clampNat_lt (by decide) (by decide))

/-- LMP_CTL takes the bit asked. -/
theorem plainReg_LMP_CTL_spec (on : Bool) :
    (s.plainReg Reg.LMP_CTL (F.LMP_CTL_EMERG_SW.set (s.rd Reg.LMP_CTL) (bit on))).flag Reg.LMP_CTL F.LMP_CTL_EMERG_SW = on ∧
      (s.plainReg Reg.LMP_CTL (F.LMP_CTL_EMERG_SW.set (s.rd Reg.LMP_CTL) (bit on))).lamp = s.lamp := by
  have hplain (v : Word) : s.plainReg Reg.LMP_CTL v = s.wr Reg.LMP_CTL (plainWrite ⟨0xD004, 0, 1, 0, 1, 7, 0, 0, 0⟩ (s.rd Reg.LMP_CTL) v) := rfl
  have hbit (w : Word) : (F.LMP_CTL_EMERG_SW.set w (bit on)).getLsbD F.LMP_CTL_EMERG_SW.lo = on := by
    rw [← Fld.get_beq_one rfl, Fld.get_set (by decide)]
    exact bit_beq_one on
  rw [hplain]
  refine ⟨?_, rfl⟩
  rw [flag, fld, rd_wr_self, Fld.get_beq_one rfl]
  refine (getLsbD_plainWrite (by decide) _ _ _).trans ?_
  have hmask : Nat.testBit 7 F.LMP_CTL_EMERG_SW.lo = true := rfl
  simp [hbit, hmask]

theorem writeDuty_spec (r : Nat) {l : Nat} (hl : l < 2 ^ 16) :
    (s.writeDuty r l).fld (Reg.RAD_DUTY r) F.RAD_DUTY_LIMIT = (if l = 0 ∨ s.radReserve r < l then l else s.radReserve r + 1) % 65536 ∧
      ∀ a, a ≠ Reg.RAD_DUTY r → (s.writeDuty r l).rd a = s.rd a := by
  have hmod : l % 65536 = l := Nat.mod_eq_of_lt hl
  refine ⟨?_, fun a ha => rd_setF_other _ _ _ _ ha _⟩
  rw [writeDuty, fld_setF_self _ _ _ (by decide), hmod]
  simp only [Bool.or_eq_true, decide_eq_true_eq]
  rfl

end State

end Sys2Proof.Machine

end

section
/-!
SUPPORT. What each of the register writes leaves: the time base, the calendar, the recorder and the key registers.
-/
set_option autoImplicit false
namespace Sys2Proof.Machine

namespace State

variable (s : State)

/-! ### Time base (R343, R344) -/

theorem writeIncrHi_owned (h : s.servoOwns = true) (v : Word) : (s.writeIncrHi v).clock = s.clock := by
  rw [writeIncrHi, if_pos h, ignoreTime, setF_clock]

theorem writeIncrHi_free (h : s.servoOwns = false) (v : Word) :
    (s.writeIncrHi v).clock.incrNext = some (clampNat incrLow incrHigh (v.toNat % 256 * 2 ^ 32 + s.rdN Reg.TIM_INCRLO)) ∧
      (s.writeIncrHi v).clock.incr = s.clock.incr := by
  rw [writeIncrHi, if_neg (by simp [h]), loadIncr, wrN_clock, wrN_clock]
  exact ⟨rfl, rfl⟩

theorem goStep_owned (h : s.servoOwns = true) : s.goStep.clock = s.clock := by
  rw [goStep, if_pos h, ignoreTime, setF_clock]

theorem goStep_rejected (h : s.servoOwns = false) (hbad : s.stepOk (sext 32 (s.rdN Reg.TIM_STEPSEC)) (sext 32 (s.rdN Reg.TIM_STEPNS)) = false) :
    s.goStep.flag Reg.TIM_STATUS F.TIM_STATUS_STEP_REJ = true ∧ s.goStep.clock = s.clock := by
  rw [goStep, if_neg (by simp [h]), if_neg (by simp [hbad])]
  exact ⟨flag_setF_one _ _ (by decide) rfl, setF_clock _ _ _ _⟩

/-- The wall clock moved by an amount, before the step is counted and told. -/
def moveWall (amount : Int) : State :=
  { s with clock := { s.clock with wallOff := s.clock.wallOff + amount, wallSet := true, steppedTrunks := 2 ^ 64 - 1, steppedRadios := 15 },
           meter := { s.meter with stepped := true } }

theorem stepWall_eq (sec ns : Int) (by_ : Nat) : ∃ pl : List Byte, s.stepWall sec ns by_ =
    (((s.moveWall ((sec * 1000000000 + ns) * (2 ^ 32 : Nat))).bump Reg.TIM_STEPCNT).eventAt s.stamp 0x1001 1 noInst pl).refreshServo := ⟨_, rfl⟩

/-- A step moves the wall clock by its amount, the monotonic base not at all. -/
theorem stepWall_clock (sec ns : Int) (by_ : Nat) :
    (s.stepWall sec ns by_).clock.wallOff = s.clock.wallOff + (sec * 1000000000 + ns) * (2 ^ 32 : Nat) ∧ (s.stepWall sec ns by_).clock.mono = s.clock.mono := by
  obtain ⟨pl, hstep⟩ := s.stepWall_eq sec ns by_
  rw [hstep]
  obtain ⟨hoff, hmono⟩ := sameBase_refreshServo
    (((s.moveWall ((sec * 1000000000 + ns) * (2 ^ 32 : Nat))).bump Reg.TIM_STEPCNT).eventAt s.stamp 0x1001 1 noInst pl)
  rw [clock_eventAt, bump_clock] at hoff hmono
  exact ⟨hoff, hmono⟩

theorem goStep_taken (h : s.servoOwns = false) (hok : s.stepOk (sext 32 (s.rdN Reg.TIM_STEPSEC)) (sext 32 (s.rdN Reg.TIM_STEPNS)) = true) :
    s.goStep.clock.wallOff = s.clock.wallOff + (sext 32 (s.rdN Reg.TIM_STEPSEC) * 1000000000 + sext 32 (s.rdN Reg.TIM_STEPNS)) * (2 ^ 32 : Nat) ∧
      s.goStep.clock.mono = s.clock.mono := by
  rw [goStep, if_neg (by simp [h]), if_pos hok]
  exact s.stepWall_clock _ _ _

/-! ### Calendar (R356) -/

theorem stageTime_utc (v : Word) : (s.stageTime false v).rd Reg.RTC_STG_UTC = v ∧
    (s.stageTime false v).flag Reg.RTC_STATUS F.RTC_STATUS_STAGED = true ∧ (s.stageTime false v).cal = s.cal := by
  have heq : s.stageTime false v = (s.wr Reg.RTC_STG_UTC v).setF Reg.RTC_STATUS F.RTC_STATUS_STAGED 1 := rfl
  rw [heq]
  refine ⟨?_, flag_setF_one _ _ (by decide) rfl, by rw [setF_cal, wr_cal]⟩
  rw [rd_setF_other _ _ _ _ (by decide), rd_wr_self]

theorem stageTime_subsec (v : Word) : (s.stageTime true v).rdN Reg.RTC_STG_SUBSEC = v.toNat % 2 ^ 15 ∧
    (s.stageTime true v).flag Reg.RTC_STATUS F.RTC_STATUS_STAGED = true ∧ (s.stageTime true v).cal = s.cal := by
  have heq : s.stageTime true v = (s.wrN Reg.RTC_STG_SUBSEC (v.toNat % 2 ^ 15)).setF Reg.RTC_STATUS F.RTC_STATUS_STAGED 1 := rfl
  rw [heq]
  refine ⟨?_, flag_setF_one _ _ (by decide) rfl, by rw [setF_cal, wrN_cal]⟩
  rw [rdN, rd_setF_other _ _ _ _ (by decide)]
  exact (rdN_wrN_self _ _ _).trans (Nat.mod_eq_of_lt (by omega))

theorem askGo_spec : s.askGo.calRun.goReq = (s.flag Reg.RTC_STATUS F.RTC_STATUS_STAGED || s.calRun.goReq) ∧ s.askGo.cal = s.cal ∧ s.askGo.regs = s.regs := by
  unfold askGo
  cases s.flag Reg.RTC_STATUS F.RTC_STATUS_STAGED with
  | true => exact ⟨rfl, rfl, rfl⟩
  | false => exact ⟨rfl, rfl, rfl⟩

theorem commitFromWall_rejected (h : s.wallUnset = true) :
    s.commitFromWall.flag Reg.RTC_STATUS F.RTC_STATUS_CMT_REJ = true ∧ s.commitFromWall.calRun = s.calRun := by
  rw [commitFromWall, if_pos h]
  exact ⟨flag_setF_one _ _ (by decide) rfl, setF_calRun _ _ _ _⟩

theorem commitFromWall_taken (h : s.wallUnset = false) :
    s.commitFromWall.calRun.wallReq = true ∧ s.commitFromWall.calRun.wallSec = s.wallSec ∧ s.commitFromWall.regs = s.regs := by
  rw [commitFromWall, if_neg (by simp [h])]
  exact ⟨rfl, rfl, rfl⟩

/-! ### Recorder (R404) -/

theorem writeCursor_spec (v : Word) :
    ((s.wr Reg.EVR_CURSOR v).startWindow v.toNat).rd Reg.EVR_CURSOR = v ∧ ((s.wr Reg.EVR_CURSOR v).startWindow v.toNat).evr.winReady = false ∧
    ((s.wr Reg.EVR_CURSOR v).startWindow v.toNat).evr.winFrom = v.toNat ∧ ((s.wr Reg.EVR_CURSOR v).startWindow v.toNat).evr.buffer = s.evr.buffer ∧
    ((s.wr Reg.EVR_CURSOR v).startWindow v.toNat).flash = s.flash := by
  have hreg (t : State) (a : Nat) : (t.startWindow v.toNat).rd a = t.rd a := rfl
  exact ⟨(hreg _ _).trans (rd_wr_self _ _ _), rfl, rfl, rfl, rfl⟩

theorem nextWindow_spec : s.nextWindow.evr.winReady = false ∧ s.nextWindow.evr.buffer = s.evr.buffer ∧ s.nextWindow.regs = s.regs ∧
    ∀ r, s.evr.window.getLast? = some r → s.nextWindow.evr.winFrom = addMod32 r.seq 1 := by
  refine ⟨rfl, rfl, rfl, fun r hr => ?_⟩
  rw [nextWindow, hr]
  rfl

/-! ### Keys (R442, R447, R453, R455) -/

theorem writeKeyMode_taken {v : Word} (hmode : F.KEY_MODE_MODE.get v ≠ 3) (hok : s.keyWriteCheck false (!s.modeForbids (F.KEY_MODE_MODE.get v)) = none) :
    (s.writeKeyMode v).fld Reg.KEY_MODE F.KEY_MODE_MODE = F.KEY_MODE_MODE.get v ∧ (s.writeKeyMode v).keys = s.keys := by
  have hset : (s.setF Reg.KEY_MODE F.KEY_MODE_MODE (F.KEY_MODE_MODE.get v)).fld Reg.KEY_MODE F.KEY_MODE_MODE = F.KEY_MODE_MODE.get v := by
    rw [fld_setF_self _ _ _ (by decide), Fld.get_mod]
  dsimp only [writeKeyMode]
  rw [if_neg hmode, hok]
  dsimp only
  split
  · exact ⟨hset, setF_keys _ _ _ _⟩
  · exact ⟨(fld_congr (rd_event _ _ _ _ _ _) _).trans hset, by rw [keys_event, setF_keys]⟩

theorem writeCznSrc_taken (hok : s.keyWriteCheck false true = none) (v : Word) :
    (s.writeCznSrc v).rd Reg.KEY_CZNSRC = (v &&& 0x1FF) ∧ (s.writeCznSrc v).keys = s.keys := by
  rw [writeCznSrc, hok]
  exact ⟨rd_wr_self _ _ _, wr_keys _ _ _⟩

theorem writeCznSrc_rejected {c x : Nat} (hbad : s.keyWriteCheck false true = some (c, x)) (hc : c < 8) (v : Word) :
    (s.writeCznSrc v).rd Reg.KEY_CZNSRC = s.rd Reg.KEY_CZNSRC ∧ (s.writeCznSrc v).flag Reg.KEY_STATUS F.KEY_STATUS_WR_REJ = true ∧
      (s.writeCznSrc v).fld Reg.KEY_STATUS F.KEY_STATUS_REJ_CAUSE = c := by
  rw [writeCznSrc, hbad]
  dsimp only
  refine ⟨?_, ?_, ?_⟩
  · rw [rd_setF_other _ _ _ _ (by decide), rd_setF_other _ _ _ _ (by decide)]
  · rw [flag_setF_apart _ _ _ (by decide) (by decide), flag_setF_one _ _ (by decide) rfl]
  · rw [fld_setF_self _ _ _ (by decide)]
    exact Nat.mod_eq_of_lt (hc.trans (by decide))

/-- With no transaction open none is aborted for its key changes. -/
theorem NoTxn.abortKeyTxns {s : State} (h : s.NoTxn) : s.abortKeyTxns = s := by
  refine List.foldlRecOn (motive := fun t => t = s) _ _ rfl ?_
  intro t ht k hk
  rw [ht]
  simp [abortTxn, h k (List.mem_range.mp hk)]

/-- The state of an accepted life-cycle request, before transactions with key changes are aborted. -/
def acceptLc (v : Word) : State :=
  let t := (s.setF Reg.KEY_LC F.KEY_LC_PENDING 1).setF Reg.KEY_STATUS F.KEY_STATUS_ZEROISING 1
  { t with keys := { t.keys with intent := some (F.KEY_LCREQ_TARGET.get v), lcAt := t.now, zeroised := false } }

theorem acceptLc_txns (v : Word) : (s.acceptLc v).txns = s.txns := by
  have hkeys (t : State) (k : KeyStore) : ({ t with keys := k } : State).txns = t.txns := rfl
  exact (hkeys _ _).trans ((setF_txns _ _ _ _).trans (setF_txns _ _ _ _))

theorem acceptLc_keys (v : Word) :
    (s.acceptLc v).keys.intent = some (F.KEY_LCREQ_TARGET.get v) ∧ (s.acceptLc v).keys.lcAt = s.now ∧ (s.acceptLc v).keys.zeroised = false := by
  have hkeys (t : State) (k : KeyStore) : ({ t with keys := k } : State).keys = k := rfl
  refine ⟨congrArg KeyStore.intent (hkeys _ _), (congrArg KeyStore.lcAt (hkeys _ _)).trans ?_, congrArg KeyStore.zeroised (hkeys _ _)⟩
  rw [now, setF_clock, setF_clock, now]

theorem writeLcReq_eq (v : Word) :
    s.writeLcReq v =
      if F.KEY_LCREQ_CONFIRM.get v == 0x5A17 && s.maint && !s.keyBusy && lcAllowed s.lifeCycle (F.KEY_LCREQ_TARGET.get v) then (s.acceptLc v).abortKeyTxns
      else s.setF Reg.KEY_STATUS F.KEY_STATUS_LC_REJ 1 := rfl

/-- An accepted life-cycle request waits, zeroisation before it. -/
theorem writeLcReq_taken {s : State} {v : Word} (hfree : s.NoTxn) (hconfirm : F.KEY_LCREQ_CONFIRM.get v = 0x5A17) (hmaint : s.maint = true)
    (hbusy : s.keyBusy = false) (hallowed : lcAllowed s.lifeCycle (F.KEY_LCREQ_TARGET.get v) = true) : s.writeLcReq v = s.acceptLc v := by
  have hnone : (s.acceptLc v).NoTxn := fun k hk => by rw [txn, acceptLc_txns]; exact hfree k hk
  rw [writeLcReq_eq, if_pos (by simp [hconfirm, hmaint, hbusy, hallowed]), hnone.abortKeyTxns]

theorem writeLcReq_rejected {v : Word} (h : F.KEY_LCREQ_CONFIRM.get v ≠ 0x5A17 ∨ s.maint = false) :
    (s.writeLcReq v).flag Reg.KEY_STATUS F.KEY_STATUS_LC_REJ = true ∧ (s.writeLcReq v).keys = s.keys := by
  have hno : ¬ ((F.KEY_LCREQ_CONFIRM.get v == 0x5A17 && s.maint && !s.keyBusy && lcAllowed s.lifeCycle (F.KEY_LCREQ_TARGET.get v)) = true) := by
    rcases h with hconfirm | hmaint
    · simp [hconfirm]
    · simp [hmaint]
  rw [writeLcReq_eq, if_neg hno]
  exact ⟨flag_setF_one _ _ (by decide) rfl, setF_keys _ _ _ _⟩

theorem writeOwnerLock_locked (h : s.maint = false) (v : Word) : s.writeOwnerLock v = s := by
  rw [writeOwnerLock, if_neg (by simp [h])]

theorem writeOwnerLock_maint (h : s.maint = true) (v : Word) :
    (s.writeOwnerLock v).fld Reg.KEY_LC F.KEY_LC_OWNER_LOCK = F.KEY_LC_OWNER_LOCK.get v ∧ ∀ a, a ≠ Reg.KEY_LC → (s.writeOwnerLock v).rd a = s.rd a := by
  rw [writeOwnerLock, if_pos h]
  refine ⟨?_, fun a ha => rd_setF_other _ _ _ _ ha _⟩
  rw [fld_setF_self _ _ _ (by decide), Fld.get_mod]

end State

end Sys2Proof.Machine

end

section
set_option autoImplicit false
open Sys2Proof Sys2Proof.Machine Sys2Proof.Machine.State

/-- Settles O10: each command is the write of its register to the state `doomReg` leaves, which is the state itself with no transaction open; what the write leaves is the
lemma about that register's write. -/
theorem registerCommands : Obligations.RegisterCommands := by
  refine ⟨fun s => ?_, fun s hfree => ?_⟩
  · refine ⟨fun h a => NoTxn.doomReg h a, fun h v => exec_glbVstateWrite h, fun h v => exec_hifVersionSelectWrite h, fun n hn h v => exec_ringCfgWrite hn h,
      fun n hn h v => exec_doorbellWrite hn h, fun n hn h => exec_dmaCtlResume hn h, fun n hn h => exec_tunCtlFlush hn h, fun h v => exec_memFettleWrite h,
      fun b on hb h hne => ?_, fun h v => exec_lmpTickWrite h, fun p hp h v => exec_gatectlWrite hp h, fun p e hp he h v => exec_gateWrite hp he h,
      fun r l hr hl hrad h => exec_radDutyWrite hr hl hrad h, fun h v => exec_timIncrloWrite h, fun h v => exec_timIncrhiWrite h, fun h => exec_timStepGo h,
      fun h v => exec_rtcStgWrite_utc h, fun h v => exec_rtcStgWrite_subsec h, fun h => ⟨exec_rtcCommitGo h, exec_rtcCommitFromWall h⟩,
      fun h v => exec_evrCursorWrite h, fun h => exec_evrWinctlNext h, fun h v => exec_keyWrgo h, fun h v => exec_keyModeWrite h, fun h v => exec_keyCznsrcWrite h,
      fun h v => exec_keyLcreqWrite h, fun h v => exec_ownerLockWrite h, fun h => ?_⟩
    · rw [exec_memBankChillWrite hb h, writeReg_MEM_BANK_chill hb hne]
    · exact ⟨fun v => next_hostReg_silent h, fun n v => ⟨next_hostReg_if_silent h, next_hostReg_if_silent h⟩,
        fun n => ⟨next_hostReg_if_silent h, next_hostReg_if_silent h⟩, next_hostReg_silent h, next_hostReg_silent h⟩
  · have hdoom : ∀ a, s.doomReg a = s := NoTxn.doomReg hfree
    refine ⟨fun v h => ?_, fun n v hn h hoff hen => ?_, fun n v hn h hoff hen => ?_, fun n v hn h hready hon hv => ⟨fun hgood => ?_, fun hbad => ?_⟩,
      fun n v hn h hready hoff => ?_, fun n v hn h hready => ?_, fun n hn h => ?_, fun n hn h => ?_, fun v h => ?_, fun b on hb h => ?_, fun v h => ?_,
      fun on h => ?_, fun r l hr hl hrad h => ?_, fun v h => ?_, fun v h => ⟨fun hown => ?_, fun hown => ?_⟩,
      fun h => ⟨fun hown => ?_, fun hown hbad => ?_, fun hown hok => ?_⟩, fun v h => ?_, fun v h => ?_, fun h => ⟨?_, fun hunset => ?_, fun hset => ?_⟩,
      fun v h => ?_, fun h => ?_, fun v h hmode hok => ?_, fun v h hok => ?_, fun v c x h hbad hc => ?_, fun v h hno => ?_,
      fun v h hconfirm hmaint hbusy hallowed => ?_, fun v h hlocked => ?_, fun v h hmaint => ?_⟩
    · exact ⟨_, by rw [exec_glbVstateWrite h, hdoom], s.requestEbb_spec _⟩
    · obtain ⟨hsize, hvector, hirq⟩ := s.fld_takeRingCfg n v
      refine ⟨_, by rw [exec_ringCfgWrite hn h, hdoom, s.writeRingCfg_taken hn hoff hen], ?_, hsize, hvector, hirq, fun b hb => s.rd_takeRingCfg hb v⟩
      rw [ringOn_takeRingCfg, hoff]
    · intro u
      obtain ⟨henable, huoff⟩ := s.writeRingCfg_enabled hn hoff hen
      refine ⟨_, by rw [exec_ringCfgWrite hn h, hdoom, henable], ?_⟩
      cases hset : u.setupOk n with
      | true =>
        obtain ⟨hring, hhost, hmod, hhalt⟩ := u.enableRing_ok hn hset
        exact ⟨hring, fun _ => ⟨hhost, hmod, hhalt⟩, fun hno => absurd hno (by decide)⟩
      | false =>
        obtain ⟨hring, hbad⟩ := u.enableRing_bad hn hset
        exact ⟨hring.trans huoff, fun hno => absurd hno (by decide), fun _ => hbad⟩
    · exact ⟨_, by rw [exec_doorbellWrite hn h, hdoom], s.writeDoorbell_good hn h hready hon hv hgood⟩
    · exact ⟨_, by rw [exec_doorbellWrite hn h, hdoom], s.writeDoorbell_bad hn h hready hon hv hbad⟩
    · exact ⟨_, by rw [exec_doorbellWrite hn h, hdoom], s.writeDoorbell_disabled hn h hready hoff⟩
    · exact ⟨_, by rw [exec_doorbellWrite hn h, hdoom], s.writeDoorbell_held hn h hready⟩
    · exact ⟨_, by rw [exec_dmaCtlResume hn h, hdoom], s.resumeRunner_spec⟩
    · exact ⟨_, by rw [exec_tunCtlFlush hn h, hdoom], s.requestFlush_spec n⟩
    · obtain ⟨henable, hperiod⟩ := s.fld_writeFettle v
      exact ⟨_, by rw [exec_memFettleWrite h, hdoom], henable, hperiod, s.writeFettle_points v⟩
    · exact ⟨_, by rw [exec_memBankChillWrite hb h, hdoom], s.writeReg_MEM_BANK_spec hb on⟩
    · exact ⟨_, by rw [exec_lmpTickWrite h, hdoom], s.writeTick_spec _⟩
    · exact ⟨_, by rw [exec_lmpCtlEmergSw h, hdoom], s.plainReg_LMP_CTL_spec on⟩
    · exact ⟨_, by rw [exec_radDutyWrite hr hl hrad h, hdoom], s.writeDuty_spec r hl⟩
    · exact ⟨_, by rw [exec_timIncrloWrite h, hdoom], rd_wr_self _ _ _, wr_clock _ _ _⟩
    · exact ⟨_, by rw [exec_timIncrhiWrite h, hdoom], s.writeIncrHi_free hown v⟩
    · exact ⟨_, by rw [exec_timIncrhiWrite h, hdoom], s.writeIncrHi_owned hown v⟩
    · exact ⟨_, by rw [exec_timStepGo h, hdoom], s.goStep_owned hown⟩
    · exact ⟨_, by rw [exec_timStepGo h, hdoom], s.goStep_rejected hown hbad⟩
    · exact ⟨_, by rw [exec_timStepGo h, hdoom], s.goStep_taken hown hok⟩
    · exact ⟨_, by rw [exec_rtcStgWrite_utc h, hdoom], s.stageTime_utc v⟩
    · exact ⟨_, by rw [exec_rtcStgWrite_subsec h, hdoom], s.stageTime_subsec v⟩
    · exact ⟨_, by rw [exec_rtcCommitGo h, hdoom], s.askGo_spec⟩
    · exact ⟨_, by rw [exec_rtcCommitFromWall h, hdoom], s.commitFromWall_rejected hunset⟩
    · exact ⟨_, by rw [exec_rtcCommitFromWall h, hdoom], s.commitFromWall_taken hset⟩
    · exact ⟨_, by rw [exec_evrCursorWrite h, hdoom], s.writeCursor_spec v⟩
    · exact ⟨_, by rw [exec_evrWinctlNext h, hdoom], s.nextWindow_spec⟩
    · exact ⟨_, by rw [exec_keyModeWrite h, hdoom], s.writeKeyMode_taken hmode hok⟩
    · exact ⟨_, by rw [exec_keyCznsrcWrite h, hdoom], s.writeCznSrc_taken hok v⟩
    · exact ⟨_, by rw [exec_keyCznsrcWrite h, hdoom], s.writeCznSrc_rejected hbad hc v⟩
    · exact ⟨_, by rw [exec_keyLcreqWrite h, hdoom], s.writeLcReq_rejected hno⟩
    · exact ⟨_, by rw [exec_keyLcreqWrite h, hdoom, writeLcReq_taken hfree hconfirm hmaint hbusy hallowed], s.acceptLc_keys v⟩
    · rw [exec_ownerLockWrite h, hdoom, s.writeOwnerLock_locked hlocked]
    · exact ⟨_, by rw [exec_ownerLockWrite h, hdoom], s.writeOwnerLock_maint hmaint v⟩

end

section
/-!
SUPPORT. What the measurements of supply, PACE and temperature leave in the registers, and what they leave unchanged.
-/
set_option autoImplicit false
namespace Sys2Proof.Machine

theorem clampNat_bounds {lo hi : Nat} (h : lo ≤ hi) (x : Nat) : lo ≤ clampNat lo hi x ∧ clampNat lo hi x ≤ hi := by
  unfold clampNat
  split <;> [skip; split] <;> omega

namespace State

variable (s : State)

/-! ### The riser (R42) -/

theorem rd_showRiser {b : Nat} (h : b ≠ Reg.GLB_STATUS) : s.showRiser.rd b = s.rd b := s.rd_setF_other _ _ _ h _

theorem rd_showVin (vin : Half) {b : Nat} (h : b ≠ Reg.GLB_SUPPLY) : (s.showVin vin).rd b = s.rd b := s.rd_setF_other _ _ _ h _

theorem riserSample_points (vin riser : Nat) : (s.riserSample vin riser).points = s.points := by
  dsimp only [riserSample]
  rw [showRiser, setF_points, setF_points]

theorem rd_riserSample (vin riser : Nat) {b : Nat} (hsupply : b ≠ Reg.GLB_SUPPLY) (hstatus : b ≠ Reg.GLB_STATUS) :
    (s.riserSample vin riser).rd b = s.rd b := by
  dsimp only [riserSample]
  rw [rd_showRiser _ hstatus, rd_setF_other _ _ _ _ hsupply]
  rfl

/-- Off the riser and charging, the riser shows the measured voltage, held between what it stood at and VIN. -/
theorem fld_riserSample_charging {s : State} (hoff : s.onRiser = false) (hcharge : s.sup.charger = true) (vin riser : Nat) :
    (s.riserSample vin riser).fld Reg.GLB_SUPPLY F.GLB_SUPPLY_RISER =
      clampNat s.sup.riserHeld (max s.sup.riserHeld vin) riser % 2 ^ 16 := by
  dsimp only [riserSample]
  rw [fld_congr (rd_showRiser _ (by decide)), fld_setF_self _ _ _ (by decide), if_neg (by simp [hoff]), if_pos hcharge]
  rfl

theorem riserSample_bounds {s : State} {vin : Nat} (hoff : s.onRiser = false) (hcharge : s.sup.charger = true) (hheld : s.sup.riserHeld ≤ vin)
    (hvin : vin < 2 ^ 16) (riser : Nat) : s.sup.riserHeld ≤ (s.riserSample vin riser).fld Reg.GLB_SUPPLY F.GLB_SUPPLY_RISER ∧
      (s.riserSample vin riser).fld Reg.GLB_SUPPLY F.GLB_SUPPLY_RISER ≤ vin := by
  have hbounds := clampNat_bounds hheld riser
  rw [fld_riserSample_charging hoff hcharge, Nat.max_eq_right hheld, Nat.mod_eq_of_lt (hbounds.2.trans_lt hvin)]
  exact hbounds

/-! ### PACE and die temperature (R47, R59) -/

theorem rd_refreshCharger {b : Nat} (h : b ≠ Reg.RTC_STATUS) : s.refreshCharger.rd b = s.rd b := s.rd_setF_other _ _ _ h _

theorem refreshCharger_points : s.refreshCharger.points = s.points := rfl

theorem rd_noteSlow (pace : Nat) {b : Nat} (h : b ≠ Reg.GLB_FLAGS) : (s.noteSlow pace).rd b = s.rd b := by
  dsimp only [noteSlow]
  split
  · rfl
  · split
    · rw [rd_event, rd_setF_other _ _ _ _ h]
      rfl
    · rfl

theorem noteSlow_points (pace : Nat) : (s.noteSlow pace).points = s.points := by
  dsimp only [noteSlow]
  split
  · rfl
  · split
    · rw [points_event, setF_points]
    · rfl

/-- PACE and the lowest PACE as a sample leaves them in GLB_PACE (R59). -/
def showPace (pace : Half) : State :=
  (s.setF Reg.GLB_PACE F.GLB_PACE_PACE pace.toNat).setF Reg.GLB_PACE F.GLB_PACE_PACE_MIN (min pace.toNat (s.fld Reg.GLB_PACE F.GLB_PACE_PACE_MIN))

theorem fld_showPace (pace : Half) : (s.showPace pace).fld Reg.GLB_PACE F.GLB_PACE_PACE = pace.toNat ∧
    (s.showPace pace).fld Reg.GLB_PACE F.GLB_PACE_PACE_MIN = min pace.toNat (s.fld Reg.GLB_PACE F.GLB_PACE_PACE_MIN) := by
  have hmin : min pace.toNat (s.fld Reg.GLB_PACE F.GLB_PACE_PACE_MIN) < 2 ^ 16 := (Nat.min_le_left _ _).trans_lt pace.isLt
  constructor
  · rw [showPace, fld_setF_apart _ _ _ (by decide) (by decide), fld_setF_self _ _ _ (by decide)]
    exact Nat.mod_eq_of_lt pace.isLt
  · rw [showPace, fld_setF_self _ _ _ (by decide)]
    exact Nat.mod_eq_of_lt hmin

theorem fld_setF_GLB_DIETEMP (die : Half) : (s.setF Reg.GLB_DIETEMP F.GLB_DIETEMP_TEMP die.toNat).fld Reg.GLB_DIETEMP F.GLB_DIETEMP_TEMP = die.toNat := by
  rw [fld_setF_self _ _ _ (by decide)]
  exact Nat.mod_eq_of_lt die.isLt

/-- The registers as a sample leaves them: PACE, die temperature, and the voltages of VIN, riser and backup domain. -/
def showSample (pace die vin riser vbak : Half) : State :=
  ((((s.showPace pace).setF Reg.GLB_DIETEMP F.GLB_DIETEMP_TEMP die.toNat).showVin vin).riserSample vin.toNat riser.toNat).setF
    Reg.GLB_SUPPLY2 F.GLB_SUPPLY2_VBAK vbak.toNat

theorem rd_showSample (pace die vin riser vbak : Half) {b : Nat} (hsupply : b ≠ Reg.GLB_SUPPLY) (hstatus : b ≠ Reg.GLB_STATUS) (hvbak : b ≠ Reg.GLB_SUPPLY2) :
    (s.showSample pace die vin riser vbak).rd b = ((s.showPace pace).setF Reg.GLB_DIETEMP F.GLB_DIETEMP_TEMP die.toNat).rd b := by
  rw [showSample, rd_setF_other _ _ _ _ hvbak, rd_riserSample _ _ _ hsupply hstatus, rd_showVin _ _ hsupply]

theorem showSample_points (pace die vin riser vbak : Half) : (s.showSample pace die vin riser vbak).points = s.points := by
  rw [showSample, setF_points, riserSample_points, showVin, setF_points, setF_points, showPace, setF_points, setF_points]

theorem fld_showSample (pace die vin riser vbak : Half) :
    (s.showSample pace die vin riser vbak).fld Reg.GLB_PACE F.GLB_PACE_PACE = pace.toNat ∧
    (s.showSample pace die vin riser vbak).fld Reg.GLB_PACE F.GLB_PACE_PACE_MIN = min pace.toNat (s.fld Reg.GLB_PACE F.GLB_PACE_PACE_MIN) ∧
    (s.showSample pace die vin riser vbak).fld Reg.GLB_DIETEMP F.GLB_DIETEMP_TEMP = die.toNat := by
  have hpace : (s.showSample pace die vin riser vbak).rd Reg.GLB_PACE = (s.showPace pace).rd Reg.GLB_PACE := by
    rw [rd_showSample _ _ _ _ _ _ (by decide) (by decide) (by decide), rd_setF_other _ _ _ _ (by decide)]
  have hdie := s.rd_showSample pace die vin riser vbak (b := Reg.GLB_DIETEMP) (by decide) (by decide) (by decide)
  rw [fld_congr hpace, fld_congr hpace, fld_congr hdie]
  obtain ⟨hp, hmin⟩ := s.fld_showPace pace
  exact ⟨hp, hmin, fld_setF_GLB_DIETEMP _ die⟩

/-- What a sample reaches beside the registers: the cycle's lowest PACE, the lowest VIN under a warning and the count of the 100 ms (R68). -/
def noteSample (pace vin : Half) : State :=
  { s with
    cyc := { s.cyc with minPace := min pace.toNat s.cyc.minPace }
    sup := { s.sup with lowVin := if s.pfw then min s.sup.lowVin vin.toNat else s.sup.lowVin
                        restoredAt := if vin.toNat < 10500 then none else s.sup.restoredAt } }

theorem rd_noteSample (pace vin : Half) (b : Nat) : (s.noteSample pace vin).rd b = s.rd b := rfl

theorem noteSample_points (pace vin : Half) : (s.noteSample pace vin).points = s.points := rfl

/-- The THERMAL event does not touch the supply. -/
theorem thermalEvent_sup (temp : Half) (action : Nat) : (s.thermalEvent temp action).sup = s.sup := by
  rw [thermalEvent, sup_event, setF_sup]

end State

end Sys2Proof.Machine

end

section
/-!
SUPPORT. What each pin does (R30 to R32, R44, R68, R72).
-/
set_option autoImplicit false
namespace Sys2Proof.Machine

variable {s : State}

/-- Module reset ends with VIN good, where PERST_N does not hold it. -/
theorem exec_powerGood_endsReset {vin : Half} (hgood : s.sup.powerGood = false) (hvin : 10500 ≤ vin.toNat) (hreset : s.sup.inReset = true)
    (hperst : s.sup.perst = false) :
    exec (.powerGood vin) s = .next ((({ s with sup := { s.sup with powerGood := true } } : State).endReset).showVin vin) := by
  change execPowerGood vin s = _
  rw [execPowerGood, if_neg (by simp [hgood, hvin])]
  dsimp only
  rw [if_pos (by simp [hreset, hperst])]

section

variable (hreset : s.sup.inReset = false) (hperst : s.sup.perst = false)
include hreset hperst

/-- An assertion that takes effect, with the flush it meets. -/
theorem execPerstAssert_running : execPerstAssert s =
    let t : State := { s with sup := { s.sup with perst := true, relWaits := false } }
    .next (if t.sup.flush == .done then ({ t with sup := { t.sup with powerGood := s.vinPresent } } : State).restart
      else if t.sup.flush == .running then { t with sup := { t.sup with flushFor := .perst } }
      else t.flushNow .perst) := by
  rw [execPerstAssert]
  dsimp only
  rw [if_neg (by simp [hreset, hperst])]

theorem exec_perstAssert_flushed (hflush : s.sup.flush = .done) : exec .perstAssert s =
    .next ({ s with sup := { s.sup with perst := true, relWaits := false, powerGood := s.vinPresent } } : State).restart := by
  change execPerstAssert s = _
  rw [execPerstAssert_running hreset hperst]
  dsimp only
  rw [if_pos (by rw [hflush]; rfl)]

theorem exec_perstAssert_idle (hflush : s.sup.flush = .idle) : exec .perstAssert s =
    .next (({ s with sup := { s.sup with perst := true, relWaits := false } } : State).flushNow .perst) := by
  change execPerstAssert s = _
  rw [execPerstAssert_running hreset hperst]
  dsimp only
  rw [if_neg (by rw [hflush]; decide), if_neg (by rw [hflush]; decide)]

end

theorem exec_perstRelease_flushing (hperst : s.sup.perst = true) (hflush : s.sup.flush = .running) :
    exec .perstRelease s = .next { s with sup := { s.sup with relWaits := true } } := by
  change execPerstRelease s = _
  rw [execPerstRelease, if_neg (by simp [hperst]), if_pos (by rw [hflush]; rfl)]

theorem exec_perstRelease_endsReset (hperst : s.sup.perst = true) (hflush : s.sup.flush ≠ .running) (hreset : s.sup.inReset = true)
    (hgood : s.sup.powerGood = true) : exec .perstRelease s = .next (({ s with sup := { s.sup with perst := false } } : State).endReset) := by
  change execPerstRelease s = _
  rw [execPerstRelease, if_neg (by simp [hperst]), if_neg (by simpa using hflush)]
  dsimp only
  rw [if_pos (by simp [hreset, hgood])]

/-- The level is recorded, with an event where it changed; the unit stays until the next module reset (R31). -/
theorem exec_unitSelChange_spec (lvl : Bool) : ∃ t, exec (.unitSelChange lvl) s = .next t ∧ t.sup.unitSel = lvl ∧ t.unit = s.unit := by
  refine ⟨_, rfl, ?_⟩
  split
  · exact ⟨rfl, rfl⟩
  · rw [State.sup_event]
    exact ⟨rfl, State.fld_congr (State.rd_event _ _ _ _ _ _) _⟩

theorem exec_maintNChange_spec (hreset : s.sup.inReset = false) (on : Bool) : ∃ t, exec (.maintNChange on) s = .next t ∧ t.sup.maintPin = on ∧
    t.flag Reg.GLB_STATUS F.GLB_STATUS_MAINT = on ∧ (∀ b, b ≠ Reg.GLB_STATUS → t.rd b = s.rd b) := by
  refine ⟨_, rfl, ?_⟩
  rw [if_neg (by simp [hreset])]
  exact ⟨rfl, State.flag_setF_self _ _ (by decide) rfl on, fun b hb => State.rd_setF_other _ _ _ _ hb _⟩

/-- A change of the pin is shown and raises its cause (R32). -/
theorem exec_emergNChange_changed {on : Bool} (hreset : s.sup.inReset = false) (hchange : s.sup.emergPin ≠ on) : exec (.emergNChange on) s =
    .next ((({ s with sup := { s.sup with emergPin := on } } : State).setF Reg.GLB_STATUS F.GLB_STATUS_EMERG (bit on)).setCause 5) := by
  change execEmergNChange on s = _
  rw [execEmergNChange]
  dsimp only
  rw [if_neg (by simp [hreset]), if_neg (by simpa using hchange)]

theorem exec_backupLost_unpowered (h : s.vinPresent = false) : exec .backupLost s = .next { s with cal := { s.cal with lost := true } } := by
  change execBackupLost s = _
  rw [execBackupLost, if_neg (by simp [h])]

end Sys2Proof.Machine

end

section
/-!
SUPPORT. What a power-fail warning, the flush it starts and the return of VIN do (R42, R68, R69, R71, R73).
-/
set_option autoImplicit false
namespace Sys2Proof.Machine

variable {s : State}

section

variable {vin : Half} (riser : Half) (hgood : s.sup.powerGood = true) (hvin : vin.toNat < 10200)
include hgood hvin

theorem exec_powerFailWarning_first (hreset : s.sup.inReset = false) (hpfw : s.pfw = false) : exec (.powerFailWarning vin riser) s =
    .next (let t := ((s.riserSample (s.fld Reg.GLB_SUPPLY F.GLB_SUPPLY_VIN) riser.toNat).showVin vin).setF Reg.GLB_FLAGS F.GLB_FLAGS_PFW_SEEN 1
      t.warn vin.toNat (t.fld Reg.GLB_SUPPLY F.GLB_SUPPLY_RISER)) := by
  change execPowerFailWarning vin riser s = _
  rw [execPowerFailWarning, if_neg (by simp [hgood, hvin]), if_neg (by simp [hreset])]
  dsimp only
  rw [if_neg (by simp [hpfw])]

theorem exec_powerFailWarning_inReset (hreset : s.sup.inReset = true) : exec (.powerFailWarning vin riser) s =
    .next { s with sup := { s.sup with powerGood := false, riserHeld := 0 } } := by
  change execPowerFailWarning vin riser s = _
  rw [execPowerFailWarning, if_neg (by simp [hgood, hvin]), if_pos hreset]

end

theorem exec_flushBegin_due (hflush : s.sup.flush = .warned) (hdue : s.sup.warnAt + ms 1 ≤ s.now) (hpause : s.pausing = false) :
    exec .flushBegin s = .next (s.beginFlush .supply) := by
  change execFlushBegin s = _
  rw [execFlushBegin, if_neg (by simp [hflush, hdue]), if_neg (by simp [hpause])]

/-- A flush that module reset does not follow ends in the hold of its cause: FLUSH_HOLD (R69), or the hold of a hot die (R47). -/
theorem exec_flushDone_holds (hflush : s.sup.flush = .running) :
    (s.endFlush.sup.flushFor = .supply → exec .flushDone s = .next (s.endFlush.setF Reg.GLB_BOOTSTAGE F.GLB_BOOTSTAGE_STAGE 9)) ∧
    (s.endFlush.sup.flushFor = .thermal → exec .flushDone s = .next (s.endFlush.setF Reg.GLB_BOOTSTAGE F.GLB_BOOTSTAGE_STAGE 0xA)) := by
  change (_ → execFlushDone s = _) ∧ (_ → execFlushDone s = _)
  rw [execFlushDone, if_neg (by simp [hflush])]
  dsimp only
  exact ⟨fun hfor => by rw [hfor], fun hfor => by rw [hfor]⟩

theorem exec_vinRestored_first {vin : Half} (hvin : 10500 ≤ vin.toNat) (hpfw : s.pfw = true) (hnone : s.sup.restoredAt = none) : exec (.vinRestored vin) s =
    .next { s.showVin vin with sup := { (s.showVin vin).sup with restoredAt := some s.now, riserHeld := s.fld Reg.GLB_SUPPLY F.GLB_SUPPLY_RISER } } := by
  change execVinRestored vin s = _
  rw [execVinRestored, if_neg (by omega)]
  dsimp only
  rw [if_pos (by simp [hpfw, hnone])]

theorem exec_serviceResume_due {r : Nat} (hrest : s.sup.restoredAt = some r) (hpfw : s.pfw = true) (hflush : s.sup.flush = .done)
    (hfor : s.sup.flushFor = .supply) (hdue : r + ms 100 ≤ s.now) (hrefused : s.resumeService.sup.refused = false) :
    exec .serviceResume s = .next s.resumeService.resumeOutputs.finishActivate := by
  change execServiceResume s = _
  rw [execServiceResume, hrest]
  dsimp only
  rw [if_neg (by simp [hpfw, hflush, hfor, hdue]), if_neg (by simp [hrefused])]

theorem exec_riserExhausted_warned (hpfw : s.pfw = true) (n : Nat) : exec (.riserExhausted n) s = .next ({ s.cutFlush n with sup :=
    { (s.cutFlush n).sup with powerGood := false, riserHeld := 0, perst := (s.cutFlush n).sup.perst && !(s.cutFlush n).sup.relWaits } } : State).moduleReset := by
  change execRiserExhausted n s = _
  rw [execRiserExhausted, if_neg (by simp [hpfw])]

theorem exec_riserOk_charging (hreset : s.sup.inReset = false) (hoff : s.onRiser = false) :
    let v := max (s.fld Reg.GLB_RISERREADY F.GLB_RISERREADY_LEVEL) (s.fld Reg.GLB_SUPPLY F.GLB_SUPPLY_RISER)
    exec .riserOk s = .next (({ s with sup := { s.sup with riserHeld := max v s.sup.riserHeld } } : State).setF Reg.GLB_SUPPLY F.GLB_SUPPLY_RISER v).showRiser := by
  change execRiserOk s = _
  rw [execRiserOk]
  dsimp only
  rw [if_neg (by simp [hreset, hoff])]

end Sys2Proof.Machine

end

section
/-!
SUPPORT. What the end of a ramp, a PACE sample and the limits of the die temperature do (R47, R59, R60).
-/
set_option autoImplicit false
namespace Sys2Proof.Machine

variable {s : State}

theorem exec_ebbRampEnd_spec {ebb : Bool} (h : s.sup.ramp = some ebb) : ∃ t, exec .ebbRampEnd s = .next t ∧ t.sup.ramp = none ∧
    t.flag Reg.GLB_STATUS F.GLB_STATUS_EBB = ebb ∧ (∀ b, b ≠ Reg.GLB_STATUS → t.rd b = s.rd b) := by
  refine ⟨_, rfl, ?_⟩
  rw [h]
  exact ⟨rfl, State.flag_setF_self _ _ (by decide) rfl ebb, fun b hb => State.rd_setF_other _ _ _ _ hb _⟩

theorem exec_paceSample_running (hreset : s.sup.inReset = false) (p die vin riser vbak : Half) :
    exec (.paceSample p die vin riser vbak) s = .next (((s.showSample p die vin riser vbak).noteSample p vin).refreshCharger.noteSlow p.toNat) := by
  change execPaceSample p die vin riser vbak s = _
  rw [execPaceSample, if_neg (by simp [hreset])]
  rfl

theorem exec_paceSample_spec (hreset : s.sup.inReset = false) (p die vin riser vbak : Half) : ∃ t, exec (.paceSample p die vin riser vbak) s = .next t ∧
    t.fld Reg.GLB_PACE F.GLB_PACE_PACE = p.toNat ∧ t.fld Reg.GLB_PACE F.GLB_PACE_PACE_MIN = min p.toNat (s.fld Reg.GLB_PACE F.GLB_PACE_PACE_MIN) ∧
    t.fld Reg.GLB_DIETEMP F.GLB_DIETEMP_TEMP = die.toNat ∧ t.points = s.points := by
  have hreg {b : Nat} (hrtc : b ≠ Reg.RTC_STATUS) (hflags : b ≠ Reg.GLB_FLAGS) :
      (((s.showSample p die vin riser vbak).noteSample p vin).refreshCharger.noteSlow p.toNat).rd b = (s.showSample p die vin riser vbak).rd b := by
    rw [State.rd_noteSlow _ _ hflags, State.rd_refreshCharger _ hrtc, State.rd_noteSample]
  have hpace := hreg (b := Reg.GLB_PACE) (by decide) (by decide)
  have hdie := hreg (b := Reg.GLB_DIETEMP) (by decide) (by decide)
  have hpoints : (((s.showSample p die vin riser vbak).noteSample p vin).refreshCharger.noteSlow p.toNat).points = s.points := by
    rw [State.noteSlow_points, State.refreshCharger_points, State.noteSample_points, State.showSample_points]
  obtain ⟨hp, hmin, htemp⟩ := s.fld_showSample p die vin riser vbak
  exact ⟨_, exec_paceSample_running hreset p die vin riser vbak, (State.fld_congr hpace _).trans hp, (State.fld_congr hpace _).trans hmin,
    (State.fld_congr hdie _).trans htemp, hpoints⟩

section

variable {temp : Half} (hreset : s.sup.inReset = false)
include hreset

theorem exec_thermalEbb_forces (htemp : 1760 ≤ temp.toInt) (hforced : s.flag Reg.GLB_STATUS F.GLB_STATUS_FORCED_EBB = false) :
    exec (.thermalEbb temp) s =
      .next (((((s.setF Reg.GLB_STATUS F.GLB_STATUS_FORCED_EBB 1).setF Reg.GLB_FLAGS F.GLB_FLAGS_THERMAL 1).thermalEvent temp 1).setCause 6).rampTo true) := by
  change execThermalEbb temp s = _
  rw [execThermalEbb, if_neg (by simp [hreset, hforced, htemp])]

theorem exec_thermalEbbRelease_forced (htemp : temp.toInt < 1600) (hhot : s.sup.hot = false) (hforced : s.flag Reg.GLB_STATUS F.GLB_STATUS_FORCED_EBB = true) :
    exec (.thermalEbbRelease temp) s =
      .next ((((s.setF Reg.GLB_STATUS F.GLB_STATUS_FORCED_EBB 0).thermalEvent temp 2).setCause 6).rampTo (s.flag Reg.GLB_VSTATE F.GLB_VSTATE_EBB)) := by
  change execThermalEbbRelease temp s = _
  rw [execThermalEbbRelease, if_neg (by simp [hreset, htemp])]
  dsimp only
  rw [hhot, if_neg Bool.false_ne_true, if_pos hforced]

theorem exec_thermalHold_flushes (htemp : 2000 ≤ temp.toInt) (hflush : s.sup.flush = .idle) (hrole : s.role ≠ .active) :
    exec (.thermalHold temp) s = .next ((s.thermalEvent temp 3).flushNow .thermal) := by
  have hidle : (s.thermalEvent temp 3).sup.flush = .idle := by rw [State.thermalEvent_sup, hflush]
  have hyields : ¬ ((s.role == .active && s.paired) = true) := by simp [hrole]
  change execThermalHold temp s = _
  rw [execThermalHold, if_neg (by simp [hreset, hflush, htemp])]
  dsimp only
  rw [if_neg hyields, hidle]
  rfl

end

theorem exec_thermalRestart_cooled {temp : Half} (hstage : s.stage = 0xA) (htemp : temp.toInt < 1600) :
    exec (.thermalRestart temp) s = .next (s.restart.thermalEvent temp 4) := by
  change execThermalRestart temp s = _
  rw [execThermalRestart, if_neg (by simp [hstage, htemp])]

end Sys2Proof.Machine

end

section
set_option autoImplicit false
open Sys2Proof Sys2Proof.Machine

/-- Settles O19: event by event, the case of its meaning that the hypotheses select, and what the registers show after it. -/
theorem pinAndSupplyEvents : Obligations.PinAndSupplyEvents := by
  refine ⟨fun s => ?pins, fun s => ?supply⟩
  case pins =>
    exact ⟨fun _ => exec_powerGood_endsReset, exec_perstAssert_flushed, exec_perstAssert_idle, exec_perstRelease_flushing, exec_perstRelease_endsReset,
      fun lvl => exec_unitSelChange_spec lvl, fun on h => exec_maintNChange_spec h on, fun _ => exec_emergNChange_changed, exec_backupLost_unpowered⟩
  case supply =>
    exact ⟨fun _ riser hreset hgood hvin hpfw => exec_powerFailWarning_first riser hgood hvin hreset hpfw,
      fun _ riser hreset hgood hvin => exec_powerFailWarning_inReset riser hgood hvin hreset,
      fun _ riser hoff hcharge hheld hvin => State.riserSample_bounds hoff hcharge hheld hvin riser,
      exec_flushBegin_due, fun hflush => (exec_flushDone_holds hflush).1, fun hflush => (exec_flushDone_holds hflush).2,
      fun _ => exec_vinRestored_first, fun _ => exec_serviceResume_due,
      fun n hpfw => exec_riserExhausted_warned hpfw n, exec_riserOk_charging, fun _ => exec_ebbRampEnd_spec,
      fun p die vin riser vbak hreset => exec_paceSample_spec hreset p die vin riser vbak,
      fun _ => exec_thermalEbb_forces, fun _ => exec_thermalEbbRelease_forced, fun _ => exec_thermalHold_flushes, fun _ => exec_thermalRestart_cooled⟩

end

section
/-!
SUPPORT. What the operations behind the stages of start-up leave in the registers: the stage reached, the pattern that boots, the remap table (R54, R135, R464, R465).
-/
set_option autoImplicit false
namespace Sys2Proof.Machine

theorem otherSlot_lt (k : Nat) : otherSlot k < 2 := by
  unfold otherSlot
  omega

theorem patFld_fits (k : Nat) : (patFld k).fits = true := by
  unfold patFld
  split <;> decide

theorem patFld_width (k : Nat) : (patFld k).width = 3 := by
  unfold patFld
  split <;> rfl

/-- The state codes of the slots share no bit with the boot slot. -/
theorem patFld_apart_BOOT (k : Nat) : (patFld k).apart F.PAT_STATUS_BOOT = true := by
  unfold patFld
  split <;> decide

/-- The state codes of the slots share no bit with the mark of a fallback. -/
theorem patFld_apart_BOOT_FALLBACK (k : Nat) : (patFld k).apart F.PAT_STATUS_BOOT_FALLBACK = true := by
  unfold patFld
  split <;> decide

namespace State

variable (s : State)

/-! ### The stage -/

theorem stage_setStage {n : Nat} (hn : n < 16) : (s.setStage n).stage = n := by
  rw [stage, setStage, fld_setF_self _ _ _ (by decide)]
  exact Nat.mod_eq_of_lt hn

theorem rd_setStage (n : Nat) {b : Nat} (h : b ≠ Reg.GLB_BOOTSTAGE) : (s.setStage n).rd b = s.rd b := s.rd_setF_other _ _ _ h _

theorem startingAt_stage {s : State} {n : Nat} (h : s.startingAt n = true) : s.stage = n := by
  simp only [startingAt, Bool.and_eq_true, beq_iff_eq] at h
  exact h.1.2

/-! ### Stages 0x1 and 0x2: core voltage and the pattern that boots -/

/-- PACE and die temperature as the first sample leaves them (R54). -/
def showFirstSample (pace die : Half) : State :=
  (s.setF Reg.GLB_PACE F.GLB_PACE_PACE pace.toNat).setF Reg.GLB_DIETEMP F.GLB_DIETEMP_TEMP die.toNat

theorem fld_showFirstSample (pace die : Half) : (s.showFirstSample pace die).fld Reg.GLB_PACE F.GLB_PACE_PACE = pace.toNat ∧
    (s.showFirstSample pace die).fld Reg.GLB_DIETEMP F.GLB_DIETEMP_TEMP = die.toNat := by
  refine ⟨?_, fld_setF_GLB_DIETEMP _ die⟩
  rw [showFirstSample, fld_setF_other _ _ _ _ (by decide), fld_setF_self _ _ _ (by decide)]
  exact Nat.mod_eq_of_lt pace.isLt

theorem stage_showFirstSample (pace die : Half) : (s.showFirstSample pace die).stage = s.stage := by
  rw [stage, showFirstSample, fld_setF_other _ _ _ _ (by decide), fld_setF_other _ _ _ _ (by decide), stage]

/-- The core voltage is ready, or the sequence waits for the die to cool. -/
def takeVcore (hot : Bool) : State := { s with sup := { s.sup with hot := hot, vcoreReady := !hot } }

theorem rd_takeVcore (hot : Bool) (b : Nat) : (s.takeVcore hot).rd b = s.rd b := rfl

theorem bootSlot_lt : s.bootSlot < 2 := Nat.mod_lt _ (by decide)

/-- Stage 0x2 has been reached. -/
def noteStage2 : State := { s with sup := { s.sup with stage2 := true } }

theorem rd_noteStage2 (b : Nat) : s.noteStage2.rd b = s.rd b := rfl

/-- Slot `k` runs and the module stands at stage 0x2. -/
def startPattern (k : Nat) : State := (s.bootPattern k).noteStage2

theorem rd_startPattern (k b : Nat) : (s.startPattern k).rd b = (s.bootPattern k).rd b := rd_noteStage2 _ b

theorem rd_startPattern_PAT_STATUS (k : Nat) : (s.startPattern k).rd Reg.PAT_STATUS = ((s.setBoot k).setPatState k 4).rd Reg.PAT_STATUS := by
  rw [rd_startPattern, bootPattern]
  rw [rd_setStage _ _ (by decide), rd_wrN_other _ _ (by decide), rd_setF_other _ _ _ _ (by decide)]

theorem stage_startPattern (k : Nat) : (s.startPattern k).stage = 2 := by
  rw [stage, fld_congr (s.rd_startPattern k _)]
  exact stage_setStage _ (by decide)

theorem bootSlot_startPattern {k : Nat} (hk : k < 2) : (s.startPattern k).bootSlot = k := by
  rw [bootSlot, fld_congr (s.rd_startPattern_PAT_STATUS k), setPatState, fld_setF_apart _ _ _ (patFld_fits k) (patFld_apart_BOOT k), setBoot,
    fld_setF_self _ _ _ (by decide)]
  exact Nat.mod_eq_of_lt hk

/-- The slot that boots is RUNNING (R464). -/
theorem patState_startPattern (k : Nat) : (s.startPattern k).patState k = 4 := by
  rw [patState, fld_congr (s.rd_startPattern_PAT_STATUS k), setPatState, fld_setF_self _ _ _ (patFld_fits k), patFld_width]
  rfl

theorem runSlot_startPattern {k : Nat} (hk : k < 2) : (s.startPattern k).fld Reg.GLB_STATUS F.GLB_STATUS_PAT_SLOT = k := by
  rw [fld_congr (s.rd_startPattern k _), bootPattern]
  rw [fld_congr (rd_setStage _ _ (by decide)), fld_congr (rd_wrN_other _ _ (by decide)), fld_setF_self _ _ _ (by decide)]
  exact Nat.mod_eq_of_lt hk

/-- The start of a slot leaves the mark of a fallback. -/
theorem bootFallback_startPattern (k : Nat) :
    (s.startPattern k).flag Reg.PAT_STATUS F.PAT_STATUS_BOOT_FALLBACK = s.flag Reg.PAT_STATUS F.PAT_STATUS_BOOT_FALLBACK := by
  rw [flag_congr (s.rd_startPattern_PAT_STATUS k), setPatState, flag_setF_apart _ _ _ (patFld_fits k) (patFld_apart_BOOT_FALLBACK k), setBoot,
    flag_setF_apart _ _ _ (by decide) (by decide)]

/-- The boot slot `k` does not verify: it is marked, and the fallback is shown and recorded (R56, R465). -/
def rejectBoot (k : Nat) : State := ((s.setPatState k 2).setF Reg.PAT_STATUS F.PAT_STATUS_BOOT_FALLBACK 1).event 0x1505 2 noInst (le 1 k)

theorem bootFallback_rejectBoot (k : Nat) : (s.rejectBoot k).flag Reg.PAT_STATUS F.PAT_STATUS_BOOT_FALLBACK = true := by
  rw [rejectBoot, flag_congr (rd_event _ _ _ _ _ _), flag_setF_one _ _ (by decide) rfl]

/-! ### Stage 0x3: the remap table (R135) -/

/-- Storing one field register after another reaches the registers alone. -/
theorem foldl_setF_rest {α : Type} (l : List α) (a v : α → Nat) (f : Fld) :
    ∃ r, l.foldl (fun (t : State) x => t.setF (a x) f (v x)) s = { s with regs := r } := by
  induction l generalizing s with
  | nil => exact ⟨_, rfl⟩
  | cons x l ih => exact ih _

/-- The remap table reaches the registers alone. -/
theorem applyRemap_rest : ∃ r, s.applyRemap = { s with regs := r } := by
  obtain ⟨r, h⟩ := s.foldl_setF_rest s.flash.remap (fun e => Reg.MEM_BANK e.1) (fun e => e.2) F.MEM_BANK_PHYS
  rw [applyRemap, h]
  exact ⟨_, rfl⟩

theorem keys_applyRemap : s.applyRemap.keys = s.keys := by
  obtain ⟨r, h⟩ := s.applyRemap_rest
  rw [h]

theorem points_applyRemap : s.applyRemap.points = s.points := by
  obtain ⟨r, h⟩ := s.applyRemap_rest
  rw [h]

theorem sparesFree_applyRemap : s.applyRemap.fld Reg.MEM_STATUS F.MEM_STATUS_SPARES_FREE = 8 - s.flash.sparesUsed := by
  have hfits : 8 - s.flash.sparesUsed < 2 ^ 4 := by omega
  rw [applyRemap, fld_setF_self _ _ _ (by decide)]
  exact Nat.mod_eq_of_lt hfits

/-! ### Stage 0x7: the configuration copy (R65, R67) -/

/-- Copy `k` is rewritten from the running one. -/
def rewriteCopy (k : Nat) : State :=
  { s with flash := { s.flash with copies := mapPut s.flash.copies k s.runningImage }, sup := { s.sup with rewrite := none } }

theorem copy_rewriteCopy (k j : Nat) : (s.rewriteCopy k).copy j = if j = k then s.runningImage else s.copy j := mapGet_mapPut _ _ _ _ _

end State

end Sys2Proof.Machine

end

section
/-!
SUPPORT. What each stage of start-up does where the sequence stands at the stage before it (R54, R56, R58, R64 to R67, R71, R465).
-/
set_option autoImplicit false
namespace Sys2Proof.Machine

variable {s : State}

/-! ### Stages 0x1 and 0x2 -/

theorem exec_vcoreReady_waiting (hstart : s.startingAt 1 = true) (hwaits : s.sup.vcoreReady = false) (hcool : s.sup.hot = false) (p die : Half) :
    exec (.vcoreReady p die) s = .next ((s.showFirstSample p die).takeVcore (decide (1760 ≤ die.toInt))) := by
  change execVcoreReady p die s = _
  rw [execVcoreReady, if_neg (by simp [hstart, hwaits, hcool])]
  rfl

/-- The core voltage is ready unless the die is at 110 °C or more (R54). -/
theorem exec_vcoreReady_spec (hstart : s.startingAt 1 = true) (hwaits : s.sup.vcoreReady = false) (hcool : s.sup.hot = false) (p die : Half) :
    ∃ t, exec (.vcoreReady p die) s = .next t ∧ t.sup.hot = decide (1760 ≤ die.toInt) ∧ t.sup.vcoreReady = !(decide (1760 ≤ die.toInt)) ∧
      t.fld Reg.GLB_PACE F.GLB_PACE_PACE = p.toNat ∧ t.fld Reg.GLB_DIETEMP F.GLB_DIETEMP_TEMP = die.toNat ∧ t.stage = 1 := by
  have hreg := (s.showFirstSample p die).rd_takeVcore (decide (1760 ≤ die.toInt))
  obtain ⟨hpace, hdie⟩ := s.fld_showFirstSample p die
  have hstage := (s.stage_showFirstSample p die).trans (State.startingAt_stage hstart)
  exact ⟨_, exec_vcoreReady_waiting hstart hwaits hcool p die, rfl, rfl, (State.fld_congr (hreg _) _).trans hpace, (State.fld_congr (hreg _) _).trans hdie,
    (State.fld_congr (hreg _) _).trans hstage⟩

section

variable (hstart : s.startingAt 1 = true) (hready : s.sup.vcoreReady = true)
include hstart hready

/-- The boot slot runs where it verifies, else the other one, else none (R56, R465). -/
theorem exec_stagePattern_ready : exec .stagePattern s =
    if s.rollTrial.slotVerifies s.rollTrial.bootSlot then .next (s.rollTrial.startPattern s.rollTrial.bootSlot)
    else if s.rollTrial.slotVerifies (otherSlot s.rollTrial.bootSlot) then
      .next ((s.rollTrial.rejectBoot s.rollTrial.bootSlot).startPattern (otherSlot s.rollTrial.bootSlot))
    else .next (s.rollTrial.setStage 0xF) := by
  change execStagePattern s = _
  rw [execStagePattern, if_neg (by simp [hstart, hready])]
  rfl

theorem exec_stagePattern_boots (hgood : s.rollTrial.slotVerifies s.rollTrial.bootSlot = true) : ∃ t, exec .stagePattern s = .next t ∧
    t.stage = 2 ∧ t.sup.stage2 = true ∧ t.bootSlot = s.rollTrial.bootSlot ∧ t.patState t.bootSlot = 4 ∧
    t.fld Reg.GLB_STATUS F.GLB_STATUS_PAT_SLOT = s.rollTrial.bootSlot := by
  have hk := s.rollTrial.bootSlot_lt
  have hboot := s.rollTrial.bootSlot_startPattern hk
  have hstate : (s.rollTrial.startPattern s.rollTrial.bootSlot).patState (s.rollTrial.startPattern s.rollTrial.bootSlot).bootSlot = 4 := by
    rw [hboot, State.patState_startPattern]
  rw [exec_stagePattern_ready hstart hready, if_pos hgood]
  exact ⟨_, rfl, State.stage_startPattern _ _, rfl, hboot, hstate, State.runSlot_startPattern _ hk⟩

section

variable (hbad : s.rollTrial.slotVerifies s.rollTrial.bootSlot = false)
include hbad

theorem exec_stagePattern_halts (hother : s.rollTrial.slotVerifies (otherSlot s.rollTrial.bootSlot) = false) :
    ∃ t, exec .stagePattern s = .next t ∧ t.stage = 0xF := by
  rw [exec_stagePattern_ready hstart hready, if_neg (by simp [hbad]), if_neg (by simp [hother])]
  exact ⟨_, rfl, State.stage_setStage _ (by decide)⟩

theorem exec_stagePattern_fallsBack (hother : s.rollTrial.slotVerifies (otherSlot s.rollTrial.bootSlot) = true) :
    ∃ t, exec .stagePattern s = .next t ∧ t.stage = 2 ∧ t.sup.stage2 = true ∧ t.flag Reg.PAT_STATUS F.PAT_STATUS_BOOT_FALLBACK = true ∧
      t.fld Reg.GLB_STATUS F.GLB_STATUS_PAT_SLOT = otherSlot s.rollTrial.bootSlot := by
  rw [exec_stagePattern_ready hstart hready, if_neg (by simp [hbad]), if_pos hother]
  exact ⟨_, rfl, State.stage_startPattern _ _, rfl, (State.bootFallback_startPattern _ _).trans (State.bootFallback_rejectBoot _ _),
    State.runSlot_startPattern _ (otherSlot_lt _)⟩

end

end

/-! ### Stages 0x3 to 0x5 -/

theorem exec_stageMemory_noIntent (hstart : s.startingAt 2 = true) (hintent : s.keys.intent = none) : ∃ t, exec .stageMemory s = .next t ∧
    t.stage = 3 ∧ t.points = s.points ∧ t.fld Reg.MEM_STATUS F.MEM_STATUS_SPARES_FREE = 8 - s.flash.sparesUsed := by
  have hexec : exec .stageMemory s = .next (s.applyRemap.setStage 3) := by
    have hnone : (s.applyRemap.setStage 3).keys.intent = none := by rw [State.setStage, State.setF_keys, State.keys_applyRemap, hintent]
    change execStageMemory s = _
    rw [execStageMemory, if_neg (by simp [hstart])]
    dsimp only
    rw [hnone]
  have hspares : (s.applyRemap.setStage 3).fld Reg.MEM_STATUS F.MEM_STATUS_SPARES_FREE = 8 - s.flash.sparesUsed := by
    rw [State.fld_congr (State.rd_setStage _ _ (by decide)), State.sparesFree_applyRemap]
  exact ⟨_, hexec, State.stage_setStage _ (by decide), s.points_applyRemap, hspares⟩

/-- Factory defaults run in RETURNED (R452), a copy of flash otherwise (R65). -/
theorem exec_stageConfig_starting (hstart : s.startingAt 3 = true) :
    exec .stageConfig s = .next (((if s.lifeCycle = 3 then s.startDefaults else s.selectConfig).setStage 4).becomeReady) := by
  change execStageConfig s = _
  rw [execStageConfig, if_neg (by simp [hstart])]

theorem exec_stageRestore_starting (hstart : s.startingAt 4 = true) : exec .stageRestore s = .next
    ((((s.setStage 5).startTime.restorePoints s.flash.newestSlot).restoreMeter s.flash.newestSlot).reportFlush s.flash.newestSlot) := by
  change execStageRestore s = _
  rw [execStageRestore, if_neg (by simp [hstart])]

/-! ### Stages 0x6 and 0x7 -/

namespace State

/-- Role determination begins, but not under factory defaults (R54). -/
def decideRole (s : State) : State := if s.defaulted then s else s.beginRole

/-- A witness holds for twice the loss time after its restart (R436). -/
def holdWitness (s : State) : State := { s with rdn := { s.rdn with holdUntil := s.now + 2 * s.lossNs } }

end State

section

variable (hstart : s.startingAt 5 = true)
include hstart

/-- Receivers are enabled for the role decided, and a witness holds first (R54, R436). -/
theorem exec_stageRole_starting : exec .stageRole s =
    let t := (s.setStage 6).decideRole
    .next (((if t.role == .witness then t.holdWitness else t).roleTrunks false).showRadStates) := by
  change execStageRole s = _
  rw [execStageRole, if_neg (by simp [hstart])]
  rfl

theorem exec_stageRole_unit (hrole : (s.setStage 6).decideRole.role ≠ .witness) :
    exec .stageRole s = .next (((s.setStage 6).decideRole.roleTrunks false).showRadStates) := by
  rw [exec_stageRole_starting hstart]
  dsimp only
  rw [if_neg (by simpa using hrole)]

theorem exec_stageRole_witness (hrole : (s.setStage 6).decideRole.role = .witness) :
    exec .stageRole s = .next (((s.setStage 6).decideRole.holdWitness.roleTrunks false).showRadStates) := by
  rw [exec_stageRole_starting hstart]
  dsimp only
  rw [if_pos (by simpa using hrole)]

theorem exec_stageRole_defaults (hdefaults : (s.setStage 6).defaulted = true) (hrole : (s.setStage 6).role ≠ .witness) :
    exec .stageRole s = .next (((s.setStage 6).roleTrunks false).showRadStates) := by
  have hkeeps : (s.setStage 6).decideRole = s.setStage 6 := if_pos hdefaults
  rw [exec_stageRole_unit hstart (by rwa [hkeeps]), hkeeps]

theorem exec_stageRole_configured (hconfigured : (s.setStage 6).defaulted = false) :
    let t := (s.setStage 6).beginRole
    (t.role ≠ .witness → exec .stageRole s = .next ((t.roleTrunks false).showRadStates)) ∧
    (t.role = .witness → exec .stageRole s = .next ((t.holdWitness.roleTrunks false).showRadStates)) := by
  have hbegins : (s.setStage 6).decideRole = (s.setStage 6).beginRole := if_neg (by simp [hconfigured])
  dsimp only
  rw [← hbegins]
  exact ⟨exec_stageRole_unit hstart, exec_stageRole_witness hstart⟩

end

theorem exec_roleSettled_first (hstart : s.startingAt 6 = true) (hsettled : s.sup.roleSettled = false) :
    exec .roleSettled s = .next (({ s with sup := { s.sup with roleSettled := true } } : State).roleLamp.roleMeter.showRadStates) := by
  change execRoleSettled s = _
  rw [execRoleSettled, if_neg (by simp [hstart, hsettled])]

section

variable (hstart : s.startingAt 6 = true) (hsettled : s.sup.roleSettled = true)
include hstart hsettled

/-- The cycles start; a witness is in service at once (R54). -/
theorem exec_stageRun_settled : exec .stageRun s =
    .next (if (s.setStage 7).startCycles.role == .witness then (s.setStage 7).startCycles.inService else (s.setStage 7).startCycles) := by
  change execStageRun s = _
  rw [execStageRun, if_neg (by simp [hstart, hsettled])]

theorem exec_stageRun_witness (hrole : (s.setStage 7).startCycles.role = .witness) : exec .stageRun s = .next (s.setStage 7).startCycles.inService := by
  rw [exec_stageRun_settled hstart hsettled, if_pos (by simpa using hrole)]

theorem exec_stageRun_unit (hrole : (s.setStage 7).startCycles.role ≠ .witness) : exec .stageRun s = .next (s.setStage 7).startCycles := by
  rw [exec_stageRun_settled hstart hsettled, if_neg (by simpa using hrole)]

end

/-- The copy due takes the running image, the others stand (R65, R67). -/
theorem exec_cfgCopyRewrite_due (hstart : s.startingAt 7 = true) {k : Nat} (hdue : s.sup.rewrite = some k) :
    ∃ t, exec .cfgCopyRewrite s = .next t ∧ t.sup.rewrite = none ∧ t.copy k = s.runningImage ∧
      t.flag Reg.GLB_STATUS F.GLB_STATUS_CFG_ONE_COPY = false ∧ (∀ j, j ≠ k → t.copy j = s.copy j) := by
  change ∃ t, execCfgCopyRewrite s = .next t ∧ _
  rw [execCfgCopyRewrite, if_neg (by simp [hstart]), hdue]
  exact ⟨_, rfl, rfl, (s.copy_rewriteCopy k k).trans (if_pos rfl), State.flag_setF_zero _ _ (by decide) rfl,
    fun j hj => (s.copy_rewriteCopy k j).trans (if_neg hj)⟩

end Sys2Proof.Machine

end

section
set_option autoImplicit false
open Sys2Proof Sys2Proof.Machine

/-- Settles O20: stage by stage, the case of its meaning that the hypotheses select, and what the stage leaves. -/
theorem startUpStages : Obligations.StartUpStages := by
  intro s
  refine ⟨fun p die hstart hwaits hcool => exec_vcoreReady_spec hstart hwaits hcool p die, exec_stagePattern_boots, exec_stagePattern_halts,
    exec_stagePattern_fallsBack, exec_stageMemory_noIntent, fun hstart hlc => ?copies, fun hstart hlc => ?returned, exec_stageRestore_starting,
    exec_stageRole_defaults, exec_stageRole_configured, exec_stageRun_witness, exec_roleSettled_first, exec_stageRun_unit,
    fun _ hstart hdue => exec_cfgCopyRewrite_due hstart hdue⟩
  case copies => rw [exec_stageConfig_starting hstart, if_neg hlc]
  case returned => rw [exec_stageConfig_starting hstart, if_pos hlc]

end

section
/-!
SUPPORT. The step of the block, by its queue.
-/
set_option autoImplicit false
namespace Sys2Proof.Machine

theorem step_of_pending {s : State} {c : Instr} {rest : List Instr} (h : s.pending = c :: rest) : step s = exec c { s with pending := rest } := by
  rw [step, h]

theorem step_of_empty {s : State} (h : s.pending = []) : step s = s.idle := by
  rw [step, h]

end Sys2Proof.Machine

open Sys2Proof Sys2Proof.Machine

/-- Settles O1: the first case of the step. -/
theorem stepRunsFrontCommand : Obligations.StepRunsFrontCommand := fun _ _ _ => step_of_pending

/-- Settles O2: the other case of the step, by the packet that may leave its tundish. -/
theorem stepOfEmptyQueue : Obligations.StepOfEmptyQueue := by
  intro s hq
  refine ⟨fun h hr => ?_, fun hr => ?_⟩
  · rw [step_of_empty hq, State.idle, hr]
    rfl
  · rw [step_of_empty hq, State.idle, hr]

end

section
/-!
SUPPORT. Bytes and their little-endian fields (R10): a field reads back the number that was laid down in its place.
-/
set_option autoImplicit false
namespace Sys2Proof.Machine

@[simp] theorem length_le (n v : Nat) : (le n v).length = n := by
  induction n generalizing v with
  | zero => rfl
  | succ n ih => simp [le, ih]

/-- The bytes of a number spell the number, cut to their count. -/
theorem ofLe_le (n v : Nat) : ofLe (le n v) = v % 256 ^ n := by
  induction n generalizing v with
  | zero => simp [le, ofLe, Nat.mod_one]
  | succ n ih => rw [le, ofLe, ih, BitVec.toNat_ofNat, Nat.pow_succ' (m := 256), Nat.mod_mul]

theorem ofLe_lt (bs : List Byte) : ofLe bs < 256 ^ bs.length := by
  induction bs with
  | nil => exact Nat.one_pos
  | cons b bs ih =>
    have hb : b.toNat < 256 := b.isLt
    rw [ofLe, List.length_cons, Nat.pow_succ]
    omega

theorem fieldLe_lt (bs : List Byte) (off n : Nat) : fieldLe bs off n < 256 ^ n :=
  (ofLe_lt _).trans_le (Nat.pow_le_pow_right (by decide) (List.length_take_le n _))

theorem fieldLe_le_zero (n v : Nat) (bs : List Byte) : fieldLe (le n v ++ bs) 0 n = v % 256 ^ n := by
  rw [fieldLe, slice, List.drop_zero, List.take_left' (length_le n v), ofLe_le]

/-- A field behind the first bytes is a field of the rest. -/
theorem fieldLe_le_append {n off : Nat} (h : n ≤ off) (v k : Nat) (bs : List Byte) : fieldLe (le n v ++ bs) off k = fieldLe bs (off - n) k := by
  rw [fieldLe, slice, List.drop_append, List.drop_of_length_le (by simpa using h), List.nil_append, length_le, fieldLe, slice]

/-- The entry of the full format is its fields in order. -/
theorem cplEntry_full (t : CmdTag) (status flags stamp r0 r1 : Nat) :
    cplEntry t status flags stamp r0 r1 false = le 4 t.cmdId.toNat ++ (le 4 t.sq ++ (le 1 t.ring ++ (le 1 status ++ (le 1 flags ++ (le 1 0 ++
      (le 2 t.op ++ (le 2 t.txn ++ (le 8 stamp ++ (le 4 r0 ++ (le 4 r1 ++ [])))))))))) := by
  rw [cplEntry, if_neg Bool.false_ne_true, List.take_of_length_le (by simp)]
  simp only [List.append_assoc, List.append_nil]
  rfl

end Sys2Proof.Machine

open Sys2Proof Sys2Proof.Machine

/-- Settles O14: each field is reached by dropping the fields before it, and reads back the number laid down. -/
theorem completionEntryLayout : Obligations.CompletionEntryLayout := by
  intro t status flags stamp r0 r1 hsq hring hstatus hflags hop htxn hstamp hr0 hr1 b
  have hb : b = _ := cplEntry_full t status flags stamp r0 r1
  have hid : t.cmdId.toNat < 2 ^ 32 := t.cmdId.isLt
  rw [hb]
  simp only [fieldLe_le_append, fieldLe_le_zero, Nat.reduceLeDiff, Nat.reduceSub]
  refine ⟨by simp, ?_⟩
  omega

end

section
set_option autoImplicit false
open Sys2Proof Sys2Proof.Machine

/-- Refutes O13: a descriptor of ring 2 that is slagged is a ring 2 write that does not complete OK, so it counts in PNT_CNT_REFUSED too (R155), which the last clause
leaves out. In the state after reset the counter stands at 1 where the clause has 0. -/
theorem not_completionsPosted : ¬ Obligations.CompletionsPosted := by
  rintro ⟨-, -, -, -, h⟩
  have hcount : (State.reset.slagNext 2 0 0 none).rdN Reg.PNT_CNT_REFUSED = 1 := by rfl
  rw [h State.reset 2 0 0] at hcount
  exact absurd hcount (by decide)

end

section
/-!
SUPPORT. HIF_VERSION (R79): when its block answers, and what a write of SELECT leaves.
-/
set_option autoImplicit false
namespace Sys2Proof.Machine

namespace State

variable {s : State}

/-- Online, every block answers (R480). -/
theorem answers_of_online (h : s.online = true) (a : Nat) : s.answers a = true := by
  simp only [online, Bool.and_eq_true, Bool.not_eq_true', bne_iff_ne] at h
  obtain ⟨⟨⟨hlink, hstage2⟩, hpausing⟩, hstage⟩ := h
  simp [answers, hlink, hstage, hpausing, hstage2]

theorem fld_setHifErr_HIF_VERSION (k : Nat) (f : Fld) : (s.setHifErr k).fld Reg.HIF_VERSION f = s.fld Reg.HIF_VERSION f :=
  fld_congr (s.rd_setHifErr k (by decide) (by decide) (by decide)) f

/-- A write of SELECT is refused while a ring is enabled, or for a version that is not supported. -/
theorem writeVersion_refused {v : Word}
    (h : (∃ n, n < 16 ∧ s.ringOn n = true) ∨ bitOf (s.fld Reg.HIF_VERSION F.HIF_VERSION_SUPPORTED) (F.HIF_VERSION_SELECT.get v) = false) :
    s.writeVersion v = s.setHifErr 1 := by
  refine if_pos ?_
  rcases h with ⟨n, hn, hon⟩ | hno
  · rw [List.any_eq_true.mpr ⟨n, List.mem_range.mpr hn, hon⟩, Bool.true_or]
  · rw [hno, Bool.not_false, Bool.or_true]

/-- With every ring disabled SELECT takes a supported version. -/
theorem fld_writeVersion {v : Word} (hoff : ∀ n, n < 16 → s.ringOn n = false)
    (hyes : bitOf (s.fld Reg.HIF_VERSION F.HIF_VERSION_SUPPORTED) (F.HIF_VERSION_SELECT.get v) = true) :
    (s.writeVersion v).fld Reg.HIF_VERSION F.HIF_VERSION_SELECT = F.HIF_VERSION_SELECT.get v := by
  have hany : (List.range 16).any s.ringOn = false := List.any_eq_false.mpr fun n hn => by rw [hoff n (List.mem_range.mp hn)]; exact Bool.false_ne_true
  rw [writeVersion, if_neg (by simp only [hany, hyes, Bool.not_true, Bool.or_false, Bool.false_eq_true, not_false_iff]),
    fld_setF_other _ _ _ _ (by decide), fld_setF_self _ _ _ (by decide), Fld.get_mod]

end State

end Sys2Proof.Machine

open Sys2Proof Sys2Proof.Machine Sys2Proof.Machine.State

/-- Settles O11: the block of HIF_VERSION answers and no transaction is doomed, so the command is `writeVersion`. -/
theorem versionSelect : Obligations.VersionSelect := by
  refine ⟨rfl, fun s v hfree honline => ?_⟩
  have hexec : exec (.hifVersionSelectWrite v) s = .next (s.writeVersion v) := by
    rw [exec_hifVersionSelectWrite (answers_of_online honline _), NoTxn.doomReg hfree]
  refine ⟨fun hno => ⟨?_, fld_setHifErr_HIF_VERSION 1 _⟩, fun hoff hyes => ⟨_, hexec, fld_writeVersion hoff hyes⟩⟩
  rw [hexec, writeVersion_refused hno]

end

section
/-!
SUPPORT. Admitted entries of the host interface (R96, R97, R139): the command settles what its body answers on the state in which it was taken.
-/
set_option autoImplicit false
namespace Sys2Proof.Machine

variable {s : State} {o : OpSpec} {e : CmdEntry}

/-- An admitted entry whose body completes OK has completed. -/
theorem runCmd_completed (h : s.admits o e = true) {i : Instr} {body : CmdTag → State → Res} {r0 r1 flags : Nat} {payload : List (Nat × List Byte)} {t : State}
    (hbody : body (s.tagOf o e) (s.taken e) = .done St.ok r0 r1 flags payload t) :
    runCmd o i e body s = .next (s.completed o e St.ok r0 r1 flags payload t) := by
  rw [runCmd_admits h, hbody, staging_ok, State.completed]

/-- One whose body waits, waits. -/
theorem runCmd_waiting (h : s.admits o e = true) {i : Instr} {body : CmdTag → State → Res} {k : WaitKind} {t : State}
    (hbody : body (s.tagOf o e) (s.taken e) = .wait k t) : runCmd o i e body s = .next (s.waiting o e k t) := by
  rw [runCmd_admits h, hbody, staging_wait, settle_wait, State.waiting]

/-- Under the full format SYNC is a command like any other: it waits for what is in progress. -/
theorem execSync_of_full (hfmt : s.fmt1 = false) (h : s.admits Op.sync e = true) :
    execSync e s = runCmd Op.sync (.sync e) e (fun _ s' => if s.inProgress.isEmpty then .stat St.ok s' else .wait (.sync s.inProgress) s') s := by
  have hcur : s.cur = none := by
    simp only [State.admits, Bool.and_eq_true] at h
    obtain ⟨⟨⟨⟨⟨⟨⟨⟨hnone, -⟩, -⟩, -⟩, -⟩, -⟩, -⟩, -⟩, -⟩ := h
    exact Option.isNone_iff_eq_none.mp hnone
  rw [execSync, hfmt, Bool.false_and, if_neg Bool.false_ne_true, hcur]

/-- The command ID that a parameter names is 0 only where the parameter is. -/
theorem ofNat_fieldLe_ne_zero {bs : List Byte} {off : Nat} (h : fieldLe bs off 4 ≠ 0) : BitVec.ofNat 32 (fieldLe bs off 4) ≠ 0 := by
  have hlt : fieldLe bs off 4 < 2 ^ 32 := fieldLe_lt bs off 4
  intro h0
  have hnat : fieldLe bs off 4 % 2 ^ 32 = 0 := congrArg BitVec.toNat h0
  rw [Nat.mod_eq_of_lt hlt] at hnat
  exact h hnat

/-- With no packet held, CANCEL withdraws the waiting command that the ring and the command ID name. -/
theorem cancel_waiting {ring : Nat} {id : Word} {w : Wait} (hid : id ≠ 0) (hheld : s.held = [])
    (hw : s.waits.find? (fun w => w.tag.ring == ring && w.tag.cmdId == id) = some w) (hc : w.kind.cancellable = true) :
    s.cancel ring id = .stat St.ok ((s.withdraw w).finish w St.aborted 0 0) := by
  have hnz : (id != 0) = true := bne_iff_ne.mpr hid
  simp only [State.cancel, hheld, List.find?_nil, hnz, Bool.and_true, hw, hc, if_true]

end Sys2Proof.Machine

open Sys2Proof Sys2Proof.Machine

/-- Settles O15: for each command, what its body answers. -/
theorem hostInterfaceCommands : Obligations.HostInterfaceCommands := by
  intro s e
  refine ⟨fun h => runCmd_completed h rfl, fun h => runCmd_completed h rfl, fun hfmt h hnone => ?_, fun hfmt h hsome => ?_, fun w h hid hheld hw hc => ?_,
    fun h hn => ?_, fun h hn hhalt => ?_, fun op htake hno => ?_⟩
  · change execSync e s = _
    rw [execSync_of_full hfmt h]
    exact runCmd_completed h (if_pos (List.isEmpty_iff.mpr hnone))
  · change execSync e s = _
    rw [execSync_of_full hfmt h]
    exact runCmd_waiting h (if_neg (by simpa using hsome))
  · exact runCmd_completed h (cancel_waiting (ofNat_fieldLe_ne_zero hid) hheld hw hc)
  · exact runCmd_waiting h (if_neg (Nat.not_lt.mpr hn))
  · exact runCmd_completed h ((if_neg (Nat.not_lt.mpr hn)).trans (if_pos hhalt))
  · have hst : s.entryStatus op.toNat e = some St.unknownOpcode := by rw [State.entryStatus, hno, ite_self]
    change execUnknownOpcode op e s = _
    rw [execUnknownOpcode, if_pos (by rw [htake, hst]; rfl)]
    rfl

end

section
/-!
SUPPORT. Entries of ring 2 (R91, R155): an entry that fails the first row of R155 is refused; one that passes it is a point write, applied at once where it is untagged.
-/
set_option autoImplicit false
namespace Sys2Proof.Machine

variable {s u : State} {e : PwrEntry}

/-- The quality that an entry's op writes. -/
def pwrQuality (e : PwrEntry) : Nat := if e.op.toNat = 2 then bitsOf e.typeQuality.toNat 4 4 else Q.good

/-- Does the entry fail the first row of R155, with the reserved fields of R92? -/
def pwrMalformed (e : PwrEntry) : Bool :=
  e.address.toNat ≥ 2 ^ 25 || (e.op.toNat ≠ 1 && e.op.toNat ≠ 2) || 5 < bitsOf e.typeQuality.toNat 4 4 || bitsOf e.flags.toNat 1 7 ≠ 0 || !allZero e.resv

theorem runPwr_malformed (htake : s.takeOk 2 = true) (h : pwrMalformed e = true) :
    runPwr e s = .next (((s.takeEntry 2).bump Reg.PNT_CNT_REFUSED).postCpl (pwrTag e (s.rdN (Reg.RNG_MODIDX 2))) St.badFormat 0 0 0 []) :=
  (if_pos htake).trans (if_pos h)

theorem pwrMalformed_of_address (h : 2 ^ 25 ≤ e.address.toNat) : pwrMalformed e = true := by
  simp only [pwrMalformed, ge_iff_le, decide_eq_true h, Bool.true_or]

theorem pwrMalformed_of_op (h1 : e.op ≠ 1) (h2 : e.op ≠ 2) : pwrMalformed e = true := by
  have hop : e.op.toNat ≠ 1 ∧ e.op.toNat ≠ 2 := ⟨fun h => h1 (BitVec.eq_of_toNat_eq h), fun h => h2 (BitVec.eq_of_toNat_eq h)⟩
  simp only [pwrMalformed, decide_eq_true hop.1, decide_eq_true hop.2, Bool.and_self, Bool.or_true, Bool.true_or]

theorem pwrMalformed_of_admits (h : s.pwrAdmits e = true) : pwrMalformed e = false := by
  simp only [State.pwrAdmits, Bool.and_eq_true, Bool.or_eq_true, decide_eq_true_eq, beq_iff_eq] at h
  obtain ⟨⟨⟨⟨⟨⟨⟨-, haddr⟩, hop⟩, hquality⟩, hflags⟩, hresv⟩, -⟩, -⟩ := h
  have hop' : ¬ e.op.toNat = 1 → e.op.toNat = 2 := hop.resolve_left
  simpa [pwrMalformed, hflags, hresv, hquality] using And.intro haddr hop'

/-- An admitted entry is settled as the point write answers on the state in which it was taken. -/
theorem runPwr_admits (h : s.pwrAdmits e = true) :
    runPwr e s = .next (settle (pwrTag e (s.rdN (Reg.RNG_MODIDX 2)))
      (((s.pwrTaken e).hostPoint (pwrTag e (s.rdN (Reg.RNG_MODIDX 2))) e (pwrQuality e)).named e.txn.toNat)) := by
  have hform := pwrMalformed_of_admits h
  simp only [State.pwrAdmits, Bool.and_eq_true] at h
  obtain ⟨⟨⟨⟨⟨⟨⟨htake, -⟩, -⟩, -⟩, -⟩, -⟩, hrepeated⟩, hready⟩ := h
  refine (if_pos htake).trans ((if_neg (by rw [← pwrMalformed, hform]; exact Bool.false_ne_true)).trans ?_)
  rw [Option.isNone_iff_eq_none.mp hrepeated]
  exact if_neg (by rw [← State.pwrTaken, hready]; exact Bool.false_ne_true)

/-- An untagged write that passes the checks of R155 outside the charge is applied at once and says whether a force absorbed it. -/
theorem hostPoint_untagged (t : CmdTag) (q : Nat) (htxn : e.txn = 0) (haddr : e.address.toNat < 2 ^ 25) (hcharge : u.charging = false)
    (hcheck : u.writeCheck e.address false true false e.typeQuality e.value none = none) :
    u.hostPoint t e q = .done St.ok (bit (u.force? e.address.toNat).isSome) 0 0 []
      (u.applyWith [.write { addr := e.address.toNat, value := e.value, quality := q, writer := 0x0020, stamp := u.stamp }]
        [t.delta (bit (u.force? e.address.toNat).isSome) 0] []) := by
  have hslot : u.txnOf e.txn.toNat = none := if_pos (by rw [htxn]; rfl)
  have htag : decide (e.txn ≠ 0) = false := decide_eq_false (not_not.mpr htxn)
  simp only [State.hostPoint, hslot, htag, Nat.mod_eq_of_lt haddr, Option.isNone_none, hcheck, State.applyHost, hcharge]
  rfl

/-- The write of an admitted untagged entry outside the charge. -/
theorem runPwr_untagged (h : s.pwrAdmits e = true) (htxn : e.txn = 0) (hcharge : (s.pwrTaken e).charging = false)
    (hcheck : (s.pwrTaken e).writeCheck e.address false true false e.typeQuality e.value none = none) :
    let t := pwrTag e (s.rdN (Reg.RNG_MODIDX 2))
    let u := s.pwrTaken e
    let r0 := bit (u.force? e.address.toNat).isSome
    runPwr e s = .next (settle t (.done St.ok r0 0 0 []
      (u.applyWith [.write { addr := e.address.toNat, value := e.value, quality := pwrQuality e, writer := 0x0020, stamp := u.stamp }] [t.delta r0 0] []))) := by
  have haddr : e.address.toNat < 2 ^ 25 := by
    by_contra hge
    exact absurd (pwrMalformed_of_address (Nat.not_lt.mp hge)) (by rw [pwrMalformed_of_admits h]; exact Bool.false_ne_true)
  rw [runPwr_admits h, hostPoint_untagged _ _ htxn haddr hcharge hcheck, Res.named, if_pos rfl]

end Sys2Proof.Machine

open Sys2Proof Sys2Proof.Machine

/-- Settles O25: both commands run the entry; the op gives the quality, and an entry whose address or op does not exist is malformed. -/
theorem pointWrites : Obligations.PointWrites := by
  intro s e tag u op r0
  refine ⟨fun h htxn hop hcharge hcheck => ?_, fun h htxn hop hcharge hcheck => ?_, fun htake h => runPwr_malformed htake ?_⟩
  · have hq : pwrQuality e = Q.good := if_neg (by rw [hop]; decide)
    exact hq ▸ runPwr_untagged h htxn hcharge hcheck
  · have hq : pwrQuality e = bitsOf e.typeQuality.toNat 4 4 := if_pos (by rw [hop]; rfl)
    exact hq ▸ runPwr_untagged h htxn hcharge hcheck
  · rcases h with h | ⟨h1, h2⟩
    · exact pwrMalformed_of_address h
    · exact pwrMalformed_of_op h1 h2

end

section
/-!
SUPPORT. Events of PCIe (R78, R82, R121): what a Function Level Reset leaves of registers, rings and packets, what a change of bus mastering and a trained link do.
-/
set_option autoImplicit false
namespace Sys2Proof.Machine

/-! ### Maps under a filter of keys and a change of values -/

theorem mapGet_filter {α : Type} (d : Nat → α) (m : List (Nat × α)) (p : Nat → Bool) (k : Nat) :
    mapGet d (m.filter fun e => p e.1) k = if p k then mapGet d m k else d k := by
  induction m with
  | nil => simp [mapGet]
  | cons e m ih =>
    obtain ⟨i, x⟩ := e
    by_cases hik : i = k
    · subst hik
      cases hp : p i with
      | true => simp [hp, mapGet]
      | false => simpa [hp] using ih
    · cases hp : p i with
      | true => simp [hp, mapGet, hik, ih]
      | false => simp [hp, mapGet, hik, ih]

/-- A listed key holds the changed value; an unlisted one reads as before. -/
theorem mapGet_map {α : Type} (d : Nat → α) (m : List (Nat × α)) (f : Nat → α → α) (k : Nat) :
    mapGet d (m.map fun e => (e.1, f e.1 e.2)) k = f k (mapGet d m k) ∨
      (mapGet d (m.map fun e => (e.1, f e.1 e.2)) k = d k ∧ mapGet d m k = d k) := by
  induction m with
  | nil => exact .inr ⟨rfl, rfl⟩
  | cons e m ih =>
    obtain ⟨i, x⟩ := e
    by_cases hik : i = k
    · subst hik
      exact .inl (by simp [mapGet])
    · simpa [mapGet, hik] using ih

namespace State

variable (s : State)

/-! ### Function Level Reset (R78, R482) -/

theorem rd_flr (down : Bool) {a : Nat} (h : a ≠ Reg.RNG_CFG 1) : (s.flr down).rd a = if flrRegs a then regDefault s.ident a else s.rd a := by
  rw [flr, rd_setF_other _ _ _ _ h]
  refine (mapGet_filter (regDefault s.ident) s.regs (fun b => !flrRegs b) a).trans ?_
  cases flrRegs a <;> rfl

theorem rd_flr_cleared (down : Bool) {a : Nat} (hf : flrRegs a = true) (h : a ≠ Reg.RNG_CFG 1) : (s.flr down).rd a = regDefault s.ident a := by
  rw [rd_flr _ _ h, if_pos hf]

theorem rd_flr_kept (down : Bool) {a : Nat} (hf : flrRegs a = false) : (s.flr down).rd a = s.rd a := by
  have h : a ≠ Reg.RNG_CFG 1 := by
    rintro rfl
    exact absurd hf (by decide)
  rw [rd_flr _ _ h, hf, if_neg Bool.false_ne_true]

/-- The completion ring has the entries of the format selected. -/
theorem entrySize_flr (down : Bool) : (s.flr down).entrySize 1 = if s.fmt1 then 16 else 32 := by
  have hfmt : (s.flr down).fmt1 = s.fmt1 := by rw [fmt1, fld_congr (rd_flr_kept _ _ (by decide)), fmt1]
  have hesize : (s.flr down).fld (Reg.RNG_CFG 1) F.RNG_CFG_ESIZE = if s.fmt1 then 4 else 5 := by
    rw [flr, fld_setF_self _ _ _ (by decide)]
    cases s.fmt1 <;> rfl
  rw [entrySize, hfmt, hesize]
  cases s.fmt1 <;> rfl

theorem muteAll_waits {w : Wait} (h : w ∈ s.muteAll.waits) : w.tag.mute = true := by
  obtain ⟨v, -, rfl⟩ := List.mem_map.mp h
  rfl

theorem muteAll_held {h : Held} (hh : h ∈ s.muteAll.held) : h.tag.mute = true := by
  obtain ⟨g, -, rfl⟩ := List.mem_map.mp hh
  rfl

/-- The command-ID record of a ring stands, and nothing counts as lost. -/
theorem ring_flr (down : Bool) (n : Nat) : ((s.flr down).ring n).done = (s.ring n).done ∧ ((s.flr down).ring n).openIds = (s.ring n).openIds ∧
    ((s.flr down).ring n).lost = 0 := by
  have hring : (s.flr down).ring n = mapGet (fun _ => {}) (s.rings.map fun e => (e.1, e.2.afterFlr e.1)) n := rfl
  rcases mapGet_map (fun _ => ({} : RingSt)) s.rings (fun k r => r.afterFlr k) n with h | ⟨h, h0⟩
  · rw [hring, h]
    exact ⟨rfl, rfl, rfl⟩
  · rw [hring, h, ring, h0]
    exact ⟨rfl, rfl, rfl⟩

end State

variable {s : State}

/-! ### Bus mastering (R78) -/

theorem exec_busMasterEnableChange_on (hlink : s.linkOff = false) (hoff : s.busOn = false) :
    exec (.busMasterEnableChange true false) s = .next ({ s with pcie := { s.pcie with bme := true, d3hot := false } } : State).resumeRings := by
  have hon : ({ s with pcie := { s.pcie with bme := true, d3hot := false } } : State).busOn = true := congrArg not hlink
  change execBusMasterEnableChange true false s = _
  dsimp only [execBusMasterEnableChange]
  rw [hon, hoff, if_neg (by decide), if_pos rfl]

theorem exec_busMasterEnableChange_same : exec (.busMasterEnableChange s.pcie.bme s.pcie.d3hot) s = .next s :=
  congrArg Host.Outcome.next (if_pos (beq_self_eq_true s.busOn))

/-! ### Vectors, writebacks and bursts (R82, R89, R118, R126, R136) -/

theorem exec_msixUnmask_vector {v : Nat} (h : v < 32) :
    exec (.msixUnmask false v) s = .next (s.wrN (msixEntry v 3) (putBits (s.rdN (msixEntry v 3)) 0 1 0)).sendPending :=
  congrArg (fun t : State => (.next t.sendPending : Answer)) (if_pos h)

theorem exec_writebackTimer_due {n : Nat} (hon : s.ringOn n = true) (hsome : 0 < (s.ring n).uncovered)
    (hdue : (s.ring n).firstAt + s.fld (Reg.RNG_COAL n) F.RNG_COAL_TIME * 1000 ≤ s.now) : exec (.writebackTimer n) s = .next (s.writeback n) :=
  congrArg Host.Outcome.next (if_pos (by simp [hon, hsome, hdue]))

theorem exec_runnerBurst_picked {n : Nat} (buf : Nat × Nat) (h : s.pickRunner = some n) : exec (.runnerBurst (.none buf)) s = .next (s.burst n buf) := by
  change execRunnerBurst (.none buf) s = _
  simp only [execRunnerBurst, h]

theorem exec_runnerBurst_none (buf : Nat × Nat) (h : s.pickRunner = none) : exec (.runnerBurst (.none buf)) s = .next s := by
  change execRunnerBurst (.none buf) s = _
  simp only [execRunnerBurst, h]

section

variable (h : s.sup.inReset = false)
include h

theorem exec_runnerBurst_corrected (bank : Nat) : exec (.runnerBurst (.corrected bank)) s = .next (s.sramCorrected bank) :=
  congrArg Host.Outcome.next (if_neg (ne_true_of_eq_false h))

theorem exec_runnerBurst_uncorrectable (bank addr : Nat) (entry : Option (Half × CmdEntry)) :
    exec (.runnerBurst (.uncorrectable bank addr entry)) s = .next ((s.sramError bank addr).burstError entry) :=
  congrArg Host.Outcome.next (if_neg (ne_true_of_eq_false h))

theorem exec_runnerBurst_dram (addr : Nat) : exec (.runnerBurst (.dram addr false)) s = .next (s.dramError addr) :=
  congrArg Host.Outcome.next (if_neg (ne_true_of_eq_false h))

theorem exec_runnerBurst_pointer {n : Nat} (hn : n < 16) : exec (.runnerBurst (.pointer n)) s = .next (s.resetTundish n) :=
  congrArg Host.Outcome.next (if_pos (by simp [hn, h]))

end

/-! ### The trained link (R121) -/

theorem exec_pcieLinkTrained {w sp : Nat} (hw : w = 1 ∨ w = 2 ∨ w = 4) (hsp : sp = 1 ∨ sp = 2 ∨ sp = 3) :
    exec (.pcieLinkTrained w sp) s = .next ((s.wrN Reg.HIF_LINK (w * 16 + sp)).wrN Reg.DMA_LINKRATE (linkRate w sp)) :=
  if_pos (by rcases hw with rfl | rfl | rfl <;> rcases hsp with rfl | rfl | rfl <;> rfl)

theorem linkRate_lt (w sp : Nat) : linkRate w sp < 2 ^ 32 := by
  unfold linkRate
  split_ifs <;> decide

/-- Width and speed, and the rate they give; every other register stands. -/
theorem exec_pcieLinkTrained_spec {w sp : Nat} (hw : w = 1 ∨ w = 2 ∨ w = 4) (hsp : sp = 1 ∨ sp = 2 ∨ sp = 3) :
    ∃ t, exec (.pcieLinkTrained w sp) s = .next t ∧ t.rdN Reg.HIF_LINK = w * 16 + sp ∧ t.rdN Reg.DMA_LINKRATE = linkRate w sp ∧
      ∀ b, b ≠ Reg.HIF_LINK → b ≠ Reg.DMA_LINKRATE → t.rd b = s.rd b := by
  have hsmall : w * 16 + sp < 2 ^ 32 := by omega
  refine ⟨_, exec_pcieLinkTrained hw hsp, ?_, ?_, fun b hlink hrate => ?_⟩
  · rw [State.rdN, State.rd_wrN_other _ _ (by decide)]
    exact (State.rdN_wrN_self _ _ _).trans (Nat.mod_eq_of_lt hsmall)
  · exact (State.rdN_wrN_self _ _ _).trans (Nat.mod_eq_of_lt (linkRate_lt w sp))
  · rw [State.rd_wrN_other _ _ hrate, State.rd_wrN_other _ _ hlink]

end Sys2Proof.Machine

end

section
/-!
SUPPORT. The flush of a host-to-module tundish (R127): its packets complete and are held no more.
-/
set_option autoImplicit false
namespace Sys2Proof.Machine

/-- State `t`, reached from `s`, asks for no flush of tundish `n`, holds none of its packets, and has no command waiting; point records stand, and so do the registers but the
count of refused point writes. -/
structure Flushed (n : Nat) (s t : State) : Prop where
  flushReq : (t.ring n).flushReq = false
  held : t.heldOn n = []
  waits : t.waits = []
  points : t.points = s.points
  rd : ∀ a, a ≠ Reg.PNT_CNT_REFUSED → t.rd a = s.rd a

namespace Flushed

variable {n : Nat} {s t : State}

/-- Rings store whatever they like but a request. -/
theorem setRing {k : Nat} {r : RingSt} (h : Flushed n s t) (hr : r.flushReq = (t.ring k).flushReq) : Flushed n s (t.setRing k r) where
  flushReq := by
    rw [State.ring, State.setRing, mapGet_mapSet]
    split
    · next hk => rw [hr, ← hk, h.flushReq]
    · exact h.flushReq
  held := h.held
  waits := h.waits
  points := h.points
  rd := h.rd

theorem closeId {g : CmdTag} {status r0 r1 : Nat} {forget : Bool} (h : Flushed n s t) : Flushed n s (t.closeId g status r0 r1 forget) := by
  unfold State.closeId
  split
  · exact h
  · exact h.setRing rfl

theorem countPwr {g : CmdTag} {status : Nat} (h : Flushed n s t) : Flushed n s (t.countPwr g status) := by
  unfold State.countPwr
  split
  · exact ⟨h.flushReq, h.held, h.waits, h.points, fun a ha => (State.rd_wrN_other _ _ ha).trans (h.rd a ha)⟩
  · exact h

theorem postCpl {g : CmdTag} {status flags r0 r1 : Nat} {payload : List (Nat × List Byte)} (h : Flushed n s t) :
    Flushed n s (t.postCpl g status flags r0 r1 payload) := by
  unfold State.postCpl
  split
  · exact h
  · dsimp only
    split
    · exact h.setRing rfl
    · exact h

theorem dropSync {g : CmdTag} (h : Flushed n s t) : Flushed n s (t.dropSync g) where
  flushReq := h.flushReq
  held := by
    have hheld : ∀ x ∈ t.held, x.ring ≠ n := by simpa [State.heldOn] using h.held
    simpa [State.heldOn, State.dropSync] using hheld
  waits := by rw [State.dropSync, h.waits, List.map_nil]
  points := h.points
  rd := h.rd

theorem complete {g : CmdTag} {status r0 r1 flags : Nat} {payload : List (Nat × List Byte)} {forget : Bool} (h : Flushed n s t) :
    Flushed n s (t.complete g status r0 r1 flags payload forget) := h.closeId.countPwr.postCpl.dropSync

end Flushed

variable {n : Nat} {s : State}

/-- With no command waiting the tundish lets go of the packets behind FENCE alone, and each completes. -/
theorem flushed_discardPackets {s₀ : State} (status : Nat) (hreq : (s.ring n).flushReq = false) (hwaits : s.waits = []) (hpoints : s.points = s₀.points)
    (hrd : ∀ a, a ≠ Reg.PNT_CNT_REFUSED → s.rd a = s₀.rd a) : Flushed n s₀ (s.discardPackets n status) := by
  have hkept : s.kept n = [] := by rw [State.kept, hwaits, List.filterMap_nil]
  simp only [State.discardPackets, hkept, List.map_nil, List.foldl_nil, List.nil_append, hwaits, List.filter_nil]
  refine List.foldlRecOn (motive := Flushed n s₀) _ _ ⟨hreq, ?_, rfl, hpoints, hrd⟩ fun t ht g _ => ht.complete
  simp [State.heldOn]

theorem finishAll_of_no_waits (p : Wait → Bool) (status r0 r1 : Nat) (h : s.waits = []) : s.finishAll p status r0 r1 = s := by
  rw [State.finishAll, h]
  rfl

theorem syncPass_of_no_waits (h : s.waits = []) : s.syncPass s.waits.length = s := by
  rw [h]
  rfl

theorem exec_tundishFlushApply_idle (h : (s.ring n).flushReq = false ∨ (s.ring n).boundary = false) : exec (.tundishFlushApply n) s = .next s :=
  if_pos (by rcases h with h | h <;> simp [h])

theorem exec_tundishFlushApply_flushes (hreq : (s.ring n).flushReq = true) (hb : (s.ring n).boundary = true) (hn : hostToModule n = true) (hwaits : s.waits = []) :
    ∃ t, exec (.tundishFlushApply n) s = .next t ∧ Flushed n s t := by
  have hflushed : Flushed n s ((s.setRing n { s.ring n with flushReq := false }).discardPackets n St.aborted) :=
    flushed_discardPackets _ (by rw [State.ring, State.setRing, mapGet_mapSet_self]) hwaits rfl fun _ _ => rfl
  refine ⟨_, ?_, hflushed⟩
  change execTundishFlushApply n s = _
  simp only [execTundishFlushApply, hreq, hb, hn, if_true, Bool.not_true, Bool.or_self, Bool.false_eq_true, if_false]
  rw [finishAll_of_no_waits _ _ _ _ hflushed.waits, syncPass_of_no_waits hflushed.waits]

end Sys2Proof.Machine

end

section
set_option autoImplicit false
open Sys2Proof Sys2Proof.Machine

/-- Settles O12: event by event, the case that its hypotheses select. -/
theorem hostInterfaceEvents : Obligations.HostInterfaceEvents := by
  refine ⟨fun s => ⟨fun bme d3 => ⟨_, rfl, ?master⟩, ?same, fun _ => rfl, fun down => ⟨?bme, ?msix, rfl, rfl, fun a hf h => s.rd_flr_cleared down hf h,
      fun a hf => s.rd_flr_kept down hf, s.entrySize_flr down, fun w hw => s.muteAll_waits hw, fun h hh => s.muteAll_held hh, s.ring_flr down⟩,
      fun v hv => exec_msixUnmask_vector hv, fun _ => rfl, fun w sp hw hsp => exec_pcieLinkTrained_spec hw hsp,
      fun n hon hsome hdue => exec_writebackTimer_due hon hsome hdue, fun n buf hn => exec_runnerBurst_picked buf hn, fun buf hn => exec_runnerBurst_none buf hn,
      fun bank h => exec_runnerBurst_corrected h bank, fun bank addr entry h => exec_runnerBurst_uncorrectable h bank addr entry,
      fun addr h => exec_runnerBurst_dram h addr, fun n hn h => exec_runnerBurst_pointer h hn, rfl⟩,
    fun s n => ⟨fun h => exec_tundishFlushApply_idle (.inl h), fun h => exec_tundishFlushApply_idle (.inr h), fun hreq hb hn hwaits => ?flush⟩⟩
  case master =>
    rintro rfl rfl hlink hoff
    exact Host.Outcome.next.inj (exec_busMasterEnableChange_on hlink hoff)
  case same =>
    rintro bme d3 rfl rfl
    exact exec_busMasterEnableChange_same
  case bme => cases down <;> rfl
  case msix => cases down <;> rfl
  case flush =>
    obtain ⟨t, ht, hflushed⟩ := exec_tundishFlushApply_flushes hreq hb hn hwaits
    exact ⟨t, ht, hflushed.flushReq, hflushed.held, hflushed.points, hflushed.rd⟩

end

section
/-!
SUPPORT. Every command answers a next state: a meaning branches, and every branch ends in a next state.
-/
set_option autoImplicit false
namespace Sys2Proof.Machine

/-- The answer is a next state. -/
def Answer.IsNext (a : Answer) : Prop := ∃ t : State, a = .next t

namespace Answer.IsNext

theorem next {s : State} : Answer.IsNext (.next s) := ⟨s, rfl⟩

theorem ite {c : Prop} [Decidable c] {a b : Answer} (ha : Answer.IsNext a) (hb : Answer.IsNext b) : Answer.IsNext (if c then a else b) := by
  split
  exacts [ha, hb]

/-- A host command is held, handed on, or left in host memory, whatever its body answers. -/
theorem runCmd {o : OpSpec} {c : Instr} {e : CmdEntry} {body : CmdTag → State → Res} {s : State} : Answer.IsNext (runCmd o c e body s) := by
  unfold Machine.runCmd
  split
  · exact .next
  · exact .ite (.ite .next .next) .next

/-- An entry of ring 2 likewise. -/
theorem runPwr {e : PwrEntry} {s : State} : Answer.IsNext (runPwr e s) := by
  unfold Machine.runPwr
  refine .ite (.ite .next ?_) .next
  dsimp only
  split
  · exact .next
  · exact .ite .next .next

/-- A ladle runs the instruction or stands elsewhere. -/
theorem ladleDo {n : Nat} {i : LIns} {f : LOp} {s : State} : Answer.IsNext (ladleDo n i f s) := by
  cases h : (s.ladle n).fetches i with
  | none => exact ⟨_, ladleDo_none h f⟩
  | some p => exact ⟨_, ladleDo_some h f⟩

/-! ### Meanings that take something apart -/

section

variable {s : State}

theorem execTxnWaitTimeout {slot : Nat} : Answer.IsNext (execTxnWaitTimeout slot s) := by
  unfold Machine.execTxnWaitTimeout
  dsimp only
  split
  · exact .next
  · exact .next

theorem execLiEnd {n : Nat} : Answer.IsNext (execLiEnd n s) := by
  unfold Machine.execLiEnd
  dsimp only
  split
  · exact .next
  · exact .next

theorem execGateEntryStart {p : Nat} : Answer.IsNext (execGateEntryStart p s) := by
  unfold Machine.execGateEntryStart
  split
  · exact .next
  · exact .ite .next .next

theorem execTrunkFrameReceived {f : TrunkFrame} : Answer.IsNext (execTrunkFrameReceived f s) :=
  .ite .next (.ite .next (.ite .next (.ite .next (.ite .next (.ite .next (.ite .next .next))))))

theorem execHello {f : TrunkFrame} : Answer.IsNext (execHello f s) := by
  unfold Machine.execHello
  dsimp only
  refine .ite .next (.ite .next ?_)
  split
  · exact .next
  · split
    · exact .next
    · split
      · exact .next
      · exact .next
      · exact .next

theorem execAck {f : TrunkFrame} : Answer.IsNext (execAck f s) := by
  unfold Machine.execAck
  split
  · exact .next
  · refine .ite .next ?_
    dsimp only
    split
    · exact .next
    · exact .next

theorem execReport {f : TrunkFrame} : Answer.IsNext (execReport f s) := by
  unfold Machine.execReport
  split
  · exact .next
  · exact .ite .next (.ite .next .next)

theorem execDelayReq {f : TrunkFrame} : Answer.IsNext (execDelayReq f s) := by
  unfold Machine.execDelayReq
  split
  · exact .next
  · exact .ite .next (.ite .next .next)

theorem execRadioFrameReceived {f : RadioFrame} : Answer.IsNext (execRadioFrameReceived f s) :=
  .ite .next (.ite .next (.ite .next (.ite .next (.ite .next (.ite .next .next)))))

theorem execListenWindow {n : Nat} : Answer.IsNext (execListenWindow n s) := by
  unfold Machine.execListenWindow
  split
  · exact .next
  · dsimp only
    split
    · exact .next
    · exact .ite .next (.ite .next (.ite .next (.ite .next .next)))

theorem execPtpMessage {port : Nat} {m : PtpIn} : Answer.IsNext (execPtpMessage port m s) := by
  unfold Machine.execPtpMessage
  refine .ite .next (.ite .next ?_)
  split
  · exact .next
  · exact .next

theorem execHaltRecoveryDone {image : Option (List Byte)} : Answer.IsNext (execHaltRecoveryDone image s) := by
  unfold Machine.execHaltRecoveryDone
  refine .ite .next ?_
  dsimp only
  split
  · exact .next
  · exact .ite .next .next

theorem execCfgCopyRewrite : Answer.IsNext (execCfgCopyRewrite s) := by
  unfold Machine.execCfgCopyRewrite
  refine .ite .next ?_
  split
  · exact .next
  · exact .next

theorem execFlushDone : Answer.IsNext (execFlushDone s) := by
  unfold Machine.execFlushDone
  refine .ite .next ?_
  dsimp only
  split
  · exact .next
  · exact .next
  · exact .next

theorem execServiceResume : Answer.IsNext (execServiceResume s) := by
  unfold Machine.execServiceResume
  split
  · exact .next
  · exact .ite .next .next

theorem execCycleBoundary : Answer.IsNext (execCycleBoundary s) := by
  unfold Machine.execCycleBoundary
  dsimp only
  split
  · exact .next
  · exact .ite .next .next

theorem execTickBoundary : Answer.IsNext (execTickBoundary s) := by
  unfold Machine.execTickBoundary
  split
  · exact .next
  · exact .ite .next .next

theorem execChargerFault : Answer.IsNext (execChargerFault s) := by
  unfold Machine.execChargerFault
  dsimp only
  split
  · exact .ite .next .next
  · exact .next

theorem execIntervalRecord : Answer.IsNext (execIntervalRecord s) := by
  unfold Machine.execIntervalRecord
  refine .ite .next ?_
  split
  · exact .next
  · exact .next

theorem execStatementSigned : Answer.IsNext (execStatementSigned s) := by
  unfold Machine.execStatementSigned
  split
  · exact .next
  · split
    · exact .ite .next (.ite .next .next)
    · exact .next

theorem execActivatePauseStart : Answer.IsNext (execActivatePauseStart s) := by
  unfold Machine.execActivatePauseStart
  split
  · exact .next
  · refine .ite .next (.ite .next ?_)
    split
    · exact .next
    · exact .next

end

/-! ### The dispatch -/

/-- Every command, by the branches of its meaning: it is a host command, a ladle's instruction, one next state, or guards before one. -/
theorem exec {c : Instr} {s : State} : Answer.IsNext (exec c s) := by
  cases c with
  | nop | echo | cancel | txnOpen | txnCommit | txnAbort | txnRegwr | txnQuery | tunFlush | runnerResume | pntRead | pntReadList | pntForce
  | pntUnforce | pntForceList | pntSubscribe | pntUnsubscribe | ldlLoad | ldlUnload | ldlTable | ldlState | cycSetup | cycSched | cycHold
  | cycRelease | lmpEmerg | lmpProbe | lmpRecord | lmpChstate | trkSend | trkPort | trkGates | cznNode | cznReseat | cznRekey | cznNodetable
  | radNode | radWake | radNodetable | radChannel | timStep | timSetincr | timLeap | rtcSet | rtcFromWall | rtcAlarm | rtcPeriodic | rtcCharger
  | rtcSettrim | mtrArchive | mtrClose | mtrCaldata | mtrPreset | evrSync | evrClear | evrRead | rdnRotate | rdnYield | rdnReseed | keySlotSet
  | keySlotClear | keyRootSet | keyAttest | keyIdcert | keyNodekey | patBegin | patBlock | patQuery | patVerify | patActivate | patConfirm => exact .runCmd
  | sync => exact .ite .next .runCmd
  | write | writeQuality => exact .runPwr
  | liLd | liAnd | liOr | liXor | liSt | liSet | liRst | liLdq | liLaop | liBopen | liBand | liBor | liBpeek | liBdrop | liEdge | liTmr | liCtu
  | liCtd | liTcr | liTcld | liLdm | liStm | liLdw | liStw | liQld | liWbit | liLdi | liLdih | liMov | liSel | liAlu | liAlui | liFpu | liCmp
  | liCmpi | liTbl | liJmp | liCall | liRet | liLoop | liEndl | liBrk | liSetb | liBidx | liBld | liLcall => exact .ladleDo
  | liNop => exact .ladleDo (f := fun _ r => r)
  | unitSelChange | maintNChange | emergNChange | glbVstateWrite | busMasterEnableChange | funcReset | msixUnmask | registerWrite | rfGroupFreeze
  | rfGroupEnd | ldlMaxnsRead | hifVersionSelectWrite | ringCfgWrite | doorbellWrite | runnerBurst | runnerReadFail | dmaCtlResume | tunCtlFlush
  | writebackTimer | unknownOpcode | txnApply | txnIdleTimeout | nodeHoldExpiry | ldlTableIdleApply | lampEvaluationEnd | lmpCtlEmergSw
  | lmpTickWrite | coordinatorListenEnd | seedingListenEnd | trkSendTimeout | gatectlWrite | linkChange | retransmitTimeout | cznReseatTimeout
  | radioAdmissionTimeout | beaconInstant | radioNodeStale | radioNodeAbsent | radWakeTimeout | radDutyWrite | timIncrloWrite | timIncrhiWrite
  | rtcStgWrite | pulseEnd | evrCursorWrite | peerBeacon | delta | deltaAck | seedReq | seed | handover | ready | confirm | yield_ | health | grant
  | deny | status | notice | revoke | heartbeat | request | vote | witnessStartHoldEnd | witnessStatusDue | keyWrgo | keyModeWrite | keyCznsrcWrite
  | keySendDelayEnd | oldKeyGraceEnd | keyLcreqWrite | ownerLockWrite | patHaltgo | fettleRegionEnd | bankRemapDone | memBankChillWrite
  | memFettleWrite | pauseQuantaEnd | perstAssert | backupLost | ebbRampEnd | pntRdrec0Read | rtcSubsecRead | glbPaceRead | lmpEvalRead
  | changeNoticePost | commitDeadline | pour | lumRunWrite | timeFrameDue | keyAnnounce | generationGraceEnd | timStepGo | holdoverEntry
  | calendarSecond | leapSecond | rtcCommitGo | rtcCommitFromWall | intervalBoundary | evrWinctlNext | evrWindowReady | evsDelivery | peerBeaconDue
  | healthDue | witnessHoldingEnd | peerLoss | isolated | seedingPeerListenEnd | witnessNoAnswer | requestRepeat | rotationDue | handoverTick
  | handoverDeltaTimeout | confirmTimeout | lcZeroise | lcTransitionEnd | trialTimeout | fettleRegionStart | riserOk | wallClockHour => exact .next
  | powerGood | vcoreReady | vinRestored | riserExhausted | thermalEbb | thermalEbbRelease | thermalHold | thermalRestart | paceSample
  | tundishFlushApply | rollCallCycleEnd | periodicFire | trimMeasurementEnd | meterSample | windowEnd | pcieLinkTrained | stageMemory | stageConfig
  | stageRestore | stageRole | roleSettled | stageRun | calendarFollow | accumulatorWrite | activatePauseEnd => exact .ite .next .next
  | powerFailWarning | foreignBeacon | pauseFrameReceived | evrFlashWrite | perstRelease | flushBegin | calendarStep => exact .ite .next (.ite .next .next)
  | chargeEnd => exact .ite (.ite .next .next) .next
  | standbyBeaconMiss | ptpSyncInterval | stagePattern => exact .ite .next (.ite .next (.ite .next .next))
  | txnWaitTimeout => exact .execTxnWaitTimeout
  | liEnd => exact .execLiEnd
  | gateEntryStart => exact .execGateEntryStart
  | trunkFrameReceived => exact .execTrunkFrameReceived
  | hello => exact .execHello
  | ack => exact .execAck
  | report => exact .execReport
  | delayReq => exact .execDelayReq
  | radioFrameReceived => exact .execRadioFrameReceived
  | listenWindow => exact .execListenWindow
  | ptpMessage => exact .execPtpMessage
  | haltRecoveryDone => exact .execHaltRecoveryDone
  | cfgCopyRewrite => exact .execCfgCopyRewrite
  | flushDone => exact .execFlushDone
  | serviceResume => exact .execServiceResume
  | cycleBoundary => exact .execCycleBoundary
  | tickBoundary => exact .execTickBoundary
  | chargerFault => exact .execChargerFault
  | intervalRecord => exact .execIntervalRecord
  | statementSigned => exact .execStatementSigned
  | activatePauseStart => exact .execActivatePauseStart

/-- Every step: the command at the front of the queue, a packet that a tundish lets go, or one tick. -/
theorem step {s : State} : Answer.IsNext (step s) := by
  unfold Machine.step
  split
  · exact .exec
  · unfold State.idle
    split
    · exact .exec
    · exact .next

end Answer.IsNext

end Sys2Proof.Machine

open Sys2Proof Sys2Proof.Machine

/-- Settles O3: the branches of every meaning end in a next state (`Answer.IsNext.exec`), and a step runs a command or ticks. -/
theorem everyCommandAnswers : Obligations.EveryCommandAnswers := ⟨fun _ _ => Answer.IsNext.exec, fun _ => Answer.IsNext.step⟩

end

section
/-!
SUPPORT. Transaction slots: what stands in a slot after one is stored, and what an abort frees (R107).
-/
set_option autoImplicit false
namespace Sys2Proof.Machine.State

variable (s : State)

@[simp] theorem txn_setTxn_self (k : Nat) (x : TxnSlot) : (s.setTxn k x).txn k = x := mapGet_mapSet_self _ _ _ _

theorem txn_setTxn_other {j k : Nat} (h : j ≠ k) (x : TxnSlot) : (s.setTxn k x).txn j = s.txn j := mapGet_mapSet_other _ _ _ _ _ h

theorem abortTxn_of_free {k : Nat} (h : (s.txn k).phase = .free) (status : Nat) : s.abortTxn k status = s := if_pos (beq_iff_eq.mpr h)

/-- With no command waiting an abort closes the slot and counts; a doomed transaction was counted when it was doomed (R110). -/
theorem abortTxn_of_open {k : Nat} (h : (s.txn k).phase ≠ .free) (hwaits : s.waits = []) (status : Nat) :
    s.abortTxn k status = ((s.dropDeferred k).closeTxn k).bump Reg.TXN_CNT_ABORT (if (s.txn k).doomed then 0 else 1) := by
  rw [abortTxn, if_neg (by simpa using h)]
  exact finishAll_of_no_waits _ _ _ _ hwaits

end Sys2Proof.Machine.State

open Sys2Proof Sys2Proof.Machine

/-- Settles O18: a slot that is free already stands as it is; an open one is stored anew, empty, and nothing else but the count and what the charge held back moves. -/
theorem abortFreesSlot : Obligations.AbortFreesSlot := by
  intro s k st hwaits
  by_cases hfree : (s.txn k).phase = .free
  · rw [s.abortTxn_of_free hfree]
    exact ⟨hfree, fun _ _ => rfl, rfl, rfl⟩
  · rw [s.abortTxn_of_open hfree hwaits]
    exact ⟨congrArg TxnSlot.phase ((s.dropDeferred k).txn_setTxn_self k {}), fun _ hj => (s.dropDeferred k).txn_setTxn_other hj {}, rfl, rfl⟩

end

section
/-!
SUPPORT. The bodies of the transaction commands, where their checks pass (R105, R106, R108, R112, R218).
-/
set_option autoImplicit false
namespace Sys2Proof.Machine

namespace State

variable {s : State}

/-! ### TXN_OPEN -/

/-- Slot `k` opened under the next tag, empty. -/
def opened (s : State) (k : Nat) (online isLocal : Bool) : State :=
  ({ s with txnTag := (s.freshTag 5).2 } : State).setTxn k
    { phase := .opened, tag := (s.freshTag 5).1, online := online, isLocal := isLocal, named := s.now }

theorem txn_opened_self (s : State) (k : Nat) (online isLocal : Bool) : (s.opened k online isLocal).txn k =
    { phase := .opened, tag := (s.freshTag 5).1, online := online, isLocal := isLocal, named := s.now } := txn_setTxn_self _ _ _

theorem txn_opened_other {j k : Nat} (h : j ≠ k) (online isLocal : Bool) : (s.opened k online isLocal).txn j = s.txn j := txn_setTxn_other _ h _

/-- The checks of TXN_OPEN pass: the first free slot is opened. -/
theorem openTxn_opens {txn : Nat} {online isLocal : Bool} {k : Nat} (htxn : txn = 0) (hkind : (online && isLocal) = false) (hstate : s.openState online isLocal = none)
    (hslot : (List.range 4).find? (fun k => (s.txn k).phase == .free) = some k)
    (hsingle : online = true → ∀ j, j < 4 → (s.txn j).phase ≠ .free → (s.txn j).online = false) :
    s.openTxn txn online isLocal = .okWith (s.freshTag 5).1 0 (s.opened k online isLocal) := by
  have hnone : (online && (List.range 4).any fun j => (s.txn j).phase != .free && (s.txn j).online) = false := by
    simp only [Bool.and_eq_false_imp, List.any_eq_false, List.mem_range, Bool.and_eq_true, bne_iff_ne, not_and, Bool.not_eq_true]
    exact hsingle
  rw [openTxn, if_neg (by simp [htxn, hkind])]
  simp only [hstate, hslot, hnone, Bool.false_eq_true, if_false]
  rfl

theorem openState_active (hdef : s.defaulted = false) (hrole : s.role = .active) (online isLocal : Bool) : s.openState online isLocal = none := by
  rw [openState, if_neg (by simp [hdef]), hrole]

/-! ### TXN_REGWR -/

/-- The checks of staging pass: the changes join those of the transaction, and its idle count starts afresh. -/
theorem stageChanges_staged {k : Nat} {cs : List Change} (r0 : Nat) (hopen : (s.txn k).phase = .opened)
    (hlocal : ((s.txn k).isLocal && cs.any (fun c => !c.localOk)) = false) (hfree : s.conflicts (some k) (cs.flatMap Change.targets) = false)
    (hfits : withinLimits (cs.foldl addChange (s.txn k).changes) = true) :
    s.stageChanges k cs r0 = .staged r0 (s.setTxn k { s.txn k with changes := cs.foldl addChange (s.txn k).changes, named := s.now }) := by
  simp only [stageChanges, hopen, hlocal, hfree, hfits, bne_self_eq_false, Bool.false_eq_true, if_false, if_true]

/-- A LOCAL transaction takes register writes (R105). -/
theorem any_not_localOk_reg (es : List (Nat × Word × Word)) : (es.map fun x => Change.reg x.1 x.2.1 x.2.2).any (fun c => !c.localOk) = false := by
  simp [Change.localOk, Change.isReg]

/-! ### TXN_COMMIT -/

/-- Outside a charge a commit that takes effect now is applied in its command. -/
theorem commitAtOnce_applies {k : Nat} {plan : Option Plan} (t : CmdTag) (point st late : Nat) (hcharge : s.charging = false) (hplan : s.commitPlan k = .ok plan) :
    s.commitAtOnce t k point st late =
      .okWith (s.txn k).changes.length late (s.applyTxn k late [t.delta (s.txn k).changes.length late]) := by
  simp only [commitAtOnce, hcharge, hplan, Bool.false_eq_true, if_false]

section

variable {k : Nat} {plan : Option Plan} (hopen : (s.txn k).phase = .opened) (hsound : (s.txn k).doomed = false) (hplan : s.commitPlan k = .ok plan)
include hopen hsound hplan

theorem commitTxn_immediate (t : CmdTag) (st : Nat) : s.commitTxn t k 1 st = s.commitAtOnce t k 1 0 0 := by
  simp [commitTxn, hopen, hsound, hplan]

theorem commitTxn_cycle (t : CmdTag) (st : Nat) (hcycle : s.noCycle = false) : s.commitTxn t k 2 st = .wait (.txnCommit k) (s.bindTxn k 2 0) := by
  simp [commitTxn, hopen, hsound, hplan, hcycle]

/-- A stamp of the current heat, at most a day ahead: it is waited for, or it has come (R112). -/
theorem commitTxn_stamp (t : CmdTag) {st : Nat} (hheat : stampHeat st = s.heat) (hnear : stampTime st - stampTime s.stamp ≤ 86400 * 2 ^ 20) :
    s.commitTxn t k 3 st = if s.stampDue st then s.commitAtOnce t k 3 st 1 else .wait (.txnCommit k) (s.bindTxn k 3 st) := by
  simp [commitTxn, hopen, hsound, hplan, hheat, Nat.not_lt.mpr hnear, -Nat.reducePow, -Nat.reduceMul]

end

end State

end Sys2Proof.Machine

end

section
/-!
SUPPORT. The transaction commands and the limits of a transaction's life (R104 to R107, R112): each command where its checks pass, each limit where it is due.
-/
set_option autoImplicit false
namespace Sys2Proof.Machine

variable {s : State} {e : CmdEntry} {k : Nat}

/-- TXN_OPEN opens the first free slot under the next tag; no other slot moves. -/
theorem exec_txnOpen_opens (h : s.admits Op.txnOpen e = true) (htxn : e.txn = 0) (hkind : (bitOf (e.param 0 1) 0 && bitOf (e.param 0 1) 1) = false)
    (hstate : (s.taken e).openState (bitOf (e.param 0 1) 0) (bitOf (e.param 0 1) 1) = none)
    (hsingle : bitOf (e.param 0 1) 0 = true → ∀ j, j < 4 → ((s.taken e).txn j).phase ≠ .free → ((s.taken e).txn j).online = false)
    (hslot : (List.range 4).find? (fun k => ((s.taken e).txn k).phase == .free) = some k) :
    ∃ u, exec (.txnOpen e) s = .next (s.completed Op.txnOpen e St.ok ((s.taken e).freshTag 5).1 0 0 [] u) ∧
      (u.txn k).phase = .opened ∧ (u.txn k).tag = ((s.taken e).freshTag 5).1 ∧ (u.txn k).online = bitOf (e.param 0 1) 0 ∧
      (u.txn k).isLocal = bitOf (e.param 0 1) 1 ∧ (u.txn k).changes = [] ∧ ∀ j, j ≠ k → u.txn j = (s.taken e).txn j := by
  have htag : e.txn.toNat = 0 := by rw [htxn]; rfl
  refine ⟨_, runCmd_completed h (State.openTxn_opens htag hkind hstate hslot hsingle), ?_⟩
  rw [State.txn_opened_self]
  exact ⟨rfl, rfl, rfl, rfl, rfl, fun j hj => State.txn_opened_other hj _ _⟩

/-- Under ACTIVE a transaction of neither kind passes the check of the state, and no ONLINE one stands in its way. -/
theorem exec_txnOpen_plain (h : s.admits Op.txnOpen e = true) (htxn : e.txn = 0) (hplain : e.param 0 1 = 0) (hdef : (s.taken e).defaulted = false)
    (hrole : (s.taken e).role = .active) (hslot : (List.range 4).find? (fun k => ((s.taken e).txn k).phase == .free) = some k) :
    ∃ u, exec (.txnOpen e) s = .next (s.completed Op.txnOpen e St.ok ((s.taken e).freshTag 5).1 0 0 [] u) ∧
      (u.txn k).phase = .opened ∧ (u.txn k).tag = ((s.taken e).freshTag 5).1 ∧ (u.txn k).changes = [] ∧ ∀ j, j ≠ k → u.txn j = (s.taken e).txn j := by
  have honline : bitOf (e.param 0 1) 0 = false := by rw [hplain]; rfl
  obtain ⟨u, hexec, hphase, htag, -, -, hchanges, hothers⟩ := exec_txnOpen_opens h htxn (by rw [honline, Bool.false_and])
    (State.openState_active hdef hrole _ _) (by simp [honline]) hslot
  exact ⟨u, hexec, hphase, htag, hchanges, hothers⟩

theorem exec_txnAbort_named (h : s.admits Op.txnAbort e = true) (hk : (s.taken e).txnOf e.txn.toNat = some k) :
    exec (.txnAbort e) s = .next (s.completed Op.txnAbort e St.ok 0 0 0 [] ((s.taken e).abortTxn k St.aborted)) :=
  runCmd_completed h (by simp only [hk]; rfl)

theorem exec_txnQuery_named (h : s.admits Op.txnQuery e = true) (hk : (s.taken e).txnOf e.txn.toNat = some k) :
    exec (.txnQuery e) s = .next (s.completed Op.txnQuery e St.ok ((s.taken e).txn k).stateReg ((s.taken e).txn k).useReg 0 [] (s.taken e)) :=
  runCmd_completed h (by simp only [hk]; rfl)

/-- A TXN_REGWR of whole entries on stageable registers stages one register change for each (R106). -/
theorem exec_txnRegwr_stages (h : s.admits Op.txnRegwr e = true) (hk : (s.taken e).txnOf e.txn.toNat = some k) (hwhole : e.bufLen.toNat % 12 = 0)
    (hin : e.bufOut = false) (hstageable : (regwrEntries (e.bufLen.toNat / 12) e.buf).all (fun x => stageable x.1) = true)
    (hopen : ((s.taken e).txn k).phase = .opened) :
    let cs := (regwrEntries (e.bufLen.toNat / 12) e.buf).map fun x => Change.reg x.1 x.2.1 x.2.2
    (s.taken e).conflicts (some k) (cs.flatMap Change.targets) = false → withinLimits (cs.foldl addChange ((s.taken e).txn k).changes) = true →
    exec (.txnRegwr e) s = .next (s.completed Op.txnRegwr e St.ok (regwrEntries (e.bufLen.toNat / 12) e.buf).length 0 2 []
      ((s.taken e).setTxn k { (s.taken e).txn k with changes := cs.foldl addChange ((s.taken e).txn k).changes, named := (s.taken e).now })) := by
  intro cs hfree hfits
  have hany : (regwrEntries (e.bufLen.toNat / 12) e.buf).any (fun x => !stageable x.1) = false := by simpa using hstageable
  have hlocal : (((s.taken e).txn k).isLocal && cs.any (fun c => !c.localOk)) = false := by rw [State.any_not_localOk_reg, Bool.and_false]
  have hstage := State.stageChanges_staged (regwrEntries (e.bufLen.toNat / 12) e.buf).length hopen hlocal hfree hfits
  refine runCmd_completed h ?_
  simp only [hk, hwhole, hin, hany]
  exact hstage

/-- TXN_COMMIT answers as its transaction's commit does. -/
theorem exec_txnCommit_completed (h : s.admits Op.txnCommit e = true) (hk : (s.taken e).txnOf e.txn.toNat = some k) {r0 r1 : Nat} {t : State}
    (hcommit : (s.taken e).commitTxn (s.tagOf Op.txnCommit e) k (e.param 0 1) (e.param 8 8) = .okWith r0 r1 t) :
    exec (.txnCommit e) s = .next (s.completed Op.txnCommit e St.ok r0 r1 0 [] t) :=
  runCmd_completed h (by simp only [hk, hcommit]; rfl)

theorem exec_txnCommit_waiting (h : s.admits Op.txnCommit e = true) (hk : (s.taken e).txnOf e.txn.toNat = some k) {t : State}
    (hcommit : (s.taken e).commitTxn (s.tagOf Op.txnCommit e) k (e.param 0 1) (e.param 8 8) = .wait (.txnCommit k) t) :
    exec (.txnCommit e) s = .next (s.waiting Op.txnCommit e (.txnCommit k) t) :=
  runCmd_waiting h (by simp only [hk, hcommit])

section

variable {plan : Option Plan} (h : s.admits Op.txnCommit e = true) (hk : (s.taken e).txnOf e.txn.toNat = some k) (hopen : ((s.taken e).txn k).phase = .opened)
  (hsound : ((s.taken e).txn k).doomed = false)
include h hk hopen hsound

theorem exec_txnCommit_cycle (hpoint : e.param 0 1 = 2) (hplan : (s.taken e).commitPlan k = .ok plan) (hcycle : (s.taken e).noCycle = false) :
    exec (.txnCommit e) s = .next (s.waiting Op.txnCommit e (.txnCommit k) ((s.taken e).bindTxn k 2 0)) := by
  refine exec_txnCommit_waiting h hk ?_
  rw [hpoint, State.commitTxn_cycle hopen hsound hplan _ _ hcycle]

theorem exec_txnCommit_immediate (hpoint : e.param 0 1 = 1) (hplan : (s.taken e).commitPlan k = .ok plan) (hcharge : (s.taken e).charging = false) :
    let n := ((s.taken e).txn k).changes.length
    exec (.txnCommit e) s = .next (s.completed Op.txnCommit e St.ok n 0 0 [] ((s.taken e).applyTxn k 0 [(s.tagOf Op.txnCommit e).delta n 0])) := by
  refine exec_txnCommit_completed h hk ?_
  rw [hpoint, State.commitTxn_immediate hopen hsound hplan]
  exact State.commitAtOnce_applies _ _ _ _ hcharge hplan

/-- A stamp ahead is waited for; one that has come is applied at once, LATE. -/
theorem exec_txnCommit_stamp (hpoint : e.param 0 1 = 3) (hheat : stampHeat (e.param 8 8) = (s.taken e).heat)
    (hnear : stampTime (e.param 8 8) - stampTime (s.taken e).stamp ≤ 86400 * 2 ^ 20) (hplan : (s.taken e).commitPlan k = .ok plan) :
    ((s.taken e).stampDue (e.param 8 8) = false →
      exec (.txnCommit e) s = .next (s.waiting Op.txnCommit e (.txnCommit k) ((s.taken e).bindTxn k 3 (e.param 8 8)))) ∧
    ((s.taken e).stampDue (e.param 8 8) = true → (s.taken e).charging = false →
      let n := ((s.taken e).txn k).changes.length
      exec (.txnCommit e) s = .next (s.completed Op.txnCommit e St.ok n 1 0 [] ((s.taken e).applyTxn k 1 [(s.tagOf Op.txnCommit e).delta n 1]))) := by
  have hcommit := State.commitTxn_stamp hopen hsound hplan (s.tagOf Op.txnCommit e) hheat hnear
  refine ⟨fun hahead => exec_txnCommit_waiting h hk ?_, fun hdue hcharge => exec_txnCommit_completed h hk ?_⟩
  · rw [hpoint, hcommit, if_neg (ne_true_of_eq_false hahead)]
  · rw [hpoint, hcommit, if_pos hdue]
    exact State.commitAtOnce_applies _ _ _ _ hcharge hplan

end

/-! ### The commit point and the limits -/

section

variable (hk : k < 4)
include hk

/-- A stamp that has come applies its transaction, LATE more than 100 µs after it. -/
theorem exec_txnApply_stamp (hwaits : (s.txn k).phase = .waiting) (hpoint : (s.txn k).point = 3) (hdue : s.stampDue (s.txn k).stamp = true)
    (hcharge : s.charging = false) : exec (.txnApply k) s = .next (s.applyTxn k (s.lateBy (s.txn k).stamp) []) := by
  have hlate : s.lateOf (s.txn k) = s.lateBy (s.txn k).stamp := if_pos hpoint
  change execTxnApply k s = _
  simp [execTxnApply, State.pointDue, hk, hwaits, hpoint, hdue, hcharge, hlate]

theorem exec_txnIdleTimeout_due (hopen : (s.txn k).phase = .opened) (hlimit : s.fld Reg.TXN_CFG F.TXN_CFG_IDLE ≠ 0)
    (hdue : (s.txn k).named + secs (s.fld Reg.TXN_CFG F.TXN_CFG_IDLE) ≤ s.now) : exec (.txnIdleTimeout k) s = .next (s.abortTxnEv k 1) :=
  congrArg Host.Outcome.next (if_pos (by simp [hk, hopen, hlimit, hdue]))

theorem exec_txnWaitTimeout_due {start : Nat} (hwaits : (s.txn k).phase = .waiting) (hpoint : (s.txn k).point = 2) (hstart : (s.txn k).waitFrom = some start)
    (hdue : start + ms (s.fld Reg.TXN_CFG F.TXN_CFG_WAIT) ≤ s.now) : exec (.txnWaitTimeout k) s = .next (s.abortTxn k St.timeout) := by
  change execTxnWaitTimeout k s = _
  simp [execTxnWaitTimeout, hk, hwaits, hpoint, hstart, hdue]

end

end Sys2Proof.Machine

open Sys2Proof Sys2Proof.Machine

/-- Settles O17: each command by what its body answers where its checks pass, each limit by its guard. -/
theorem transactionCommands : Obligations.TransactionCommands := fun _ _ =>
  ⟨fun _ => exec_txnOpen_opens, fun _ => exec_txnOpen_plain, fun _ => exec_txnAbort_named, fun _ => exec_txnQuery_named, fun _ => exec_txnRegwr_stages,
    fun _ _ => exec_txnCommit_cycle, fun _ _ => exec_txnCommit_immediate, fun _ _ => exec_txnCommit_stamp, fun _ => exec_txnApply_stamp,
    fun _ => exec_txnIdleTimeout_due, fun _ _ hk => exec_txnWaitTimeout_due hk⟩

end

section
/-!
SUPPORT. The commands of ladles (R131, R199, R200): each command where its checks pass, by what its body answers on the state in which it was taken.
-/
set_option autoImplicit false
namespace Sys2Proof.Machine

/-! ### Pieces of a program -/

/-- A single piece that covers the whole total is the image. -/
theorem assemble_whole (n : Nat) (b : List Byte) : assemble [(n, b.length, 0, b)] b.length = b := by
  simp [assemble]

namespace State

variable {s : State} {e : CmdEntry} {k n : Nat}

/-- With no piece kept, one that is the whole image is checked and staged at once. -/
theorem loadPiece_whole {b : List Byte} {p : Prog} (hb : b ≠ []) (hpieces : (s.txn k).pieces = [])
    (hload : loadProgram b n (s.proposedInfo k) (s.takenBy k n) = .ok p) :
    s.loadPiece k n 0 b.length b = .done St.ok p.wcu 0xFFFFFFFF 2 []
      (s.setTxn k { s.txn k with named := s.now, changes := addChange (s.txn k).changes (.program n (some b)) }) := by
  have hbad : pieceBad (s.txn k).pieces n b.length 0 b.length = false := by rw [hpieces]; rfl
  have hmine : ((n, b.length, 0, b) :: (s.txn k).pieces).filter (·.1 == n) = [(n, b.length, 0, b)] := by simp [hpieces]
  have hsum : ¬ ([(n, b.length, 0, b)].map fun x => x.2.2.2.length).sum < b.length := by simp
  have hkept : (s.txn k).pieces.filter (·.1 ≠ n) = (s.txn k).pieces := by rw [hpieces]; rfl
  rw [loadPiece, if_neg (by simp [hb, hbad])]
  simp only [hmine, if_neg hsum, hkept, assemble_whole, hload]

/-! ### The transaction that an entry names -/

theorem phase_of_onlineTxn (h : s.onlineTxn e = some k) : (s.txn k).phase = .opened := by
  unfold onlineTxn at h
  split at h
  · split at h
    · next hopen =>
      obtain rfl := Option.some.inj h
      exact beq_iff_eq.mp (Bool.and_eq_true_iff.mp hopen).2
    · exact nomatch h
  · exact nomatch h

theorem txnOf_untagged (h : e.txn = 0) : s.txnOf e.txn.toNat = none := if_pos (by rw [h]; rfl)

end State

variable {s : State} {e : CmdEntry} {k : Nat}

/-! ### The commands -/

theorem exec_ldlLoad_whole {p : Prog} (h : s.admits Op.ldlLoad e = true) (hk : (s.taken e).onlineTxn e = some k) (hn : e.param 0 1 < 16) (hoff : e.param 4 4 = 0)
    (htotal : e.param 8 4 = e.buf.length) (hbuf : e.buf ≠ []) (hin : e.bufOut = false) (hfree : (s.taken e).conflicts (some k) [.ladle (e.param 0 1)] = false)
    (hpieces : ((s.taken e).txn k).pieces = [])
    (hload : loadProgram e.buf (e.param 0 1) ((s.taken e).proposedInfo k) ((s.taken e).takenBy k (e.param 0 1)) = .ok p) :
    exec (.ldlLoad e) s = .next (s.completed Op.ldlLoad e St.ok p.wcu 0xFFFFFFFF 2 [] ((s.taken e).setTxn k
      { (s.taken e).txn k with named := (s.taken e).now, changes := addChange ((s.taken e).txn k).changes (.program (e.param 0 1) (some e.buf)) })) := by
  refine runCmd_completed h ?_
  simp only [hk]
  rw [if_neg (by simp [Nat.not_le.mpr hn, hoff, hin]), if_neg (ne_true_of_eq_false hfree), hoff, htotal]
  exact State.loadPiece_whole hbuf hpieces hload

theorem exec_ldlUnload_stages (h : s.admits Op.ldlUnload e = true) (hk : (s.taken e).onlineTxn e = some k) (hn : e.param 0 1 < 16)
    (hlocal : ((s.taken e).txn k).isLocal = false) (hfree : (s.taken e).conflicts (some k) (Change.targets (.program (e.param 0 1) none)) = false)
    (hfits : withinLimits (addChange ((s.taken e).txn k).changes (.program (e.param 0 1) none)) = true) :
    exec (.ldlUnload e) s = .next (s.completed Op.ldlUnload e St.ok 0 0 2 [] ((s.taken e).setTxn k
      { (s.taken e).txn k with changes := addChange ((s.taken e).txn k).changes (.program (e.param 0 1) none), named := (s.taken e).now })) := by
  refine runCmd_completed h ?_
  simp only [hk]
  rw [if_neg (Nat.not_le.mpr hn)]
  exact State.stageChanges_staged 0 (State.phase_of_onlineTxn hk) (by rw [hlocal, Bool.false_and]) (by rwa [List.flatMap_singleton]) hfits

/-- An untagged table load waits for the idle interval of its ladle. -/
theorem exec_ldlTable_waits (h : s.admits Op.ldlTable e = true) (htxn : e.txn = 0) (hdef : (s.taken e).defaulted = false) (hn : e.param 0 1 < 16)
    (hwords : e.bufLen.toNat % 4 = 0) (hsome : e.bufLen ≠ 0) (hin : e.bufOut = false)
    (hroom : e.param 4 4 + e.bufLen.toNat / 4 ≤ (s.taken e).tableRoom none (e.param 0 1))
    (hfree : (s.taken e).conflicts none (Change.targets (.table (.ladle (e.param 0 1)) (4 * e.param 4 4) e.buf)) = false) :
    exec (.ldlTable e) s = .next (s.waiting Op.ldlTable e (.ldlTable (e.param 0 1) (e.param 4 4) e.buf (s.taken e).now)
      ((s.taken e).setF (Reg.LDL_STATUS (e.param 0 1)) F.LDL_STATUS_TABLE_PENDING 1)) := by
  refine runCmd_waiting h ?_
  have hlen : ¬ e.bufLen = 0#32 := hsome
  simp only [State.txnOf_untagged htxn]
  rw [if_neg (by simp [hdef]), if_neg (by simp [Nat.not_le.mpr hn, hwords, hlen, hin, Nat.not_lt.mpr hroom]), if_neg (ne_true_of_eq_false hfree)]

/-- The one table load that waits is applied in the idle interval of its ladle. -/
theorem exec_ldlTableIdleApply_single {n first since : Nat} {w : Wait} {b : List Byte} (hn : n < 16) (hwaits : s.waits = [w])
    (htable : w.table? n = some (first, b, since)) (hidle : s.ladleIdle n = true) :
    exec (.ldlTableIdleApply n) s = .next (((s.writeTable n first b).finish w St.ok 0 0).setF (Reg.LDL_STATUS n) F.LDL_STATUS_TABLE_PENDING
      (bit (((s.writeTable n first b).finish w St.ok 0 0).waits.any fun w => (w.table? n).isSome))) := by
  change execLdlTableIdleApply n s = _
  simp only [execLdlTableIdleApply, hwaits, List.foldl_cons, List.foldl_nil, htable, hidle, if_pos hn, if_true]

theorem exec_ldlState_reads {p : Prog} (h : s.admits Op.ldlState e = true) (hdef : (s.taken e).defaulted = false) (hn : e.param 0 1 < 16) (hkind : e.param 1 1 < 4)
    (hmin : 1 ≤ e.param 6 2) (hmax : e.param 6 2 ≤ 4096) (hout : e.bufOut = true) (hlen : e.bufLen.toNat = 16 * e.param 6 2)
    (hprog : ((s.taken e).ladle (e.param 0 1)).prog = some p) (hrange : e.param 4 2 + e.param 6 2 ≤ p.declared (e.param 1 1)) :
    exec (.ldlState e) s = .next (s.completed Op.ldlState e St.ok (e.param 6 2) 0 0 [(e.bufAddr.toNat, (List.range (e.param 6 2)).flatMap fun i =>
      stateEntry p ((s.taken e).ladle (e.param 0 1)).priv (e.param 1 1) (e.param 4 2 + i) none)] (s.taken e)) := by
  refine runCmd_completed h ?_
  have hchecks : (decide (16 ≤ e.param 0 1) || decide (4 ≤ e.param 1 1) || decide (e.param 6 2 < 1) || decide (4096 < e.param 6 2) || !e.bufOut
      || decide (e.bufLen.toNat ≠ 16 * e.param 6 2)) = false := by
    simp [Nat.not_le.mpr hn, Nat.not_le.mpr hkind, Nat.not_lt.mpr hmax, hout, hlen, Nat.one_le_iff_ne_zero.mp hmin]
  simp only [hdef, hchecks, hprog, if_neg (Nat.not_lt.mpr hrange), Bool.false_eq_true, if_false]

end Sys2Proof.Machine

open Sys2Proof Sys2Proof.Machine

/-- Settles O40: for each command, what its body answers where its checks pass. -/
theorem ladleCommands : Obligations.LadleCommands := fun _ _ =>
  ⟨fun _ _ h hk hn hoff htotal hbuf _ hin => exec_ldlLoad_whole h hk hn hoff htotal hbuf hin, fun _ => exec_ldlUnload_stages, exec_ldlTable_waits,
    fun _ _ _ _ _ hn hwaits htable hidle => ⟨_, exec_ldlTableIdleApply_single hn hwaits htable hidle, rfl⟩, fun _ => exec_ldlState_reads⟩

end

section
/-!
SUPPORT. The events of on-chip memory (R133 to R135): the end of a region's test frees the fettler whatever its outcome asks for, and when a test starts and a copy switches.
-/
set_option autoImplicit false
namespace Sys2Proof.Machine

namespace State

variable {s : State}

/-! ### The fettler is free -/

/-- The fettler tests no region, and so none for a second time. -/
def FettlerFree (s : State) : Prop := s.fettle.test = none ∧ s.fettle.retry = false

/-- The state in which the test under way has ended. -/
def freeFettler (s : State) : State := { s with fettle := { s.fettle with test := none, retry := false } }

theorem fettlerFree_freeFettler (s : State) : s.freeFettler.FettlerFree := ⟨rfl, rfl⟩

/-- The test of region `g` of bank `b` ends: the bank shows its state at rest, and the walk moves on after a region of its own. -/
def endTest (s : State) (b g : Nat) : State := if s.fettle.retry then s.freeFettler.restBank b else (s.freeFettler.restBank b).walkOn b g

/-- The region waits for no retry any more. -/
def dropRetry (s : State) (b g : Nat) : State := { s with fettle := { s.fettle with retries := s.fettle.retries.filter fun x => !(x.bank == b && x.region == g) } }

/-- What the outcome of a test asks for (R134, R135, R138). -/
def takeOutcome (s : State) (b g : Nat) : FettleEnd → State
  | .passed => s.dropRetry b g
  | .aborted => s.abortTest b g
  | .faulted off expected got => ((s.dropRetry b g).postDia 0x0205 b (le 1 g ++ le 2 off ++ le 4 expected.toNat ++ le 4 got.toNat)).needSpare b 1

namespace FettlerFree

/-- Of the state it depends on those two fields alone. -/
theorem congr {t : State} (h : s.FettlerFree) (htest : t.fettle.test = s.fettle.test) (hretry : t.fettle.retry = s.fettle.retry) : t.FettlerFree :=
  ⟨htest.trans h.1, hretry.trans h.2⟩

theorem ite {c : Prop} [Decidable c] {a b : State} (ha : a.FettlerFree) (hb : b.FettlerFree) : (if c then a else b).FettlerFree := by
  split
  exacts [ha, hb]

theorem setF {a v : Nat} {f : Fld} (h : s.FettlerFree) : (s.setF a f v).FettlerFree := h.congr rfl rfl

/-- The regions that wait for a retry take no test. -/
theorem setRetries {l : List FettleRetry} (h : s.FettlerFree) : ({ s with fettle := { s.fettle with retries := l } } : State).FettlerFree := h.congr rfl rfl

theorem event {typ sev inst : Nat} {payload : List Byte} (h : s.FettlerFree) : (s.event typ sev inst payload).FettlerFree := by
  obtain ⟨e, f, hrest⟩ := s.eventAt_rest s.stamp typ sev inst payload
  rw [State.event, hrest]
  exact h.congr rfl rfl

theorem postDia {kind unit : Nat} {payload : List Byte} (h : s.FettlerFree) : (s.postDia kind unit payload).FettlerFree :=
  .ite (h.congr rfl rfl) (h.congr rfl rfl)

theorem restBank {b : Nat} (h : s.FettlerFree) : (s.restBank b).FettlerFree := .ite h h.setF

theorem endPass (h : s.FettlerFree) : s.endPass.FettlerFree := by
  unfold State.endPass
  exact setRetries h.setF

theorem setWalk {b r : Nat} (h : s.FettlerFree) : (s.setWalk b r).FettlerFree := h.setF.setF

theorem walkOn {b r : Nat} (h : s.FettlerFree) : (s.walkOn b r).FettlerFree := .ite h.setWalk.endPass h.setWalk

theorem abortTest {b r : Nat} (h : s.FettlerFree) : (s.abortTest b r).FettlerFree := .ite (setF h.setRetries) h.setRetries

/-- The copy begins, or with no spare free the bank stays in service degraded. -/
theorem startRemap {b cause : Nat} (h : s.FettlerFree) : (s.startRemap b cause).FettlerFree := .ite (h.congr rfl rfl) (event (h.congr rfl rfl))

/-- The copy waits for the one under way, or begins. -/
theorem needSpare {b cause : Nat} (h : s.FettlerFree) : (s.needSpare b cause).FettlerFree := .ite h (.ite (h.congr rfl rfl) h.startRemap)

theorem takeOutcome {b g : Nat} (h : s.FettlerFree) (x : FettleEnd) : (s.takeOutcome b g x).FettlerFree := by
  have hdrop : (s.dropRetry b g).FettlerFree := h.setRetries
  cases x with
  | passed => exact hdrop
  | aborted => exact h.abortTest
  | faulted off expected got => exact hdrop.postDia.needSpare

end FettlerFree

theorem fettlerFree_endTest (s : State) (b g : Nat) : (s.endTest b g).FettlerFree :=
  have hrest : (s.freeFettler.restBank b).FettlerFree := s.fettlerFree_freeFettler.restBank
  .ite hrest hrest.walkOn

end State

variable {s : State}

/-! ### The events -/

theorem exec_fettleRegionEnd_tested {b g : Nat} (htest : s.fettle.test = some (b, g)) (x : FettleEnd) :
    exec (.fettleRegionEnd x) s = .next ((s.endTest b g).takeOutcome b g x) := by
  change execFettleRegionEnd x s = _
  rw [execFettleRegionEnd, htest]
  cases x <;> rfl

theorem exec_fettleRegionEnd_idle (htest : s.fettle.test = none) (x : FettleEnd) : exec (.fettleRegionEnd x) s = .next s := by
  change execFettleRegionEnd x s = _
  rw [execFettleRegionEnd, htest]

/-- With no region waiting for a retry, the test that is due takes the next region of the walk. -/
theorem exec_fettleRegionStart_walk (hreset : s.sup.inReset = false) (hon : s.flag Reg.MEM_FETTLE F.MEM_FETTLE_ENABLE = true) (hpower : s.outage = false)
    (htest : s.fettle.test = none) (hdue : s.fettle.at_ ≤ s.now) (hretries : s.fettle.retries = []) :
    exec .fettleRegionStart s = .next ((s.skipChilled 192).testRegion ((s.skipChilled 192).fld Reg.MEM_FETTLEPOS F.MEM_FETTLEPOS_BANK)
      ((s.skipChilled 192).fld Reg.MEM_FETTLEPOS F.MEM_FETTLEPOS_REGION) false) := by
  change execFettleRegionStart s = _
  rw [execFettleRegionStart, if_neg (by simp [hreset, hon, hpower, htest, Nat.not_lt.mpr hdue]), hretries, List.find?_nil]

theorem exec_bankRemapDone_switches {b cause : Nat} (hpower : s.outage = false) (hreset : s.sup.inReset = false) (hcopy : s.fettle.remap = some (b, cause)) :
    exec (.bankRemapDone b cause) s = .next (s.switchBank b cause) :=
  congrArg Host.Outcome.next (if_pos (by simp [hpower, hreset, hcopy]))

/-- During an outage the copy is abandoned. -/
theorem exec_bankRemapDone_outage (hpower : s.outage = true) (b cause : Nat) : exec (.bankRemapDone b cause) s = .next s :=
  congrArg Host.Outcome.next (if_neg (by simp [hpower]))

end Sys2Proof.Machine

open Sys2Proof Sys2Proof.Machine

/-- Settles O45: each event where its guard holds; no outcome of a test takes the fettler again. -/
theorem memoryEvents : Obligations.MemoryEvents := fun _ =>
  ⟨fun x b g _ _ _ htest _ => ⟨_, exec_fettleRegionEnd_tested htest x, (State.fettlerFree_endTest _ b g).takeOutcome x⟩,
    fun x htest => exec_fettleRegionEnd_idle htest x, exec_fettleRegionStart_walk,
    fun _ _ => exec_bankRemapDone_switches, fun b c hpower => exec_bankRemapDone_outage hpower b c⟩

end

section
/-!
SUPPORT. Points under writes and forces (R162 to R164): what a stored record, a set force and a removed force leave of every point and of every force.
-/
set_option autoImplicit false
namespace Sys2Proof.Machine

/-! ### Maps without a default -/

theorem mapFind_mapDel {α : Type} (m : List (Nat × α)) (k j : Nat) : mapFind (mapDel m k) j = if j = k then none else mapFind m j := by
  induction m with
  | nil => exact (ite_self none).symm
  | cons e m ih =>
    obtain ⟨i, x⟩ := e
    rw [mapDel]
    split
    · next hik =>
      subst hik
      rw [ih]
      split
      · rfl
      · next hji => exact (if_neg (Ne.symm hji)).symm
    · next hik =>
      rw [mapFind, ih, mapFind]
      split
      · next hij => exact (if_neg (hij ▸ hik)).symm
      · rfl

theorem mapFind_mapPut {α : Type} (m : List (Nat × α)) (k j : Nat) (v : α) : mapFind (mapPut m k v) j = if j = k then some v else mapFind m j := by
  induction m with
  | nil => simp only [mapPut, mapFind, eq_comm]
  | cons e m ih =>
    obtain ⟨i, x⟩ := e
    rw [mapPut]
    split
    · simp only [mapFind, eq_comm]
    · split
      · next hik =>
        subst hik
        simp only [mapFind, eq_comm (a := j)]
        split <;> rfl
      · next hik =>
        rw [mapFind, ih, mapFind]
        split
        · next hij => exact (if_neg (hij ▸ hik)).symm
        · rfl

namespace State

variable (s : State) (a b : Nat) (r : PtRec) (f : Force)

/-! ### Records -/

theorem pt_setPt : (s.setPt a r).pt b = if b = a then r else s.pt b := mapGet_mapSet _ _ _ _ _

@[simp] theorem pt_setPt_self : (s.setPt a r).pt a = r := (s.pt_setPt a a r).trans (if_pos rfl)

theorem pt_setPt_other (h : b ≠ a) : (s.setPt a r).pt b = s.pt b := (s.pt_setPt a b r).trans (if_neg h)

/-! ### Operations on a point that no force holds -/

variable {s a b f}

theorem ptOp_write_free {w : PtWrite} (h : s.force? w.addr = none) :
    s.ptOp (.write w) = s.setPt w.addr { value := w.value, quality := w.quality, pending := (s.pt w.addr).pending, writer := w.writer, stamp := w.stamp } := by
  simp only [ptOp, h]

/-! ### Operations on forces -/

/-- The write of a forced point is absorbed. -/
theorem ptOp_write_forced {w : PtWrite} (h : s.force? w.addr = some f) :
    s.ptOp (.write w) = s.absorb w.addr f
      { value := w.value, quality := w.quality, pending := (s.pt w.addr).pending, writer := w.writer, stamp := w.stamp } := by
  simp only [ptOp, h]

theorem force?_absorb_self : (s.absorb a f r).force? a = some { f with under := some r, absorbed := min (2 ^ 32 - 1) (f.absorbed + 1) } :=
  (mapFind_mapPut _ _ _ _).trans (if_pos rfl)

/-- The force that setting value, quality and stamp makes of the one that stands, if any (R162, R163). -/
def forceSet (s : State) (a : Nat) (v : Word) (q st : Nat) : Force :=
  match s.force? a with
  | some g => { g with value := v, quality := q, setStamp := st }
  | none => { value := v, quality := q, orphan := false, under := none, absorbed := 0, setStamp := st }

theorem forceSet_free {v : Word} {q st : Nat} (h : s.force? a = none) :
    s.forceSet a v q st = { value := v, quality := q, orphan := false, under := none, absorbed := 0, setStamp := st } := by
  rw [forceSet, h]

theorem forceSet_forced {v : Word} {q st : Nat} (h : s.force? a = some f) :
    s.forceSet a v q st = { f with value := v, quality := q, setStamp := st } := by
  rw [forceSet, h]

theorem ptOp_force (v : Word) (q st : Nat) : s.ptOp (.force a v q st) =
    ({ s with forces := mapPut s.forces a (s.forceSet a v q st) } : State).setPt a
      { value := v, quality := q, pending := (s.pt a).pending, writer := 0x0030, stamp := st } := rfl

theorem force?_ptOp_force (v : Word) (q st : Nat) :
    (s.ptOp (.force a v q st)).force? b = if b = a then some (s.forceSet a v q st) else s.force? b := mapFind_mapPut _ _ _ _

theorem pt_ptOp_force (v : Word) (q st : Nat) : (s.ptOp (.force a v q st)).pt b =
    if b = a then { value := v, quality := q, pending := (s.pt a).pending, writer := 0x0030, stamp := st } else s.pt b := by
  rw [ptOp_force, pt_setPt]
  rfl

/-- A force with no write absorbed is dropped, and the record stands. -/
theorem ptOp_unforce_kept (h : s.force? a = some f) (hu : f.under = none) : s.ptOp (.unforce a) = { s with forces := mapDel s.forces a } := by
  simp only [ptOp, h, hu]

/-- A force that has absorbed a write is dropped, and the record takes that write. -/
theorem ptOp_unforce_absorbed {u : PtRec} (h : s.force? a = some f) (hu : f.under = some u) :
    s.ptOp (.unforce a) = ({ s with forces := mapDel s.forces a } : State).setPt a { u with pending := (s.pt a).pending } := by
  simp only [ptOp, h, hu]

theorem force?_ptOp_unforce (h : s.force? a = some f) : (s.ptOp (.unforce a)).force? b = if b = a then none else s.force? b := by
  cases hu : f.under with
  | none => rw [ptOp_unforce_kept h hu]; exact mapFind_mapDel _ _ _
  | some u => rw [ptOp_unforce_absorbed h hu]; exact mapFind_mapDel _ _ _

theorem pt_ptOp_unforce (h : s.force? a = some f) :
    (s.ptOp (.unforce a)).pt b = if b = a then f.under.elim (s.pt a) fun u => { u with pending := (s.pt a).pending } else s.pt b := by
  cases hu : f.under with
  | none =>
    rw [ptOp_unforce_kept h hu]
    exact (ite_eq_right_iff.mpr fun hba => hba ▸ rfl).symm
  | some u =>
    rw [ptOp_unforce_absorbed h hu, pt_setPt]
    rfl

end State

end Sys2Proof.Machine

open Sys2Proof Sys2Proof.Machine

/-- Settles O22: each operation by the record and the force it leaves at its own address and at every other. -/
theorem pointOperations : Obligations.PointOperations := by
  intro s
  refine ⟨fun w hfree => ?_, fun w f hf => ?_, fun a v q st => ?_, fun a f hf _ => ?_⟩
  · rw [State.ptOp_write_free hfree]
    exact ⟨s.pt_setPt_self _ _, fun b hb => s.pt_setPt_other _ b _ hb, rfl, rfl⟩
  · rw [State.ptOp_write_forced hf]
    exact ⟨rfl, State.force?_absorb_self _⟩
  · refine ⟨(State.pt_ptOp_force v q st).trans (if_pos rfl),
      ⟨s.forceSet a v q st, (State.force?_ptOp_force v q st).trans (if_pos rfl), ?_⟩,
      fun b hb => ⟨(State.pt_ptOp_force v q st).trans (if_neg hb), (State.force?_ptOp_force v q st).trans (if_neg hb)⟩⟩
    cases hf : s.force? a with
    | none => simp [State.forceSet_free hf]
    | some g => simp [State.forceSet_forced hf]
  · refine ⟨(State.force?_ptOp_unforce hf).trans (if_pos rfl), fun u hu => ?_, fun hu => ?_,
      fun b hb => ⟨(State.pt_ptOp_unforce hf).trans (if_neg hb), (State.force?_ptOp_unforce hf).trans (if_neg hb)⟩⟩
    · rw [State.pt_ptOp_unforce hf, if_pos rfl, hu, Option.elim_some]
    · rw [State.pt_ptOp_unforce hf, if_pos rfl, hu, Option.elim_none]

end

section
/-!
SUPPORT. The record of a point as a host reads it (R146, R149): its bytes are its fields in order, and each flag is the bit of its place.
-/
set_option autoImplicit false
namespace Sys2Proof.Machine

theorem bitOf_of_bit {x k : Nat} {b : Bool} (h : x / 2 ^ k % 2 = bit b) : bitOf x k = b := by
  rw [bitOf, h]
  cases b <;> rfl

/-- Seven bits in the places of the flags byte: they fit the byte, and the FORCED and the PENDING flag read back. -/
theorem flagBits (i o u r p x f : Bool) :
    let b := bit i * 128 + bit o * 64 + bit u * 32 + bit r * 16 + bit p * 8 + bit x * 4 + bit f
    b < 256 ∧ bitOf b 0 = f ∧ bitOf b 3 = p := by
  have hle (b : Bool) : bit b ≤ 1 := by cases b <;> decide
  have := hle i; have := hle o; have := hle u; have := hle r; have := hle p; have := hle x; have := hle f
  exact ⟨by omega, bitOf_of_bit (by omega), bitOf_of_bit (by omega)⟩

namespace State

variable (s : State) (a : Nat)

theorem ptFlags_bits : s.ptFlags a < 256 ∧ bitOf (s.ptFlags a) 0 = (s.force? a).isSome ∧ bitOf (s.ptFlags a) 3 = (s.pt a).pending := flagBits _ _ _ _ _ _ _

theorem recBytes_fields : s.recBytes a = le 4 (s.pt a).value.toNat ++ (le 1 ((s.info a).typ + (s.pt a).quality * 16) ++ (le 1 (s.ptFlags a) ++
    (le 2 (s.pt a).writer ++ (le 8 (s.pt a).stamp ++ [])))) := by
  simp only [recBytes, view, List.append_assoc, List.append_nil]

end State

end Sys2Proof.Machine

open Sys2Proof Sys2Proof.Machine

/-- Settles O23: each field is reached by dropping the fields before it, and reads back what the record and the flags hold. -/
theorem pointRecordBytes : Obligations.PointRecordBytes := by
  intro s a htyp hquality hwriter hstamp
  have hvalue : (s.pt a).value.toNat < 2 ^ 32 := (s.pt a).value.isLt
  obtain ⟨hflags, hforced, hpending⟩ := s.ptFlags_bits a
  rw [s.recBytes_fields a]
  simp only [fieldLe_le_append, fieldLe_le_zero, Nat.reduceLeDiff, Nat.reduceSub, hforced, hpending, true_and]
  refine ⟨by simp, ?_⟩
  omega

end

section
/-!
SUPPORT. The point services (R153, R157, R162, R164): each command where its checks pass, by what its body answers on the state in which it was taken.
-/
set_option autoImplicit false
namespace Sys2Proof.Machine

variable {s : State} {e : CmdEntry}

/-- Outside the charge an untagged operation of the host is applied at once (R152). -/
theorem State.applyHost_uncharged {u : State} (hcharge : u.charging = false) (t : CmdTag) (op : PtOp) :
    u.applyHost t op = .done St.ok (u.hostResult op) 0 0 [] (u.applyWith [op.restamp u.stamp] [t.delta (u.hostResult op) 0] []) :=
  if_neg (ne_true_of_eq_false hcharge)

/-! ### Reads -/

theorem exec_pntRead_reads (h : s.admits Op.pntRead e = true) (hmin : 1 ≤ e.param 4 4) (hmax : e.param 4 4 ≤ 4096) (hend : e.param 0 4 + e.param 4 4 ≤ 2 ^ 25)
    (hout : e.bufOut = true) (hlen : e.bufLen.toNat = 16 * e.param 4 4) :
    exec (.pntRead e) s = .next (s.completed Op.pntRead e St.ok (e.param 4 4) (s.taken e).batch 0
      [(e.bufAddr.toNat, (List.range (e.param 4 4)).flatMap fun i => (s.taken e).recBytes (e.param 0 4 + i))] (s.taken e)) :=
  runCmd_completed h (if_neg (by simp [-Nat.reducePow, Nat.not_lt.mpr hmax, Nat.not_lt.mpr hend, hout, hlen, Nat.one_le_iff_ne_zero.mp hmin]))

theorem exec_pntReadList_reads (h : s.admits Op.pntReadList e = true) (hmin : 1 ≤ e.param 0 4) (hmax : e.param 0 4 ≤ 4096) (hin : e.bufOut = false)
    (hlen : e.bufLen.toNat = 4 * e.param 0 4) (halign : e.param 8 8 % 4 = 0) (haddrs : ∀ i, i < e.param 0 4 → fieldLe e.buf (4 * i) 4 < 2 ^ 25) :
    exec (.pntReadList e) s = .next (s.completed Op.pntReadList e St.ok (e.param 0 4) (s.taken e).batch 0
      [(e.param 8 8, ((List.range (e.param 0 4)).map fun i => fieldLe e.buf (4 * i) 4).flatMap (s.taken e).recBytes)] (s.taken e)) :=
  runCmd_completed h (if_neg (by simpa [-Nat.reducePow, Nat.not_lt.mpr hmax, hin, hlen, halign, Nat.one_le_iff_ne_zero.mp hmin] using haddrs))

theorem exec_pntForceList_reads (h : s.admits Op.pntForceList e = true) (hout : e.bufOut = true) (hlen : e.bufLen.toNat % 32 = 0) :
    let es := ((s.taken e).forces.drop (e.param 0 4)).take (e.bufLen.toNat / 32)
    exec (.pntForceList e) s = .next (s.completed Op.pntForceList e St.ok es.length (s.taken e).forces.length 0
      [(e.bufAddr.toNat, es.flatMap fun x => (s.taken e).forceEntry x.1 x.2)] (s.taken e)) :=
  runCmd_completed h (if_neg (by simp [hout, hlen]))

/-! ### Forces -/

/-- An untagged force that passes the checks outside the charge is applied at once and says whether the point was forced. -/
theorem State.forcePoint_untagged {u : State} (t : CmdTag) (htxn : e.txn = 0) (hcharge : u.charging = false)
    (hcheck : u.writeCheck (BitVec.ofNat 32 (e.param 0 4)) false true true (BitVec.ofNat 8 (e.param 8 1)) (BitVec.ofNat 32 (e.param 4 4)) none = none)
    (hlock : u.flag Reg.PNT_CFG F.PNT_CFG_FORCE_LOCK = false) (hroom : u.forces.length < 4096 ∨ (u.force? (e.param 0 4)).isSome = true) :
    u.forcePoint t e = .done St.ok (bit (u.force? (e.param 0 4)).isSome) 0 0 []
      (u.applyWith [.force (e.param 0 4) (BitVec.ofNat 32 (e.param 4 4)) (bitsOf (e.param 8 1) 4 4) u.stamp]
        [t.delta (bit (u.force? (e.param 0 4)).isSome) 0] []) := by
  have hspace : ¬ (decide (4096 ≤ u.forces.length) && !(u.force? (e.param 0 4)).isSome) = true := by
    rcases hroom with h | h
    · simp [Nat.not_le.mpr h]
    · simp [h]
  simp only [forcePoint, txnOf_untagged htxn, Option.isNone_none, hcheck, hlock, Bool.false_eq_true, if_false, if_neg hspace]
  exact applyHost_uncharged hcharge t _

/-- The untagged removal of a force likewise; it says whether a write had been absorbed. -/
theorem State.unforcePoint_untagged {u : State} {f : Force} (t : CmdTag) (htxn : e.txn = 0) (hcharge : u.charging = false) (haddr : e.param 0 4 < 2 ^ 25)
    (hdef : u.defaulted = false) (hleads : u.leads = true) (htyp : (u.info (e.param 0 4)).typ ≠ 0)
    (hheld : u.heldByOther none (.point (e.param 0 4)) = false) (hf : u.force? (e.param 0 4) = some f) :
    u.unforcePoint t e = .done St.ok (bit f.under.isSome) 0 0 []
      (u.applyWith [.unforce (e.param 0 4)] [t.delta (bit f.under.isSome) 0] []) := by
  have hresult : u.hostResult (.unforce (e.param 0 4)) = bit f.under.isSome := by rw [hostResult, hf]
  simp only [unforcePoint, txnOf_untagged htxn, if_neg (Nat.not_le.mpr haddr), hdef, hleads, if_neg htyp, hheld, hf, Bool.and_false, Bool.not_true,
    Bool.false_eq_true, if_false]
  rw [applyHost_uncharged hcharge, hresult]
  rfl

/-! ### Subscriptions -/

theorem exec_pntSubscribe_subscribes (h : s.admits Op.pntSubscribe e = true) (hmin : 1 ≤ e.param 0 2) (hmax : e.param 0 2 ≤ 1024)
    (hresv : bitsOf (e.param 2 1) 4 4 = 0) (hmode : bitsOf (e.param 2 1) 0 3 ≠ 0) (hsome : 1 ≤ e.param 8 4) (hcount : e.param 8 4 ≤ 65536)
    (hend : e.param 4 4 + e.param 8 4 ≤ 2 ^ 25) {subs : List (Nat × Sub)}
    (hsubs : mapPut (s.taken e).subs (e.param 0 2)
      { mode := e.param 2 1, first := e.param 4 4, count := e.param 8 4, deadband := BitVec.ofNat 32 (e.param 12 4), refs := [] } = subs)
    (hroom : subs.length ≤ 1024) (hpoints : subPoints subs ≤ 4194304) {ns : List Notice}
    (hns : (if bitOf (e.param 2 1) 3 then ({ s.taken e with subs := subs } : State).initialNotices (e.param 0 2) (e.param 4 4) (e.param 8 4) else []) = ns) :
    exec (.pntSubscribe e) s = .next (s.completed Op.pntSubscribe e St.ok (subPoints subs) 0 0 []
      { ({ s.taken e with subs := subs } : State).bump Reg.PNT_CNT_NOTICE ns.length with noticeQ := (s.taken e).noticeQ ++ ns }) := by
  subst hsubs hns
  refine runCmd_completed h ((if_neg ?_).trans (if_neg ?_))
  · simp [-Nat.reducePow, hresv, hmode, Nat.not_lt.mpr hmax, Nat.not_lt.mpr hcount, Nat.not_lt.mpr hend, Nat.one_le_iff_ne_zero.mp hmin,
      Nat.one_le_iff_ne_zero.mp hsome]
  · simp [Nat.not_lt.mpr hroom, Nat.not_lt.mpr hpoints]

end Sys2Proof.Machine

open Sys2Proof Sys2Proof.Machine

/-- Settles O24: for each command, what its body answers where its checks pass. -/
theorem pointCommands : Obligations.PointCommands := fun _ _ =>
  ⟨exec_pntRead_reads, exec_pntReadList_reads,
    fun h htxn hcharge hcheck hlock hroom => runCmd_completed h (State.forcePoint_untagged _ htxn hcharge hcheck hlock hroom),
    fun _ h htxn hcharge haddr hdef hleads htyp hheld hf => runCmd_completed h (State.unforcePoint_untagged _ htxn hcharge haddr hdef hleads htyp hheld hf),
    exec_pntForceList_reads,
    fun h hmin hmax hresv hmode hsome hcount hend hroom hpoints =>
      ⟨_, exec_pntSubscribe_subscribes h hmin hmax hresv hmode hsome hcount hend rfl hroom hpoints rfl, rfl, rfl, rfl⟩,
    fun _ h hx => runCmd_completed h (if_pos (by rw [hx]; rfl))⟩

end

section
/-!
SUPPORT. The timers of the Carzon protocol (R160, R288, R293, R301, R307, R310): what each does when it is due, and that it does nothing before.
-/
set_option autoImplicit false
namespace Sys2Proof.Machine

/-! ### Folds in which one element acts -/

theorem foldl_of_fixed {α β : Type} {f : β → α → β} {b : β} {l : List α} (h : ∀ x ∈ l, f b x = b) : l.foldl f b = b := by
  induction l with
  | nil => rfl
  | cons a l ih =>
    rw [List.foldl_cons, h a List.mem_cons_self]
    exact ih fun x hx => h x (List.mem_cons_of_mem a hx)

/-- Where every other element leaves the values before and after the act of `a` alone, the fold is that act. -/
theorem foldl_of_single {α β : Type} {f : β → α → β} {b : β} {a : α} {l : List α} (hnodup : l.Nodup) (ha : a ∈ l) (hbefore : ∀ x ∈ l, x ≠ a → f b x = b)
    (hafter : ∀ x ∈ l, x ≠ a → f (f b a) x = f b a) : l.foldl f b = f b a := by
  obtain ⟨l₁, l₂, rfl⟩ := List.append_of_mem ha
  have hne : ∀ x, x ∈ l₁ ∨ x ∈ l₂ → x ≠ a := by
    rintro x hx rfl
    have hnot := List.nodup_middle.mp hnodup
    exact (List.nodup_cons.mp hnot).1 (List.mem_append.mpr hx)
  have hmem : ∀ x, x ∈ l₁ ∨ x ∈ l₂ → x ∈ l₁ ++ a :: l₂ := fun x hx => by
    simp only [List.mem_append, List.mem_cons]
    tauto
  rw [List.foldl_append, List.foldl_cons, foldl_of_fixed fun x hx => hbefore x (hmem x (.inl hx)) (hne x (.inl hx)),
    foldl_of_fixed fun x hx => hafter x (hmem x (.inr hx)) (hne x (.inr hx))]

namespace State

variable {s t : State} {p q : Nat} {f : TxFrame}

/-! ### Trunk ports -/

theorem port_setPort_other (x : TrunkPort) (h : p ≠ q) : (s.setPort q x).port p = s.port p := mapGet_mapSet_other _ _ _ _ _ h

theorem trunksDown_congr (hsup : t.sup = s.sup) (hrole : t.role = s.role) (hstatus : t.rd Reg.GLB_STATUS = s.rd Reg.GLB_STATUS)
    (hstage : t.rd Reg.GLB_BOOTSTAGE = s.rd Reg.GLB_BOOTSTAGE) : t.trunksDown = s.trunksDown := by
  rw [trunksDown, stage, defaulted, dark, hsup, hrole, fld_congr hstage, flag_congr hstatus]
  rfl

theorem portRole_congr (hdown : t.trunksDown = s.trunksDown) (hctl : t.rd (Reg.TRK_CTL p) = s.rd (Reg.TRK_CTL p))
    (hbeacons : (t.port p).beacons = (s.port p).beacons) : t.portRole p = s.portRole p := by
  rw [portRole, trkOn, plcaOn, hdown, hbeacons, flag_congr hctl, flag_congr hctl]
  rfl

theorem sendsCarzon_congr (hsup : t.sup = s.sup) (hrole : t.role = s.role) (hstatus : t.rd Reg.GLB_STATUS = s.rd Reg.GLB_STATUS)
    (hpat : t.rd Reg.PAT_STATUS = s.rd Reg.PAT_STATUS) : t.sendsCarzon = s.sendsCarzon := by
  rw [sendsCarzon, leads, defaulted, pausing, hsup, hrole, flag_congr hstatus, flag_congr hpat]
  rfl

theorem canSend_congr (hsends : t.sendsCarzon = s.sendsCarzon) (hrole : t.portRole p = s.portRole p) : t.canSend p = s.canSend p := by
  rw [canSend, hsends, hrole, canSend]

theorem canSend_setPort_other (x : TrunkPort) (h : p ≠ q) : (s.setPort q x).canSend p = s.canSend p :=
  canSend_congr rfl (portRole_congr rfl rfl (by rw [port_setPort_other x h]))

theorem port_await_other (h : p ≠ q) : (s.await q f).port p = s.port p := port_setPort_other _ h

/-- A frame that waits at one port stops no other port from sending. -/
theorem canSend_await_other (h : p ≠ q) : (s.await q f).canSend p = s.canSend p := by
  have hrd {b : Nat} (hb : b ≠ Reg.TRK_TXLATE q) : (s.await q f).rd b = s.rd b := s.rd_wrN_other _ hb
  have hstatus := hrd (b := Reg.GLB_STATUS) (by simp only [Reg.GLB_STATUS, Reg.TRK_TXLATE]; omega)
  have hstage := hrd (b := Reg.GLB_BOOTSTAGE) (by simp only [Reg.GLB_BOOTSTAGE, Reg.TRK_TXLATE]; omega)
  have hpat := hrd (b := Reg.PAT_STATUS) (by simp only [Reg.PAT_STATUS, Reg.TRK_TXLATE]; omega)
  have hctl := hrd (b := Reg.TRK_CTL p) (by simp only [Reg.TRK_CTL, Reg.TRK_TXLATE]; omega)
  exact canSend_congr (sendsCarzon_congr rfl rfl hstatus hpat) (portRole_congr (trunksDown_congr rfl rfl hstatus hstage) hctl (by rw [port_await_other h]))

/-! ### TIME frames -/

/-- A TIME frame is due at the port. -/
def timeDue (s : State) (p : Nat) : Bool := s.canSend p && decide ((s.port p).timeAt ≤ s.now)

/-- The port with its next TIME frame set. -/
def timeSet (s : State) (period p : Nat) : State :=
  s.setPort p { s.port p with timeAt := if s.now < (s.port p).timeAt + period then (s.port p).timeAt + period else s.now + period }

/-- What TIME_FRAME_DUE does at one port. -/
def timeStep (period : Nat) (s : State) (p : Nat) : State := if s.timeDue p then (s.timeSet period p).transmit p { cls := Gate.time, kind := .time } else s

theorem timeStep_idle {period : Nat} (h : s.timeDue p = false) : s.timeStep period p = s := if_neg (ne_true_of_eq_false h)

theorem timeStep_waits {period : Nat} (h : s.timeDue p = true) (hwait : (s.timeSet period p).startsNow p { cls := Gate.time, kind := .time } = false) :
    s.timeStep period p = (s.timeSet period p).await p { cls := Gate.time, kind := .time } :=
  (if_pos h).trans (if_neg (ne_true_of_eq_false hwait))

theorem timeDue_eq_false (h : s.canSend p = false ∨ s.now < (s.port p).timeAt) : s.timeDue p = false := by
  rcases h with h | h
  · rw [timeDue, h, Bool.false_and]
  · rw [timeDue, decide_eq_false (Nat.not_le.mpr h), Bool.and_false]

/-- The TIME frame that waits at one port makes none due at another. -/
theorem timeDue_await_other {period : Nat} (h : p ≠ q) : ((s.timeSet period q).await q f).timeDue p = s.timeDue p := by
  rw [timeDue, canSend_await_other h, port_await_other h, timeSet, canSend_setPort_other _ h, port_setPort_other _ h]
  rfl

end State

variable {s : State} {n q : Nat}

theorem exec_timeFrameDue : exec .timeFrameDue s = .next ((List.range 64).foldl (State.timeStep (ms (s.fld Reg.TRK_CZNCFG F.TRK_CZNCFG_TIME_MS))) s) := rfl

theorem exec_timeFrameDue_idle (h : ∀ p, p < 64 → s.canSend p = false) : exec .timeFrameDue s = .next s := by
  rw [exec_timeFrameDue, foldl_of_fixed fun p hp => State.timeStep_idle (State.timeDue_eq_false (.inl (h p (List.mem_range.mp hp))))]

theorem exec_timeFrameDue_single (hq : q < 64) (hsend : s.canSend q = true) (hdue : (s.port q).timeAt ≤ s.now)
    (hothers : ∀ p, p < 64 → p ≠ q → s.canSend p = false ∨ s.now < (s.port p).timeAt)
    (hwait : (s.timeSet (ms (s.fld Reg.TRK_CZNCFG F.TRK_CZNCFG_TIME_MS)) q).startsNow q { cls := Gate.time, kind := .time } = false) :
    exec .timeFrameDue s = .next ((s.timeSet (ms (s.fld Reg.TRK_CZNCFG F.TRK_CZNCFG_TIME_MS)) q).await q { cls := Gate.time, kind := .time }) := by
  have hact := State.timeStep_waits (by rw [State.timeDue, hsend, decide_eq_true hdue, Bool.and_self]) hwait
  have hidle : ∀ p ∈ List.range 64, p ≠ q → s.timeDue p = false := fun p hp hne => State.timeDue_eq_false (hothers p (List.mem_range.mp hp) hne)
  rw [exec_timeFrameDue, foldl_of_single List.nodup_range (List.mem_range.mpr hq) (fun p hp hne => State.timeStep_idle (hidle p hp hne)) fun p hp hne => ?_, hact]
  rw [hact]
  exact State.timeStep_idle ((State.timeDue_await_other hne).trans (hidle p hp hne))

/-! ### Retransmission -/

theorem exec_retransmitTimeout_single {u : CznUnacked} (hsend : s.sendsCarzon = true) (hone : (s.cznNode n).unacked = [u])
    (hdue : u.sentAt + 3 * ms s.lamp.tick ≤ s.now) (htries : u.tries < 5) :
    exec (.retransmitTimeout n) s = .next ((s.setCznNode n { s.cznNode n with unacked := [{ u with tries := u.tries + 1, sentAt := s.now }] }).transmit
      (nodePort n) { cls := u.cls, kind := .again u.frame }) := by
  have hlist : (s.cznNode n).unacked.filter (fun u => decide (u.sentAt + 3 * ms s.lamp.tick ≤ s.now)) = [u] := by simp [hone, hdue]
  change execRetransmitTimeout n s = _
  rw [execRetransmitTimeout, hlist, if_neg (by simp [hsend]), List.foldl_cons, List.foldl_nil, if_pos htries, hone, List.map_singleton, if_pos rfl]

theorem exec_retransmitTimeout_silent (hsend : s.sendsCarzon = false) : exec (.retransmitTimeout n) s = .next s :=
  congrArg Host.Outcome.next (if_pos (by rw [hsend]; rfl))

/-! ### Hold time -/

/-- A node that has been silent for its hold time. -/
def State.nodeGone (s : State) (n : Nat) : State := (s.setCznNode n { s.cznNode n with cause := 0, reseatSeq := none, parts := [] }).nodeState n 5

theorem exec_nodeHoldExpiry_due {e : CznEntry} (he : s.cfg.cznEntry n = some e) (hmin : 2 ≤ (s.cznNode n).state) (hmax : (s.cznNode n).state ≤ 4)
    (hdue : (s.cznNode n).lastHeard + ms e.hold ≤ s.now) :
    exec (.nodeHoldExpiry n) s = .next (if (s.nodeGone n).leads then
      ((((s.nodeGone n).sweep ((s.nodeGone n).nodeInputs n) Q.absent).post6 2 n 0xFF 0 0 0 0 (s.nodeGone n).stamp 0).event 0x0D12 1 noInst
        (le 2 n ++ le 8 (s.cznNode n).lastStamp)) else s.nodeGone n) := by
  change execNodeHoldExpiry n s = _
  simp only [execNodeHoldExpiry, he]
  rw [if_pos (by simp [hmin, hmax, hdue])]
  rfl

theorem exec_nodeHoldExpiry_early {e : CznEntry} (he : s.cfg.cznEntry n = some e) (hearly : s.now < (s.cznNode n).lastHeard + ms e.hold) :
    exec (.nodeHoldExpiry n) s = .next s := by
  change execNodeHoldExpiry n s = _
  simp only [execNodeHoldExpiry, he]
  rw [if_neg (by simp [Nat.not_le.mpr hearly])]

end Sys2Proof.Machine

open Sys2Proof Sys2Proof.Machine

/-- Settles O50: each timer when it is due and when it is not; of the trunks only the one whose TIME frame is due acts. -/
theorem carzonTimers : Obligations.CarzonTimers := fun _ =>
  ⟨fun _ _ => exec_retransmitTimeout_single, fun _ => exec_retransmitTimeout_silent, fun _ => exec_timeFrameDue_single, exec_timeFrameDue_idle,
    fun _ _ he hmin hmax hdue =>
      ⟨fun hleads => (exec_nodeHoldExpiry_due he hmin hmax hdue).trans (congrArg Host.Outcome.next (if_pos hleads)),
        fun hleads => (exec_nodeHoldExpiry_due he hmin hmax hdue).trans (congrArg Host.Outcome.next (if_neg (ne_true_of_eq_false hleads)))⟩,
    fun _ _ => exec_nodeHoldExpiry_early, fun _ _ _ _ _ _ => rfl, fun _ hnone => congrArg Host.Outcome.next (finishAll_of_no_waits _ _ _ _ hnone)⟩

end

section
/-!
SUPPORT. The encoding of ladle instructions (R193 to R195): the opcode of an instruction's word selects its format, and the fields of each format read back from the word
that lays them down.
-/
set_option autoImplicit false
namespace Sys2Proof.Machine

namespace LIns

/-- The opcode of an instruction (R194). -/
def opcode : LIns → Nat
  | .pt op _ _ _ => op.code
  | .inst op _ _ _ => op.code
  | .z op => op.code
  | .laop _ => 0x09 | .wbit _ _ => 0x1B | .ldi _ => 0x1C | .ldih _ => 0x1D | .mov _ _ => 0x1E | .sel _ => 0x1F
  | .alu _ _ => 0x20 | .alui _ _ => 0x21 | .fpu _ _ => 0x22 | .cmp _ _ _ => 0x23 | .cmpi _ _ _ => 0x24 | .tbl _ _ => 0x25
  | .jmp _ _ => 0x28 | .call _ _ => 0x29 | .loop _ _ _ => 0x2B | .setb _ _ _ => 0x30 | .bidx _ _ _ => 0x31 | .bld _ => 0x32 | .lcall _ _ _ => 0x38

variable {x : Nat} {i : LIns}

/-- The operands of a well-formed instruction stay below its opcode. -/
theorem encode_div_opcode (h : i.wf = true) : i.encode / 2 ^ 26 = i.opcode := by
  cases i <;> simp only [wf, aluFn, fpuFn, Bool.and_eq_true, decide_eq_true_eq] at h <;> simp only [encode, opcode] <;> omega

theorem fields_pt {op : PIns} (h : x / 2 ^ 26 = op.code) : fields x = some (.pt op (bitsOf x 23 3) (bitsOf x 8 15) (bitsOf x 0 8)) := by
  cases op <;> simp only [fields, h, PIns.code]

theorem fields_inst {op : TIns} (h : x / 2 ^ 26 = op.code) : fields x = some (.inst op (bitsOf x 12 12) (bitsOf x 9 3) (bitsOf x 0 9)) := by
  cases op <;> simp only [fields, h, TIns.code]

theorem fields_z {op : ZIns} (h : x / 2 ^ 26 = op.code) : fields x = some (.z op) := by
  cases op <;> simp only [fields, h, ZIns.code]

/-- Under the opcode of its format each field of a well-formed instruction is read where the word holds it. -/
theorem fields_encode (h : i.wf = true) : fields i.encode = some i := by
  have hop := encode_div_opcode h
  cases i <;> simp only [wf, aluFn, fpuFn, Bool.and_eq_true, decide_eq_true_eq] at h
  case z op => exact fields_z hop
  case pt op b off m =>
    rw [fields_pt hop]
    simp only [encode, bitsOf, Option.some.injEq, pt.injEq, true_and]
    omega
  case inst op k b m =>
    rw [fields_inst hop]
    simp only [encode, bitsOf, Option.some.injEq, inst.injEq, true_and]
    omega
  all_goals
    simp only [fields, hop, opcode]
    simp only [encode, bitsOf, Option.some.injEq, laop.injEq, wbit.injEq, ldi.injEq, ldih.injEq, mov.injEq, sel.injEq, alu.injEq, alui.injEq, fpu.injEq, cmp.injEq,
      cmpi.injEq, tbl.injEq, jmp.injEq, call.injEq, loop.injEq, setb.injEq, bidx.injEq, bld.injEq, lcall.injEq]
    omega

/-- A well-formed instruction passes the checks of its own word. -/
theorem decode_encode (h : i.wf = true) : decode i.encode = some i := by
  simp only [decode, fields_encode h]
  exact if_pos (by rw [h, beq_self_eq_true, Bool.and_true])

end LIns

end Sys2Proof.Machine

open Sys2Proof Sys2Proof.Machine

/-- Settles O38: the fields that `fields` reads from the word are the instruction's own (`LIns.fields_encode`), so the checks of `decode` pass. -/
theorem ladleDecodeOfEncode : Obligations.LadleDecodeOfEncode := fun _ => LIns.decode_encode

/-- Settles O39: each word is decoded. -/
theorem ladleWordsDecode : Obligations.LadleWordsDecode := ⟨rfl, rfl, rfl, rfl, rfl, rfl, rfl, rfl, rfl⟩

end

section
/-!
SUPPORT. Operands, bit logic and stores of ladle instructions (R174 to R179, R182): what each operation leaves of the working state, where its operand names a slot.
-/
set_option autoImplicit false
namespace Sys2Proof.Machine

/-- A command that is the step of a ladle's next instruction leaves what the instruction's operation makes of the working state. -/
theorem exec_ladle {cmd : Instr} {s : State} {n : Nat} {i : LIns} {f : LOp} {p : Prog} {r : LRun} (hcmd : exec cmd s = ladleDo n i f s)
    (h : (s.ladle n).fetches i = some p) (hr : f (s.lctx (s.ladle n) p) (s.ladleAt n i) = r) : exec cmd s = .next (s.ladleRan n r) := by
  rw [hcmd, ladleDo_some h, hr]

variable {c : LCtx} {r : LRun} {b off k m : Nat} {x : Slot}

/-! ### Operands -/

theorem slotOf_bound {y : Base} {g : FRange} (hb : b ≠ 0) (hy : r.bases.getD b none = some y) (hvalid : y.valid = true) (hg : c.prog.ranges[y.range]? = some g) :
    c.slotOf r b off = some (g.start + y.window.toNat * g.width + off) := by
  simp only [LCtx.slotOf, if_neg hb, hy, hvalid, if_true, hg]

theorem slotOf_invalid {y : Base} (hb : b ≠ 0) (hy : r.bases.getD b none = some y) (hvalid : y.valid = false) : c.slotOf r b off = none := by
  simp only [LCtx.slotOf, if_neg hb, hy, hvalid, Bool.false_eq_true, if_false]

theorem slotOf_unbound (hb : b ≠ 0) (hy : r.bases.getD b none = none) : c.slotOf r b off = none := by
  simp only [LCtx.slotOf, if_neg hb, hy]

/-- A store changes the slot named and no other, and nothing but the slots. -/
theorem store_slot_frame (h : c.slotOf r b off = some k) (hx : r.slots[k]? = some x) (f : Slot → PtInfo → Word × Nat) :
    (c.store r b off f).slots[k]? = some { x with value := (f x (c.cfg.ptInfo x.addr)).1, quality := (f x (c.cfg.ptInfo x.addr)).2, dirty := true } ∧
      (∀ j, j ≠ k → (c.store r b off f).slots[j]? = r.slots[j]?) ∧ { c.store r b off f with slots := r.slots } = r := by
  have hk : k < r.slots.length := (List.getElem?_eq_some_iff.mp hx).1
  rw [store_slot h hx f]
  exact ⟨List.getElem?_set_self hk, fun j hj => List.getElem?_set_ne hj.symm, rfl⟩

/-! ### Bit loads -/

/-- The bit that a bit load takes from slot `x` (R177). -/
def Slot.bitIn (x : Slot) (m : Nat) : Bool := bitOf x.value.toNat (m % 32) != bitOf m 7

theorem bitIn_slot (h : c.slotOf r b off = some k) (hx : r.slots[k]? = some x) : c.bitIn r b off m = (x.bitIn m, x.quality, r) := by
  simp only [LCtx.bitIn, load_slot h hx, Slot.bitIn]

theorem opLd_slot (h : c.slotOf r b off = some k) (hx : r.slots[k]? = some x) : opLd b off m c r = { r with la := x.bitIn m, lq := x.quality } := by
  simp only [opLd, bitIn_slot h hx]

theorem opCombine_slot (f : Bool → Bool → Bool) (h : c.slotOf r b off = some k) (hx : r.slots[k]? = some x) :
    opCombine f b off m c r = { r with la := f r.la (x.bitIn m), lq := max r.lq x.quality } := by
  simp only [opCombine, bitIn_slot h hx]

theorem opLdq_slot (h : c.slotOf r b off = some k) (hx : r.slots[k]? = some x) :
    opLdq b off m c r = { r with la := decide (x.quality ≤ m % 16) != bitOf m 7, lq := 0 } := by
  simp only [opLdq, load_slot h hx]

/-! ### Stores -/

/-- Slot `x` with bit `v` stored into it, with the quality of the accumulator or GOOD under G (R176). -/
def Slot.putBit (x : Slot) (m lq : Nat) (v : Bool) : Slot :=
  { x with value := BitVec.ofNat 32 (putBits x.value.toNat (m % 32) 1 (bit v)), quality := if bitOf m 6 then 0 else lq, dirty := true }

theorem bitStore_slot (v : Bool) (h : c.slotOf r b off = some k) (hx : r.slots[k]? = some x) :
    bitStore v b off m c r = { r with slots := r.slots.set k (x.putBit m r.lq v) } :=
  store_slot h hx _

theorem opSetRst_slot (v : Bool) (h : c.slotOf r b off = some k) (hx : r.slots[k]? = some x) :
    opSetRst v b off m c r = if r.la then { r with slots := r.slots.set k (x.putBit m r.lq v) } else r := by
  rw [opSetRst, bitStore_slot v h hx]

/-- STW stores unless C holds it back; a NaN going into a binary32 point is another case (R182). -/
theorem opStw_slot (h : c.slotOf r b off = some k) (hx : r.slots[k]? = some x) (hcond : bitOf m 5 = false ∨ r.la = true)
    (hnan : (c.cfg.ptInfo x.addr).typ ≠ 7 ∨ isNan r.wa = false) :
    opStw b off m c r = { r with slots := r.slots.set k { x with
      value := convert (c.cfg.ptInfo x.addr).typ (c.cfg.ptInfo x.addr).enumMax r.wa, quality := if bitOf m 6 then 0 else r.wq, dirty := true } } := by
  have hstores : (bitOf m 5 && !r.la) = false := by rcases hcond with h | h <;> simp [h]
  have hplain : ((c.cfg.ptInfo x.addr).typ == 7 && isNan r.wa) = false := by rcases hnan with h | h <;> simp [h]
  simp only [opStw, hstores, h, hx, Option.bind_some, hplain, store_slot h hx, Bool.false_eq_true, if_false]

theorem opStw_held (hc : bitOf m 5 = true) (hla : r.la = false) : opStw b off m c r = r := by
  simp only [opStw, hc, hla, Bool.not_false, Bool.and_self, if_true]

/-! ### The branch stack -/

theorem opPop_cons (f : Bool → Bool → Bool) {y : Bool × Nat} {ys : List (Bool × Nat)} (h : r.branch = y :: ys) :
    opPop f c r = { r with branch := ys, la := f y.1 r.la, lq := max y.2 r.lq } := by
  simp only [opPop, h]

theorem opBpeek_cons {y : Bool × Nat} {ys : List (Bool × Nat)} (h : r.branch = y :: ys) : opBpeek c r = { r with la := y.1, lq := y.2 } := by
  simp only [opBpeek, h]

end Sys2Proof.Machine

open Sys2Proof Sys2Proof.Machine

/-- Settles O26: the operand by its base, then the load and the store through the slot it names or through none. -/
theorem ladleOperands : Obligations.LadleOperands := fun _ _ _ _ =>
  ⟨rfl, fun _ _ => slotOf_bound, fun _ => slotOf_invalid, slotOf_unbound, fun _ _ => load_slot, fun h => ⟨load_none h, store_none h⟩,
    fun _ _ f h hx => store_slot_frame h hx f⟩

/-- Settles O27: each load through the slot that its operand names. -/
theorem ladleBitLoads : Obligations.LadleBitLoads := fun _ _ _ _ _ _ _ _ hk hx =>
  ⟨fun h => exec_ladle rfl h (opLd_slot hk hx), fun h => exec_ladle rfl h (opCombine_slot _ hk hx), fun h => exec_ladle rfl h (opCombine_slot _ hk hx),
    fun h => exec_ladle rfl h (opCombine_slot _ hk hx), fun h => exec_ladle rfl h (opLdq_slot hk hx)⟩

/-- Settles O28: each store through the slot that its operand names. -/
theorem ladleStores : Obligations.LadleStores := fun _ _ _ _ _ _ _ _ hk hx =>
  ⟨fun h => exec_ladle rfl h (bitStore_slot _ hk hx), fun h => exec_ladle rfl h (opSetRst_slot true hk hx), fun h => exec_ladle rfl h (opSetRst_slot false hk hx),
    fun h hcond hnan => exec_ladle rfl h (opStw_slot hk hx hcond hnan), fun h hc hla => exec_ladle rfl h (opStw_held hc hla)⟩

/-- Settles O29: the pops by the top of the stack; the others are their operations. -/
theorem ladleBranchStack : Obligations.LadleBranchStack := fun _ _ _ =>
  ⟨fun h => exec_ladle rfl h rfl,
    fun _ _ hbranch => ⟨fun h => exec_ladle rfl h (opPop_cons _ hbranch), fun h => exec_ladle rfl h (opPop_cons _ hbranch), fun h => exec_ladle rfl h (opBpeek_cons hbranch),
      fun h => exec_ladle rfl h (opPop_cons _ hbranch)⟩,
    fun _ _ h => exec_ladle rfl h rfl⟩

end

section
/-!
SUPPORT. Edges, timers, counters and memory words (R186 to R188): what each operation does on the element that its immediate and its base name, and when a timer gives 1.
-/
set_option autoImplicit false
namespace Sys2Proof.Machine

/-! ### Words as signed numbers -/

/-- A word read as a signed number (R180). -/
theorem sext_toNat (w : Word) : sext 32 w.toNat = w.toInt := by
  have hw := w.isLt
  rw [sext, Nat.mod_eq_of_lt hw, BitVec.toInt_eq_toNat_cond]
  split <;> split <;> omega

/-! ### The element named -/

variable {c : LCtx} {r : LRun} {k b m j : Nat}

theorem withInst_some (f : Nat → LRun → LRun) (h : r.instOf k b = some j) : withInst k b f r = f j r := by
  simp only [withInst, h]

/-- Through an invalid base no element is named: LA takes 0 with quality BAD, and the access is counted (R175). -/
theorem withInst_none (f : Nat → LRun → LRun) (h : r.instOf k b = none) : withInst k b f r = { r.fault with la := false, lq := lBad } := by
  simp only [withInst, h]

theorem opTcr_held (h : r.instOf k b = some j) (hla : r.la = false) : opTcr k b m c r = r := by
  rw [opTcr, withInst_some _ h, if_pos (by rw [hla]; rfl)]

theorem opTcr_timer (h : r.instOf k b = some j) (hla : r.la = true) : opTcr k b 0 c r = { r with priv := { r.priv with timers := r.priv.timers.set j {} } } := by
  rw [opTcr, withInst_some _ h, if_neg (by simp [hla]), if_pos rfl]

theorem opTcr_counter (h : r.instOf k b = some j) (hla : r.la = true) : opTcr k b 1 c r = { r with
    priv := { r.priv with counters := r.priv.counters.set j { r.priv.counters.getD j {} with value := 0, up := false, down := false } } } := by
  rw [opTcr, withInst_some _ h, if_neg (by simp [hla]), if_neg Nat.one_ne_zero]

theorem opTcld_set (h : r.instOf k b = some j) (hla : r.la = true) : opTcld k b 2 c r = { r with
    priv := { r.priv with counters := r.priv.counters.set j { r.priv.counters.getD j {} with value := r.wa.toInt } } } := by
  simp only [opTcld, withInst_some _ h, hla, sext_toNat, if_true, OfNat.ofNat_ne_zero, OfNat.ofNat_ne_one, if_false]

theorem opTcld_held (h : r.instOf k b = some j) (hla : r.la = false) : opTcld k b 2 c r = r := by
  simp only [opTcld, withInst_some _ h, hla, OfNat.ofNat_ne_zero, OfNat.ofNat_ne_one, Bool.false_eq_true, if_false]

theorem opStm_stores (h : r.instOf k b = some j) (hcond : m = 0 ∨ r.la = true) :
    opStm k b m c r = { r with priv := { r.priv with mems := r.priv.mems.set j (r.wa, r.wq) } } := by
  rw [opStm, withInst_some _ h, if_pos (by simpa using hcond)]

theorem opStm_held (h : r.instOf k b = some j) (hm : m = 1) (hla : r.la = false) : opStm k b m c r = r := by
  rw [opStm, withInst_some _ h, if_neg (by simp [hm, hla])]

/-! ### Timers -/

/-- No whole millisecond has passed at the start itself. -/
theorem elapsedMs_self (tc : Nat) : elapsedMs tc tc = 0 := by
  rw [elapsedMs, sub_self, Int.zero_ediv, Int.toNat_zero]

/-- A preset is at least 1 ms, so a timer that starts now has not reached it. -/
theorem not_preset_le_elapsedMs_self {preset : Nat} (tc : Nat) (h : 1 ≤ preset) : ¬ preset ≤ elapsedMs tc tc := by
  rw [elapsedMs_self]; exact Nat.not_le.mpr h

variable {preset tc : Nat} {t : Tmr}

theorem evalTimer_ton_off : (evalTimer 0 preset tc false t).1 = false ∧ (evalTimer 0 preset tc false t).2.run = false := ⟨rfl, rfl⟩

theorem evalTimer_ton_starts (hp : 1 ≤ preset) (hrun : t.run = false) :
    (evalTimer 0 preset tc true t).1 = false ∧ (evalTimer 0 preset tc true t).2.start = tc ∧ (evalTimer 0 preset tc true t).2.run = true := by
  simp [evalTimer, hrun, not_preset_le_elapsedMs_self tc hp]

theorem evalTimer_ton_runs (hrun : t.run = true) : (evalTimer 0 preset tc true t).1 = decide (preset ≤ elapsedMs tc t.start) := by
  simp [evalTimer, hrun]

theorem evalTimer_tof_on : (evalTimer 1 preset tc true t).1 = true ∧ (evalTimer 1 preset tc true t).2.q = true := ⟨rfl, rfl⟩

theorem evalTimer_tof_runs (hq : t.q = true) (hrun : t.run = true) : (evalTimer 1 preset tc false t).1 = !decide (preset ≤ elapsedMs tc t.start) := by
  by_cases h : preset ≤ elapsedMs tc t.start <;> simp [evalTimer, hq, hrun, h]

theorem evalTimer_tp_starts (hp : 1 ≤ preset) (hprev : t.prev = false) (hrun : t.run = false) : (evalTimer 2 preset tc true t).1 = true := by
  simp [evalTimer, hprev, hrun, not_preset_le_elapsedMs_self tc hp]

theorem evalTimer_tp_runs (hrun : t.run = true) : (evalTimer 2 preset tc true t).1 = !decide (preset ≤ elapsedMs tc t.start) := by
  by_cases h : preset ≤ elapsedMs tc t.start <;> simp [evalTimer, hrun, h]

theorem evalTimer_tonr_stopped (hrun : t.run = false) : (evalTimer 3 preset tc false t).1 = decide (preset ≤ t.acc) := by
  simp [evalTimer, hrun]

theorem evalTimer_tonr_runs (hrun : t.run = true) : (evalTimer 3 preset tc true t).1 = decide (preset ≤ t.acc + elapsedMs tc t.start) := by
  simp [evalTimer, hrun]

end Sys2Proof.Machine

open Sys2Proof Sys2Proof.Machine

/-- Settles O31: timer by timer, by its input and by whether it runs. -/
theorem timerRules : Obligations.TimerRules := fun _ _ _ hp =>
  ⟨evalTimer_ton_off, evalTimer_ton_starts hp, evalTimer_ton_runs, evalTimer_tof_on, evalTimer_tof_runs, evalTimer_tp_starts hp, evalTimer_tp_runs,
    evalTimer_tonr_stopped, evalTimer_tonr_runs⟩

/-- Settles O30: each instruction on the element that it names, or through an invalid base. -/
theorem ladleInstances : Obligations.LadleInstances := by
  intro s n k b m j p
  refine ⟨fun hj => ⟨fun h => exec_ladle rfl h (withInst_some _ hj), fun h => exec_ladle rfl h (withInst_some _ hj), fun h => exec_ladle rfl h (withInst_some _ hj),
    fun h => exec_ladle rfl h (withInst_some _ hj), ?_, ?_, fun h hla => exec_ladle rfl h (opTcr_held hj hla), ?_, ?_, ?_, ?_,
    fun h => exec_ladle rfl h (withInst_some _ hj), fun h hcond => exec_ladle rfl h (opStm_stores hj hcond),
    fun h hm hla => exec_ladle rfl h (opStm_held hj hm hla)⟩, fun hj => ?_⟩
  · rintro h hla rfl; exact exec_ladle rfl h (opTcr_timer hj hla)
  · rintro h hla rfl; exact exec_ladle rfl h (opTcr_counter hj hla)
  · rintro h rfl; exact exec_ladle rfl h (withInst_some _ hj)
  · rintro h rfl; exact exec_ladle rfl h (withInst_some _ hj)
  · rintro h rfl hla; exact exec_ladle rfl h (opTcld_set hj hla)
  · rintro h rfl hla; exact exec_ladle rfl h (opTcld_held hj hla)
  · refine ⟨?_, ?_, ?_, ?_, ?_, ?_, ?_, ?_⟩ <;> exact fun h => exec_ladle rfl h (withInst_none _ hj)

end

section
/-!
SUPPORT. Word loads and moves, arithmetic, comparison and tables (R176, R177, R180 to R183): what each operation leaves in the accumulators, and what the functions of ALU
compute.
-/
set_option autoImplicit false
namespace Sys2Proof.Machine

/-! ### Words and integers -/

/-- The code of a word's signed value is the word. -/
theorem ofInt_toInt (w : Word) : (BitVec.ofNat 32 (ofInt 32 w.toInt) : Word) = w := by
  have h : (ofInt 32 w.toInt : Int) = w.toInt % (2 ^ 32 : Nat) := Int.toNat_of_nonneg (Int.emod_nonneg _ (by decide))
  rw [← BitVec.ofInt_natCast, h, ← BitVec.toInt_inj, BitVec.toInt_ofInt, Int.emod_bmod, ← BitVec.toInt_ofInt, BitVec.ofInt_toInt]

/-- A word's signed value needs no saturation. -/
theorem satI32_toInt (w : Word) : (BitVec.ofNat 32 (satI32 w.toInt) : Word) = w := by
  have hlo := BitVec.le_toInt w
  have hhi := BitVec.toInt_lt (x := w)
  rw [satI32, clampInt, if_neg (by omega), if_neg (by omega), ofInt_toInt]

theorem toNat_eq_zero_iff {y : Word} : y.toNat = 0 ↔ y = 0 := BitVec.toNat_inj (y := 0)

/-! ### The functions of ALU (R180) -/

section
variable {x y : Word}

theorem aluOf_div_zero : aluOf 0x07 x 0 = (if x.getLsbD 31 then 0x80000000 else 0x7FFFFFFF, true) := by
  have hsign : x.getLsbD 31 = decide (x.toInt < 0) := (BitVec.msb_eq_getLsbD_last x).symm.trans BitVec.msb_eq_toInt
  have h : aluOf 0x07 x 0 = if 0 ≤ x.toInt then (0x7FFFFFFF, true) else (0x80000000, true) := by rw [← sext_toNat]; rfl
  rw [h, hsign]
  by_cases hx : 0 ≤ x.toInt
  · simp [hx, Int.not_lt.mpr hx]
  · simp [hx, Int.not_le.mp hx]

theorem aluOf_divu (hy : y ≠ 0) : aluOf 0x08 x y = (x / y, false) := by
  have h : aluOf 0x08 x y = (BitVec.ofNat 32 (x.toNat / y.toNat), false) := if_neg (toNat_eq_zero_iff.not.mpr hy)
  rw [h, ← BitVec.toNat_udiv, BitVec.ofNat_toNat, BitVec.setWidth_eq]

theorem aluOf_modu (hy : y ≠ 0) : aluOf 0x0A x y = (x % y, false) := by
  have h : aluOf 0x0A x y = (BitVec.ofNat 32 (x.toNat % y.toNat), false) := if_neg (toNat_eq_zero_iff.not.mpr hy)
  rw [h, ← BitVec.toNat_umod, BitVec.ofNat_toNat, BitVec.setWidth_eq]

/-- A quotient that a signed word holds is exact; the one that none holds saturates. -/
theorem aluOf_div (hy : y ≠ 0) : aluOf 0x07 x y = (BitVec.ofNat 32 (satI32 (Int.tdiv x.toInt y.toInt)), false) := by
  rw [← sext_toNat, ← sext_toNat]
  exact if_neg (toNat_eq_zero_iff.not.mpr hy)

theorem aluOf_div_exact (hy : y ≠ 0) (hfits : x ≠ 0x80000000 ∨ y ≠ 0xFFFFFFFF) : aluOf 0x07 x y = (x.sdiv y, false) := by
  rw [aluOf_div hy, ← BitVec.toInt_sdiv_of_ne_or_ne x y hfits, satI32_toInt]

theorem aluOf_mod (hy : y ≠ 0) : aluOf 0x09 x y = (x.srem y, false) := by
  have h : aluOf 0x09 x y = (BitVec.ofNat 32 (ofInt 32 (Int.tmod x.toInt y.toInt)), false) := by
    rw [← sext_toNat, ← sext_toNat]
    exact if_neg (toNat_eq_zero_iff.not.mpr hy)
  rw [h, ← BitVec.toInt_srem, ofInt_toInt]

/-- An arithmetic shift divides by a power of 2 and rounds down. -/
theorem aluOf_sra : aluOf 0x10 x y = (x.sshiftRight (y.toNat % 32), false) := by
  have h : aluOf 0x10 x y = (BitVec.ofNat 32 (ofInt 32 (x.toInt / 2 ^ (y.toNat % 32))), false) := by rw [← sext_toNat]; rfl
  rw [h, ← Nat.cast_ofNat (R := Int), ← Nat.cast_pow, ← Int.shiftRight_eq_div_pow, ← BitVec.toInt_sshiftRight, ofInt_toInt]

/-- A result is undefined only for a division by zero. -/
theorem aluOf_undefined {fn : Nat} (h : (aluOf fn x y).2 = true) : y = 0 ∧ 7 ≤ fn ∧ fn ≤ 0xA := by
  by_cases hfn : 7 ≤ fn ∧ fn ≤ 0xA
  · refine ⟨by_contra fun hy => ?_, hfn⟩
    obtain rfl | rfl | rfl | rfl : fn = 7 ∨ fn = 8 ∨ fn = 9 ∨ fn = 0xA := by omega
    · exact nomatch (aluOf_div hy ▸ h)
    · exact nomatch (aluOf_divu hy ▸ h)
    · exact nomatch (aluOf_mod hy ▸ h)
    · exact nomatch (aluOf_modu hy ▸ h)
  · unfold aluOf at h
    split at h <;> simp_all

end

section
variable {fn q : Nat} {y : Word} {r : LRun}

theorem aluWith_undefined (h : (aluOf fn r.wa y).2 = true) : aluWith fn y q r = { r with wa := (aluOf fn r.wa y).1, wq := lBad, arith := r.arith + 1 } := by
  rw [aluWith, if_pos h]

theorem aluWith_defined (h : (aluOf fn r.wa y).2 = false) :
    aluWith fn y q r = { r with wa := (aluOf fn r.wa y).1, wq := if fn = 0x15 ∨ fn = 0x16 then r.wq else max r.wq q } := by
  simp only [aluWith, h, Bool.or_eq_true, decide_eq_true_eq, Bool.false_eq_true, if_false]

/-- The one quotient that no signed word holds saturates, and is not counted. -/
theorem aluWith_div_overflow (h : r.wa = 0x80000000) : aluWith 0x07 0xFFFFFFFF q r = { r with wa := 0x7FFFFFFF, wq := max r.wq q } := by
  have hv : aluOf 0x07 r.wa 0xFFFFFFFF = (0x7FFFFFFF, false) := by rw [h]; rfl
  rw [aluWith_defined (congrArg Prod.snd hv), hv, if_neg (by decide)]

end

end Sys2Proof.Machine

open Sys2Proof Sys2Proof.Machine

/-- Settles O34: function by function; a division by zero is the only undefined result, and one quotient alone saturates. -/
theorem aluRules : Obligations.AluRules :=
  ⟨fun _ _ => ⟨rfl, rfl, rfl⟩, fun _ => ⟨aluOf_div_zero, rfl, rfl, rfl⟩,
    fun fn y q r h => by rw [aluWith_undefined h]; exact ⟨rfl, rfl, rfl⟩,
    fun _ _ _ _ => aluOf_undefined,
    fun _ _ h => by rw [aluWith_div_overflow h]; exact ⟨rfl, rfl, rfl⟩,
    fun x y hy => ⟨by rw [aluOf_divu hy, BitVec.toNat_udiv], by rw [aluOf_modu hy, BitVec.toNat_umod],
      fun hfits => by rw [aluOf_div_exact hy hfits, BitVec.toInt_sdiv_of_ne_or_ne x y hfits], by rw [aluOf_mod hy, BitVec.toInt_srem]⟩,
    fun x y => ⟨rfl, rfl, by rw [aluOf_sra, BitVec.toInt_sshiftRight, Int.shiftRight_eq_div_pow, Nat.cast_pow, Nat.cast_ofNat]⟩⟩

end

section
/-!
SUPPORT. Word loads and moves, arithmetic, comparison and tables (R176, R177, R180 to R183, R194): what each operation leaves in the accumulators.
-/
set_option autoImplicit false
namespace Sys2Proof.Machine

variable {c : LCtx} {r : LRun}

/-! ### Loads of words -/

section
variable {b off k m : Nat} {x : Slot}

theorem opLdw_ungated (h : c.slotOf r b off = some k) (hx : r.slots[k]? = some x) (hthr : m / 16 = 15) :
    opLdw b off m c r = { r with wa := x.value, wq := x.quality } := by
  simp only [opLdw, load_slot h hx, if_pos hthr]

theorem opLdw_passed (h : c.slotOf r b off = some k) (hx : r.slots[k]? = some x) (hthr : m / 16 ≠ 15) (hq : x.quality ≤ m / 16) :
    opLdw b off m c r = { r with wa := x.value, wq := x.quality, la := false, lq := 0 } := by
  simp only [opLdw, load_slot h hx, if_neg hthr, if_neg (Nat.not_lt.mpr hq)]

/-- Beyond the threshold the scratch word that the mod field names stands in (R177). -/
theorem opLdw_substituted (h : c.slotOf r b off = some k) (hx : r.slots[k]? = some x) (hq : m / 16 < x.quality) (hthr : m / 16 ≠ 15) :
    opLdw b off m c r = { r with wa := (r.w (m % 16)).1, wq := 2, la := true, lq := 0 } := by
  simp only [opLdw, load_slot h hx, if_neg hthr, if_pos hq]

theorem opQld_slot (h : c.slotOf r b off = some k) (hx : r.slots[k]? = some x) : opQld b off c r = { r with wa := BitVec.ofNat 32 x.quality, wq := 0 } := by
  simp only [opQld, load_slot h hx]

end

/-! ### ALU and FPU -/

section
variable {fn w i : Nat}

theorem opAlu_defined (h15 : fn ≠ 0x15) (h16 : fn ≠ 0x16) (h : (aluOf fn r.wa (r.w w).1).2 = false) :
    opAlu fn w c r = { r with wa := (aluOf fn r.wa (r.w w).1).1, wq := max r.wq (r.w w).2 } := by
  rw [opAlu, aluWith_defined h, if_neg (not_or.mpr ⟨h15, h16⟩)]

/-- ABS and NEG have one operand: the quality of WA stands. -/
theorem opAlu_unary (hfn : fn = 0x15 ∨ fn = 0x16) : opAlu fn w c r = { r with wa := (aluOf fn r.wa (r.w w).1).1 } := by
  have h : (aluOf fn r.wa (r.w w).1).2 = false := by rcases hfn with rfl | rfl <;> rfl
  rw [opAlu, aluWith_defined h, if_pos hfn]

/-- An immediate brings no quality of its own. -/
theorem opAlui_defined (h : (aluOf fn r.wa (BitVec.ofNat 32 (ofInt 32 (sext 21 i)))).2 = false) :
    opAlui fn i c r = { r with wa := (aluOf fn r.wa (BitVec.ofNat 32 (ofInt 32 (sext 21 i)))).1 } := by
  rw [opAlui, aluWith_defined h, max_self, ite_self]

theorem opFpu_some {v : Word} (h9 : fn ≠ 9) (h : fpuOf fn r.wa (r.w w).1 = some v) :
    opFpu fn w c r = { r with wa := v, wq := if 6 ≤ fn then r.wq else max r.wq (r.w w).2 } := by
  simp only [opFpu, if_neg h9, h]

theorem opFpu_none (h9 : fn ≠ 9) (h : fpuOf fn r.wa (r.w w).1 = none) :
    opFpu fn w c r = { r with wa := 0x7FC00000, wq := lBad, arith := r.arith + 1 } := by
  simp only [opFpu, if_neg h9, h, nanWord]

theorem opFpu_unary {v : Word} (hfn : 6 ≤ fn) (h9 : fn ≠ 9) (h : fpuOf fn r.wa (r.w w).1 = some v) : opFpu fn w c r = { r with wa := v } := by
  rw [opFpu_some h9 h, if_pos hfn]

theorem opFpu_binary {v : Word} (hfn : fn < 6) (h : fpuOf fn r.wa (r.w w).1 = some v) : opFpu fn w c r = { r with wa := v, wq := max r.wq (r.w w).2 } := by
  rw [opFpu_some (by omega) h, if_neg (Nat.not_le.mpr hfn)]

theorem opFpu_ftoi_some {v : Word} (h : f32ToInt (F32.ofWord r.wa) = some v) : opFpu 9 w c r = { r with wa := v } := by
  simp only [opFpu, h, if_true, if_pos (show 6 ≤ 9 by decide)]

theorem opFpu_ftoi_none (h : f32ToInt (F32.ofWord r.wa) = none) : opFpu 9 w c r = { r with wa := 0, wq := lBad, arith := r.arith + 1 } := by
  simp only [opFpu, h, if_true]

end

/-! ### Comparison -/

section
variable {cond i : Nat}

theorem opCmpi_ld : opCmpi cond 0 i c r = { r with la := condOf cond r.wa (BitVec.ofNat 32 (ofInt 32 (sext 16 i))), lq := r.wq } := by
  simp only [opCmpi, cmpWith, max_self, if_true]

theorem opCmpi_and :
    opCmpi cond 1 i c r = { r with la := r.la && condOf cond r.wa (BitVec.ofNat 32 (ofInt 32 (sext 16 i))), lq := max r.lq r.wq } := by
  simp only [opCmpi, cmpWith, max_self, if_true, if_neg Nat.one_ne_zero]

theorem opCmpi_or :
    opCmpi cond 2 i c r = { r with la := r.la || condOf cond r.wa (BitVec.ofNat 32 (ofInt 32 (sext 16 i))), lq := max r.lq r.wq } := by
  simp only [opCmpi, cmpWith, max_self, OfNat.ofNat_ne_zero, OfNat.ofNat_ne_one, if_false]

end

/-! ### Tables -/

section
variable {base : Nat}

/-- A curve lies in the table, with as many points as R183 allows. -/
def LCtx.CurveAt (c : LCtx) (base : Nat) : Prop :=
  base < c.prog.tableWords ∧ 2 ≤ (c.tab base).toNat ∧ (c.tab base).toNat ≤ 4096 ∧ base + 1 + 2 * (c.tab base).toNat ≤ c.prog.tableWords

theorem opTbl_word (h : base + r.wa.toNat < c.prog.tableWords) : opTbl 0 base c r = { r with wa := c.tab (base + r.wa.toNat) } := by
  simp only [opTbl, if_true, if_pos h]

theorem opTbl_word_beyond (h : c.prog.tableWords ≤ base + r.wa.toNat) : opTbl 0 base c r = { r.fault with wa := 0, wq := lBad } := by
  simp only [opTbl, if_true, if_neg (Nat.not_lt.mpr h)]

theorem opTbl_curve (h : c.CurveAt base) : opTbl 1 base c r = { r with wa := BitVec.ofNat 32 (ofInt 32 (c.interp r.wa.toInt base)) } := by
  rw [opTbl, if_neg Nat.one_ne_zero, if_pos (by simpa [LCtx.CurveAt, and_assoc] using h), sext_toNat]

theorem opTbl_curve_beyond (h : ¬ c.CurveAt base) : opTbl 1 base c r = { r.fault with wa := 0, wq := lBad } := by
  rw [opTbl, if_neg Nat.one_ne_zero, if_neg (by simpa [LCtx.CurveAt, and_assoc] using h)]

end

end Sys2Proof.Machine

open Sys2Proof Sys2Proof.Machine

/-- Settles O32: loads through the slot that the operand names; the moves are their operations. -/
theorem ladleWordMoves : Obligations.LadleWordMoves := fun _ _ _ =>
  ⟨fun _ _ _ _ _ hk hx h => ⟨fun hthr => exec_ladle rfl h (opLdw_ungated hk hx hthr), fun hthr hq => exec_ladle rfl h (opLdw_passed hk hx hthr hq),
      fun hq hthr => exec_ladle rfl h (opLdw_substituted hk hx hq hthr)⟩,
    fun _ _ _ _ _ hk hx h => exec_ladle rfl h (opQld_slot hk hx), fun _ h => exec_ladle rfl h rfl, fun _ h => exec_ladle rfl h rfl, fun _ h => exec_ladle rfl h rfl,
    fun _ h => exec_ladle rfl h rfl, fun _ h => exec_ladle rfl h rfl, fun _ h => exec_ladle rfl h rfl, fun _ h => exec_ladle rfl h rfl, fun _ h => exec_ladle rfl h rfl⟩

/-- Settles O33: each function where its result is defined and where it is not, each combination of a comparison, each mode of TBL within the table and beyond it. -/
theorem ladleArithmetic : Obligations.LadleArithmetic := fun _ _ _ =>
  ⟨fun _ _ h15 h16 hv h => exec_ladle rfl h (opAlu_defined h15 h16 hv),
    fun _ _ hv h => exec_ladle rfl h (aluWith_undefined hv),
    fun _ _ hv h => exec_ladle rfl h (opAlui_defined hv),
    fun _ _ hfn h => exec_ladle rfl h (opAlu_unary hfn),
    fun _ _ hv h => exec_ladle rfl h (aluWith_undefined hv),
    fun _ _ _ hfn h9 hv h => exec_ladle rfl h (opFpu_unary hfn h9 hv),
    fun _ _ _ h9 hv h => exec_ladle rfl h (opFpu_none h9 hv),
    fun _ _ hv h => exec_ladle rfl h (opFpu_ftoi_some hv),
    fun _ hv h => exec_ladle rfl h (opFpu_ftoi_none hv),
    fun _ _ _ hfn hv h => exec_ladle rfl h (opFpu_binary hfn hv),
    fun _ _ hfn hv h => exec_ladle rfl h (opFpu_none (by omega) hv),
    fun _ _ h => exec_ladle rfl h rfl, fun _ _ h => exec_ladle rfl h rfl, fun _ _ h => exec_ladle rfl h rfl,
    fun _ _ h => exec_ladle rfl h opCmpi_ld, fun _ _ h => exec_ladle rfl h opCmpi_and, fun _ _ h => exec_ladle rfl h opCmpi_or,
    fun _ h => ⟨fun hc => exec_ladle rfl h (opTbl_curve hc), fun hc => exec_ladle rfl h (opTbl_curve_beyond hc)⟩,
    fun _ hi h => exec_ladle rfl h (opTbl_word hi), fun _ hi h => exec_ladle rfl h (opTbl_word_beyond hi)⟩

end

section
/-!
SUPPORT. Control flow, bases and lamp calls of ladle instructions (R175, R184, R185, R191): where the counter goes, how a base moves, and what END leaves.
-/
set_option autoImplicit false
namespace Sys2Proof.Machine

variable {c : LCtx} {r : LRun} {b : Nat}

/-! ### Jumps and calls -/

theorem opJmp_eq {cond t : Nat} : opJmp cond t c r = { r with pc := if jumps cond r then t else r.pc } := by
  unfold opJmp
  split <;> rfl

theorem opJmp_one {t : Nat} : opJmp 1 t c r = { r with pc := if r.la then t else r.pc } := by
  simp [opJmp_eq, jumps]

theorem opJmp_two {t : Nat} : opJmp 2 t c r = { r with pc := if r.la then r.pc else t } := by
  have hpc : (if jumps 2 r then t else r.pc) = if r.la then r.pc else t := by cases hla : r.la <;> simp [jumps, hla]
  rw [opJmp_eq, hpc]

/-- Under condition 1 or 2 a call is taken where LA is as the condition asks. -/
theorem opCall_conditional {cond t : Nat} (hcond : cond = 1 ∨ cond = 2) :
    opCall cond t c r = if r.la = (cond == 1) then { r with pc := t, rets := r.pc :: r.rets } else r := by
  rcases hcond with rfl | rfl
  · simp [opCall, jumps]
  · simp [opCall, jumps]

theorem opRet_cons {x : Nat} {xs : List Nat} (h : r.rets = x :: xs) : opRet c r = { r with pc := x, rets := xs } := by
  simp only [opRet, h]

/-! ### Bases -/

theorem rewind_eq : r.rewind b = { r with bases := (r.rewind b).bases } := by
  unfold LRun.rewind
  split
  · rfl
  · split <;> rfl

/-- A LOOP with a base binds it to window 0 of its range (R184). -/
theorem bases_rewind : (r.rewind b).bases = if b = 0 then r.bases else match r.bases.getD b none with
    | some x => r.bases.set b (some { x with window := 0, valid := true })
    | none => r.bases := by
  by_cases hb : b = 0
  · rw [hb]; rfl
  · cases hx : r.bases.getD b none <;> simp only [LRun.rewind, if_neg hb, hx]

/-- A base moves within the range it is bound to: outside the range's count it is no longer valid (R175). -/
theorem moveBase_bound {x : Base} {g : FRange} (hx : r.bases.getD b none = some x) (hg : c.prog.ranges[x.range]? = some g) (keep : Base → Bool) (f : Int → Int) :
    c.moveBase r b keep f = { r with bases := r.bases.set b (some { x with
      window := f x.window, valid := keep x && decide (0 ≤ f x.window) && decide (f x.window < g.count) }) } := by
  simp only [LCtx.moveBase, hx, hg]

theorem opBidx_add {x : Base} {g : FRange} {i : Nat} (hx : r.bases.getD b none = some x) (hg : c.prog.ranges[x.range]? = some g) :
    opBidx b 1 i c r = { r with bases := r.bases.set b (some { x with
      window := x.window + sext 16 i, valid := decide (0 ≤ x.window + sext 16 i) && decide (x.window + sext 16 i < g.count) }) } := by
  simp only [opBidx, moveBase_bound hx hg, if_neg Nat.one_ne_zero, Bool.true_and]

theorem opBidx_set {x : Base} {g : FRange} {i : Nat} (hx : r.bases.getD b none = some x) (hg : c.prog.ranges[x.range]? = some g) :
    opBidx b 0 i c r = { r with bases := r.bases.set b (some { x with
      window := r.wa.toInt, valid := decide (0 ≤ r.wa.toInt) && decide (r.wa.toInt < g.count) }) } := by
  simp only [opBidx, moveBase_bound hx hg, if_true, sext_toNat, Bool.true_and]

theorem opBld_bound {x : Base} (hx : r.bases.getD b none = some x) : opBld b c r = { r with wa := BitVec.ofNat 32 (ofInt 32 x.window), wq := 0 } := by
  simp only [opBld, hx]

/-! ### Loops -/

/-- How often a LOOP runs its body (R184). -/
def LRun.loopTimes (r : LRun) (w k : Nat) : Nat := if w = 1 then min r.wa.toNat (k + 1) else k + 1

theorem loopTimes_of_wa_zero {k : Nat} (h : r.wa = 0) : r.loopTimes 1 k = 0 := by
  simp [LRun.loopTimes, h]

theorem opLoop_runs {w k : Nat} (h : r.loopTimes w k ≠ 0) :
    opLoop b w k c r = { r with bases := (r.rewind b).bases, loops := { at_ := r.pc - 1, left := r.loopTimes w k, base := b } :: r.loops } := by
  refine (if_neg h).trans ?_
  rw [rewind_eq]
  rfl

theorem opLoop_skips {w k : Nat} (h : r.loopTimes w k = 0) :
    opLoop b w k c r = { r with bases := (r.rewind b).bases, pc := endOf c.prog.pairs (r.pc - 1) + 1 } := by
  refine (if_pos h).trans ?_
  rw [rewind_eq]

variable {l : LoopFrame} {ls : List LoopFrame}

theorem opEndl_leaves (hl : r.loops = l :: ls) (hleft : l.left ≤ 1) : opEndl c r = { r with loops := ls } := by
  simp only [opEndl, hl, if_pos hleft]

theorem opEndl_returns (hl : r.loops = l :: ls) (hleft : 1 < l.left) (hbase : l.base = 0) :
    opEndl c r = { r with loops := { l with left := l.left - 1 } :: ls, pc := l.at_ + 1 } := by
  simp only [opEndl, hl, if_neg (Nat.not_le.mpr hleft), if_pos hbase]

/-- Back at the start of a loop with a base, the base stands one window on; an invalid base stays invalid (R184, R175). -/
theorem opEndl_advances {x : Base} {g : FRange} (hl : r.loops = l :: ls) (hleft : 1 < l.left) (hbase : l.base ≠ 0) (hx : r.bases.getD l.base none = some x)
    (hg : c.prog.ranges[x.range]? = some g) :
    opEndl c r = { r with
      bases := r.bases.set l.base (some { x with window := x.window + 1, valid := x.valid && (decide (0 ≤ x.window + 1) && decide (x.window + 1 < g.count)) })
      loops := { l with left := l.left - 1 } :: ls, pc := l.at_ + 1 } := by
  simp only [opEndl, hl, if_neg (Nat.not_le.mpr hleft), if_neg hbase, moveBase_bound hx hg, Bool.and_assoc]

theorem opBrk_leaves (hl : r.loops = l :: ls) (hla : r.la = true) : opBrk c r = { r with loops := ls, pc := endOf c.prog.pairs l.at_ + 1 } := by
  simp only [opBrk, hla, hl, Bool.not_true, Bool.false_eq_true, if_false]

theorem opBrk_stays (hla : r.la = false) : opBrk c r = r := by
  simp only [opBrk, hla, Bool.not_false, if_true]

/-! ### Lamp calls -/

theorem opLcall_queues {fn wt wf : Nat} (hz : c.cfg.lamp.zoneOk (r.w wt).1.toNat = true) (hfn : fn ≠ 2) : opLcall fn wt wf c r =
    { r with calls := r.calls ++ [{ fn := fn, zone := (r.w wt).1.toNat, value := min 65535 r.wa.toNat, fade := (r.w wf).1.toNat }] } := by
  simp only [opLcall, hz, if_true, if_neg hfn]

theorem opLcall_discards {fn wt wf : Nat} (hz : c.cfg.lamp.zoneOk (r.w wt).1.toNat = false) : opLcall fn wt wf c r = { r with lcDiscard := r.lcDiscard + 1 } := by
  simp only [opLcall, hz, Bool.false_eq_true, if_false]

/-! ### END -/

section
variable {s : State} {n : Nat} {p : Prog}

/-- The ladle as END leaves it: done for the cycle, with its last unit counted. -/
def Ladle.ended (x : Ladle) (now : Nat) : Ladle := { x with run := { x.run with units := x.run.units + 1 }, phase := .done, endAt := now }

/-- The registers of ladle `n` as END leaves them, after `ns` from the end of the charge. -/
def State.showEnded (s : State) (n units ns calls : Nat) : State :=
  let t := (s.wrN (Reg.LDL_LASTU n) units).wrN (Reg.LDL_LASTNS n) (min (2 ^ 32 - 1) ns)
  (t.wrN (Reg.LDL_MAXNS n) (max (t.rdN (Reg.LDL_MAXNS n)) (min (2 ^ 32 - 1) ns))).setF (Reg.LDL_CALLS n) F.LDL_CALLS_LAST calls

/-- LASTU and LASTNS are written once: the other two are other registers. -/
theorem rdN_showEnded (units ns calls : Nat) : (s.showEnded n units ns calls).rdN (Reg.LDL_LASTU n) = units % 2 ^ 32 ∧
    (s.showEnded n units ns calls).rdN (Reg.LDL_LASTNS n) = min (2 ^ 32 - 1) ns := by
  have hregs : Reg.LDL_LASTU n ≠ Reg.LDL_LASTNS n ∧ Reg.LDL_LASTU n ≠ Reg.LDL_MAXNS n ∧ Reg.LDL_LASTU n ≠ Reg.LDL_CALLS n ∧
      Reg.LDL_LASTNS n ≠ Reg.LDL_MAXNS n ∧ Reg.LDL_LASTNS n ≠ Reg.LDL_CALLS n := by
    simp only [Reg.LDL_LASTU, Reg.LDL_LASTNS, Reg.LDL_MAXNS, Reg.LDL_CALLS]
    omega
  obtain ⟨hun, hum, huc, hnm, hnc⟩ := hregs
  constructor
  · rw [State.rdN, State.showEnded, State.rd_setF_other _ _ _ _ huc, State.rd_wrN_other _ _ hum, State.rd_wrN_other _ _ hun]
    exact State.rdN_wrN_self _ _ _
  · rw [State.rdN, State.showEnded, State.rd_setF_other _ _ _ _ hnc, State.rd_wrN_other _ _ hnm]
    exact (State.rdN_wrN_self _ _ _).trans (Nat.mod_eq_of_lt (by omega))

theorem exec_liEnd_of_fetches (h : (s.ladle n).fetches (.z .fin) = some p) : exec (.liEnd n) s = .next ((s.setLadle n ((s.ladle n).ended s.now)).showEnded n
    ((s.ladle n).run.units + 1) (s.now - (s.ladle n).chargeEnd) (s.ladle n).run.calls.length) := by
  change execLiEnd n s = _
  simp only [execLiEnd, h]
  rfl

theorem ladle_showEnded (x : Ladle) (units ns calls : Nat) : ((s.setLadle n x).showEnded n units ns calls).ladle n = x :=
  mapGet_mapSet_self _ _ _ _

theorem points_showEnded (units ns calls : Nat) : (s.showEnded n units ns calls).points = s.points := rfl

end

end Sys2Proof.Machine

open Sys2Proof Sys2Proof.Machine

/-- Settles O35: jumps and calls under their condition, loops by their times and what is left of them, END by what it leaves. -/
theorem ladleControl : Obligations.LadleControl := by
  intro s n p
  refine ⟨fun _ h => exec_ladle rfl h rfl, fun _ h => exec_ladle rfl h opJmp_one, fun _ h => exec_ladle rfl h opJmp_two,
    fun _ h => exec_ladle rfl h rfl, fun _ _ hcond h => exec_ladle rfl h (opCall_conditional hcond),
    fun b w k => ?_,
    fun _ _ _ _ hl hleft hbase hx hg h => exec_ladle rfl h (opEndl_advances hl hleft hbase hx hg),
    fun _ _ hrets h => exec_ladle rfl h (opRet_cons hrets),
    fun _ h => exec_ladle rfl h rfl,
    fun _ hwa h => exec_ladle rfl h (opLoop_skips (loopTimes_of_wa_zero hwa)),
    fun _ _ hl hleft h => exec_ladle rfl h (opEndl_leaves hl hleft),
    fun _ _ hl hleft hbase h => exec_ladle rfl h (opEndl_returns hl hleft hbase),
    fun _ _ hl hla h => exec_ladle rfl h (opBrk_leaves hl hla), fun hla h => exec_ladle rfl h (opBrk_stays hla),
    fun h => exec_ladle (f := fun _ r => r) rfl h rfl, fun h => ?_⟩
  · intro times bases h
    have hbases : ((s.ladleAt n (.loop b w k)).rewind b).bases = bases := bases_rewind
    rw [← hbases]
    exact ⟨fun htimes => exec_ladle rfl h (opLoop_runs htimes), fun htimes => exec_ladle rfl h (opLoop_skips htimes)⟩
  · obtain ⟨hunits, hns⟩ := rdN_showEnded (s := s.setLadle n ((s.ladle n).ended s.now)) (n := n) ((s.ladle n).run.units + 1) (s.now - (s.ladle n).chargeEnd)
      (s.ladle n).run.calls.length
    refine ⟨_, exec_liEnd_of_fetches h, ?_⟩
    rw [ladle_showEnded]
    exact ⟨rfl, rfl, hunits, hns, rfl, rfl, rfl, points_showEnded _ _ _⟩

/-- Settles O36: each instruction by the base it names, and a lamp call by whether its zone exists. -/
theorem ladleBasesAndCalls : Obligations.LadleBasesAndCalls := fun _ _ _ =>
  ⟨fun _ _ _ h => exec_ladle rfl h rfl, fun _ _ _ _ hx hg h => exec_ladle rfl h (opBidx_add hx hg), fun _ _ _ _ hx hg h => exec_ladle rfl h (opBidx_set hx hg),
    fun _ _ hx h => exec_ladle rfl h (opBld_bound hx), fun _ _ _ h hz hfn => exec_ladle rfl h (opLcall_queues hz hfn),
    fun _ _ _ h hz => exec_ladle rfl h (opLcall_discards hz)⟩

end

section
/-!
SUPPORT. The control cycle (R202 to R224): the events of a cycle where they are due and where they are not, and each of its commands where its checks pass.
-/
set_option autoImplicit false
namespace Sys2Proof.Machine

variable {s : State} {e : CmdEntry} {n : Nat}

namespace State

@[simp] theorem ladle_setLadle_self (n : Nat) (x : Ladle) : (s.setLadle n x).ladle n = x := mapGet_mapSet_self _ _ _ _

theorem ladle_setLadle_other {m : Nat} (h : m ≠ n) (x : Ladle) : (s.setLadle n x).ladle m = s.ladle m := mapGet_mapSet_other _ _ _ _ _ h

/-- A granted REVERT waits only where no cycle is due. -/
theorem revertNow_of_next {b : Nat} (h : s.cyc.next = some b) : s.revertNow = s := by
  rw [revertNow, h]

/-- The state in which the charge of ladle `n` has ended. -/
def charged (s : State) (n : Nat) : State := s.setLadle n { s.ladle n with phase := .executing, chargeEnd := s.now }

/-- Once the charge of one ladle has ended, those that charge are the others that did. -/
theorem any_charging_charged :
    ((List.range 16).any fun m => ((s.charged n).ladle m).phase == .charging) = true ↔ ∃ m, m < 16 ∧ m ≠ n ∧ (s.ladle m).phase = .charging := by
  simp only [List.any_eq_true, List.mem_range, beq_iff_eq]
  refine exists_congr fun m => and_congr_right fun _ => ?_
  by_cases hm : m = n
  · subst hm
    simp [charged]
  · simp [charged, ladle_setLadle_other hm, hm]

/-- Execution begins where the last charge ends (R208). -/
def beginExecution (s : State) : State :=
  ({ s with cyc := { s.cyc with phase := .executing, chargedAt := s.now } } : State).wrN Reg.CYC_LASTCHG ((s.now - s.cyc.boundary) / 1000)

end State

/-! ### The events of a cycle -/

theorem exec_cycleBoundary_due {b : Nat} (hnext : s.cyc.next = some b) (hdue : b ≤ s.now) (hleads : s.leads = true) (hdef : s.defaulted = false)
    (hhand : s.handStops b = false) :
    let t := s.deadline.wrN Reg.CYC_COUNT (s.deadline.rdN Reg.CYC_COUNT + 1)
    let u : State := { t.applyWaiting with cyc := { t.applyWaiting.cyc with minPace := 0x10000 } }
    exec .cycleBoundary s = .next ((u.nextBoundary b s.cyc.period).beginCycle (u.rdN Reg.CYC_COUNT)) := by
  change execCycleBoundary s = _
  simp only [execCycleBoundary, State.revertNow_of_next hnext, hnext]
  exact if_neg (by simp [Nat.not_lt.mpr hdue, hleads, hdef, hhand])

theorem exec_cycleBoundary_early {b : Nat} (hnext : s.cyc.next = some b) (hearly : s.now < b) : exec .cycleBoundary s = .next s := by
  change execCycleBoundary s = _
  simp only [execCycleBoundary, State.revertNow_of_next hnext, hnext]
  exact if_pos (by simp [hearly])

section

variable (hcycle : s.cyc.phase = .charging) (hladle : (s.ladle n).phase = .charging)
include hcycle hladle

theorem exec_chargeEnd_charging : exec (.chargeEnd n) s =
    if ((List.range 16).any fun m => ((s.charged n).ladle m).phase == .charging) = true then .next (s.charged n)
    else .next (s.charged n).beginExecution.afterCharge :=
  if_pos (by rw [hcycle, hladle]; rfl)

theorem exec_chargeEnd_others {m : Nat} (hm : m < 16) (hne : m ≠ n) (hother : (s.ladle m).phase = .charging) :
    exec (.chargeEnd n) s = .next (s.charged n) :=
  (exec_chargeEnd_charging hcycle hladle).trans (if_pos (State.any_charging_charged.mpr ⟨m, hm, hne, hother⟩))

theorem exec_chargeEnd_last (hothers : ∀ m, m < 16 → m ≠ n → (s.ladle m).phase ≠ .charging) :
    exec (.chargeEnd n) s = .next (s.charged n).beginExecution.afterCharge := by
  refine (exec_chargeEnd_charging hcycle hladle).trans (if_neg fun h => ?_)
  obtain ⟨m, hm, hne, hother⟩ := State.any_charging_charged.mp h
  exact hothers m hm hne hother

end

theorem exec_commitDeadline_due (hphase : s.cyc.phase ≠ .between) (hdue : s.cyc.boundary + s.cyc.period - s.cyc.margin ≤ s.now) :
    exec .commitDeadline s = .next s.deadline :=
  congrArg Host.Outcome.next (if_pos (by rw [decide_eq_true hdue, bne_iff_ne.mpr hphase]; rfl))

theorem exec_commitDeadline_early (hearly : s.now < s.cyc.boundary + s.cyc.period - s.cyc.margin) : exec .commitDeadline s = .next s :=
  congrArg Host.Outcome.next (if_neg (by rw [decide_eq_false (Nat.not_le.mpr hearly), Bool.and_false]; exact Bool.false_ne_true))

/-! ### The commands -/

/-- An untagged setup in range waits for the next boundary. -/
theorem exec_cycSetup_waits (h : s.admits Op.cycSetup e = true) (htxn : e.txn = 0) (hstate : (s.taken e).cycState = none)
    (hrange : cycRange (e.param 0 4) (e.param 4 4) (e.param 8 4) = true) (hfree : (s.taken e).conflicts none [.cycle 16] = false) :
    exec (.cycSetup e) s = .next (s.waiting Op.cycSetup e (.cycSetup (e.param 0 4) (e.param 4 4) (e.param 8 4) (bitOf (e.param 12 1) 0)) (s.taken e)) := by
  refine runCmd_waiting h ?_
  simp only [State.txnOf_untagged htxn, hstate, hrange, hfree, Option.isSome_none, Bool.not_true, Bool.false_eq_true, if_false]

/-- An untagged schedule whose trigger fits its ladle waits for the next boundary. -/
theorem exec_cycSched_waits {c : Sched} (h : s.admits Op.cycSched e = true) (htxn : e.txn = 0) (hstate : (s.taken e).cycState = none)
    (hsched : parseSched (slice e.params 4 12) = .ok c) (hn : e.param 0 1 < 16) (htrig : (s.taken e).trigFits none (e.param 0 1) c = true)
    (hfree : (s.taken e).conflicts none [.cycle (e.param 0 1)] = false) :
    exec (.cycSched e) s = .next (s.waiting Op.cycSched e (.cycSched (e.param 0 1) (slice e.params 4 12)) (s.taken e)) := by
  refine runCmd_waiting h ?_
  simp only [State.txnOf_untagged htxn, hstate, hsched, htrig, hfree, decide_eq_false (Nat.not_le.mpr hn), Option.isSome_none, Bool.not_true, Bool.or_self,
    Bool.false_eq_true, if_false]

/-- A hold stands at once for the cycles that the entry names, 0 for no limit, and its command waits. -/
theorem exec_cycHold_waits (h : s.admits Op.cycHold e = true) (hstate : (s.taken e).cycState = none) :
    exec (.cycHold e) s = .next (s.waiting Op.cycHold e .cycHold
      (({ s.taken e with cyc := { (s.taken e).cyc with hold := some (if e.param 0 4 = 0 then none else some (e.param 0 4)) } } : State).wrN Reg.CYC_HOLDLEFT
        (if e.param 0 4 = 0 then 0xFFFFFFFF else e.param 0 4))) :=
  runCmd_waiting h (by simp only [hstate])

theorem exec_cycRelease_ends (h : s.admits Op.cycRelease e = true) (hdef : (s.taken e).defaulted = false) (hheld : (s.taken e).cyc.hold ≠ none) :
    exec (.cycRelease e) s = .next (s.completed Op.cycRelease e St.ok 0 0 0 []
      ((({ s.taken e with cyc := { (s.taken e).cyc with hold := none } } : State).wrN Reg.CYC_HOLDLEFT 0).finishAll (fun w => w.kind == .cycHold)
        St.aborted 0 0)) :=
  runCmd_completed h ((if_neg (ne_true_of_eq_false hdef)).trans (if_neg (mt Option.isNone_iff_eq_none.mp hheld)))

end Sys2Proof.Machine

open Sys2Proof Sys2Proof.Machine

/-- Settles O41: each event of a cycle by its guard, each command by what its body answers where its checks pass. -/
theorem controlCycle : Obligations.ControlCycle :=
  ⟨fun _ => ⟨fun _ => exec_cycleBoundary_due, fun _ => exec_cycleBoundary_early,
      fun _ _ _ hm hne hcycle hladle hother => exec_chargeEnd_others hcycle hladle hm hne hother,
      fun _ _ hcycle hladle hothers => exec_chargeEnd_last hcycle hladle hothers, exec_commitDeadline_due, exec_commitDeadline_early⟩,
    fun _ _ => ⟨exec_cycSetup_waits, fun _ => exec_cycSched_waits,
      fun h hstate hn => by
        have hexec := exec_cycHold_waits h hstate
        rwa [if_neg hn, if_neg hn] at hexec,
      fun h hstate hn => by
        have hexec := exec_cycHold_waits h hstate
        rwa [if_pos hn, if_pos hn] at hexec,
      exec_cycRelease_ends⟩⟩

end

section
/-!
SUPPORT. The lamp engine (R227 to R255): the tick, the end of the evaluation and the pour where they are due, the probes that a command asks for, with what their
mirroring to the standby leaves alone, and each lamp command where its checks pass.
-/
set_option autoImplicit false
namespace Sys2Proof.Machine

variable {s : State} {e : CmdEntry}

/-! ### The events of a tick -/

theorem exec_tickBoundary_due {t0 : Nat} (hnext : s.lamp.next = some t0) (hdue : t0 ≤ s.now) (hruns : s.lampRuns = true) (hhand : s.handPending t0 = false) :
    let t := (s.endSwitch.lampTick t0).tickGates t0 s.endSwitch.lamp.tick
    exec .tickBoundary s = .next (if t.leads = true then
      if t.latchImages.tickOutputs.counterHigh = true then t.latchImages.tickOutputs.startRekey else t.latchImages.tickOutputs
    else t) := by
  change execTickBoundary s = _
  simp only [execTickBoundary, hnext]
  exact if_neg (by simp [hruns, Nat.not_lt.mpr hdue, hhand])

theorem exec_tickBoundary_early {t0 : Nat} (hnext : s.lamp.next = some t0) (hearly : s.now < t0) : exec .tickBoundary s = .next s := by
  change execTickBoundary s = _
  simp only [execTickBoundary, hnext]
  exact if_pos (by simp [hearly])

theorem exec_lampEvaluationEnd_evaluating (h : s.lamp.evaluating = true) (us : Nat) :
    exec (.lampEvaluationEnd us) s = .next ((List.range 64).foldl (fun (t : State) p => t.releaseMoulds p) (s.evalEnd us)) :=
  congrArg Host.Outcome.next (if_pos h)

/-- Once the earliest pour is due it is made, and no pour that is due is left. -/
theorem State.duePours_due {p b : Nat} {rest : List (Nat × Nat)} (hpours : s.lamp.pours = (p, b) :: rest) (hdue : p ≤ s.now) :
    s.duePours = { s.makePour p with lamp := { (s.makePour p).lamp with pours := rest.filter fun e => decide (s.now < e.1) } } := by
  simp only [duePours, hpours, if_pos hdue]

section

variable (hleads : s.leads = true) (hruns : s.lampRuns = true)
include hleads hruns

theorem exec_pour_runs : exec .pour s = .next s.duePours := congrArg Host.Outcome.next (if_pos (Bool.and_eq_true_iff.mpr ⟨hleads, hruns⟩))

theorem exec_lumRunWrite_runs : exec .lumRunWrite s = .next (s.writeLumRuns false) :=
  congrArg Host.Outcome.next (if_pos (Bool.and_eq_true_iff.mpr ⟨hleads, hruns⟩))

end

/-! ### What a frame to the peer leaves alone -/

namespace State

/-- The second state has the lamp engine and the points of the first. -/
structure SameLamps (s₀ s : State) : Prop where
  lamp : s.lamp = s₀.lamp
  points : s.points = s₀.points

namespace SameLamps

variable {s₀ : State}

theorem refl (s : State) : s.SameLamps s := ⟨rfl, rfl⟩

theorem wrN {a v : Nat} (h : s₀.SameLamps s) : s₀.SameLamps (s.wrN a v) := ⟨h.lamp, h.points⟩

theorem withRdn {r : Rdn} (h : s₀.SameLamps s) : s₀.SameLamps { s with rdn := r } := ⟨h.lamp, h.points⟩

theorem ite {c : Prop} [Decidable c] {a b : State} (ha : s₀.SameLamps a) (hb : s₀.SameLamps b) : s₀.SameLamps (if c then a else b) := by
  split
  exacts [ha, hb]

theorem foldl {α : Type} {f : State → α → State} {l : List α} (h : s₀.SameLamps s) (hf : ∀ t x, s₀.SameLamps t → s₀.SameLamps (f t x)) :
    s₀.SameLamps (l.foldl f s) := by
  induction l generalizing s with
  | nil => exact h
  | cons x l ih => exact ih (hf s x h)

theorem event {typ sev inst : Nat} {payload : List Byte} (h : s₀.SameLamps s) : s₀.SameLamps (s.event typ sev inst payload) := by
  obtain ⟨_, _, hrest⟩ := s.eventAt_rest s.stamp typ sev inst payload
  rw [State.event, hrest]
  exact ⟨h.lamp, h.points⟩

theorem ethOut {g : Nat} {o : Out} (h : s₀.SameLamps s) : s₀.SameLamps (s.ethOut g o) := .ite h (.ite ⟨h.lamp, h.points⟩ ⟨h.lamp, h.points⟩)

theorem touchKey {k : Nat} (h : s₀.SameLamps s) : s₀.SameLamps (s.touchKey k) := .ite ⟨h.lamp, h.points⟩ h

theorem takeCounter {port last n : Nat} {t : State} (h : s₀.SameLamps s) (htaken : s.takeCounter port last = some (n, t)) : s₀.SameLamps t := by
  simp only [State.takeCounter] at htaken
  split at htaken
  · cases htaken
  · split at htaken <;> cases htaken
    exacts [⟨h.lamp, h.points⟩, h]

theorem sendPeer {typ : Nat} {body : List Byte} (h : s₀.SameLamps s) : s₀.SameLamps (s.sendPeer typ body) := by
  unfold State.sendPeer
  refine .ite h ?_
  split
  · next htaken => exact (h.takeCounter htaken).touchKey.withRdn.ethOut
  · exact h

theorem mirrorLag (h : s₀.SameLamps s) : s₀.SameLamps s.mirrorLag := h.withRdn.event

theorem showUnacked (h : s₀.SameLamps s) : s₀.SameLamps s.showUnacked := h.wrN

theorem sendDelta {records : List (List Byte)} (h : s₀.SameLamps s) : s₀.SameLamps (s.sendDelta records) :=
  have hsent := h.wrN.foldl fun _ _ ht => ht.sendPeer
  .ite h (.ite hsent (ite hsent.withRdn.mirrorLag hsent.withRdn).showUnacked)

theorem mirrorProbes {ks : List Nat} (h : s₀.SameLamps s) : s₀.SameLamps (s.mirrorProbes ks) := .ite h h.sendDelta

end SameLamps

section

variable (h : s.role ≠ .active ∨ s.paired = false)
include h

/-- A unit that is not the ACTIVE one of a pair mirrors nothing. -/
theorem sendDelta_of_unmirrored (records : List (List Byte)) : s.sendDelta records = s := if_pos (by rcases h with h | h <;> simp [h])

theorem mirrorProbes_of_unmirrored (ks : List Nat) : s.mirrorProbes ks = s := by
  rw [mirrorProbes, sendDelta_of_unmirrored h, ite_self]

end

/-! ### Probes asked for -/

variable (s)

theorem chan_setChan (l c d : Nat) (x : Chan) : (s.setChan l c x).chan l d = if d = c then x else s.chan l d := by
  rw [chan, setChan, mapGet_mapSet]
  simp only [chanKey, Nat.add_left_cancel_iff, chan]

/-- A probe is asked for on some channels of luminaire `l`. -/
def askProbes (s : State) (l : Nat) (cs : List Nat) : State := cs.foldl (fun (t : State) c => t.setChan l c { t.chan l c with probeNow := true }) s

/-- It reaches the lamp engine alone. -/
theorem askProbes_rest (l : Nat) (cs : List Nat) : ∃ x, s.askProbes l cs = { s with lamp := x } := by
  induction cs generalizing s with
  | nil => exact ⟨s.lamp, rfl⟩
  | cons c cs ih =>
    obtain ⟨x, h⟩ := ih (s.setChan l c { s.chan l c with probeNow := true })
    exact ⟨x, h⟩

/-- A channel that is named waits for its probe, and so does one that waited before. -/
theorem probeNow_askProbes {l c : Nat} {cs : List Nat} (h : c ∈ cs ∨ (s.chan l c).probeNow = true) : ((s.askProbes l cs).chan l c).probeNow = true := by
  induction cs generalizing s with
  | nil => exact h.resolve_left List.not_mem_nil
  | cons d cs ih =>
    refine ih _ ?_
    rw [chan_setChan]
    split
    · exact .inr rfl
    · next hne => exact h.imp_left fun hmem => (List.mem_cons.mp hmem).resolve_left hne

end State

/-! ### The commands -/

/-- The answer counts the sources that stand once the request is set: result0 bit 0 is any of them (log entry 23). -/
theorem exec_lmpEmerg_asks (h : s.admits Op.lmpEmerg e = true) (hdef : (s.taken e).defaulted = false) :
    let t : State := { s.taken e with lamp := { (s.taken e).lamp with asked := e.param 0 1 == 1 } }
    exec (.lmpEmerg e) s = .next (s.completed Op.lmpEmerg e St.ok (bit (t.emergSrc != 0) + 2 * t.emergSrc) 0 0 [] t) :=
  runCmd_completed h (if_neg (ne_true_of_eq_false hdef))

/-- The fitted channels of the luminaire that the entry names (R248, R255). -/
def probeChans (e : CmdEntry) (r : LumRec) : List Nat := r.channels.filter (bitOf (e.param 2 1) ·)

theorem exec_lmpProbe_asks {r : LumRec} (h : s.admits Op.lmpProbe e = true) (hdef : (s.taken e).defaulted = false)
    (hlum : (s.taken e).cfg.lum (e.param 0 2) = some r) :
    exec (.lmpProbe e) s = .next (s.completed Op.lmpProbe e St.ok 0 0 0 []
      (((s.taken e).askProbes (e.param 0 2) (probeChans e r)).mirrorProbes ((probeChans e r).map (chanKey (e.param 0 2) ·)))) := by
  refine runCmd_completed h ((if_neg (ne_true_of_eq_false hdef)).trans ?_)
  simp only [hlum]
  rfl

/-- Records that pass R253 wait for the next latch; untagged, the command itself is done at once (log entry 23). -/
theorem exec_lmpRecord_queues {rs : List (Nat × LumRec)} (h : s.admits Op.lmpRecord e = true) (htxn : e.txn = 0) (hdef : (s.taken e).defaulted = false)
    (hin : e.bufOut = false) (hwhole : e.bufLen.toNat % 32 = 0) (hmax : e.bufLen.toNat ≤ 65536) (hrecords : (s.taken e).lampRecords e.buf = .ok rs)
    (hfree : (s.taken e).conflicts none
      (((recordsOf 32 rs.length e.buf).map fun b => Change.table .lampRecord (32 * fieldLe b 0 2) b).flatMap Change.targets) = false) :
    exec (.lmpRecord e) s = .next (s.completed Op.lmpRecord e St.ok rs.length 0 0 [] ((s.taken e).queueRecords rs)) := by
  refine runCmd_completed h ?_
  rw [if_neg (by simp [hdef]), if_neg (by simp [hin, hwhole, Nat.not_lt.mpr hmax]), hrecords]
  simp only [State.stageTable, State.txnOf_untagged htxn]
  exact if_neg (ne_true_of_eq_false hfree)

theorem exec_lmpChstate_reads (h : s.admits Op.lmpChstate e = true) (hdef : (s.taken e).defaulted = false) (hmin : 1 ≤ e.param 2 2) (hmax : e.param 2 2 ≤ 1024)
    (hend : e.param 0 2 + e.param 2 2 ≤ 32768) (hout : e.bufOut = true) (hlen : e.bufLen.toNat = 64 * e.param 2 2) :
    exec (.lmpChstate e) s = .next (s.completed Op.lmpChstate e St.ok (e.param 2 2) 0 0 [(e.bufAddr.toNat,
      (List.range (e.param 2 2)).flatMap fun i => (List.range 4).flatMap fun c => (s.taken e).chEntry (e.param 0 2 + i) c)] (s.taken e)) :=
  runCmd_completed h ((if_neg (ne_true_of_eq_false hdef)).trans
    (if_neg (by simp [Nat.not_lt.mpr hmax, Nat.not_lt.mpr hend, hout, hlen, Nat.one_le_iff_ne_zero.mp hmin])))

end Sys2Proof.Machine

open Sys2Proof Sys2Proof.Machine

/-- Settles O42: each event by its guard, each command by what its body answers where its checks pass; a probe asked for is mirrored by frames that leave the lamp engine
and the points alone. -/
theorem lampEventsAndCommands : Obligations.LampEventsAndCommands := by
  refine fun s => ⟨fun t0 hnext hdue hruns hhand => ?tick, fun _ => exec_tickBoundary_early, exec_lampEvaluationEnd_evaluating,
    fun hleads hruns p b rest hpours hdue => ?pour, exec_lumRunWrite_runs, fun _ => exec_lmpEmerg_asks, fun e r h hdef hlum => ?probe,
    fun _ _ => exec_lmpRecord_queues, fun _ => exec_lmpChstate_reads⟩
  case tick =>
    have hexec := exec_tickBoundary_due hnext hdue hruns hhand
    refine ⟨fun hfollows => ?_, fun hleads hlow => ?_⟩
    · exact hexec.trans (congrArg _ (if_neg (ne_true_of_eq_false hfollows)))
    · exact hexec.trans (congrArg _ ((if_pos hleads).trans (if_neg (ne_true_of_eq_false hlow))))
  case pour => exact ⟨_, exec_pour_runs hleads hruns, by rw [State.duePours_due hpours hdue]⟩
  case probe =>
    obtain ⟨x, hrest⟩ := (s.taken e).askProbes_rest (e.param 0 2) (probeChans e r)
    have hsame := (State.SameLamps.refl ((s.taken e).askProbes (e.param 0 2) (probeChans e r))).mirrorProbes
      (ks := (probeChans e r).map (chanKey (e.param 0 2) ·))
    refine ⟨_, exec_lmpProbe_asks h hdef hlum, fun c hc hasked => ?_, ?_, fun hlone => ?_⟩
    · rw [State.chan, hsame.lamp]
      exact State.probeNow_askProbes _ (.inl (List.mem_filter.mpr ⟨hc, hasked⟩))
    · rw [hsame.points, hrest]
    · rw [State.mirrorProbes_of_unmirrored (by rwa [hrest]), hrest]

end

section
/-!
SUPPORT. The trunk ports (R259 to R268, R284, R285): frames received, beacons, roll calls, gate entries and the change of the key generation, each event where it is due
and where it is not.
-/
set_option autoImplicit false
namespace Sys2Proof.Machine

variable {s : State} {p : Nat}

namespace State

@[simp] theorem port_setPort_self (x : TrunkPort) : (s.setPort p x).port p = x := mapGet_mapSet_self _ _ _ _

end State

/-! ### Frames received (R264) -/

section

variable {f : TrunkFrame}

theorem exec_trunkFrameReceived_noPort (h : 64 ≤ f.port) : exec (.trunkFrameReceived f) s = .next s := if_pos (by simp [h])

variable (hport : f.port < 64) (hrole : s.portRole f.port ≠ 0)
include hport hrole

theorem exec_trunkFrameReceived_noRoom (h : f.room = false ∨ s.pausing = true) :
    exec (.trunkFrameReceived f) s = .next (s.bump (Reg.TRK_RXDROP f.port)) :=
  (if_neg (by simp [hport, hrole])).trans (if_pos (by simpa using h))

variable (hroom : f.room = true) (hpausing : s.pausing = false) (hwhole : s.truncated f = false)
include hroom hpausing hwhole

theorem exec_trunkFrameReceived_badFcs (hfcs : f.fcsOk = false) : exec (.trunkFrameReceived f) s = .next (s.bump (Reg.TRK_RXFCS f.port)) :=
  (if_neg (by simp [hport, hrole])).trans ((if_neg (by simp [hroom, hpausing])).trans (if_pos (by simp [hwhole, hfcs])))

/-- A REPORT that passes every check goes on to the Carzon engine by a row of its own; the port counts it and hears its node. -/
theorem exec_trunkFrameReceived_report (hfcs : f.fcsOk = true) (hlen : 64 ≤ f.bytes.length) (hdest : s.destOk f = true)
    (hetype : fieldBe f.bytes 12 2 = s.trkEtype) (hform : s.formOk f = true) (htype : fieldBe f.bytes 15 1 = 0x20) :
    let t := (s.bump (Reg.TRK_RXFRAMES f.port)).hearNode f
    t.flag (Reg.TRK_CTL f.port) F.TRK_CTL_CAP_ALL = false → exec (.trunkFrameReceived f) s = .next t := by
  intro t hcap
  change execTrunkFrameReceived f s = _
  rw [execTrunkFrameReceived, if_neg (by simp [hport, hrole]), if_neg (by simp [hroom, hpausing]), if_neg (by simp [hfcs, Nat.not_lt.mpr hlen])]
  simp only [hwhole, hcap, t, hdest, hetype, hform, htype, ne_eq, not_true_eq_false, Bool.not_true, Bool.false_eq_true, if_false]
  rfl

end

/-! ### Beacons (R259, R261) -/

/-- A port that does not coordinate notes the beacon; its own record alone moves. -/
theorem exec_foreignBeacon_follower (hport : p < 64) (hrole : s.portRole p = 2) :
    exec (.foreignBeacon p) s = .next (s.setPort p { s.port p with
      heardAt := s.now :: (s.port p).heardAt.filter fun x => decide (s.now < x + 1000000), listen := (s.port p).listen.map fun _ => s.now }) :=
  (if_neg (by simp [hport, hrole])).trans (if_pos (by simp [hrole]))

section

variable {start : Nat} (hport : p < 64) (hlisten : (s.port p).listen = some start) (hrole : s.portRole p = 2)
include hport hlisten hrole

theorem exec_coordinatorListenEnd_due (hsends : s.sendsCarzon = true)
    (hdue : start + 2 * (s.fld (Reg.TRK_PLCA p) F.TRK_PLCA_NCNT * s.fld (Reg.TRK_PLCA p) F.TRK_PLCA_TO_TIMER + 20) * 100 ≤ s.now) :
    exec (.coordinatorListenEnd p) s = .next (s.beaconStart p) := by
  change execCoordinatorListenEnd p s = _
  simp only [execCoordinatorListenEnd, hlisten]
  rw [if_pos (by simp [hport, hsends, hrole, hdue])]

theorem exec_seedingListenEnd_due (hseeding : s.role = .seeding) (hsettled : s.sup.roleSettled = true) (hdef : s.defaulted = false)
    (hdue : start + ms (s.fld (Reg.TRK_PLCA2 p) F.TRK_PLCA2_LISTEN) ≤ s.now) : exec (.seedingListenEnd p) s = .next (s.beaconStart p) := by
  change execSeedingListenEnd p s = _
  simp only [execSeedingListenEnd, hlisten]
  rw [if_pos (by simp [hport, hseeding, hsettled, hdef, hrole, hdue])]

end

/-! ### The roll call (R263) -/

namespace State

/-- Two of the IDs of a trunk are no row nodes: the coordinator's and the standby's. -/
theorem nodeIds_eq_nil (h : s.fld (Reg.TRK_PLCA p) F.TRK_PLCA_NCNT ≤ 2) : s.nodeIds p = [] := by
  rw [nodeIds, Nat.sub_eq_zero_of_le h, Nat.min_zero, List.range_zero]

theorem missedReports_of_no_nodes (h : s.nodeIds p = []) (pour : Option Nat) : s.missedReports p pour = s := by
  rw [missedReports, h, List.foldl_nil]

theorem countMissed_of_no_nodes (h : s.nodeIds p = []) (heard : Nat) :
    s.countMissed p heard = (s.setPort p { s.port p with heard := 0 }).wrN (Reg.TRK_NODEMAP p) heard := by
  rw [countMissed, h, List.foldl_nil]

end State

theorem exec_rollCallCycleEnd_idle (h : (s.port p).rollCall = false) : exec (.rollCallCycleEnd p) s = .next s :=
  if_pos (by simp [h])

/-- With no row nodes on the trunk the roll call ends, and under PLCA what was heard is shown. -/
theorem exec_rollCallCycleEnd_of_no_nodes (hport : p < 64) (hcall : (s.port p).rollCall = true) (hnodes : s.nodeIds p = []) :
    let t := s.setPort p { s.port p with rollCall := false }
    exec (.rollCallCycleEnd p) s = .next
      (if s.plcaOn p then (t.setPort p { s.port p with rollCall := false, heard := 0 }).wrN (Reg.TRK_NODEMAP p) (s.port p).heard else t) := by
  intro t
  have hreports : t.missedReports p (s.port p).pourFor = t := State.missedReports_of_no_nodes (s := t) hnodes _
  have hmissed := State.countMissed_of_no_nodes (s := t) hnodes (s.port p).heard
  rw [State.port_setPort_self] at hmissed
  refine (if_neg (by simp [hport, hcall])).trans (congrArg Host.Outcome.next ?_)
  rw [hreports, hmissed]
  rfl

/-! ### Gate entries (R267 to R269) -/

namespace State

/-- Start, end and mask of the entry that opens next. -/
def entryDue (s : State) (p : Nat) : Nat × Nat × Nat := ((s.port p).gates.spans s.lamp.tick).getD (s.port p).nextE (0, 0, 0)

/-- The port with that entry open from an instant on: the end of a POUR entry begins the roll call (R263). -/
def entryOpened (s : State) (p start : Nat) : State :=
  let x := s.port p
  let sp := s.entryDue p
  s.setPort p { x with entry := x.nextE, mask := sp.2.2, close := start + (sp.2.1 - sp.1) * 1000, nextE := (x.nextE + 1) % max 1 x.gates.entries.length
                       nextAt := some (start + (sp.2.1 - sp.1) * 1000), rollCall := x.mask == 1 || x.rollCall
                       heard := if x.mask == 1 && s.plcaOn p then 0 else x.heard }

theorem pourEntryCloses_of_none (h : (s.port p).pourDue = none) : s.pourEntryCloses p = s := by
  simp only [pourEntryCloses, h]

end State

section

variable {start : Nat} (hnext : (s.port p).nextAt = some start)
include hnext

theorem exec_gateEntryStart_early (hearly : s.now < start) : exec (.gateEntryStart p) s = .next s := by
  change execGateEntryStart p s = _
  simp only [execGateEntryStart, hnext]
  exact if_pos (by simp [hearly])

/-- An entry that neither begins a cycle nor is a POUR entry, with no POUR frame missed, opens: where the port does not send that is all, and where it sends and no
moulds leave the frames that wait flow into it. -/
theorem exec_gateEntryStart_opens (hport : p < 64) (hdue : start ≤ s.now) (hrole : s.portRole p ≠ 0) (hruns : s.lampRuns = true)
    (hlater : (s.port p).nextE ≠ 0) (hsent : (s.port p).pourDue = none) (hmask : (s.entryDue p).2.2 ≠ 1) :
    ((s.entryOpened p start).canSend p = false → exec (.gateEntryStart p) s = .next (s.entryOpened p start)) ∧
    ((s.entryOpened p start).canSend p = true → bitOf (s.entryDue p).2.2 Gate.mould = false →
      exec (.gateEntryStart p) s = .next ((s.entryOpened p start).pump p)) := by
  have hopens : exec (.gateEntryStart p) s = .next (if !(s.entryOpened p start).canSend p then s.entryOpened p start
      else (if bitOf (s.entryDue p).2.2 Gate.mould then (s.entryOpened p start).evalLate.releaseMoulds p else s.entryOpened p start).pump p) := by
    change execGateEntryStart p s = _
    simp only [execGateEntryStart, hnext]
    rw [State.entryDue] at hmask
    rw [if_neg (by simp [hport, Nat.not_lt.mpr hdue, hrole, hruns])]
    simp only [State.pourEntryCloses_of_none hsent, ite_self, if_neg hlater, decide_eq_false hmask, Bool.false_and, Bool.false_eq_true, if_false]
    rfl
  refine ⟨fun hsilent => ?_, fun hsends hmould => ?_⟩
  · rw [hopens, hsilent, Bool.not_false, if_pos rfl]
  · rw [hopens, hsends, Bool.not_true, if_neg Bool.false_ne_true, hmould, if_neg Bool.false_ne_true]

end

/-! ### The change of the key generation (R285) -/

namespace State

/-- A port keeps the group keys of the generation that stands alone. -/
def dropOldKeys (s : State) (p : Nat) : State := s.setPort p { s.port p with groupKeys := (s.port p).groupKeys.filter fun k => k.1 == s.keyGen }

/-- Dropping group keys moves no register. -/
theorem rd_foldl_dropOldKeys (s : State) (l : List Nat) (a : Nat) : (l.foldl dropOldKeys s).rd a = s.rd a := by
  induction l generalizing s with
  | nil => rfl
  | cons q l ih => exact ih (s.dropOldKeys q)

/-- Each port that is named keeps the keys of the generation that stands, every other port all of its keys. -/
theorem groupKeys_foldl_dropOldKeys (s : State) (l : List Nat) : ((l.foldl dropOldKeys s).port p).groupKeys =
    if p ∈ l then (s.port p).groupKeys.filter fun k => k.1 == s.keyGen else (s.port p).groupKeys := by
  induction l generalizing s with
  | nil => rfl
  | cons q l ih =>
    have hgen : (s.dropOldKeys q).keyGen = s.keyGen := rfl
    rw [List.foldl_cons, ih, hgen]
    by_cases hq : p = q
    · subst hq
      simp [dropOldKeys]
    · simp [dropOldKeys, port_setPort_other _ hq, hq]

/-- The registers of key generations show STEADY, with no generation to come and no switch. -/
def showSteady (s : State) : State :=
  ((s.setF Reg.TRK_CZNKEY F.TRK_CZNKEY_PHASE 0).setF Reg.TRK_CZNKEY F.TRK_CZNKEY_NEXT 0).wrN Reg.TRK_CZNSWITCH 0

/-- The change is over: the registers show STEADY and the ports have dropped their old keys. -/
def steadied (s : State) : State := (List.range 64).foldl dropOldKeys s.showSteady

theorem rd_steadied (s : State) (a : Nat) : s.steadied.rd a = s.showSteady.rd a := rd_foldl_dropOldKeys _ _ _

theorem rd_cznkey_showSteady (s : State) : s.showSteady.rd Reg.TRK_CZNKEY =
    ((s.setF Reg.TRK_CZNKEY F.TRK_CZNKEY_PHASE 0).setF Reg.TRK_CZNKEY F.TRK_CZNKEY_NEXT 0).rd Reg.TRK_CZNKEY := rd_wrN_other _ _ (by decide)

theorem keyPhase_steadied (s : State) : s.steadied.keyPhase = 0 := by
  rw [keyPhase, fld_congr (s.rd_steadied _), fld_congr s.rd_cznkey_showSteady, fld_setF_apart _ _ _ (by decide) (by decide), fld_setF_self _ _ _ (by decide),
    Nat.zero_mod]

theorem keyNext_steadied (s : State) : s.steadied.keyNext = 0 := by
  rw [keyNext, fld_congr (s.rd_steadied _), fld_congr s.rd_cznkey_showSteady, fld_setF_self _ _ _ (by decide), Nat.zero_mod]

theorem rdN_cznswitch_steadied (s : State) : s.steadied.rdN Reg.TRK_CZNSWITCH = 0 := by
  rw [rdN, rd_steadied]
  exact rdN_wrN_self _ _ _

theorem keyGen_showSteady (s : State) : s.showSteady.keyGen = s.keyGen := by
  rw [keyGen, fld_congr s.rd_cznkey_showSteady, fld_setF_apart _ _ _ (by decide) (by decide), fld_setF_apart _ _ _ (by decide) (by decide), keyGen]

theorem port_showSteady (s : State) : s.showSteady.port p = s.port p := by
  rw [port, showSteady, wrN_czn, setF_czn, setF_czn, port]

theorem groupKeys_steadied (s : State) (hp : p < 64) : (s.steadied.port p).groupKeys = (s.port p).groupKeys.filter fun k => k.1 == s.keyGen := by
  have hkeys := groupKeys_foldl_dropOldKeys (p := p) s.showSteady (List.range 64)
  rw [if_pos (List.mem_range.mpr hp), keyGen_showSteady, port_showSteady] at hkeys
  exact hkeys

end State

section

variable {u : State}

section

variable (hrads : (List.range 4).foldl (fun (t : State) r => t.radAnnounce r) s = u)
include hrads

/-- Once the radio channels have announced theirs, a distribution of 10 s announces the change for the pour 40 ahead. -/
theorem exec_keyAnnounce_due (hphase : u.keyPhase = 1) (hsends : u.sendsCarzon = true) (hdue : u.czn.rekeyAt + secs 10 ≤ u.now) :
    exec .keyAnnounce s = .next ((u.setF Reg.TRK_CZNKEY F.TRK_CZNKEY_PHASE 2).wrN Reg.TRK_CZNSWITCH (addMod32 u.lamp.seq 40)) := by
  change execKeyAnnounce s = _
  rw [execKeyAnnounce, hrads]
  simp only [hphase, hsends, decide_eq_true hdue, Bool.or_true, decide_true, Bool.and_self, if_true]

theorem exec_keyAnnounce_idle (hphase : u.keyPhase ≠ 1) : exec .keyAnnounce s = .next u := by
  change execKeyAnnounce s = _
  rw [execKeyAnnounce, hrads]
  simp only [decide_eq_false hphase, Bool.false_and, Bool.false_eq_true, if_false]

end

section

variable (hrads : (List.range 4).foldl (fun (t : State) r => t.radGraceEnd r) s = u)
include hrads

/-- Ten seconds after the switch the generation stands alone, in the registers and in the group keys of every port. -/
theorem exec_generationGraceEnd_due (hphase : u.keyPhase = 3) (hdue : u.czn.graceAt ≤ u.now) : exec .generationGraceEnd s = .next u.steadied := by
  change execGenerationGraceEnd s = _
  rw [execGenerationGraceEnd, hrads]
  simp only [hphase, decide_eq_true hdue, decide_true, Bool.and_self, if_true]
  rfl

theorem exec_generationGraceEnd_idle (hphase : u.keyPhase ≠ 3) : exec .generationGraceEnd s = .next u := by
  change execGenerationGraceEnd s = _
  rw [execGenerationGraceEnd, hrads]
  simp only [decide_eq_false hphase, Bool.false_and, Bool.false_eq_true, if_false]

end

end

end Sys2Proof.Machine
end

section
/-!
SUPPORT. The gigabit ports (R270 to R273): PAUSE frames, the end of their quanta and changes of the link.
-/
set_option autoImplicit false
namespace Sys2Proof.Machine

variable {s : State} {g : Nat}

namespace State

@[simp] theorem eth_setEth_self (x : EthPort) : (s.setEth g x).eth g = x := mapGet_mapSet_self _ _ _ _

theorem eth_event (typ sev inst : Nat) (payload : List Byte) : (s.event typ sev inst payload).eth g = s.eth g := by
  obtain ⟨_, _, h⟩ := s.eventAt_rest s.stamp typ sev inst payload
  rw [event, h]
  rfl

/-- Transmission of the port is stopped until an instant. -/
def ethStopped (s : State) (g limit : Nat) : State :=
  (s.setEth g { s.eth g with pausedTo := some limit }).setF (Reg.ETH_STATUS g) F.ETH_STATUS_PAUSED 1

/-- The link of the port shows as up or down. -/
def showLink (s : State) (g : Nat) (up : Bool) : State := s.setF (Reg.ETH_STATUS g) F.ETH_STATUS_LINK (bit up)

/-- Nothing waits at the port and no PAUSE stops it. -/
def ethCleared (s : State) (g : Nat) : State :=
  (s.setEth g { s.eth g with pausedTo := none, queue := [] }).setF (Reg.ETH_STATUS g) F.ETH_STATUS_PAUSED 0

theorem link_showLink (up : Bool) : (s.showLink g up).flag (Reg.ETH_STATUS g) F.ETH_STATUS_LINK = up := flag_setF_self _ _ (by decide) rfl up

theorem eth_ethCleared : (s.ethCleared g).eth g = { s.eth g with pausedTo := none, queue := [] } := eth_setEth_self (s := s) _

theorem paused_ethCleared : (s.ethCleared g).flag (Reg.ETH_STATUS g) F.ETH_STATUS_PAUSED = false := flag_setF_zero _ _ (by decide) rfl

theorem link_ethCleared : (s.ethCleared g).flag (Reg.ETH_STATUS g) F.ETH_STATUS_LINK = s.flag (Reg.ETH_STATUS g) F.ETH_STATUS_LINK :=
  flag_setF_apart _ _ _ (by decide) (by decide)

end State

/-! ### PAUSE frames (R273) -/

theorem exec_pauseFrameReceived_noPort (h : 2 ≤ g) (quanta : Nat) : exec (.pauseFrameReceived g quanta) s = .next s :=
  if_pos (by simp [h])

/-- With no cap on the time a PAUSE frame stops the port for its quanta. -/
theorem exec_pauseFrameReceived_stops {quanta : Nat} (hg : g < 2) (hmax : quanta ≤ 65535) (hsome : 0 < quanta)
    (henabled : s.flag (Reg.ETH_CTL g) F.ETH_CTL_ENABLE = true) (hlink : s.flag (Reg.ETH_STATUS g) F.ETH_STATUS_LINK = true)
    (hrx : s.flag (Reg.ETH_PAUSE g) F.ETH_PAUSE_RX_EN = true) (hcap : s.fld (Reg.ETH_PAUSE g) F.ETH_PAUSE_CAP_US = 0) :
    exec (.pauseFrameReceived g quanta) s = .next ((s.bump (Reg.ETH_RXFRAMES g)).ethStopped g (s.now + quanta * 512)) := by
  have hrd : (s.bump (Reg.ETH_RXFRAMES g)).rd (Reg.ETH_PAUSE g) = s.rd (Reg.ETH_PAUSE g) :=
    s.rd_wrN_other _ (by simp only [Reg.ETH_PAUSE, Reg.ETH_RXFRAMES]; omega)
  have hrx' := (State.flag_congr hrd F.ETH_PAUSE_RX_EN).trans hrx
  have hcap' := (State.fld_congr hrd F.ETH_PAUSE_CAP_US).trans hcap
  change execPauseFrameReceived g quanta s = _
  rw [execPauseFrameReceived, if_neg (by simp [Nat.not_le.mpr hg, Nat.not_lt.mpr hmax, henabled, hlink])]
  simp only [hrx', hcap', bne_self_eq_false, Bool.false_and, Bool.not_true, Bool.false_eq_true, if_false]
  rw [if_neg (by omega)]
  rfl

theorem exec_pauseQuantaEnd_due {limit : Nat} (hg : g < 2) (hpaused : (s.eth g).pausedTo = some limit) (hdue : limit ≤ s.now) :
    exec (.pauseQuantaEnd g) s = .next (s.ethResume g) := by
  change execPauseQuantaEnd g s = _
  simp only [execPauseQuantaEnd, hpaused]
  rw [if_pos (by simp [hg, hdue])]

/-! ### Changes of the link (R272, R277) -/

theorem exec_linkChange_down (hg : g < 2) (hlink : s.flag (Reg.ETH_STATUS g) F.ETH_STATUS_LINK = true) :
    exec (.linkChange g false) s = .next (((s.showLink g false).ethCleared g).event 0x0E02 0 g (le 1 g ++ le 1 0)) :=
  congrArg Host.Outcome.next (if_neg (by simp [hg, hlink]))

theorem exec_linkChange_up (hg : g < 2) (hoff : s.linkOff = false) (hlink : s.flag (Reg.ETH_STATUS g) F.ETH_STATUS_LINK = false) :
    exec (.linkChange g true) s = .next ((s.showLink g true).event 0x0E02 0 g (le 1 g ++ le 1 1)) :=
  congrArg Host.Outcome.next (if_neg (by simp [hg, hoff, hlink]))

end Sys2Proof.Machine

open Sys2Proof Sys2Proof.Machine

/-- Settles O46: each event by its guard and by what it leaves of its port, of the key registers and of the link. -/
theorem trunkAndGigabitEvents : Obligations.TrunkAndGigabitEvents := by
  refine ⟨fun s => ⟨fun _ => exec_trunkFrameReceived_noRoom, fun _ => exec_trunkFrameReceived_badFcs, fun _ => exec_trunkFrameReceived_report,
      fun _ => exec_trunkFrameReceived_noPort, fun p hport hrole => ?beacon,
      fun _ _ hport hlisten hsends hrole => exec_coordinatorListenEnd_due hport hlisten hrole hsends,
      fun _ _ hport hlisten hseeding hsettled hdef hrole => exec_seedingListenEnd_due hport hlisten hrole hseeding hsettled hdef,
      fun p hport hcall hcount => ?rollCall, fun _ => exec_rollCallCycleEnd_idle,
      fun p start hport hnext hdue hrole hruns hlater hsent => ?gate, fun _ _ => exec_gateEntryStart_early,
      ⟨exec_keyAnnounce_due rfl, exec_keyAnnounce_idle rfl⟩, ⟨fun hphase hdue => ?grace, exec_generationGraceEnd_idle rfl⟩⟩,
    fun s => ⟨fun g q hg hmax hsome henabled hlink hrx hcap => ?pause, fun _ q h => exec_pauseFrameReceived_noPort h q, fun _ _ => exec_pauseQuantaEnd_due,
      fun g hg hlink => ?linkDown, fun g hg hoff hlink => ?linkUp⟩⟩
  case beacon =>
    exact ⟨_, exec_foreignBeacon_follower hport hrole, by rw [State.port_setPort_self], rfl, fun q hq => State.port_setPort_other _ hq⟩
  case rollCall =>
    have hexec := exec_rollCallCycleEnd_of_no_nodes hport hcall (State.nodeIds_eq_nil hcount)
    exact ⟨fun hplca => hexec.trans (congrArg _ (if_pos hplca)), fun hplca => hexec.trans (congrArg _ (if_neg (ne_true_of_eq_false hplca)))⟩
  case gate =>
    have hopens := exec_gateEntryStart_opens hnext hport hdue hrole hruns hlater hsent
    exact ⟨fun hsilent hmask => (hopens hmask).1 hsilent, fun hsends hmould hmask => (hopens hmask).2 hsends hmould⟩
  case grace =>
    exact ⟨_, exec_generationGraceEnd_due rfl hphase hdue, State.keyPhase_steadied _, State.rdN_cznswitch_steadied _, State.keyNext_steadied _,
      fun p hp => State.groupKeys_steadied _ hp⟩
  case pause =>
    refine ⟨_, exec_pauseFrameReceived_stops hg hmax hsome henabled hlink hrx hcap, ?_, ?_, rfl, rfl⟩
    · exact congrArg EthPort.pausedTo (State.eth_setEth_self _)
    · exact State.flag_setF_one _ _ (by decide) rfl
  case linkDown =>
    refine ⟨_, exec_linkChange_down hg hlink, ?_, ?_, ?_, ?_⟩
    · rw [State.flag_congr (State.rd_event _ _ _ _ _ _), State.link_ethCleared, State.link_showLink]
    · rw [State.eth_event, State.eth_ethCleared]
    · rw [State.eth_event, State.eth_ethCleared]
    · rw [State.flag_congr (State.rd_event _ _ _ _ _ _), State.paused_ethCleared]
  case linkUp =>
    exact ⟨_, exec_linkChange_up hg hoff hlink, by rw [State.flag_congr (State.rd_event _ _ _ _ _ _), State.link_showLink]⟩

end

section
/-!
SUPPORT. The trunk, Carzon and radio commands (R268, R275, R310, R339): each command where its checks pass, by what its body answers on the state in which it was taken.
-/
set_option autoImplicit false
namespace Sys2Proof.Machine

variable {s : State} {e : CmdEntry}

namespace State

variable {regs : List Nat} {r : Res}

/-- Registers that no transaction holds are free for the command. -/
theorem freeRegs_of_free (h : s.conflicts none (regs.map .reg) = false) : s.freeRegs regs r = r := if_neg (ne_true_of_eq_false h)

/-- An untagged table load on free targets takes effect at once. -/
theorem stageTable_untagged {cs : List Change} {r0 : Nat} {now : State → State} (htxn : e.txn = 0)
    (hfree : s.conflicts none (cs.flatMap Change.targets) = false) : s.stageTable e cs r0 now = .okWith r0 0 (now s) := by
  simp only [stageTable, txnOf_untagged htxn]
  exact if_neg (ne_true_of_eq_false hfree)

/-- A module in default service sends no Carzon frames (R66, R259). -/
theorem not_defaulted_of_sendsCarzon (h : s.sendsCarzon = true) : s.defaulted = false := by
  simp only [sendsCarzon, Bool.and_eq_true, Bool.not_eq_true'] at h
  obtain ⟨⟨⟨-, hdef⟩, -⟩, -⟩ := h
  exact hdef

theorem sendsCarzon_of_radTx {c : Nat} (h : s.radTx c = true) : s.sendsCarzon = true := (Bool.and_eq_true_iff.mp h).2

end State

/-! ### The trunk commands (R268, R275) -/

/-- The frame of TRK_SEND: class MGMT. -/
def State.hostFrame (s : State) (e : CmdEntry) : TxFrame := { cls := Gate.mgmt, kind := .host (e.buf.take e.bufLen.toNat) (s.tagOf Op.trkSend e) }

/-- A frame that the open entry admits leaves at once, and the answer carries its stamp; any other waits for a MGMT entry, 1 s at most. -/
theorem exec_trkSend_sends (h : s.admits Op.trkSend e = true) (hdef : (s.taken e).defaulted = false) (hport : e.param 0 1 ≤ 63) (hin : e.bufOut = false)
    (hsends : (s.taken e).sendsCarzon = true) (hetype : fieldBe e.buf 12 2 ≠ (s.taken e).trkEtype) (hon : (s.taken e).trkOn (e.param 0 1) = true)
    (hmin : 60 ≤ e.bufLen.toNat) (hmax : e.bufLen.toNat + 4 ≤ (s.taken e).fld (Reg.TRK_CTL (e.param 0 1)) F.TRK_CTL_MAXLEN) :
    let u := s.taken e
    let start := u.mediumAt (e.param 0 1) false
    let stamp := u.stampAt (u.txAt (e.param 0 1) start)
    (u.startsNow (e.param 0 1) (s.hostFrame e) = true → exec (.trkSend e) s =
      .next (s.completed Op.trkSend e St.ok (stamp % 2 ^ 32) (stamp / 2 ^ 32) 0 [] (u.nextFree.startFrame (e.param 0 1) start (s.hostFrame e)))) ∧
    (u.startsNow (e.param 0 1) (s.hostFrame e) = false → exec (.trkSend e) s =
      .next (s.waiting Op.trkSend e (.trkSend (e.param 0 1) (u.now + secs 1)) (u.await (e.param 0 1) (s.hostFrame e)))) := by
  have hsize : (decide (e.bufLen.toNat < 60) || decide ((s.taken e).fld (Reg.TRK_CTL (e.param 0 1)) F.TRK_CTL_MAXLEN < e.bufLen.toNat + 4)) = false := by
    simp [Nat.not_lt.mpr hmin, Nat.not_lt.mpr hmax]
  refine ⟨fun hnow => runCmd_completed h ?_, fun hlater => runCmd_waiting h ?_⟩
  all_goals
    simp only [hdef, decide_eq_false (Nat.not_lt.mpr hport), hin, hsends, decide_eq_false hetype, hon, hsize, Bool.not_true, Bool.or_self, Bool.false_eq_true, if_false]
  · exact if_pos hnow
  · exact if_neg (ne_true_of_eq_false hlater)

/-- The one frame that waits at the port beyond its second is taken from the queue. -/
theorem exec_trkSendTimeout_single {p limit : Nat} {w : Wait} (hwaits : s.waits = [w]) (hkind : w.kind = .trkSend p limit) (hdue : limit ≤ s.now) :
    exec (.trkSendTimeout p) s = .next ((s.setPort p { s.port p with
      queue := (s.port p).queue.filter fun f => match f.kind with | .host _ g => g ≠ w.tag | _ => true }).finish w St.timeout 0 0) := by
  change execTrkSendTimeout p s = _
  rw [execTrkSendTimeout, hwaits, List.filter_cons_of_pos (by simp [hkind, hdue]), List.filter_nil]
  rfl

theorem exec_trkPort_free (h : s.admits Op.trkPort e = true) (hdef : (s.taken e).defaulted = false) (hport : e.param 0 1 ≤ 63)
    (hfree : (s.taken e).conflicts none [.reg (Reg.TRK_CTL (e.param 0 1))] = false) :
    exec (.trkPort e) s = .next (s.completed Op.trkPort e St.ok 0 0 0 [] ((s.taken e).setPortOn (e.param 0 1) (e.param 1 1 == 1))) :=
  runCmd_completed h ((if_neg (ne_true_of_eq_false hdef)).trans ((if_neg (Nat.not_lt.mpr hport)).trans (State.freeRegs_of_free hfree)))

/-- The list of a TRK_GATES entry. -/
def gatesOfEntry (e : CmdEntry) : GateList := gatesOf (e.param 1 1) (e.buf.take e.bufLen.toNat)

/-- The state in which the list of a TRK_GATES entry runs, or waits for the next cycle. -/
def State.gatesUsed (s : State) (e : CmdEntry) : State := (s.writeGates (e.param 0 1) (gatesOfEntry e)).useGates (e.param 0 1) (gatesOfEntry e) false

/-- An untagged valid list runs at once where no cycle does; where one does, the command waits for the next. -/
theorem exec_trkGates_uses (h : s.admits Op.trkGates e = true) (htxn : e.txn = 0) (hdef : (s.taken e).defaulted = false) (hport : e.param 0 1 ≤ 63)
    (hin : e.bufOut = false) (hwhole : (e.buf.take e.bufLen.toNat).length % 4 = 0) (hsome : e.buf.take e.bufLen.toNat ≠ [])
    (hclean : gatesClean (e.buf.take e.bufLen.toNat) = true) (hvalid : (gatesOfEntry e).ok (s.taken e).lamp.tick = true)
    (hfree : (s.taken e).conflicts none (Change.targets (.table (.gates (e.param 0 1)) 0 (be 1 (gatesOfEntry e).mult ++ e.buf.take e.bufLen.toNat))
      ++ (gateRegsOf (e.param 0 1) (gatesOfEntry e)).map .reg) = false) :
    let t := (s.taken e).gatesUsed e
    ((t.port (e.param 0 1)).fresh = none → exec (.trkGates e) s = .next (s.completed Op.trkGates e St.ok 0 0 0 [] t)) ∧
    ((t.port (e.param 0 1)).fresh ≠ none → exec (.trkGates e) s = .next (s.waiting Op.trkGates e (.trkGates (e.param 0 1)) t)) := by
  refine ⟨fun hruns => runCmd_completed h ?_, fun hwaits => runCmd_waiting h ?_⟩
  all_goals
    refine (if_neg (by simp [hdef])).trans ((if_neg (by simp [Nat.not_lt.mpr hport, hin, hwhole, hsome, hclean, -List.length_take])).trans
      ((if_neg (ne_true_of_eq_false (congrArg not hvalid))).trans ?_))
    simp only [State.txnOf_untagged htxn]
    refine (if_neg (ne_true_of_eq_false hfree)).trans ?_
  · exact if_neg (Option.not_isSome_iff_eq_none.mpr hruns)
  · exact if_pos (Option.isSome_iff_ne_none.mpr hwaits)

/-! ### The Carzon commands (R310) -/

section

variable (hsends : (s.taken e).sendsCarzon = true)
include hsends

theorem exec_cznNode_known {x : CznEntry} (h : s.admits Op.cznNode e = true) (hnode : (s.taken e).cfg.cznEntry (e.param 0 2) = some x) :
    let y := (s.taken e).cznNode (e.param 0 2)
    exec (.cznNode e) s =
      .next (s.completed Op.cznNode e St.ok (y.state + y.version * 256 + (s.taken e).keyGen * 65536) y.hiCounter 0 [] (s.taken e)) := by
  refine runCmd_completed h ?_
  simp only [State.not_defaulted_of_sendsCarzon hsends, hsends, hnode, Option.isNone_some, Bool.not_true, Bool.false_eq_true, if_false]
  rfl

/-- A node in service, SERVING or STALE, is put under reseat for the host's cause. -/
theorem exec_cznReseat_serving {x : CznEntry} (h : s.admits Op.cznReseat e = true) (hnode : (s.taken e).cfg.cznEntry (e.param 0 2) = some x)
    (hserving : ((s.taken e).cznNode (e.param 0 2)).state = 3 ∨ ((s.taken e).cznNode (e.param 0 2)).state = 4) :
    exec (.cznReseat e) s =
      .next (s.waiting Op.cznReseat e (.cznReseat (e.param 0 2) ((s.taken e).now + secs 10)) ((s.taken e).reseat (e.param 0 2) 4)) := by
  refine runCmd_waiting h ?_
  simp only [State.not_defaulted_of_sendsCarzon hsends, hsends, hnode, Option.isNone_some, Bool.not_true, Bool.false_eq_true, if_false]
  rw [if_neg (by simp; omega), if_pos (by simpa using hserving)]

theorem exec_cznRekey_steady (h : s.admits Op.cznRekey e = true) (hphase : (s.taken e).keyPhase = 0) (hradio : (s.taken e).radRekeying = false) :
    exec (.cznRekey e) s = .next (s.waiting Op.cznRekey e .cznRekey (s.taken e).startRekey) :=
  runCmd_waiting h ((if_neg (ne_true_of_eq_false (State.not_defaulted_of_sendsCarzon hsends))).trans
    ((if_neg (by simp [hsends])).trans (if_neg (by simp [hphase, hradio]))))

theorem exec_cznNodetable_loads {es : List CznEntry} (h : s.admits Op.cznNodetable e = true) (htxn : e.txn = 0) (hin : e.bufOut = false)
    (hwhole : e.bufLen.toNat % 24 = 0) (hmax : e.bufLen.toNat ≤ 24 * 2048) (hentries : (s.taken e).cznEntries e.buf = .ok es)
    (hfree : (s.taken e).conflicts none
      (((recordsOf 24 es.length e.buf).map fun b => Change.table .cznNodes (24 * fieldBe b 0 2) b).flatMap Change.targets) = false) :
    exec (.cznNodetable e) s = .next (s.completed Op.cznNodetable e St.ok es.length 0 0 [] ((s.taken e).loadCznEntries es)) := by
  refine runCmd_completed h ?_
  rw [if_neg (by simp [State.not_defaulted_of_sendsCarzon hsends]), if_neg (by simp [hsends]), if_neg (by simp [hin, hwhole, Nat.not_lt.mpr hmax]), hentries]
  exact State.stageTable_untagged htxn hfree

end

/-! ### The radio commands (R339) -/

theorem exec_radNode_known {x : RadioEntry} (h : s.admits Op.radNode e = true) (hdef : (s.taken e).defaulted = false)
    (hnode : (s.taken e).radEntry (e.param 0 2) = some x) (hon : (s.taken e).flag (Reg.RAD_CTL (radioChan (e.param 0 2))) F.RAD_CTL_ENABLE = true) :
    let y := (s.taken e).radNode (e.param 0 2)
    exec (.radNode e) s = .next (s.completed Op.radNode e St.ok
      (y.state + y.listen * 256 + ((s.taken e).radChan (radioChan (e.param 0 2))).gen * 65536) y.hiCounter 0 [] (s.taken e)) := by
  refine runCmd_completed h ?_
  simp only [hdef, hnode, hon, Option.isNone_some, Bool.not_true, Bool.false_eq_true, if_false]
  rfl

/-- A call within the limit of the hour goes out, and its command waits for the node. -/
theorem exec_radWake_calls {x : RadioEntry} (h : s.admits Op.radWake e = true) (hcmd : e.param 2 1 ≤ 1) (hleads : (s.taken e).leads = true)
    (hnode : (s.taken e).radEntry (e.param 0 2) = some x) (htx : (s.taken e).radTx (radioChan (e.param 0 2)) = true)
    (hlimit : (s.taken e).wakeSpent (e.param 0 2) = false) :
    exec (.radWake e) s =
      .next (s.waiting Op.radWake e (.radWake (e.param 0 2) ((s.taken e).now + secs 1)) ((s.taken e).radCall (e.param 0 2) (e.param 2 1))) := by
  have hdef := State.not_defaulted_of_sendsCarzon (State.sendsCarzon_of_radTx htx)
  refine runCmd_waiting h ?_
  simp only [hdef, hleads, hnode, htx, hlimit, if_neg (Nat.not_lt.mpr hcmd), Option.isNone_some, Bool.not_true, Bool.false_eq_true, if_false]

theorem exec_radNodetable_loads {es : List RadioEntry} (h : s.admits Op.radNodetable e = true) (htxn : e.txn = 0) (hdef : (s.taken e).defaulted = false)
    (hin : e.bufOut = false) (hwhole : e.bufLen.toNat % 24 = 0) (hmax : e.bufLen.toNat ≤ 24 * 2048)
    (hentries : (s.taken e).radioEntries (e.buf.take e.bufLen.toNat) = .ok es)
    (hfree : (s.taken e).conflicts none
      (((recordsOf 24 es.length e.buf).map fun b => Change.table .radioNodes (24 * fieldBe b 0 2) b).flatMap Change.targets) = false) :
    exec (.radNodetable e) s = .next (s.completed Op.radNodetable e St.ok es.length 0 0 [] ((s.taken e).loadRadioEntries es)) := by
  refine runCmd_completed h ?_
  rw [if_neg (by simp [hdef]), if_neg (by simp [hin, hwhole, Nat.not_lt.mpr hmax]), hentries]
  exact State.stageTable_untagged htxn hfree

theorem exec_radChannel_free (h : s.admits Op.radChannel e = true) (hdef : (s.taken e).defaulted = false) (hchan : e.param 0 1 ≤ 3) (hset : e.param 1 1 ≤ 1)
    (hfree : (s.taken e).conflicts none [.reg (Reg.RAD_CTL (e.param 0 1))] = false) :
    exec (.radChannel e) s = .next (s.completed Op.radChannel e St.ok 0 0 0 [] ((s.taken e).setRadOn (e.param 0 1) (e.param 1 1 == 1))) :=
  runCmd_completed h ((if_neg (ne_true_of_eq_false hdef)).trans
    ((if_neg (by simp [Nat.not_lt.mpr hchan, Nat.not_lt.mpr hset])).trans (State.freeRegs_of_free hfree)))

end Sys2Proof.Machine

open Sys2Proof Sys2Proof.Machine

/-- Settles O47: each command by what its body answers where its checks pass. -/
theorem fieldCommands : Obligations.FieldCommands :=
  ⟨fun _ _ => ⟨exec_trkSend_sends, fun _ _ _ => exec_trkSendTimeout_single, exec_trkPort_free, exec_trkGates_uses⟩,
    fun _ _ => ⟨fun _ h hsends => exec_cznNode_known hsends h, fun _ h hsends => exec_cznReseat_serving hsends h, fun h hsends => exec_cznRekey_steady hsends h,
      fun _ h htxn hsends => exec_cznNodetable_loads hsends h htxn⟩,
    fun _ _ => ⟨fun _ => exec_radNode_known, fun _ => exec_radWake_calls, fun _ => exec_radNodetable_loads, exec_radChannel_free⟩⟩

end

section
/-!
SUPPORT. What an application of point operations reaches (R152), and what the completion of waiting commands reaches (R96, R98): everything else of the machine stands.
-/
set_option autoImplicit false
namespace Sys2Proof.Machine

namespace State

variable {r s t u : State}

/-! ### Applications -/

/-- From `s` to `t` only what an application reaches has changed: points, forces, subscriptions and notices, the outputs that wait for a node, and two counters. -/
structure Applied (s t : State) : Prop where
  rest : ∃ regs points forces subs noticeQ batch czn radio, t = { s with regs := regs, points := points, forces := forces, subs := subs, noticeQ := noticeQ, batch := batch, czn := czn, radio := radio }
  rd : ∀ b, b ≠ Reg.PNT_CNT_ABSORBED → b ≠ Reg.PNT_CNT_NOTICE → t.rd b = s.rd b

namespace Applied

theorem refl (s : State) : s.Applied s := ⟨⟨_, _, _, _, _, _, _, _, rfl⟩, fun _ _ _ => rfl⟩

theorem trans (hst : s.Applied t) (htu : t.Applied u) : s.Applied u := by
  obtain ⟨⟨_, _, _, _, _, _, _, _, rfl⟩, hrd⟩ := hst
  obtain ⟨⟨_, _, _, _, _, _, _, _, rfl⟩, hrd'⟩ := htu
  exact ⟨⟨_, _, _, _, _, _, _, _, rfl⟩, fun b ha hn => (hrd' b ha hn).trans (hrd b ha hn)⟩

theorem ite {c : Prop} [Decidable c] {a b : State} (ha : s.Applied a) (hb : s.Applied b) : s.Applied (if c then a else b) := by
  split
  exacts [ha, hb]

/-- A fold of applications; `st` finds the state in the value folded. -/
theorem foldlOf {α β : Type} (st : β → State) {f : β → α → β} (hf : ∀ b x, (st b).Applied (st (f b x))) (l : List α) (b : β) : (st b).Applied (st (l.foldl f b)) := by
  induction l generalizing b with
  | nil => exact refl _
  | cons x l ih => exact (hf b x).trans (ih _)

theorem foldl {α : Type} {f : State → α → State} (hf : ∀ (t : State) x, t.Applied (f t x)) (l : List α) (s : State) : s.Applied (l.foldl f s) :=
  foldlOf (fun t : State => t) hf l s

theorem setPt (s : State) (a : Nat) (r : PtRec) : s.Applied (s.setPt a r) := ⟨⟨_, _, _, _, _, _, _, _, rfl⟩, fun _ _ _ => rfl⟩

theorem setForces (s : State) (m : List (Nat × Force)) : s.Applied { s with forces := m } := ⟨⟨_, _, _, _, _, _, _, _, rfl⟩, fun _ _ _ => rfl⟩

theorem absorb (s : State) (a : Nat) (f : Force) (r : PtRec) : s.Applied (s.absorb a f r) :=
  ⟨⟨_, _, _, _, _, _, _, _, rfl⟩, fun _ ha _ => rd_wr_other _ _ _ _ ha⟩

theorem ptOp (s : State) (o : PtOp) : s.Applied (s.ptOp o) := by
  cases o with
  | write w =>
    dsimp only [State.ptOp]
    split
    exacts [absorb _ _ _ _, setPt _ _ _]
  | quality a q =>
    dsimp only [State.ptOp]
    split
    exacts [absorb _ _ _ _, setPt _ _ _]
  | pending a p => exact setPt _ _ _
  | force a v q st => exact (setForces _ _).trans (setPt _ _ _)
  | unforce a =>
    dsimp only [State.ptOp]
    split
    · exact refl _
    · split
      exacts [(setForces _ _).trans (setPt _ _ _), setForces _ _]
  | orphan a o =>
    dsimp only [State.ptOp]
    split
    exacts [refl _, setForces _ _]

theorem noteOutput (s : State) (a : Nat) (old : PtView) : s.Applied (s.noteOutput a old) := by
  have hczn (x : Czn) : s.Applied { s with czn := x } := ⟨⟨_, _, _, _, _, _, _, _, rfl⟩, fun _ _ _ => rfl⟩
  have hradio (x : Radio) : s.Applied { s with radio := x } := ⟨⟨_, _, _, _, _, _, _, _, rfl⟩, fun _ _ _ => rfl⟩
  exact .ite (refl _) (.ite (.ite ((hczn _).trans (setPt _ _ _)) (hczn _)) (.ite (.ite ((hradio _).trans (setPt _ _ _)) (hradio _)) (.ite (.ite (setPt _ _ _) (refl _)) (refl _))))

theorem notePoint (s : State) (a : Nat) (old : PtView) (acc : List Notice) : s.Applied (s.notePoint a old acc).1 := by
  dsimp only [State.notePoint]
  split
  · exact refl _
  · refine foldlOf Prod.fst (fun b e => ?_) s.subs (s, acc)
    exact ⟨⟨_, _, _, _, _, _, _, _, rfl⟩, fun _ _ _ => rfl⟩

theorem applyVia (s : State) (touched : List Nat) {f : State → State} (hf : ∀ t : State, t.Applied (f t)) : s.Applied (s.applyVia touched f) := by
  have hbatch : s.Applied { s with batch := addMod32 s.batch 1 } := ⟨⟨_, _, _, _, _, _, _, _, rfl⟩, fun _ _ _ => rfl⟩
  have hqueue (t : State) (n : Nat) (q : List Notice) : t.Applied { t.bump Reg.PNT_CNT_NOTICE n with noticeQ := q } :=
    ⟨⟨_, _, _, _, _, _, _, _, rfl⟩, fun _ _ hn => rd_wr_other t _ _ _ hn⟩
  exact hbatch.trans ((hf _).trans ((foldl (fun _ _ => noteOutput _ _ _) _ _).trans
    ((foldlOf Prod.fst (fun _ _ => notePoint _ _ _ _) _ (_, [])).trans (hqueue _ _ _))))

end Applied

/-- An application reaches what `Applied` names. -/
theorem applied_apply (s : State) (ops : List PtOp) : s.Applied (s.apply ops) := .applyVia s _ fun t => .foldl Applied.ptOp ops t

/-! ### Completions -/

/-- From `s` to `t` only what the completion of commands reaches has changed: the rings, what waits, and the count of refused writes of ring 2. -/
structure Settled (s t : State) : Prop where
  rest : ∃ regs rings waits held, t = { s with regs := regs, rings := rings, waits := waits, held := held }
  rd : ∀ b, b ≠ Reg.PNT_CNT_REFUSED → t.rd b = s.rd b

namespace Settled

theorem refl (s : State) : s.Settled s := ⟨⟨_, _, _, _, rfl⟩, fun _ _ => rfl⟩

theorem trans (hst : s.Settled t) (htu : t.Settled u) : s.Settled u := by
  obtain ⟨⟨_, _, _, _, rfl⟩, hrd⟩ := hst
  obtain ⟨⟨_, _, _, _, rfl⟩, hrd'⟩ := htu
  exact ⟨⟨_, _, _, _, rfl⟩, fun b hb => (hrd' b hb).trans (hrd b hb)⟩

theorem setRing (s : State) (n : Nat) (r : RingSt) : s.Settled (s.setRing n r) := ⟨⟨_, _, _, _, rfl⟩, fun _ _ => rfl⟩

theorem setWaits (s : State) (l : List Wait) : s.Settled { s with waits := l } := ⟨⟨_, _, _, _, rfl⟩, fun _ _ => rfl⟩

theorem closeId (s : State) (g : CmdTag) (status r0 r1 : Nat) (forget : Bool) : s.Settled (s.closeId g status r0 r1 forget) := by
  unfold State.closeId
  split
  exacts [refl _, setRing _ _ _]

theorem countPwr (s : State) (g : CmdTag) (status : Nat) : s.Settled (s.countPwr g status) := by
  unfold State.countPwr
  split
  · exact ⟨⟨_, _, _, _, rfl⟩, fun _ hb => rd_wr_other _ _ _ _ hb⟩
  · exact refl _

theorem postCpl (s : State) (g : CmdTag) (status flags r0 r1 : Nat) (payload : List (Nat × List Byte)) : s.Settled (s.postCpl g status flags r0 r1 payload) := by
  dsimp only [State.postCpl]
  split
  · exact refl _
  · split
    exacts [setRing _ _ _, refl _]

theorem dropSync (s : State) (g : CmdTag) : s.Settled (s.dropSync g) := ⟨⟨_, _, _, _, rfl⟩, fun _ _ => rfl⟩

theorem complete (s : State) (g : CmdTag) (status r0 r1 flags : Nat) (payload : List (Nat × List Byte)) (forget : Bool) :
    s.Settled (s.complete g status r0 r1 flags payload forget) :=
  (closeId _ _ _ _ _ _).trans ((countPwr _ _ _).trans ((postCpl _ _ _ _ _ _ _).trans (dropSync _ _)))

theorem syncPass (k : Nat) (s : State) : s.Settled (State.syncPass k s) := by
  induction k generalizing s with
  | zero => exact refl _
  | succ k ih =>
    unfold State.syncPass
    split
    · exact refl _
    · exact (setWaits _ _).trans ((complete _ _ _ _ _ _ _ _).trans (ih _))

theorem finish (s : State) (w : Wait) (status r0 r1 : Nat) (payload : List (Nat × List Byte)) : s.Settled (s.finish w status r0 r1 payload) :=
  (setWaits _ _).trans ((complete _ _ _ _ _ _ _ _).trans (syncPass _ _))

theorem foldl {α : Type} {f : State → α → State} (hf : ∀ (t : State) x, t.Settled (f t x)) (l : List α) (s : State) : s.Settled (l.foldl f s) := by
  induction l generalizing s with
  | nil => exact refl _
  | cons x l ih => exact (hf s x).trans (ih _)

end Settled

/-- Completing waiting commands reaches what `Settled` names. -/
theorem settled_finishAll (s : State) (p : Wait → Bool) (status r0 r1 : Nat) : s.Settled (s.finishAll p status r0 r1) := .foldl (fun _ _ => .finish _ _ _ _ _ _) _ _

end State

end Sys2Proof.Machine

end

section
/-!
SUPPORT. One tick of the reference (R342, R343) and the crystal (R354, R358): the ticking of the calendar leaves the bases of the time.
-/
set_option autoImplicit false
namespace Sys2Proof.Machine

namespace State

variable {s : State}

theorem leapDone_clock (dir : Nat) : (s.leapDone dir).clock = s.clock := by
  rw [leapDone, clock_event]
  rfl

theorem nextSecond_clock : s.nextSecond.clock = s.clock := by
  unfold nextSecond
  dsimp only
  split
  · rw [leapDone_clock]
  · split
    · rw [leapDone_clock]
    · rfl

theorem crystalTick_clock : s.crystalTick.clock = s.clock := by
  unfold crystalTick
  dsimp only
  split
  · rw [nextSecond_clock]
  · rfl

theorem finishAll_clock (p : Wait → Bool) (status r0 r1 : Nat) : (s.finishAll p status r0 r1).clock = s.clock := by
  obtain ⟨⟨regs, rings, waits, held, h⟩, -⟩ := s.settled_finishAll p status r0 r1
  rw [h]

/-- One tick: the increment that waited is in effect, and the base advances by it, or stands at 0 in module reset. -/
theorem tick_clock : s.tick.clock = { s.clock with
    mono := if s.sup.inReset then 0 else s.clock.mono + s.clock.incrNext.getD s.clock.incr, incr := s.clock.incrNext.getD s.clock.incr, incrNext := none } := by
  rw [tick, apply_ite clock, crystalTick_clock, ite_self, nextFree, finishAll_clock]

end State

end Sys2Proof.Machine

open Sys2Proof Sys2Proof.Machine

/-- Settles O5: the commands completed at a tick and the crystal's tick leave the bases, so a tick does to them what its first line says (R342, R343); that the base stands at
0 all through module reset is the model's choice (log entry 27). -/
theorem tickAdvancesMonotonicBase : Obligations.TickAdvancesMonotonicBase := by
  intro s
  simp only [State.tick_clock, true_and]
  refine ⟨fun hrun => ?_, fun hreset => ?_⟩
  · rw [hrun]
    exact ⟨rfl, Nat.le_add_right _ _⟩
  · rw [hreset]
    rfl
end

section
/-!
SUPPORT. The commands of the time and of the calendar (R343, R354, R356, R362, R365, R368): what each body answers where its checks pass.
-/
set_option autoImplicit false
namespace Sys2Proof.Machine

namespace State

variable {s : State} {e : CmdEntry}

/-! ### The increment across a step -/

theorem dropMaster_incr : s.dropMaster.clock.incr = s.clock.incr := by
  unfold dropMaster
  split
  · split <;> rfl
  · rfl

theorem servoIncrement_incr : s.servoIncrement.clock.incr = s.clock.incr := rfl

/-- The servo's state follows the source; the increment in effect stands. -/
theorem refreshServo_incr : s.refreshServo.clock.incr = s.clock.incr := by
  have hdrop : (s.setF Reg.TIM_STATUS F.TIM_STATUS_PEER_FORCED (bit (s.role == .standby || s.role == .seeding))).dropMaster.clock.incr = s.clock.incr := by
    rw [dropMaster_incr, setF_clock]
  unfold refreshServo
  dsimp only
  split
  · rw [setServo_clock, hdrop]
  · split
    · split
      · exact hdrop
      · rw [setServo_clock, hdrop]
    · split
      · rw [setServo_clock, servoIncrement_incr, hdrop]
      · split
        · exact hdrop
        · rw [setServo_clock, hdrop]

theorem stepWall_incr (sec ns : Int) (by_ : Nat) : (s.stepWall sec ns by_).clock.incr = s.clock.incr := by
  obtain ⟨pl, hstep⟩ := s.stepWall_eq sec ns by_
  rw [hstep, refreshServo_incr, clock_eventAt, bump_clock]
  rfl

/-! ### The charger -/

/-- The charger's settings as RTC_CHARGER writes them (R365). -/
def setCharger (s : State) (en v i : Nat) : State :=
  ((s.setF Reg.RTC_CTL F.RTC_CTL_CHG_EN en).setF Reg.RTC_CTL F.RTC_CTL_CHG_V v).setF Reg.RTC_CTL F.RTC_CTL_CHG_I i

theorem refreshCharger_rest : ∃ regs calRun, s.refreshCharger = { s with regs := regs, calRun := calRun } := ⟨_, _, rfl⟩

/-- The charger's settings reach registers alone. -/
theorem setCharger_refreshed {en v i : Nat} : (s.setCharger en v i).refreshCharger.clock = s.clock ∧ (s.setCharger en v i).refreshCharger.points = s.points := by
  obtain ⟨regs, calRun, h⟩ := (s.setCharger en v i).refreshCharger_rest
  rw [h, setCharger]
  refine ⟨?_, ?_⟩
  · rw [setF_clock, setF_clock, setF_clock]
  · rw [setF_points, setF_points, setF_points]

theorem setCharger_fields {en v i : Nat} (hen : en ≤ 1) (hv : v ≤ 3) (hi : i ≤ 3) :
    (s.setCharger en v i).fld Reg.RTC_CTL F.RTC_CTL_CHG_EN = en ∧ (s.setCharger en v i).fld Reg.RTC_CTL F.RTC_CTL_CHG_V = v ∧
      (s.setCharger en v i).fld Reg.RTC_CTL F.RTC_CTL_CHG_I = i := by
  refine ⟨?_, ?_, ?_⟩
  · rw [setCharger, fld_setF_apart _ _ _ (by decide) (by decide), fld_setF_apart _ _ _ (by decide) (by decide), fld_setF_self _ _ _ (by decide)]
    exact Nat.mod_eq_of_lt (Nat.lt_succ_of_le hen)
  · rw [setCharger, fld_setF_apart _ _ _ (by decide) (by decide), fld_setF_self _ _ _ (by decide)]
    exact Nat.mod_eq_of_lt (Nat.lt_succ_of_le hv)
  · rw [setCharger, fld_setF_self _ _ _ (by decide)]
    exact Nat.mod_eq_of_lt (Nat.lt_succ_of_le hi)

end State

variable {s : State} {e : CmdEntry}

/-! ### Time commands -/

theorem exec_timStep_steps (h : s.admits Op.timStep e = true) (hown : (s.taken e).servoOwns = false)
    (hok : (s.taken e).stepOk (sext 32 (e.param 0 4)) (sext 32 (e.param 4 4)) = true) :
    let t := (s.taken e).stepWall (sext 32 (e.param 0 4)) (sext 32 (e.param 4 4)) 1
    exec (.timStep e) s = .next (s.completed Op.timStep e St.ok (t.stamp % 2 ^ 32) (t.stamp / 2 ^ 32) 0 [] t) :=
  runCmd_completed h ((if_neg (ne_true_of_eq_false hown)).trans (if_neg (by rw [hok]; decide)))

theorem exec_timSetincr_waits (h : s.admits Op.timSetincr e = true) (hown : (s.taken e).servoOwns = false)
    (hfree : (s.taken e).conflicts none [.reg Reg.TIM_INCRLO, .reg Reg.TIM_INCRHI] = false) :
    exec (.timSetincr e) s = .next (s.waiting Op.timSetincr e .setIncr ((s.taken e).loadIncr (e.param 0 8))) :=
  runCmd_waiting h ((if_neg (ne_true_of_eq_false hown)).trans (State.freeRegs_of_free hfree))

theorem exec_timLeap_sets (h : s.admits Op.timLeap e = true) (hown : (s.taken e).utcOwned = false) (hdir : e.param 2 1 ≤ 2)
    (hfree : (s.taken e).conflicts none [.reg Reg.TIM_UTCOFF] = false) :
    exec (.timLeap e) s = .next (s.completed Op.timLeap e St.ok 0 0 0 [] ((s.taken e).setUtcOff (e.param 0 2) (e.param 2 1))) :=
  runCmd_completed h ((if_neg (ne_true_of_eq_false hown)).trans ((if_neg (Nat.not_lt.mpr hdir)).trans (State.freeRegs_of_free hfree)))

/-! ### Calendar commands -/

theorem exec_rtcSet_asks (h : s.admits Op.rtcSet e = true) (hsub : e.param 4 2 ≤ 32767)
    (hfree : (s.taken e).conflicts none [.reg Reg.RTC_STG_UTC, .reg Reg.RTC_STG_SUBSEC] = false) :
    exec (.rtcSet e) s = .next (s.waiting Op.rtcSet e .rtcSet
      (((s.taken e).stageTime false (BitVec.ofNat 32 (e.param 0 4))).stageTime true (BitVec.ofNat 32 (e.param 4 2))).askGo) :=
  runCmd_waiting h ((if_neg (Nat.not_lt.mpr hsub)).trans (State.freeRegs_of_free hfree))

theorem exec_rtcPeriodic_loads (h : s.admits Op.rtcPeriodic e = true) (hok : periodicOk (e.param 0 1) (e.param 1 1) (e.param 4 4) (e.param 8 4) = true)
    (hfree : (s.taken e).conflicts none [.reg (Reg.RTC_PER_CFG (e.param 0 1)), .reg (Reg.RTC_PER_PHASE (e.param 0 1))] = false) :
    exec (.rtcPeriodic e) s = .next (s.completed Op.rtcPeriodic e St.ok 0 0 0 []
      ((s.taken e).definePeriodic (e.param 0 1) (e.param 1 1) (e.param 4 4) (e.param 8 4))) :=
  runCmd_completed h ((if_pos hok).trans (State.freeRegs_of_free hfree))

theorem exec_rtcCharger_sets (h : s.admits Op.rtcCharger e = true) (hmaint : (s.taken e).maint = true) (hen : e.param 0 1 ≤ 1) (hv : e.param 1 1 ≤ 3)
    (hi : e.param 2 1 ≤ 3) (hfree : (s.taken e).conflicts none [.reg Reg.RTC_CTL] = false) :
    exec (.rtcCharger e) s = .next (s.completed Op.rtcCharger e St.ok 0 0 0 []
      ((s.taken e).setCharger (e.param 0 1) (e.param 1 1) (e.param 2 1)).refreshCharger) :=
  runCmd_completed h ((if_neg (by rw [hmaint]; decide)).trans
    ((if_neg (by simp [Nat.not_lt.mpr hen, Nat.not_lt.mpr hv, Nat.not_lt.mpr hi])).trans (State.freeRegs_of_free hfree)))

theorem exec_rtcSettrim_sets (h : s.admits Op.rtcSettrim e = true) (hsrc : (s.taken e).fld Reg.RTC_CTL F.RTC_CTL_TRIMSRC = 0)
    (hlow : -8590 ≤ sext 16 (e.param 0 2)) (hhigh : sext 16 (e.param 0 2) ≤ 8590) (hfree : (s.taken e).conflicts none [.reg Reg.RTC_TRIM] = false) :
    exec (.rtcSettrim e) s = .next (s.completed Op.rtcSettrim e St.ok 0 0 0 []
      ((s.taken e).setF Reg.RTC_TRIM F.RTC_TRIM_TRIM (ofInt 16 (sext 16 (e.param 0 2))))) :=
  runCmd_completed h ((if_neg (not_not.mpr hsrc)).trans
    ((if_neg (by simp [Int.not_lt.mpr hlow, Int.not_lt.mpr hhigh])).trans (State.freeRegs_of_free hfree)))

end Sys2Proof.Machine

open Sys2Proof Sys2Proof.Machine Sys2Proof.Machine.State

/-- Settles O43: each command by what its body answers where its checks pass; RTC_PERIODIC completes at once by the model's choice (log entry 60). -/
theorem timeAndCalendarCommands : Obligations.TimeAndCalendarCommands := by
  refine ⟨fun s e => ⟨fun h hown hok => ?_, exec_timSetincr_waits, exec_timLeap_sets⟩, fun s e => ⟨exec_rtcSet_asks, fun h hset => ?_, fun h hok => ?_,
    exec_rtcPeriodic_loads, fun h hmaint hen hv hi hfree => ?_, exec_rtcSettrim_sets⟩⟩
  · exact ⟨exec_timStep_steps h hown hok, ((s.taken e).stepWall_clock _ _ _).2, stepWall_incr _ _ _⟩
  · exact runCmd_waiting h (if_neg (ne_true_of_eq_false hset))
  · exact runCmd_completed h (if_pos hok)
  · have hctl := (((s.taken e).setCharger (e.param 0 1) (e.param 1 1) (e.param 2 1)).rd_refreshCharger (b := Reg.RTC_CTL) (by decide))
    obtain ⟨hfen, hfv, hfi⟩ := (s.taken e).setCharger_fields hen hv hi
    exact ⟨_, exec_rtcCharger_sets h hmaint hen hv hi hfree, (fld_congr hctl _).trans hfen, (fld_congr hctl _).trans hfv, (fld_congr hctl _).trans hfi, setCharger_refreshed⟩

end

section
/-!
SUPPORT. The numbering of an event record (R400 to R402): the three ways an offer can go, and what it leaves.
-/
set_option autoImplicit false
namespace Sys2Proof.Machine

namespace State

variable {s : State} {o : EvOffer}

/-- The record that an offer becomes under a sequence number: its check covers its first 60 bytes (R399). -/
def numbered (s : State) (o : EvOffer) : EvRec :=
  { seq := s.evr.next, stamp := o.stamp, source := o.source, typ := o.typ, sev := o.sev, early := o.early, payload := o.payload
    check := crc32c (evBody s.evr.next o.stamp o.source o.typ o.sev o.early o.payload) }

theorem numberRecord_evr : ∃ due, (s.numberRecord o).evr =
    { s.evr with next := addMod32 s.evr.next 1, buffer := s.evr.buffer ++ [s.numbered o], sevDue := due } := ⟨_, rfl⟩

/-- Nothing dropped waits to be reported. -/
theorem reportDropped_idle (h : s.evr.dropped = 0 ∨ s.evr.holding = true) : s.reportDropped = s := by
  rcases h with h | h
  · exact if_neg (by simp [h])
  · exact if_neg (by simp [h])

/-- Only the recorder and the reservation of numbers in flash change. -/
def Recorded (s t : State) : Prop := ∃ e f, t = { s with evr := e, flash := { s.flash with events := f } }

theorem recorded_reportDropped : s.Recorded s.reportDropped := by
  unfold reportDropped
  split
  · exact ⟨_, _, rfl⟩
  · exact ⟨_, _, rfl⟩

theorem recorded_offer : s.Recorded (s.offer o) := by
  obtain ⟨e, f, h⟩ := s.recorded_reportDropped
  dsimp only [offer]
  rw [h]
  split
  · exact ⟨_, _, rfl⟩
  · split
    · exact ⟨_, _, rfl⟩
    · exact ⟨_, _, rfl⟩

/-- With room and no flush, an offer is numbered. -/
theorem offer_numbered (hdrop : s.evr.dropped = 0) (hhold : s.evr.holding = false) (hroom : s.evr.buffer.length + s.evr.offered.length < evCapacity) :
    s.offer o = s.numberRecord o := by
  dsimp only [offer]
  rw [reportDropped_idle (.inl hdrop), if_neg (Nat.not_le.mpr hroom), if_neg (ne_true_of_eq_false hhold)]

/-- During a flush an offer is held without a number. -/
theorem offer_held (hhold : s.evr.holding = true) (hroom : s.evr.buffer.length + s.evr.offered.length < evCapacity) :
    s.offer o = { s with evr := { s.evr with offered := s.evr.offered ++ [o] } } := by
  dsimp only [offer]
  rw [reportDropped_idle (.inr hhold), if_neg (Nat.not_le.mpr hroom), if_pos hhold]

/-- An offer to a full buffer is dropped and counted. -/
theorem offer_dropped (hdrop : s.evr.dropped = 0) (hfull : evCapacity ≤ s.evr.buffer.length + s.evr.offered.length) :
    s.offer o = { s with evr := { s.evr with dropped := s.evr.dropped + 1, dropSev := max s.evr.dropSev o.sev, dropTotal := addMod32 s.evr.dropTotal 1 } } := by
  dsimp only [offer]
  rw [reportDropped_idle (.inl hdrop), if_pos hfull]

end State

end Sys2Proof.Machine

open Sys2Proof Sys2Proof.Machine Sys2Proof.Machine.State

/-- Settles O54: what an offer leaves, and the record it becomes where it is numbered. -/
theorem eventNumbering : Obligations.EventNumbering := by
  intro s typ sev inst pl
  dsimp only [event, eventAt]
  refine ⟨?_, ?_, ?_, ?_, ?_, ?_, ?_, fun hhold hdrop hroom => ?_, fun hhold hroom => ?_, fun hfull hdrop => ?_⟩
  case refine_8 =>
    rw [offer_numbered hdrop hhold hroom]
    exact ⟨s.numbered _, rfl, rfl, rfl, rfl, rfl, rfl, rfl, rfl⟩
  case refine_9 =>
    rw [offer_held hhold hroom]
    exact ⟨rfl, List.length_append, rfl⟩
  case refine_10 =>
    rw [offer_dropped hdrop hfull]
    exact ⟨rfl, rfl, by rw [hdrop], rfl⟩
  all_goals
    obtain ⟨e, f, h⟩ := s.recorded_offer (o := { stamp := s.stamp, source := s.unit * 2 ^ 15 + inst % 2 ^ 15, typ := typ, sev := sev,
                                                  early := stampHeat s.stamp == 0, payload := pl.take 40 })
    rw [h]

end

section
/-!
SUPPORT. The recorder's commands (R406, R408): what each body answers where its checks pass.
-/
set_option autoImplicit false
namespace Sys2Proof.Machine

variable {s : State} {e : CmdEntry}

theorem exec_evrWindowReady_copies (h : s.evr.winReady = false) :
    ∃ t, exec .evrWindowReady s = .next t ∧ t.evr.winReady = true ∧ t.evr.window = s.evr.winCopy ∧ t.regs = s.regs :=
  ⟨_, congrArg Host.Outcome.next (if_neg (ne_true_of_eq_false h)), rfl, rfl, rfl⟩

theorem exec_evsDelivery_sends {r : EvRec} (hroom : s.ringRoom 4 = true)
    (hnext : (s.recordsFrom (s.rdN Reg.EVR_STREAM)).find? (fun r => decide (s.fld Reg.EVR_CFG F.EVR_CFG_RING_MIN ≤ r.sev)) = some r) :
    exec .evsDelivery s = .next ((s.enqueue 4 fun _ => r.bytes).wrN Reg.EVR_STREAM (r.seq + 1)) := by
  change execEvsDelivery s = _
  rw [execEvsDelivery, if_pos hroom, hnext]

theorem exec_evrSync_empty (h : s.admits Op.evrSync e = true) (hbuf : (s.taken e).evr.buffer = []) (hhold : (s.taken e).evr.holding = false) :
    exec (.evrSync e) s = .next (s.completed Op.evrSync e St.ok 0 0 0 [] (s.taken e)) :=
  runCmd_completed h (if_pos (by rw [hbuf, hhold]; rfl))

theorem exec_evrSync_buffered (h : s.admits Op.evrSync e = true) (hbuf : (s.taken e).evr.buffer ≠ []) :
    exec (.evrSync e) s = .next (s.waiting Op.evrSync e (.evrSync (s.taken e).evr.next (s.taken e).now) (s.taken e)) :=
  runCmd_waiting h (if_neg (by simp [hbuf]))

theorem exec_evrClear_clears (h : s.admits Op.evrClear e = true) (hmaint : (s.taken e).maint = true) (hword : e.param 0 4 = 0xC1EAC1EA)
    (hpfw : (s.taken e).pfw = false) : exec (.evrClear e) s = .next (s.completed Op.evrClear e St.ok 0 0 0 [] (s.taken e).clearEvents) :=
  runCmd_completed h ((if_neg (by rw [hmaint]; decide)).trans ((if_neg (not_not.mpr hword)).trans (if_neg (ne_true_of_eq_false hpfw))))

/-- EVR_READ answers the held records from a sequence on, with the number of them and the first sequence. -/
theorem exec_evrRead_reads {r : EvRec} {rs : List EvRec} (h : s.admits Op.evrRead e = true) (hlow : 1 ≤ e.param 4 4) (hhigh : e.param 4 4 ≤ 1024)
    (hout : e.bufOut = true) (hlen : e.bufLen.toNat = 64 * e.param 4 4) (hrec : ((s.taken e).recordsFrom (e.param 0 4)).take (e.param 4 4) = r :: rs) :
    exec (.evrRead e) s = .next (s.completed Op.evrRead e St.ok (rs.length + 1) r.seq 0 [(e.bufAddr.toNat, (r :: rs).flatMap EvRec.bytes)] (s.taken e)) := by
  refine runCmd_completed h ?_
  dsimp only
  rw [if_neg (by simp [hout, hlen, Nat.not_lt.mpr hlow, Nat.not_lt.mpr hhigh]), hrec]

end Sys2Proof.Machine

open Sys2Proof Sys2Proof.Machine

/-- Settles O53: the recorder's own steps and each of its commands, by the branch that its conditions choose. -/
theorem eventRecorder : Obligations.EventRecorder := by
  intro s e
  refine ⟨fun hdue ok => ?_, fun hdue => ?_, exec_evrWindowReady_copies, fun hready => ?_, fun _ => exec_evsDelivery_sends, fun hfull => ?_,
    exec_evrSync_empty, exec_evrSync_buffered, exec_evrClear_clears, fun _ _ => exec_evrRead_reads⟩
  · exact if_pos (by rw [hdue]; rfl)
  · exact (if_neg (by rw [hdue]; decide)).trans (if_pos rfl)
  · exact congrArg Host.Outcome.next (if_pos hready)
  · exact congrArg Host.Outcome.next (if_neg (ne_true_of_eq_false hfull))

end

section
/-!
SUPPORT. The timers of redundancy (R413 to R416, R420, R426 to R430, R436): what each does once its time has come.
-/
set_option autoImplicit false
namespace Sys2Proof.Machine

variable {s : State}

namespace State

theorem fld_of_rdn (r : Rdn) (a : Nat) (f : Fld) : ({ s with rdn := r } : State).fld a f = s.fld a f := rfl

theorem now_of_rdn (r : Rdn) : ({ s with rdn := r } : State).now = s.now := rfl

/-- The next BEACON is due a beacon time from now (R420). -/
theorem beaconAt_of_rdn {r : Rdn} (h : r.beaconAt = s.now + ms (max 1 (s.fld Reg.RDN_CFG F.RDN_CFG_BEACON_MS))) :
    ({ s with rdn := r } : State).rdn.beaconAt =
      ({ s with rdn := r } : State).now + ms (max 1 (({ s with rdn := r } : State).fld Reg.RDN_CFG F.RDN_CFG_BEACON_MS)) := by
  rw [fld_of_rdn, now_of_rdn]
  exact h

/-- The next HEALTH is due 1 s from now (R429). -/
theorem healthAt_of_rdn {r : Rdn} (h : r.healthAt = s.now + secs 1) :
    ({ s with rdn := r } : State).rdn.healthAt = ({ s with rdn := r } : State).now + secs 1 := by
  rw [now_of_rdn]
  exact h

theorem rdn_event (typ sev inst : Nat) (payload : List Byte) : (s.event typ sev inst payload).rdn = s.rdn := by
  obtain ⟨e, f, h⟩ := s.eventAt_rest s.stamp typ sev inst payload
  rw [event, h]

theorem role_event (typ sev inst : Nat) (payload : List Byte) : (s.event typ sev inst payload).role = s.role := by
  obtain ⟨e, f, h⟩ := s.eventAt_rest s.stamp typ sev inst payload
  rw [event, h]

end State

open State

/-! ### Messages at their times -/

theorem exec_peerBeaconDue_due (hready : s.peerReady = true) (hat : s.rdn.beaconAt ≤ s.now) :
    ∃ t, exec .peerBeaconDue s = .next t ∧ t.rdn.beaconAt = t.now + ms (max 1 (t.fld Reg.RDN_CFG F.RDN_CFG_BEACON_MS)) := by
  change ∃ t, execPeerBeaconDue s = _ ∧ _
  rw [execPeerBeaconDue, if_neg (by simp [hready, Nat.not_lt.mpr hat])]
  exact ⟨_, rfl, beaconAt_of_rdn rfl⟩

theorem exec_healthDue_due (hready : s.peerReady = true) (hproto : s.rdnProto = 3) (hrole : s.role = .standby) (hat : s.rdn.healthAt ≤ s.now) :
    ∃ t, exec .healthDue s = .next t ∧ t.rdn.healthAt = t.now + secs 1 := by
  change ∃ t, execHealthDue s = _ ∧ _
  rw [execHealthDue, if_neg (by simp [hready, hproto, hrole, Nat.not_lt.mpr hat])]
  exact ⟨_, rfl, healthAt_of_rdn rfl⟩

theorem exec_rotationDue_due {t : Nat} (hrotate : s.rotateAt = some t) (hready : s.peerReady = true) (hat : t ≤ s.now) :
    exec .rotationDue s = .next (s.tryHandover true) := by
  change execRotationDue s = _
  simp only [execRotationDue, hrotate, hready, decide_eq_true hat, Bool.and_self, if_true]

/-! ### The handover -/

theorem exec_handoverTick_hands {h : Handover} (hhand : s.rdn.hand = some h) (hpassed : h.passed = false) (hat : h.t ≤ s.now) (hold : h.old = true)
    (hrole : s.role = .active) : exec .handoverTick s = .next (s.handOver h) := by
  have hrole' : (s.role == .active) = true := by rw [hrole]; rfl
  change execHandoverTick s = _
  simp only [execHandoverTick, hhand, hpassed, Nat.not_lt.mpr hat, hold, hrole', decide_false, Bool.or_self, Bool.false_eq_true, if_false, if_true]

theorem exec_handoverTick_takes {h : Handover} (hhand : s.rdn.hand = some h) (hpassed : h.passed = false) (hat : h.t ≤ s.now) (hold : h.old = false)
    (hrole : s.role = .standby) : exec .handoverTick s = .next (s.takeHandover h) := by
  have hrole' : (s.role == .standby) = true := by rw [hrole]; rfl
  change execHandoverTick s = _
  simp only [execHandoverTick, hhand, hpassed, Nat.not_lt.mpr hat, hold, hrole', decide_false, Bool.or_self, Bool.false_eq_true, if_false, if_true]

theorem exec_handover_none (hhand : s.rdn.hand = none) :
    exec .handoverTick s = .next s ∧ exec .handoverDeltaTimeout s = .next s ∧ exec .confirmTimeout s = .next s := by
  change execHandoverTick s = _ ∧ execHandoverDeltaTimeout s = _ ∧ execConfirmTimeout s = _
  simp only [execHandoverTick, execHandoverDeltaTimeout, execConfirmTimeout, hhand, and_self]

theorem exec_handoverDeltaTimeout_due {h : Handover} (hhand : s.rdn.hand = some h) (hold : h.old = false) (hpassed : h.passed = true) (hdelta : h.delta = false)
    (hat : h.t + ms 15 ≤ s.now) : ∃ t, exec .handoverDeltaTimeout s = .next t ∧ t.rdn.hand = some { h with delta := true } ∧ t.rdn.rx = [] := by
  change ∃ t, execHandoverDeltaTimeout s = _ ∧ _
  simp only [execHandoverDeltaTimeout, hhand, hold, hpassed, hdelta, decide_eq_true hat, Bool.not_false, Bool.and_self, if_true]
  exact ⟨_, rfl, by rw [rdn_event], by rw [rdn_event]⟩

theorem exec_confirmTimeout_due {h : Handover} (hhand : s.rdn.hand = some h) (hold : h.old = true) (hpassed : h.passed = true) (hreq : s.rdn.req = none)
    (hat : h.t + ms s.lamp.tick + s.rdN Reg.CYC_PERIOD * 1000 + ms 20 ≤ s.now) (hrole : s.role = .standby) :
    exec .confirmTimeout s = .next (s.request 4 0) := by
  have hrole' : (s.role == .standby) = true := by rw [hrole]; rfl
  change execConfirmTimeout s = _
  simp only [execConfirmTimeout, hhand, hold, hpassed, hreq, hrole', decide_eq_true hat, Option.isNone_none, Bool.and_self, if_true]

/-! ### Loss, isolation and requests -/

theorem exec_peerLoss_standby (hready : s.peerReady = true) (hlost : s.peerLost = true) (hrole : s.role = .standby) (hat : s.rdn.roleAt + s.lossNs ≤ s.now)
    (hhand : s.rdn.hand = none) : exec .peerLoss s = .next (s.requestTakeover 1) :=
  congrArg Host.Outcome.next ((if_neg (by simp [hready, hlost])).trans ((if_pos (by rw [hrole]; rfl)).trans (if_pos (by simp [hat, hhand]))))

theorem exec_isolated_due (hready : s.peerReady = true) (hrole : s.role = .active) (hyet : s.rdn.isolated = false)
    (hat : s.rdn.contactAt + ms (s.fld Reg.RDN_TIMING F.RDN_TIMING_ISOLATE_MS) ≤ s.now) :
    ∃ t, exec .isolated s = .next t ∧ t.rdn.isolated = true ∧ t.role = .active :=
  ⟨_, congrArg Host.Outcome.next (if_pos (by simp [hready, hrole, hyet, hat])), by rw [rdn_event], by rw [role_event, hrole]⟩

theorem exec_seedingPeerListenEnd_asks (hready : s.peerReady = true) (hrole : s.role = .seeding) (hat : s.rdn.listenAt + ms 100 ≤ s.now)
    (hact : s.flag Reg.RDN_STATUS F.RDN_STATUS_SEEDING_ACT = false) (hreq : s.rdn.req = none) (hseen : s.peerSeen = false) :
    exec .seedingPeerListenEnd s = .next (s.request 1 0) :=
  congrArg Host.Outcome.next ((if_neg (by simp [hready, hrole, hact, hreq, Nat.not_lt.mpr hat])).trans (if_neg (by simp [hseen])))

theorem exec_witnessNoAnswer_grants {q : RdnReq} (hreq : s.rdn.req = some q) (hrole : s.role = .seeding) (hreason : q.reason = 1) (hdenied : q.denied = false)
    (hat : q.first + ms 200 ≤ s.now) (hself : s.flag Reg.RDN_CFG F.RDN_CFG_SELF_GRANT = true) :
    exec .witnessNoAnswer s = .next (((s.enterActive (s.rdn.highest + 1)).setF Reg.RDN_STATUS F.RDN_STATUS_SELF_GRANTED 1).event 0x1408 1 noInst
      (le 4 (s.rdn.highest + 1))) := by
  have hrole' : (s.role == .seeding) = true := by rw [hrole]; rfl
  change execWitnessNoAnswer s = _
  simp only [execWitnessNoAnswer, hreq, hrole', hreason, hdenied, hself, decide_eq_true hat, decide_true, Bool.not_false, Bool.and_self, if_true]

theorem exec_request_none (hreq : s.rdn.req = none) : exec .witnessNoAnswer s = .next s ∧ exec .requestRepeat s = .next s := by
  change execWitnessNoAnswer s = _ ∧ execRequestRepeat s = _
  simp only [execWitnessNoAnswer, execRequestRepeat, hreq, and_self]

theorem exec_requestRepeat_start {q : RdnReq} (hreq : s.rdn.req = some q) (hreason : q.reason = 1) (hrole : s.role = .seeding) (hdenied : q.denied = false)
    (hat : q.last + secs 1 ≤ s.now) : exec .requestRepeat s = .next (s.sendRequest q) := by
  have hrole' : (s.role == .seeding) = true := by rw [hrole]; rfl
  change execRequestRepeat s = _
  simp only [execRequestRepeat, hreq, hreason, hrole', hdenied, decide_eq_false (Nat.not_lt.mpr hat), Bool.not_true, Bool.not_false, Bool.or_self,
    Bool.false_eq_true, if_false, if_true]

/-! ### The witness -/

theorem exec_witness_elsewhere (pair : Nat) (hrole : s.role ≠ .witness) :
    exec (.witnessStartHoldEnd pair) s = .next s ∧ exec (.witnessStatusDue pair) s = .next s ∧ exec .witnessHoldingEnd s = .next s := by
  have hno : (s.role == .witness) = false := beq_eq_false_iff_ne.mpr hrole
  exact ⟨congrArg Host.Outcome.next (if_pos (by rw [hno]; rfl)), congrArg Host.Outcome.next (if_pos (by rw [hno]; rfl)),
    congrArg Host.Outcome.next (if_neg (by rw [hno]; exact Bool.false_ne_true))⟩

theorem exec_witnessStartHoldEnd_due {pair t : Nat} {c : PairCfg} (hrole : s.role = .witness) (hpair : s.cfg.rdn.pairs.find? (fun x => x.pairId == pair) = some c)
    (hstart : (s.witPair pair).startAt = some t) (hat : t + ms 100 ≤ s.now) : exec (.witnessStartHoldEnd pair) s = .next (s.witDecide c) := by
  change execWitnessStartHoldEnd pair s = _
  rw [execWitnessStartHoldEnd, if_neg (by rw [hrole]; decide), hpair, hstart]
  exact congrArg Host.Outcome.next (if_pos hat)

theorem exec_witnessStatusDue_due {pair : Nat} {c : PairCfg} (hrole : s.role = .witness) (hpair : s.cfg.rdn.pairs.find? (fun x => x.pairId == pair) = some c)
    (hat : (s.witPair pair).statusAt ≤ s.now) :
    exec (.witnessStatusDue pair) s = .next ((s.witStatus c).setWitPair pair { s.witPair pair with statusAt := s.now + ms 50 }) := by
  change execWitnessStatusDue pair s = _
  rw [execWitnessStatusDue, if_neg (by rw [hrole]; decide), hpair]
  exact congrArg Host.Outcome.next (if_pos hat)

end Sys2Proof.Machine

open Sys2Proof Sys2Proof.Machine

/-- Settles O58: each timer acts by the branch that its time and its conditions choose. -/
theorem redundancyTimers : Obligations.RedundancyTimers := by
  intro s
  refine ⟨fun hat => ?_, exec_peerBeaconDue_due, exec_healthDue_due, fun hat => ?_, fun _ => exec_rotationDue_due, fun hrotate => ?_,
    fun _ => exec_handoverTick_hands, fun _ => exec_handoverTick_takes, exec_handover_none, fun _ => exec_handoverDeltaTimeout_due,
    fun _ => exec_confirmTimeout_due, exec_peerLoss_standby, fun hseen => ?_, exec_isolated_due, exec_seedingPeerListenEnd_asks,
    fun _ => exec_witnessNoAnswer_grants, exec_request_none, fun _ => exec_requestRepeat_start, exec_witness_elsewhere,
    fun _ _ _ => exec_witnessStartHoldEnd_due, fun _ _ => exec_witnessStatusDue_due, fun hrole hne hat => ?_⟩
  · exact congrArg Host.Outcome.next (if_pos (by rw [decide_eq_true hat, Bool.or_true]))
  · exact congrArg Host.Outcome.next (if_pos (by rw [decide_eq_true hat, Bool.or_true]))
  · change execRotationDue s = _
    rw [execRotationDue, hrotate]
  · exact congrArg Host.Outcome.next (if_pos (by rw [hseen, Bool.not_false, Bool.or_true]))
  · exact congrArg Host.Outcome.next (if_pos (by simp [hrole, hne, hat]))

end

section
/-!
SUPPORT. The delays and the life cycle of keys (R448, R453 to R457).
-/
set_option autoImplicit false
namespace Sys2Proof.Machine

variable {s : State}

namespace State

theorem keySlot_setKeySlot_self (k : Nat) (x : KeySlot) : (s.setKeySlot k x).keySlot k = x := mapGet_mapSet_self _ _ _ _

theorem keySlot_setKeySlot_other {j k : Nat} (h : j ≠ k) (x : KeySlot) : (s.setKeySlot k x).keySlot j = s.keySlot j := mapGet_mapSet_other _ _ _ _ _ h

end State

theorem exec_keySendDelayEnd_due {k : Nat} (hprev : (s.keySlot k).prev.isSome = true) (hsends : (s.keySlot k).prevSends = true)
    (hat : (s.keySlot k).sendAt ≤ s.now) : exec (.keySendDelayEnd k) s = .next (s.setKeySlot k { s.keySlot k with prevSends := false }) :=
  congrArg Host.Outcome.next (if_pos (by simp [hprev, hsends, hat]))

theorem exec_keyDelay_none {k : Nat} (hprev : (s.keySlot k).prev = none) :
    exec (.keySendDelayEnd k) s = .next s ∧ exec (.oldKeyGraceEnd k) s = .next s :=
  ⟨congrArg Host.Outcome.next (if_neg (by simp [hprev])), congrArg Host.Outcome.next (if_neg (by simp [hprev]))⟩

/-- The replaced key goes, the slot's own key and every other slot stand. -/
theorem exec_oldKeyGraceEnd_due {k : Nat} (hprev : (s.keySlot k).prev.isSome = true) (hat : (s.keySlot k).graceEnd ≤ s.now) :
    ∃ t, exec (.oldKeyGraceEnd k) s = .next t ∧ (t.keySlot k).prev = none ∧ (t.keySlot k).attr = (s.keySlot k).attr ∧
      (t.keySlot k).data = (s.keySlot k).data ∧ (∀ j, j ≠ k → t.keySlot j = s.keySlot j) := by
  refine ⟨s.setKeySlot k { attr := (s.keySlot k).attr, data := (s.keySlot k).data }, congrArg Host.Outcome.next (if_pos (by simp [hprev, hat])), ?_⟩
  rw [State.keySlot_setKeySlot_self]
  exact ⟨rfl, rfl, rfl, fun _ hj => State.keySlot_setKeySlot_other hj _⟩

theorem exec_lcTransitionEnd_due {d : Nat} (hintent : s.keys.intent = some d) (hzero : s.keys.zeroised = true) (hat : s.keys.lcAt + secs 2 ≤ s.now) :
    exec .lcTransitionEnd s = .next (s.completeLc d false) := by
  change execLcTransitionEnd s = _
  simp only [execLcTransitionEnd, hintent, hzero, decide_eq_true hat, Bool.and_self, if_true]

/-- The one statement asked for is delivered whole where it fits, and no other is then in progress. -/
theorem exec_statementSigned_single {w : Wait} {nonce : List Byte} {addr len : Nat} (hwaits : s.waits = [w]) (hkind : w.kind = .keyAttest nonce addr len)
    (hid : s.noIdentity = false) (hlen : (s.statementOf nonce).length ≤ len) :
    let t := (s.setF Reg.KEY_STATUS F.KEY_STATUS_ATTEST_BUSY 0).event 0x1604 0 noInst (le 1 nonce.length ++ le 2 (s.statementOf nonce).length)
    exec .statementSigned s = .next (({ t with keys := { t.keys with statement := s.statementOf nonce } } : State).finish w St.ok (s.statementOf nonce).length 0
      [(addr, s.statementOf nonce)]) := by
  have hfind : s.waits.find? Wait.attests = some w := by rw [hwaits, List.find?_cons_of_pos (by rw [Wait.attests, hkind])]
  have hmore : (s.waits.filter fun x => x ≠ w).any Wait.attests = false := by rw [hwaits, List.filter_cons_of_neg (by simp)]; rfl
  change execStatementSigned s = _
  simp only [execStatementSigned, hfind, hkind, hid, hmore, Bool.false_eq_true, if_false, if_neg (Nat.not_lt.mpr hlen)]
  rfl

end Sys2Proof.Machine

open Sys2Proof Sys2Proof.Machine

/-- Settles O59: each delay and each step of the life cycle by the branch that its time chooses; the one statement that waits is delivered. -/
theorem keyEvents : Obligations.KeyEvents := by
  intro s
  refine ⟨fun _ => exec_keySendDelayEnd_due, fun _ => exec_keyDelay_none, fun _ => exec_oldKeyGraceEnd_due, fun hdue => ?_, fun hdue => ?_,
    fun _ => exec_lcTransitionEnd_due, fun hnone => ?_, fun _ _ _ _ => exec_statementSigned_single, fun hnone => ?_⟩
  · exact congrArg Host.Outcome.next (if_pos hdue)
  · exact congrArg Host.Outcome.next (if_neg (ne_true_of_eq_false hdue))
  · change execLcTransitionEnd s = _
    rw [execLcTransitionEnd, hnone]
  · change execStatementSigned s = _
    rw [execStatementSigned, hnone]
    rfl

end

section
/-!
SUPPORT. The activate pause, the trial and the recovery from HALT (R465, R466, R468 to R471, R473).
-/
set_option autoImplicit false
namespace Sys2Proof.Machine

variable {s : State}

namespace State

/-- The machine as a pause ends with a pattern that refuses the configuration, before the second pause begins (R469). -/
def pauseRefused (s : State) : State :=
  let len := min 65535 ((s.now - s.sup.pauseAt) / 1000000)
  let t := (s.setF Reg.PAT_STATUS F.PAT_STATUS_PAUSING 0).setF Reg.PAT_LASTPAUSE F.PAT_LASTPAUSE_MS len
  { t with sup := { t.sup with pauseMs := len, refused := true, trialAt := t.now } }

/-- What the end of the pause says of itself shows: PAUSING falls, and its length stands in PAT_LASTPAUSE. -/
theorem pauseRefused_shows : s.pauseRefused.flag Reg.PAT_STATUS F.PAT_STATUS_PAUSING = false ∧
    s.pauseRefused.fld Reg.PAT_LASTPAUSE F.PAT_LASTPAUSE_MS = min 65535 ((s.now - s.sup.pauseAt) / 1000000) := by
  have hlen : min 65535 ((s.now - s.sup.pauseAt) / 1000000) % 2 ^ 16 = min 65535 ((s.now - s.sup.pauseAt) / 1000000) :=
    Nat.mod_eq_of_lt (Nat.lt_of_le_of_lt (Nat.min_le_left _ _) (by decide))
  refine ⟨?_, ?_⟩
  · exact ((s.setF Reg.PAT_STATUS F.PAT_STATUS_PAUSING 0).flag_setF_other _ (by decide) _ _).trans (flag_setF_zero _ _ (by decide) rfl)
  · exact ((s.setF Reg.PAT_STATUS F.PAT_STATUS_PAUSING 0).fld_setF_self _ _ (by decide)).trans hlen

/-- With the power good and no flush, no outage holds, and ending a pause brings none. -/
theorem outage_pauseRefused (hout : s.outage = false) : s.pauseRefused.outage = false := by
  have hpfw : s.pauseRefused.pfw = s.pfw := by
    refine ((s.setF Reg.PAT_STATUS F.PAT_STATUS_PAUSING 0).flag_setF_other _ ?_ _ _).trans (flag_setF_other _ _ ?_ _ _)
    · decide
    · decide
  rw [outage] at hout ⊢
  rw [hpfw]
  exact hout

end State

/-! ### The pause -/

theorem exec_activatePauseStart_starts {w : Wait} (hwait : s.waits.find? (fun w => w.activates.isSome) = some w) (hpausing : s.pausing = false)
    (hout : s.outage = false) (hat : s.pauseStart ≤ s.now) (hflags : w.activates = some (false, false)) (hstate : s.patState (otherSlot s.runSlot) = 3)
    (hverifies : s.slotVerifies (otherSlot s.runSlot) = true) (hblock : s.activateBlock false = none) :
    exec .activatePauseStart s = .next (s.startPause (otherSlot s.runSlot) false) := by
  change execActivatePauseStart s = _
  rw [execActivatePauseStart, hwait]
  dsimp only
  rw [if_neg (by simp [hpausing, hout, Nat.not_lt.mpr hat]), hflags, if_neg (by simp [hstate, hverifies])]
  dsimp only [Option.getD]
  rw [hblock]
  rfl

/-- A pattern that refuses the configuration gives way to the previous slot in a second pause. -/
theorem exec_activatePauseEnd_refused (hpausing : s.pausing = true) (hback : s.sup.pauseBack = false) (htakes : s.patternTakes s.runSlot = false)
    (hout : s.outage = false) (hflush : s.sup.flush = .idle) : exec .activatePauseEnd s = .next s.pauseRefused.pauseAgain := by
  have hidle : ((s.pauseRefused.sup.flush == .warned) || (s.pauseRefused.sup.flush == .waiting)) = false := by
    change ((s.sup.flush == .warned) || (s.sup.flush == .waiting)) = false
    rw [hflush]
    rfl
  change execActivatePauseEnd s = _
  refine (if_neg (by rw [hpausing]; exact Bool.false_ne_true)).trans ?_
  dsimp only
  rw [hback, htakes]
  exact congrArg Host.Outcome.next ((if_neg (ne_true_of_eq_false hidle)).trans
    ((if_neg (ne_true_of_eq_false (State.outage_pauseRefused hout))).trans (if_pos rfl)))

/-! ### The trial and the recovery -/

theorem exec_trialTimeout_due (hstate : s.patState s.runSlot = 5) (hauto : s.flag Reg.PAT_CFG F.PAT_CFG_AUTOCONFIRM = true) (hpausing : s.pausing = false)
    (hout : s.outage = false) (hat : s.sup.trialAt + secs (max 1 (s.fld Reg.PAT_CFG F.PAT_CFG_TRIAL_S)) ≤ s.now) :
    exec .trialTimeout s = .next s.confirmPattern :=
  congrArg Host.Outcome.next (if_pos (by
    rw [hauto, hpausing, hout, decide_eq_true hstate, decide_eq_true hat]
    rfl))

theorem exec_haltRecoveryDone_failed (hstage : s.stage = 0xF) (hresult : s.fld Reg.PAT_HALTGO F.PAT_HALTGO_RESULT = 1) :
    exec (.haltRecoveryDone none) s = .next (s.setF Reg.PAT_HALTGO F.PAT_HALTGO_RESULT 2) :=
  if_neg (by simp [hstage, hresult])

end Sys2Proof.Machine

open Sys2Proof Sys2Proof.Machine

/-- Settles O60: each step of the pause, of the trial and of the recovery by the branch that its conditions choose; the trial's time counts from the end of the pause by the
model's choice (log entry 31). -/
theorem patternEvents : Obligations.PatternEvents := by
  intro s
  refine ⟨fun _ => exec_activatePauseStart_starts, fun hwaits => ?_, fun hpausing => ?_, fun hpausing hback htakes hout hflush => ?_, exec_trialTimeout_due,
    fun hstate => ?_, fun _ => rfl, fun hstage hresult => ?_, fun _ hstage => ?_⟩
  · change execActivatePauseStart s = _
    rw [execActivatePauseStart, hwaits]
    rfl
  · exact if_pos (by rw [hpausing]; rfl)
  · exact ⟨s.pauseRefused, exec_activatePauseEnd_refused hpausing hback htakes hout hflush, rfl, rfl, State.pauseRefused_shows⟩
  · exact congrArg Host.Outcome.next (if_neg (by simp [hstate]))
  · exact ⟨_, exec_haltRecoveryDone_failed hstage hresult, State.fld_setF_self _ _ _ (by decide), State.setF_flash _ _ _ _,
      (State.fld_setF_other _ _ _ _ (by decide) _ _).trans hstage⟩
  · exact if_pos (by simp [hstage])

end

section
/-!
SUPPORT. Messages of the witness at a unit, and of units at a witness (R412 to R415, R431, R432, R436, R438): what each does once its tag and counter hold.
-/
set_option autoImplicit false
namespace Sys2Proof.Machine

variable {s t : State} {f : EthFrame} {b : List Byte}

/-! ### At a unit -/

theorem exec_grant_takeover {q : RdnReq} (hfrom : s.fromWitness 3 f = (t, some b)) (hq : (t.sawEpoch (fieldBe b 4 4)).answered b = some q) (hreason : q.reason = 2)
    (hrole : (t.sawEpoch (fieldBe b 4 4)).role = .standby) :
    let v := t.sawEpoch (fieldBe b 4 4)
    exec (.grant f) s = .next (({ v with rdn := { v.rdn with req := none } } : State).takeover q (fieldBe b 4 4)) := by
  have hrole' : ((t.sawEpoch (fieldBe b 4 4)).role == .standby) = true := by rw [hrole]; rfl
  change execGrant f s = _
  simp only [execGrant, hfrom, hq, hreason, hrole', Nat.reduceEqDiff, if_false, if_true]

theorem exec_deny_start {q : RdnReq} (hfrom : s.fromWitness 4 f = (t, some b)) (hq : t.answered b = some q) (hreason : q.reason = 1) :
    exec (.deny f) s = .next { t with rdn := { t.rdn with req := some { q with denied := true, trigger := fieldBe b 4 1 } } } := by
  change execDeny f s = _
  simp only [execDeny, hfrom, hq, hreason, if_true]

/-- A unit that is not ACTIVE learns the epoch, and sees its witness. -/
theorem exec_status_notActive (hfrom : s.fromWitness 5 f = (t, some b))
    (hrole : ((t.wrN Reg.RDN_WEPOCH (fieldBe b 0 4)).sawEpoch (fieldBe b 0 4)).contact.role ≠ .active) :
    let v := ((t.wrN Reg.RDN_WEPOCH (fieldBe b 0 4)).sawEpoch (fieldBe b 0 4)).contact
    exec (.status f) s = .next { v with rdn := { v.rdn with witAt := some v.now, witHolding := bitOf (fieldBe b 5 1) 0 } } := by
  change execStatus f s = _
  rw [execStatus, hfrom]
  exact congrArg Host.Outcome.next (if_neg (by
    dsimp only
    rw [beq_eq_false_iff_ne.mpr hrole]
    exact Bool.false_ne_true))

theorem exec_notice_elsewhere (hfrom : s.fromWitness 7 f = (t, some b)) (hrole : t.role ≠ .active) : exec (.notice f) s = .next t := by
  change execNotice f s = _
  rw [execNotice, hfrom]
  exact congrArg Host.Outcome.next (if_pos (by rw [beq_eq_false_iff_ne.mpr hrole]; rfl))

theorem exec_notice_rotates (hfrom : s.fromWitness 7 f = (t, some b)) (hrole : t.role = .active)
    (hrotate : t.flag Reg.RDN_CFG F.RDN_CFG_RADIO_ROTATE = true) (hproto : t.rdnProto ≠ 3) : exec (.notice f) s = .next (t.tryHandover false) := by
  change execNotice f s = _
  rw [execNotice, hfrom]
  exact congrArg Host.Outcome.next ((if_neg (by rw [hrole]; decide)).trans (if_pos (by simp [hrotate, hproto])))

theorem exec_revoke_active (hfrom : s.fromWitness 8 f = (t, some b)) (hrole : (t.sawEpoch (fieldBe b 0 4)).role = .active)
    (hepoch : (t.sawEpoch (fieldBe b 0 4)).rdn.epoch < fieldBe b 0 4) :
    let v := t.sawEpoch (fieldBe b 0 4)
    exec (.revoke f) s = .next (v.demote 1 (fieldBe b 0 4 * 2 + (1 - v.unit))) := by
  have hrole' : ((t.sawEpoch (fieldBe b 0 4)).role == .active) = true := by rw [hrole]; rfl
  change execRevoke f s = _
  simp only [execRevoke, hfrom, hrole', decide_eq_true hepoch, Bool.and_self, if_true]

/-! ### At a witness -/

namespace State

theorem witPair_setWitPair (p : Nat) (x : WitPair) : (t.setWitPair p x).witPair p = x := mapGet_mapSet_self _ _ _ _

theorem unit_setWitUnit (p u : Nat) (y : WitUnit) : ((t.setWitUnit p u y).witPair p).unit u = y := by
  rw [setWitUnit, witPair_setWitPair]
  exact mapGet_mapSet_self _ _ _ _

theorem witE_setWitE (p e : Nat) : (t.setWitE p e).witE p = e := mapGet_mapSet_self _ _ _ _

theorem witPair_setWitE (p e q : Nat) : (t.setWitE p e).witPair q = t.witPair q := rfl

/-- A unit of a pair as its HEARTBEAT shows it (R435). -/
def heardUnit (t : State) (c : PairCfg) (u : Nat) (m : WitMsg) : WitUnit :=
  let x := (t.witPair c.pairId).unit u
  { x with role := fieldBe m.body 0 1, flags := fieldBe m.body 1 1, epoch := fieldBe m.body 4 4, at_ := some t.now
           confirmed := x.confirmed || bitOf (fieldBe m.body 1 1) 1 }

/-- A witness that has recorded the HEARTBEAT of a unit. -/
def heard (t : State) (c : PairCfg) (u : Nat) (m : WitMsg) : State := t.setWitUnit c.pairId u (t.heardUnit c u m)

end State

variable {m : WitMsg} {c : PairCfg} {u : Nat}

theorem exec_witness_refused (hfrom : s.witFrom f = (t, none)) : exec (.heartbeat f) s = .next t ∧ exec (.request f) s = .next t ∧ exec (.vote f) s = .next t := by
  change execHeartbeat f s = _ ∧ execRequest f s = _ ∧ execVote f s = _
  simp only [execHeartbeat, execRequest, execVote, hfrom, and_self]

/-- The HEARTBEAT of a unit that does not claim to be ACTIVE is recorded, and a higher epoch learned. -/
theorem exec_heartbeat_passive (hfrom : s.witFrom f = (t, some (m, c, u))) (htyp : m.typ = 1) (hrole : fieldBe m.body 0 1 ≠ 0) :
    exec (.heartbeat f) s = .next (if (t.heard c u m).witE c.pairId < fieldBe m.body 4 4 then (t.heard c u m).setWitE c.pairId (fieldBe m.body 4 4)
      else t.heard c u m) := by
  change execHeartbeat f s = _
  rw [execHeartbeat, hfrom]
  simp only [htyp, hrole, ne_eq, not_true_eq_false, decide_false, Bool.false_and, Bool.false_eq_true, if_false]
  rfl

theorem exec_heartbeat_recorded (hfrom : s.witFrom f = (t, some (m, c, u))) (htyp : m.typ = 1) (hrole : fieldBe m.body 0 1 ≠ 0) :
    ∃ v, exec (.heartbeat f) s = .next v ∧ ((v.witPair c.pairId).unit u).role = fieldBe m.body 0 1 ∧
      ((v.witPair c.pairId).unit u).epoch = fieldBe m.body 4 4 ∧ ((v.witPair c.pairId).unit u).at_ = some t.now ∧ fieldBe m.body 4 4 ≤ v.witE c.pairId := by
  have hunit : ((t.heard c u m).witPair c.pairId).unit u = t.heardUnit c u m := State.unit_setWitUnit _ _ _
  refine ⟨_, exec_heartbeat_passive hfrom htyp hrole, ?_⟩
  split
  · rw [State.witPair_setWitE, hunit, State.witE_setWitE]
    exact ⟨rfl, rfl, rfl, Nat.le_refl _⟩
  · next hlow =>
    rw [hunit]
    exact ⟨rfl, rfl, rfl, Nat.not_lt.mp hlow⟩

theorem exec_request_repeated (hfrom : s.witFrom f = (t, some (m, c, u))) (htyp : m.typ = 2)
    (hnonce : ((t.witPair c.pairId).unit u).nonce = some (fieldBe m.body 0 4)) : exec (.request f) s = .next (t.witAnswer c u) := by
  change execRequest f s = _
  rw [execRequest, hfrom]
  exact congrArg Host.Outcome.next ((if_neg (not_not.mpr htyp)).trans (if_pos hnonce))

theorem exec_request_new (hfrom : s.witFrom f = (t, some (m, c, u))) (htyp : m.typ = 2)
    (hnonce : ((t.witPair c.pairId).unit u).nonce ≠ some (fieldBe m.body 0 4)) :
    exec (.request f) s = .next (t.witRequest c u (fieldBe m.body 0 4) (fieldBe m.body 4 1) (fieldBe m.body 8 4) (fieldBe m.body 12 4)) := by
  change execRequest f s = _
  rw [execRequest, hfrom]
  exact congrArg Host.Outcome.next ((if_neg (not_not.mpr htyp)).trans (if_neg hnonce))

theorem exec_vote_passed {a : Nat} (hfrom : s.witFrom f = (t, some (m, c, u))) (htyp : m.typ = 6) (hact : (t.witPair c.pairId).act = some a) :
    exec (.vote f) s = .next (t.witSend c a 7 (be 1 (2 ^ (fieldBe m.body 0 1 % 8)) ++ [0, 0, 0])) := by
  change execVote f s = _
  simp only [execVote, hfrom, hact]
  exact congrArg Host.Outcome.next (if_neg (not_not.mpr htyp))

end Sys2Proof.Machine

open Sys2Proof Sys2Proof.Machine

/-- Settles O57: each message by the branch that its type, the roles and the epochs choose; a witness learns the epoch of a HEARTBEAT (R417, log entry 34) and answers a
nonce that it knows as before (R435). -/
theorem witnessFrames : Obligations.WitnessFrames := by
  intro s f
  refine ⟨fun t hnone => ?_, fun _ _ _ => exec_grant_takeover, fun _ _ _ => exec_deny_start, fun _ _ => exec_status_notActive, fun _ _ => exec_notice_elsewhere,
    fun _ _ => exec_notice_rotates, fun _ _ => exec_revoke_active, fun _ => exec_witness_refused, fun _ _ _ _ => exec_heartbeat_recorded,
    fun _ _ _ _ => exec_request_repeated, fun _ _ _ _ => exec_request_new, fun _ _ _ _ _ => exec_vote_passed⟩
  change execGrant f s = _
  rw [execGrant, hnone]

end

section
/-!
SUPPORT. Frames of the peer (R416 to R421, R424 to R430, R434 to R437): what each does once it has authenticated.
-/
set_option autoImplicit false
namespace Sys2Proof.Machine

variable {s t : State} {f : EthFrame} {m : PeerMsg}

namespace State

/-- What a BEACON says is noted; the unit's role and its RDN_STATUS stand. -/
theorem noteBeacon_role (claim role flags : Nat) : (s.noteBeacon claim role flags).role = s.role := rfl

theorem flag_noteBeacon_status (claim role flags : Nat) (g : Fld) : (s.noteBeacon claim role flags).flag Reg.RDN_STATUS g = s.flag Reg.RDN_STATUS g :=
  flag_congr (s.rd_wrN_other claim (by decide)) g

theorem waits_event (typ sev inst : Nat) (payload : List Byte) : (s.event typ sev inst payload).waits = s.waits := by
  obtain ⟨e, f, h⟩ := s.eventAt_rest s.stamp typ sev inst payload
  rw [event, h]

end State

/-! ### BEACON -/

/-- A peer that is not ACTIVE, heard by a unit that does not seed: noted. -/
theorem exec_peerBeacon_noted (hfrom : s.peerFrom 1 f = (t, some m)) (hlen : m.body.length = 24) (hpeer : fieldBe m.body 0 1 ≠ 0) (hrole : t.role ≠ .seeding) :
    exec (.peerBeacon f) s = .next (t.noteBeacon m.claim (fieldBe m.body 0 1) (fieldBe m.body 1 1)) := by
  change execPeerBeacon f s = _
  rw [execPeerBeacon, hfrom]
  dsimp only
  rw [if_neg (not_not.mpr hlen), if_pos hpeer, if_neg]
  rw [State.noteBeacon_role, beq_eq_false_iff_ne.mpr hrole]
  exact Bool.false_ne_true

/-- Heard by a unit that seeds from it, the seed starts afresh. -/
theorem exec_peerBeacon_restarts (hfrom : s.peerFrom 1 f = (t, some m)) (hlen : m.body.length = 24) (hpeer : fieldBe m.body 0 1 ≠ 0) (hrole : t.role = .seeding)
    (hact : t.flag Reg.RDN_STATUS F.RDN_STATUS_SEEDING_ACT = true) :
    exec (.peerBeacon f) s = .next (t.noteBeacon m.claim (fieldBe m.body 0 1) (fieldBe m.body 1 1)).restartSeed := by
  change execPeerBeacon f s = _
  rw [execPeerBeacon, hfrom]
  dsimp only
  rw [if_neg (not_not.mpr hlen), if_pos hpeer, if_pos]
  rw [State.noteBeacon_role, State.flag_noteBeacon_status, hrole, hact, bne_iff_ne.mpr hpeer]
  rfl

/-- Two units ACTIVE: the one with the lower claim gives way. -/
theorem exec_peerBeacon_rivals (hfrom : s.peerFrom 1 f = (t, some m)) (hlen : m.body.length = 24) (hpeer : fieldBe m.body 0 1 = 0)
    (hrole : (t.noteBeacon m.claim 0 (fieldBe m.body 1 1)).role = .active) :
    let v := t.noteBeacon m.claim 0 (fieldBe m.body 1 1)
    exec (.peerBeacon f) s = .next (if v.claim < m.claim then v.demote 2 m.claim else v) := by
  have hseeds : ((t.noteBeacon m.claim 0 (fieldBe m.body 1 1)).role == .seeding) = false := by rw [hrole]; rfl
  change execPeerBeacon f s = _
  rw [execPeerBeacon, hfrom]
  dsimp only
  rw [hpeer, if_neg (not_not.mpr hlen), if_neg (by decide : ¬ (0 : Nat) ≠ 0), hseeds, Bool.false_and, Bool.false_and, if_neg Bool.false_ne_true, hrole]
  exact congrArg Host.Outcome.next (if_pos rfl)

/-! ### DELTA and SEED -/

theorem exec_delta_taken (hfrom : s.peerFrom 2 f = (t, some m)) (hlen : 12 ≤ m.body.length) : exec (.delta f) s = .next (t.deltaFrame m.body) := by
  change execDelta f s = _
  rw [execDelta, hfrom]
  exact congrArg Host.Outcome.next (if_neg (Nat.not_lt.mpr hlen))

section

variable (hfrom : s.peerFrom 3 f = (t, some m)) (hlen : m.body.length = 8) (hmirror : t.rdn.mirror = true)
include hfrom hlen hmirror

theorem exec_deltaAck_refused (hstatus : fieldBe m.body 4 1 ≠ 0) : exec (.deltaAck f) s = .next t.mirrorLag.showUnacked := by
  change execDeltaAck f s = _
  rw [execDeltaAck, hfrom]
  exact congrArg Host.Outcome.next ((if_neg (by simp [hlen, hmirror])).trans (if_neg hstatus))

theorem exec_deltaAck_applied (hstatus : fieldBe m.body 4 1 = 0) :
    exec (.deltaAck f) s =
      .next ((({ t with rdn := { t.rdn with unacked := t.rdn.unacked.filter fun x => decide (0 < seqDiff x (fieldBe m.body 0 4)) } } : State).wrN Reg.RDN_DELTAACK
        (fieldBe m.body 0 4)).showUnacked) := by
  change execDeltaAck f s = _
  rw [execDeltaAck, hfrom]
  exact congrArg Host.Outcome.next ((if_neg (by simp [hlen, hmirror])).trans (if_pos hstatus))

end

/-- The active unit sends its image and mirrors from then on. -/
theorem exec_seedReq_active (hfrom : s.peerFrom 4 f = (t, some m)) (hrole : t.role = .active) :
    ∃ v, exec (.seedReq f) s = .next v ∧ v.rdn.mirror = true ∧ v.rdn.unacked = [] := by
  change ∃ v, execSeedReq f s = _ ∧ _
  rw [execSeedReq, hfrom]
  dsimp only
  rw [if_neg (by rw [hrole]; decide)]
  exact ⟨_, rfl, by rw [State.showUnacked, State.setF_rdn], by rw [State.showUnacked, State.setF_rdn]⟩

theorem exec_seedReq_elsewhere (hfrom : s.peerFrom 4 f = (t, some m)) (hrole : t.role ≠ .active) : exec (.seedReq f) s = .next t := by
  change execSeedReq f s = _
  rw [execSeedReq, hfrom]
  exact congrArg Host.Outcome.next (if_pos (by rw [beq_eq_false_iff_ne.mpr hrole]; rfl))

/-- The first part of a seed: it is applied where it is the whole. -/
theorem exec_seed_first (hfrom : s.peerFrom 5 f = (t, some m)) (hrole : t.role = .seeding) (hact : t.flag Reg.RDN_STATUS F.RDN_STATUS_SEEDING_ACT = true)
    (hlen : 12 ≤ m.body.length) (hseed : t.rdn.seed = none) :
    let x : RdnParts := { seq := 0, batch := fieldBe m.body 0 4, last := fieldBe m.body 8 4, parts := mapPut [] (fieldBe m.body 4 4) (m.body.drop 12) }
    let v := ({ t with rdn := { t.rdn with seed := some x } } : State).setF Reg.RDN_SEED F.RDN_SEED_PCT (min 100 (x.parts.length * 100 / (fieldBe m.body 8 4 + 1)))
    exec (.seed f) s = .next (if x.complete then v.applySeed x else v) := by
  change execSeed f s = _
  rw [execSeed, hfrom]
  dsimp only
  rw [hseed, if_neg (by simp [hrole, hact, Nat.not_lt.mpr hlen])]

/-! ### Handover, yield and health -/

theorem exec_handover_standby (hfrom : s.peerFrom 6 f = (t, some m)) (hlen : m.body.length = 16) (hrole : t.role = .standby) (hhand : t.rdn.hand = none)
    (hfuture : stampTime t.stamp < stampTime (fieldBe m.body 0 8)) :
    exec (.handover f) s = .next (({ t with rdn := { t.rdn with
      hand := some { old := false, t := t.boundaryAt (fieldBe m.body 0 8), stamp := fieldBe m.body 0 8 } } } : State).request 3 0) := by
  change execHandover f s = _
  rw [execHandover, hfrom]
  exact congrArg Host.Outcome.next (if_neg (by simp [hlen, hrole, hhand, Nat.not_le.mpr hfuture]))

theorem exec_ready_inTime {h : Handover} (hfrom : s.peerFrom 7 f = (t, some m)) (hhand : t.rdn.hand = some h) (hlen : m.body.length = 4) (hold : h.old = true)
    (hpassed : h.passed = false) (hat : t.now + 1000000 ≤ h.t) :
    exec (.ready f) s = .next { t with rdn := { t.rdn with hand := some { h with epoch := some (fieldBe m.body 0 4) } } } := by
  change execReady f s = _
  simp only [execReady, hfrom, hhand]
  exact congrArg Host.Outcome.next (if_pos (by simp [hlen, hold, hpassed, hat]))

/-- The handover is complete. -/
theorem exec_confirm_completes {h : Handover} (hfrom : s.peerFrom 8 f = (t, some m)) (hhand : t.rdn.hand = some h) (hlen : m.body.length = 8) (hold : h.old = true)
    (hpassed : h.passed = true) (hreq : t.rdn.req = none) (hwaits : t.waits = []) :
    ∃ v, exec (.confirm f) s = .next v ∧ v.rdn.hand = none ∧ v.rdn.req = none := by
  change ∃ v, execConfirm f s = _ ∧ _
  simp only [execConfirm, hfrom, hhand]
  rw [if_pos (by simp [hlen, hold, hpassed, hreq]), finishAll_of_no_waits]
  · exact ⟨_, rfl, rfl, rfl⟩
  · exact (State.waits_event _ _ _ _).trans ((State.bump_waits _ _ _).trans hwaits)

theorem exec_yield_asks (hfrom : s.peerFrom 9 f = (t, some m)) (hlen : m.body.length = 4) : exec (.yield_ f) s = .next (t.requestTakeover 2) := by
  change execYield_ f s = _
  rw [execYield_, hfrom]
  exact congrArg Host.Outcome.next (if_neg (not_not.mpr hlen))

theorem exec_health_active (hfrom : s.peerFrom 0xA f = (t, some m)) (hlen : m.body.length = 4) (hrole : t.role = .active) (hproto : t.rdnProto = 3) :
    exec (.health f) s = .next ((t.wrN Reg.RDN_HEALTH (fieldBe m.body 0 4)).postDia 0x0E01 0 (le 4 (fieldBe m.body 0 4))) := by
  change execHealth f s = _
  rw [execHealth, hfrom]
  exact congrArg Host.Outcome.next (if_neg (by simp [hlen, hrole, hproto]))

end Sys2Proof.Machine

open Sys2Proof Sys2Proof.Machine

/-- Settles O56: each frame by the branch that its type and the unit's role choose; that an ACTIVE unit shows what HEALTH says in RDN_HEALTH and on ring 13 is log entry 33. -/
theorem peerFrames : Obligations.PeerFrames := by
  intro s f
  refine ⟨fun t hnone => ?_, fun t m hfrom hlen hpeer => ⟨exec_peerBeacon_noted hfrom hlen hpeer, exec_peerBeacon_restarts hfrom hlen hpeer⟩,
    fun t m hfrom hlen hpeer hrole => ⟨fun hclaim => ?_, fun hclaim => ?_⟩, fun _ _ => exec_delta_taken, fun t hnone => ?_,
    fun _ _ => exec_deltaAck_refused, fun _ _ => exec_deltaAck_applied, fun _ _ => exec_seedReq_active, fun _ _ => exec_seedReq_elsewhere,
    fun t m hfrom hrole hact hlen hseed => ⟨fun hall => ?_, fun hnot => ?_⟩, fun _ _ => exec_handover_standby, fun _ _ _ => exec_ready_inTime,
    fun _ _ _ => exec_confirm_completes, fun _ _ => exec_yield_asks, fun _ _ => exec_health_active⟩
  · change execPeerBeacon f s = _
    rw [execPeerBeacon, hnone]
  · exact (exec_peerBeacon_rivals hfrom hlen hpeer hrole).trans (congrArg Host.Outcome.next (if_pos hclaim))
  · exact (exec_peerBeacon_rivals hfrom hlen hpeer hrole).trans (congrArg Host.Outcome.next (if_neg (Nat.not_lt.mpr hclaim)))
  · change execDelta f s = _
    rw [execDelta, hnone]
  · exact (exec_seed_first hfrom hrole hact hlen hseed).trans (congrArg Host.Outcome.next (if_pos hall))
  · exact (exec_seed_first hfrom hrole hact hlen hseed).trans (congrArg Host.Outcome.next (if_neg (ne_true_of_eq_false hnot)))

end

section
/-!
SUPPORT. The commands of keys and attestation, of patterns and configuration loads, and of redundancy (R439, R442 to R447, R456, R459, R461 to R466, R468).
-/
set_option autoImplicit false
namespace Sys2Proof.Machine

namespace State

variable {s : State} {e : CmdEntry}

/-- An untagged change of free targets is made at once. -/
theorem stageOr_untagged {c : Change} {now : State → Res} (htxn : e.txn = 0) (hfree : s.conflicts none c.targets = false) : s.stageOr e c now = now s := by
  rw [stageOr, txnOf_untagged htxn]
  exact if_neg (ne_true_of_eq_false hfree)

theorem patState_setPatState (k : Nat) {v : Nat} (hv : v < 8) : (s.setPatState k v).patState k = v := by
  rw [patState, setPatState, fld_setF_self _ _ _ (patFld_fits k), patFld_width]
  exact Nat.mod_eq_of_lt hv

theorem pat_setPat (k : Nat) (x : PatSlot) : (s.setPat k x).pat k = x := mapGet_mapSet_self _ _ _ _

theorem noIdentity_of_keys (hlc : s.lifeCycle ≠ 3) (hzero : s.keys.zeroised = false) : s.noIdentity = false := by
  rw [noIdentity, hzero, Bool.false_and, Bool.or_false]
  exact beq_eq_false_iff_ne.mpr hlc

/-- The slot that does not run as a load opens: LOADING, with no version to show (R464). -/
def beginPattern (s : State) (total : Nat) : State :=
  ((s.setPat s.loadSlot { load := some { total := total, blocks := [] } }).setPatState s.loadSlot 1).wr (if s.loadSlot = 0 then Reg.PAT_VERA else Reg.PAT_VERB) 0

theorem beginPattern_slot (total : Nat) : (s.beginPattern total).patState s.loadSlot = 1 ∧
    ((s.beginPattern total).pat s.loadSlot).load = some { total := total, blocks := [] } := by
  have hreg : Reg.PAT_STATUS ≠ (if s.loadSlot = 0 then Reg.PAT_VERA else Reg.PAT_VERB) := by
    split
    · decide
    · decide
  refine ⟨?_, ?_⟩
  · exact (fld_congr (rd_wr_other _ _ _ _ hreg) _).trans (patState_setPatState _ (by decide))
  · rw [beginPattern, pat, wr_flash, setPatState, setF_flash, ← pat, pat_setPat]

/-- The loaded slot that verifies becomes VERIFIED, and the event says so (R463). -/
def verifyPattern (s : State) : State :=
  (s.setPatState s.loadSlot 3).event 0x1501 0 noInst
    (le 1 s.loadSlot ++ le 4 (s.pat s.loadSlot).version ++ le 4 (s.pat s.loadSlot).security)

theorem patState_verifyPattern : s.verifyPattern.patState s.loadSlot = 3 :=
  (fld_congr (rd_event _ _ _ _ _ _) _).trans (patState_setPatState _ (by decide))

end State

variable {s : State} {e : CmdEntry}

/-- An admitted entry of an opcode that stages nothing ends with whatever status its body answers. -/
theorem runCmd_completed_of_unstaged {o : OpSpec} (hstages : o.stages = false) (h : s.admits o e = true) {i : Instr} {body : CmdTag → State → Res}
    {status r0 r1 flags : Nat} {payload : List (Nat × List Byte)} {t : State}
    (hbody : body (s.tagOf o e) (s.taken e) = .done status r0 r1 flags payload t) :
    runCmd o i e body s = .next (s.completed o e status r0 r1 flags payload t) := by
  rw [runCmd_admits h, hbody, staging_of_not hstages, State.completed]

/-! ### Keys -/

theorem exec_keySlotSet_untagged (h : s.admits Op.keySlotSet e = true) (htxn : e.txn = 0) (hin : e.bufOut = false)
    (hcheck : (s.taken e).keyWriteCheck (attrLock ((s.taken e).keySlot (e.param 0 1)).attr)
      (attrOk ((s.taken e).fld Reg.KEY_MODE F.KEY_MODE_MODE) (BitVec.ofNat 32 (e.param 4 4)) e.buf) = none)
    (hfree : (s.taken e).conflicts none (Change.targets (.key (e.param 0 1) (.set (BitVec.ofNat 32 (e.param 4 4)) (e.param 2 2) e.buf))) = false) :
    exec (.keySlotSet e) s = .next (s.completed Op.keySlotSet e St.ok 0 0 0 []
      ((s.taken e).keySet (e.param 0 1) (BitVec.ofNat 32 (e.param 4 4)) (e.param 2 2) e.buf)) := by
  refine runCmd_completed h ((if_neg (ne_true_of_eq_false hin)).trans ?_)
  rw [hcheck]
  exact State.stageOr_untagged htxn hfree

theorem exec_keySlotClear_untagged (h : s.admits Op.keySlotClear e = true) (htxn : e.txn = 0)
    (hcheck : (s.taken e).keyWriteCheck (attrLock ((s.taken e).keySlot (e.param 0 1)).attr) true = none)
    (hvalid : attrValid ((s.taken e).keySlot (e.param 0 1)).attr = true) (hfree : (s.taken e).conflicts none (Change.targets (.key (e.param 0 1) .clear)) = false) :
    exec (.keySlotClear e) s = .next (s.completed Op.keySlotClear e St.ok 0 0 0 [] ((s.taken e).keyClear (e.param 0 1))) := by
  refine runCmd_completed h ?_
  dsimp only
  rw [hcheck]
  exact (if_neg (by rw [hvalid]; decide)).trans (State.stageOr_untagged htxn hfree)

theorem exec_keyRootSet_sets (h : s.admits Op.keyRootSet e = true) (htxn : e.txn = 0) (hroot : e.param 0 1 ≤ 7) (hlen : e.buf.length = 32) (hin : e.bufOut = false)
    (hmode : (s.taken e).fld Reg.KEY_MODE F.KEY_MODE_MODE ≠ 0)
    (hcheck : (s.taken e).keyWriteCheck (attrLock ((s.taken e).keyRoot (e.param 0 1)).attr) true = none) :
    exec (.keyRootSet e) s = .next (s.completed Op.keyRootSet e St.ok 0 0 0 []
      ((s.taken e).keyRootSet (e.param 0 1) (bitOf (e.param 4 1) 0) e.buf)) := by
  have hgood : (decide (e.param 0 1 ≤ 7) && e.buf.length == 32 && !e.bufOut && (s.taken e).fld Reg.KEY_MODE F.KEY_MODE_MODE != 0) = true := by
    rw [decide_eq_true hroot, beq_iff_eq.mpr hlen, hin, bne_iff_ne.mpr hmode]
    rfl
  refine runCmd_completed h ((if_neg (not_not.mpr htxn)).trans ?_)
  rw [hgood, hcheck]
  rfl

theorem exec_keyAttest_waits (h : s.admits Op.keyAttest e = true) (hnonce : e.param 32 1 ≤ 32) (hout : e.bufOut = true) (hlc : (s.taken e).lifeCycle ≠ 3)
    (hzero : (s.taken e).keys.zeroised = false) :
    let u := s.taken e
    exec (.keyAttest e) s = .next (s.waiting Op.keyAttest e (.keyAttest (e.params.take (e.param 32 1)) e.bufAddr.toNat e.bufLen.toNat)
      (({ u with keys := { u.keys with statement := [] } } : State).setF Reg.KEY_STATUS F.KEY_STATUS_ATTEST_BUSY 1)) :=
  runCmd_waiting h ((if_neg (by simp [hout, Nat.not_lt.mpr hnonce])).trans (if_neg (ne_true_of_eq_false (State.noIdentity_of_keys hlc hzero))))

theorem exec_keyIdcert_answers (h : s.admits Op.keyIdcert e = true) (hout : e.bufOut = true) (hlen : 2048 ≤ e.bufLen.toNat) :
    exec (.keyIdcert e) s = .next (s.completed Op.keyIdcert e St.ok (Config.idCert.take 2048).length 0 0 [(e.bufAddr.toNat, Config.idCert.take 2048)] (s.taken e)) :=
  runCmd_completed h ((if_neg (by rw [hout]; decide)).trans (if_neg (Nat.not_lt.mpr ((List.length_take_le _ _).trans hlen))))

theorem exec_keyNodekey_answers {k : List Byte} (h : s.admits Op.keyNodekey e = true) (hout : e.bufOut = true) (hlen : e.bufLen.toNat = 16)
    (hmaint : (s.taken e).maint = true) (hkey : (s.taken e).czMaster = some k) :
    exec (.keyNodekey e) s = .next (s.completed Op.keyNodekey e St.ok 0 0 0 [(e.bufAddr.toNat, nodeRootKey k (e.param 0 8))]
      ((s.taken e).touchKey ((s.taken e).fld Reg.KEY_CZNSRC F.KEY_CZNSRC_SLOT))) := by
  refine runCmd_completed h ((if_neg (by simp [hout, hlen])).trans ((if_neg (by rw [hmaint]; decide)).trans ?_))
  rw [hkey]

/-! ### Patterns and configuration loads -/

theorem exec_patBegin_pattern (h : s.admits Op.patBegin e = true) (hmode : e.param 0 1 = 0) (htrial : (s.taken e).trialOpen = false)
    (hwords : e.param 4 4 % 4 = 0) (hlow : 4096 ≤ e.param 4 4) (hhigh : e.param 4 4 ≤ 268435456) :
    exec (.patBegin e) s = .next (s.completed Op.patBegin e St.ok 0 0 0 [] ((s.taken e).beginPattern (e.param 4 4))) :=
  runCmd_completed h ((if_pos hmode).trans ((if_neg (ne_true_of_eq_false htrial)).trans
    (if_neg (by simp [hwords, Nat.not_lt.mpr hlow, Nat.not_lt.mpr hhigh]))))

theorem exec_patBegin_load {k : Nat} (h : s.admits Op.patBegin e = true) (hmode : e.param 0 1 = 1) (hload : (s.taken e).loadTxn e = .ok k)
    (hwords : e.param 4 4 % 4 = 0) (hpos : e.param 4 4 ≠ 0) (hhigh : e.param 4 4 ≤ 67108864) :
    let u := s.taken e
    exec (.patBegin e) s = .next (s.completed Op.patBegin e St.ok 0 0 2 [] (u.setTxn k { u.txn k with
      load := some { total := e.param 4 4, blocks := [] }, changes := (u.txn k).changes.filter (fun c => !c.same (.image [])), named := u.now })) := by
  refine runCmd_completed h ((if_neg (by rw [hmode]; decide)).trans ((if_pos hmode).trans ?_))
  rw [hload]
  exact if_neg (by simp [hwords, hpos, Nat.not_lt.mpr hhigh])

theorem exec_patBlock_pattern (h : s.admits Op.patBlock e = true) (hin : e.bufOut = false) (hmode : e.param 0 1 = 0) :
    exec (.patBlock e) s = .next (settle (s.tagOf Op.patBlock e) (Op.patBlock.staging e ((s.taken e).patBlock (e.param 4 4) e.buf))) := by
  change runCmd _ _ _ _ _ = _
  rw [runCmd_admits h, if_neg (ne_true_of_eq_false hin), if_pos hmode]

theorem exec_patBlock_load {k : Nat} (h : s.admits Op.patBlock e = true) (hin : e.bufOut = false) (hmode : e.param 0 1 = 1)
    (hload : (s.taken e).loadTxn e = .ok k) :
    exec (.patBlock e) s = .next (settle (s.tagOf Op.patBlock e) (Op.patBlock.staging e ((s.taken e).cfgBlock k (e.param 4 4) e.buf))) := by
  change runCmd _ _ _ _ _ = _
  rw [runCmd_admits h, if_neg (ne_true_of_eq_false hin), if_neg (by rw [hmode]; decide), if_pos hmode, hload]

theorem exec_patQuery_load {k : Nat} {l : PatLoad} (h : s.admits Op.patQuery e = true) (hmode : e.param 0 1 = 1) (htxn : (s.taken e).txnOf e.txn.toNat = some k)
    (hload : ((s.taken e).txn k).load = some l) :
    exec (.patQuery e) s = .next (s.completed Op.patQuery e St.ok l.query.1 l.query.2 0 [] (s.taken e)) := by
  refine runCmd_completed h ((if_neg (by rw [hmode]; decide)).trans ((if_pos hmode).trans ?_))
  rw [htxn]
  dsimp only
  rw [hload]
  rfl

theorem exec_patQuery_pattern {l : PatLoad} (h : s.admits Op.patQuery e = true) (hmode : e.param 0 1 = 0)
    (hstate : (s.taken e).patState (s.taken e).loadSlot ≠ 0) (hload : ((s.taken e).pat (s.taken e).loadSlot).load = some l) :
    exec (.patQuery e) s = .next (s.completed Op.patQuery e St.ok l.query.1 l.query.2 0 [] (s.taken e)) := by
  refine runCmd_completed h ((if_pos hmode).trans ((if_neg hstate).trans ?_))
  rw [hload]
  rfl

/-- A LOADED slot is checked: it becomes VERIFIED, or stays with the check's status. -/
theorem exec_patVerify_checks (h : s.admits Op.patVerify e = true) (hstate : (s.taken e).patState (s.taken e).loadSlot = 2)
    (hshipped : ((s.taken e).pat (s.taken e).loadSlot).shipped = false) :
    let u := s.taken e
    let c := u.patCheck (u.pat u.loadSlot).image
    exec (.patVerify e) s = .next (s.completed Op.patVerify e (c.getD St.ok) 0 0 0 [] (if c.isNone then u.verifyPattern else u)) := by
  refine runCmd_completed_of_unstaged rfl h ((if_neg (by rw [hstate]; decide)).trans ((if_neg (by rw [hstate]; decide)).trans
    ((if_neg (ne_true_of_eq_false hshipped)).trans ?_)))
  cases hcheck : (s.taken e).patCheck ((s.taken e).pat (s.taken e).loadSlot).image with
  | some st => rfl
  | none =>
    dsimp only
    rw [if_pos hstate]
    rfl

theorem exec_patActivate_waits (h : s.admits Op.patActivate e = true) (hstate : (s.taken e).patState (otherSlot (s.taken e).runSlot) = 3)
    (hblock : (s.taken e).activateBlock (bitOf (e.param 0 1) 0) = none) :
    exec (.patActivate e) s = .next (s.waiting Op.patActivate e (.patActivate (bitOf (e.param 0 1) 0) (bitOf (e.param 0 1) 1)) (s.taken e)) := by
  refine runCmd_waiting h ((if_neg (not_not.mpr hstate)).trans ?_)
  rw [hblock]

/-! ### Redundancy -/

theorem exec_rdnRotate_starts (h : s.admits Op.rdnRotate e = true) (hpaired : (s.taken e).paired = true) (hrole : (s.taken e).role = .active)
    (hproto : (s.taken e).rdnProto ≠ 3) (hhand : (s.taken e).rdn.hand = none) (hblock : (s.taken e).rotateBlock true = none) (hlamp : (s.taken e).lamp.next ≠ none) :
    let t := (s.taken e).startHandover
    exec (.rdnRotate e) s = .next (s.waiting Op.rdnRotate e .rdnRotate
      { t with rdn := { t.rdn with hand := t.rdn.hand.map fun h => { h with command := true } } }) :=
  runCmd_waiting h ((if_neg (by rw [hpaired]; decide)).trans ((if_neg (by simp [hrole, hproto])).trans (if_neg (by simp [hhand, hblock, hlamp]))))

theorem exec_rdnYield_sends (h : s.admits Op.rdnYield e = true) (hpaired : (s.taken e).paired = true) (hrole : (s.taken e).role = .active)
    (hmaint : (s.taken e).maint = true) : exec (.rdnYield e) s = .next (s.completed Op.rdnYield e St.ok 0 0 0 [] ((s.taken e).sendYield 4)) :=
  runCmd_completed h ((if_neg (by rw [hpaired]; decide)).trans ((if_neg (by rw [hrole]; decide)).trans (if_neg (by rw [hmaint]; decide))))

theorem exec_rdnReseed_seeds (h : s.admits Op.rdnReseed e = true) (hpaired : (s.taken e).paired = true) (hrole : (s.taken e).role = .standby) :
    exec (.rdnReseed e) s = .next (s.waiting Op.rdnReseed e .rdnOther (s.taken e).enterSeeding) :=
  runCmd_waiting h ((if_neg (by rw [hpaired]; decide)).trans (if_neg (by rw [hrole]; decide)))

end Sys2Proof.Machine

open Sys2Proof Sys2Proof.Machine

/-- Settles O55: each command by what its body answers where its checks pass. -/
theorem keyPatternAndRedundancyCommands : Obligations.KeyPatternAndRedundancyCommands := by
  refine ⟨fun s e => ⟨exec_keySlotSet_untagged, exec_keySlotClear_untagged, exec_keyRootSet_sets, exec_keyAttest_waits, exec_keyIdcert_answers,
      fun _ => exec_keyNodekey_answers⟩,
    fun s e => ⟨fun h hmode htrial hwords hlow hhigh => ?_, exec_patBlock_pattern, fun _ => exec_patBegin_load, fun _ => exec_patBlock_load,
      fun _ _ => exec_patQuery_load, fun _ => exec_patQuery_pattern, fun h hstate hshipped => ?_, exec_patActivate_waits, fun h hstate => ?_,
      fun h hstate => ?_⟩,
    fun s e => ⟨exec_rdnRotate_starts, exec_rdnYield_sends, exec_rdnReseed_seeds⟩⟩
  · exact ⟨_, exec_patBegin_pattern h hmode htrial hwords hlow hhigh, State.beginPattern_slot _⟩
  · refine ⟨_, exec_patVerify_checks h hstate hshipped, ?_⟩
    split
    · exact State.patState_verifyPattern
    · exact hstate
  · exact runCmd_completed h (if_pos hstate)
  · exact runCmd_completed_of_unstaged rfl h (if_neg hstate)

end

section
/-!
SUPPORT. Sealed frames (R281, R283, R430): what is sealed under a key opens under it again, and a frame shorter than its MIC does not open.
-/
set_option autoImplicit false
namespace Sys2Proof.Machine

variable {ver uid counter port typ : Nat} {key hdr aad body : List Byte}

/-- A list is its first bytes and the bytes that follow them. -/
theorem take_append_slice {l : List Byte} {n k : Nat} (h : l.length = n + k) : l.take n ++ slice l n k = l := by
  have hrest : (l.drop n).length ≤ k := by rw [List.length_drop, h, Nat.add_sub_cancel_left]
  rw [slice, List.take_of_length_le hrest, List.take_append_drop]

theorem cznSeal_length : (cznSeal ver key uid counter port typ hdr body).length = body.length + micLen ver := by
  unfold cznSeal
  split
  · rw [List.length_append, ccmSeal_length, List.length_nil, Nat.zero_add]
  · exact ccmSeal_length _ _ _ _ _

/-- A frame of a type that is only authenticated carries its body in the clear, followed by its MIC; any other carries it encrypted. -/
theorem cznOpen_cznSeal : cznOpen ver key uid counter port typ body.length hdr (cznSeal ver key uid counter port typ hdr body) = some body := by
  by_cases hauth : authOnly typ = true
  · have hmic : (ccmSeal (micLen ver) key (nonceOf uid counter port) (hdr ++ body) []).length = micLen ver := by
      rw [ccmSeal_length, List.length_nil, Nat.zero_add]
    rw [cznSeal, if_pos hauth, cznOpen, if_pos hauth, slice, List.take_left, List.drop_left, List.take_of_length_le (Nat.le_of_eq hmic), ccmOpen_ccmSeal]
    rfl
  · rw [cznSeal, if_neg hauth, cznOpen, if_neg hauth, take_append_slice (ccmSeal_length _ _ _ _ _), ccmOpen_ccmSeal]

theorem openWith_sealBody (ks : List (List Byte)) : openWith (key :: ks) uid counter port aad (sealBody key uid counter port aad body) = some body := by
  rw [openWith, sealBody, List.findSome?_cons, ccmOpen_ccmSeal]

theorem ccmOpen_short {mic : Nat} {nonce c : List Byte} (h : c.length < mic) : ccmOpen mic key nonce aad c = none := by
  simp [ccmOpen, Nat.not_le.mpr h]

theorem openWith_short {c : List Byte} (h : c.length < 8) : openWith [key] uid counter port aad c = none := by
  rw [openWith, List.findSome?_cons, ccmOpen_short h, List.findSome?_nil]

end Sys2Proof.Machine

open Sys2Proof Sys2Proof.Machine

/-- Settles O49: opening undoes the seal, by the law of CCM, once body and MIC are found again in the frame. -/
theorem sealedFramesOpen : Obligations.SealedFramesOpen :=
  ⟨fun _ _ _ _ _ _ _ _ => ⟨cznSeal_length, cznOpen_cznSeal⟩, fun _ _ _ _ _ _ => openWith_sealBody, fun _ _ _ _ _ _ => openWith_short⟩

end

section
/-!
SUPPORT. Frames that nodes send on a trunk (R282 to R284, R287, R293, R299, R300, R302): HELLO step by step, and the frames of known nodes.
-/
set_option autoImplicit false
namespace Sys2Proof.Machine

variable {s t : State} {f : TrunkFrame} {c : CznIn}

/-! ### HELLO -/

/-- The UID that the body of a HELLO names, before its MIC is checked. -/
def helloUid (f : TrunkFrame) : Nat := fieldBe (slice f.bytes 32 (fieldBe f.bytes 30 2)) 0 8

/-- What the MIC of a HELLO says under a key of its UID (R283, R286). -/
def helloOpen (f : TrunkFrame) (key : List Byte) : Option (List Byte) :=
  cznOpen (fieldBe f.bytes 14 1) (keyD key) (helloUid f) (fieldBe f.bytes 22 4) f.port 0x01 (fieldBe f.bytes 30 2) (slice f.bytes 14 18)
    (slice f.bytes 32 (fieldBe f.bytes 30 2 + micLen (fieldBe f.bytes 14 1)))

section

variable (hsends : s.sendsCarzon = true) (hreach : s.reachesCarzon f = true) (hform : s.formOk f = true) (htyp : fieldBe f.bytes 15 1 = 0x01)
  (hdst : fieldBe f.bytes 18 2 = 0xFFFE)
include hsends hreach hform htyp hdst

/-- A HELLO in form is judged by its key, then by its MIC, then by its counter. -/
theorem exec_hello_inForm : exec (.hello f) s = match s.helloKey (fieldBe f.bytes 17 1) (helloUid f) with
    | none => .next (s.authFailed f)
    | some key => match helloOpen f key with
      | none => .next (s.authFailed f)
      | some body => match (acceptCounter (s.helloWindows (helloUid f)) true (fieldBe f.bytes 17 1 % 16) (fieldBe f.bytes 22 4)).1 with
        | .old => .next (s.bump (Reg.TRK_CZNOLD f.port))
        | .repeat_ => .next (s.bump (Reg.TRK_CZNREPEAT f.port))
        | .new =>
          let t := s.setHelloWindows (helloUid f)
            (acceptCounter (s.helloWindows (helloUid f)) true (fieldBe f.bytes 17 1 % 16) (fieldBe f.bytes 22 4)).2
          .next (if !helloOk body then t.bump (Reg.TRK_CZNREJ f.port) else t.judgeHello f key body) :=
  (if_neg (by simp [hsends, hreach, hform, htyp])).trans (if_neg (not_not.mpr hdst))

theorem exec_hello_noKey (hkey : s.helloKey (fieldBe f.bytes 17 1) (helloUid f) = none) : exec (.hello f) s = .next (s.authFailed f) := by
  rw [exec_hello_inForm hsends hreach hform htyp hdst, hkey]

theorem exec_hello_badMic {key : List Byte} (hkey : s.helloKey (fieldBe f.bytes 17 1) (helloUid f) = some key) (hopen : helloOpen f key = none) :
    exec (.hello f) s = .next (s.authFailed f) := by
  rw [exec_hello_inForm hsends hreach hform htyp hdst, hkey]
  dsimp only
  rw [hopen]

theorem exec_hello_authentic {key body : List Byte} {r : List CznWindow} (hkey : s.helloKey (fieldBe f.bytes 17 1) (helloUid f) = some key)
    (hopen : helloOpen f key = some body)
    (hnew : acceptCounter (s.helloWindows (helloUid f)) true (fieldBe f.bytes 17 1 % 16) (fieldBe f.bytes 22 4) = (.new, r)) :
    let t := s.setHelloWindows (helloUid f) r
    exec (.hello f) s = .next (if !helloOk body then t.bump (Reg.TRK_CZNREJ f.port) else t.judgeHello f key body) := by
  rw [exec_hello_inForm hsends hreach hform htyp hdst, hkey]
  dsimp only
  rw [hopen, hnew]

end

namespace State

variable {key body : List Byte}

/-! ### The conditions of admission (R291) -/

theorem judgeHello_badId (hid : t.helloId f body < 2 ∨ 33 < t.helloId f body) :
    t.judgeHello f key body = t.refuseNode f.port (t.helloId f body) 4 (fieldBe body 0 8) :=
  if_pos (by simpa using hid)

section

variable (hlow : 2 ≤ t.helloId f body) (hhigh : t.helloId f body ≤ 33)
include hlow hhigh

theorem judgeHello_unknown (hentry : t.cfg.cznEntry (32 * f.port + t.helloId f body - 2) = none) :
    t.judgeHello f key body = t.refuseNode f.port (t.helloId f body) 1 (fieldBe body 0 8) := by
  rw [judgeHello]
  dsimp only
  rw [if_neg (by simp [Nat.not_lt.mpr hlow, Nat.not_lt.mpr hhigh]), hentry]

variable {e : CznEntry} (hentry : t.cfg.cznEntry (32 * f.port + t.helloId f body - 2) = some e)
include hentry

theorem judgeHello_otherUid (huid : e.uid ≠ fieldBe body 0 8) :
    t.judgeHello f key body = t.refuseNode f.port (t.helloId f body) 2 (fieldBe body 0 8) := by
  rw [judgeHello]
  dsimp only
  rw [if_neg (by simp [Nat.not_lt.mpr hlow, Nat.not_lt.mpr hhigh]), hentry]
  exact if_pos huid

theorem judgeHello_noVersion (huid : e.uid = fieldBe body 0 8) (hver : t.commonVersion e (fieldBe body 8 1) = 0) :
    t.judgeHello f key body = t.refuseNode f.port (t.helloId f body) 3 (fieldBe body 0 8) := by
  rw [judgeHello]
  dsimp only
  rw [if_neg (by simp [Nat.not_lt.mpr hlow, Nat.not_lt.mpr hhigh]), hentry]
  exact (if_neg (not_not.mpr huid)).trans (if_pos hver)

theorem judgeHello_admits (huid : e.uid = fieldBe body 0 8) (hver : t.commonVersion e (fieldBe body 8 1) ≠ 0) :
    t.judgeHello f key body = (t.admitNode (32 * f.port + t.helloId f body - 2) (t.commonVersion e (fieldBe body 8 1)) e key (slice f.bytes 6 6)
      (t.helloWindows (fieldBe body 0 8)) (fieldBe f.bytes 22 4) (t.stampAt (t.rxAt f.port)) body).claimHigher (32 * f.port + t.helloId f body - 2)
        (fieldBe f.bytes 26 4) := by
  rw [judgeHello]
  dsimp only
  rw [if_neg (by simp [Nat.not_lt.mpr hlow, Nat.not_lt.mpr hhigh]), hentry]
  exact (if_neg (not_not.mpr huid)).trans (if_neg hver)

end

end State

/-! ### Frames of known nodes -/

/-- An ACK that names an unacknowledged frame ends its transmission. -/
theorem exec_ack_ends {u : CznUnacked} (htake : s.takeFrame f 0x08 = (t, some c)) (hlen : c.body.length = 8) (hpad : fieldBe c.body 6 2 = 0)
    (hstatus : fieldBe c.body 5 1 ≤ 2)
    (hfind : (t.cznNode c.node).unacked.find? (fun u => u.counter == fieldBe c.body 0 4 && u.typ == fieldBe c.body 4 1 && (u.typ == 0x02) == (c.kcls == 2)) = some u)
    (hsends : (t.setCznNode c.node { t.cznNode c.node with unacked := (t.cznNode c.node).unacked.filter fun v => v ≠ u }).sendsCarzon = true) :
    exec (.ack f) s = .next ((t.setCznNode c.node { t.cznNode c.node with unacked := (t.cznNode c.node).unacked.filter fun v => v ≠ u }).acked c.node u
      (fieldBe c.body 5 1)) := by
  change execAck f s = _
  rw [execAck, htake]
  dsimp only
  rw [if_neg (by simp [hlen, hpad, Nat.not_lt.mpr hstatus]), hfind]
  exact congrArg Host.Outcome.next (if_pos hsends)

/-- A REPORT without items that is in form: its flags are taken, and it is acknowledged. -/
theorem exec_report_empty (htake : s.takeFrame f 0x20 = (t, some c)) (hlen : c.body.length = 8) (hflags : fieldBe c.body 4 2 ≤ 0x7F) (hitems : fieldBe c.body 6 1 = 0)
    (hpad : fieldBe c.body 7 1 = 0) (hsends : t.sendsCarzon = true) :
    exec (.report f) s = .next (((t.bump (Reg.TRK_CZNITEM f.port) 0).reportFlags c.node (fieldBe c.body 0 4) (fieldBe c.body 4 2)).ackFrame c 0x20 0) := by
  have hplain : bitOf (fieldBe c.body 4 2) 7 = false := by
    have hlt : fieldBe c.body 4 2 < 2 ^ 7 := Nat.lt_succ_of_le hflags
    rw [bitOf, Nat.div_eq_of_lt hlt]
    rfl
  have hflags' : ¬ 255 < fieldBe c.body 4 2 := Nat.not_lt.mpr (hflags.trans (by decide))
  change execReport f s = _
  rw [execReport, htake]
  simp only [hitems, hplain, itemsOf, List.range_zero, List.map_nil, List.any_nil, List.filter_false, List.filter_nil, List.length_nil,
    List.flatMap_nil, List.foldl_nil, hlen, hpad, hsends, decide_eq_false hflags', Bool.false_eq_true, if_false]
  rfl

theorem exec_delayReq_answered (htake : s.takeFrame f 0x31 = (t, some c)) (hlen : c.body.length = 8) (hpad : fieldBe c.body 4 4 = 0) (hver : c.ver ≠ 2)
    (hsends : t.sendsCarzon = true) :
    exec (.delayReq f) s = .next (t.toNode c.node 0x32 0 none 0
      (be 4 (fieldBe c.body 0 4) ++ be 8 (t.stampAt (t.rxAt f.port)) ++ be 2 (t.extAt (t.rxAt f.port)) ++ [0, 0]) []) := by
  change execDelayReq f s = _
  rw [execDelayReq, htake]
  exact (if_neg (by simp [hlen, hpad, hver])).trans (if_neg (by rw [hsends]; decide))

end Sys2Proof.Machine

open Sys2Proof Sys2Proof.Machine

/-- Settles O48: HELLO passes its checks in their order and is then judged by the conditions of admission; a frame of a known node acts as its type says. -/
theorem carzonFrames : Obligations.CarzonFrames := by
  intro s f
  refine ⟨fun hno => if_pos (by rw [hno]; rfl), fun hsends hreach hform htyp hdst => ?_, fun t hnone => ?_, fun _ _ _ htake hlen hpad hstatus _ => ?_,
    fun t hnone => ?_, fun t c htake hlen hflags hitems hpad hsends => ?_, fun t hnone => ?_, fun _ _ => exec_delayReq_answered⟩
  · refine ⟨exec_hello_noKey hsends hreach hform htyp hdst, fun _ => exec_hello_badMic hsends hreach hform htyp hdst, fun key body r hkey hopen hnew => ?_⟩
    have hexec := exec_hello_authentic hsends hreach hform htyp hdst hkey hopen hnew
    have hjudged {u : State} (hok : helloOk body = true) (hu : (s.setHelloWindows (helloUid f) r).judgeHello f key body = u) : exec (.hello f) s = .next u :=
      hexec.trans (congrArg Host.Outcome.next ((if_neg (by rw [hok]; decide)).trans hu))
    refine ⟨fun hbad => hexec.trans (congrArg Host.Outcome.next (if_pos (by rw [hbad]; rfl))), fun hok hid => hjudged hok (State.judgeHello_badId hid),
      fun hok hlow hhigh hentry => hjudged hok (State.judgeHello_unknown hlow hhigh hentry), fun e hok hlow hhigh hentry => ⟨fun huid => ?_, fun huid hver => ?_,
        fun huid hver => ?_⟩⟩
    · exact hjudged hok (State.judgeHello_otherUid hlow hhigh hentry huid)
    · exact hjudged hok (State.judgeHello_noVersion hlow hhigh hentry huid hver)
    · exact hjudged hok (State.judgeHello_admits hlow hhigh hentry huid hver)
  · change execAck f s = _
    rw [execAck, hnone]
  · exact exec_ack_ends htake hlen hpad hstatus
  · change execReport f s = _
    rw [execReport, hnone]
  · exact ⟨t.bump (Reg.TRK_CZNITEM f.port) 0, exec_report_empty htake hlen hflags hitems hpad hsends, State.bump_points _ _ _⟩
  · change execDelayReq f s = _
    rw [execDelayReq, hnone]

end

section
/-!
SUPPORT. Radio frames, listening windows, the standby's watch of the beacons and the timers of nodes (R313, R315, R322 to R324, R328 to R338).
-/
set_option autoImplicit false
namespace Sys2Proof.Machine

variable {s : State} {n r : Nat}

/-! ### Frames -/

/-- The channel has heard a frame of a node: it counts towards the load (R331). -/
def State.heardFrame (s : State) (f : RadioFrame) : State :=
  (s.setRadChan f.chan { s.radChan f.chan with heard := (s.now, s.radAir f.chan f.psdu.length) :: (s.radChan f.chan).heard }).radLoad f.chan

theorem exec_radioFrameReceived_off {f : RadioFrame} (hon : s.radOn f.chan = false) : exec (.radioFrameReceived f) s = .next s :=
  if_pos (by rw [hon]; rfl)

theorem exec_radioFrameReceived_broken {f : RadioFrame} (hon : s.radOn f.chan = true) (hbad : f.ok = false ∨ f.psdu.length < 8 ∨ 255 < f.psdu.length) :
    exec (.radioFrameReceived f) s = .next (s.bump (Reg.RAD_RXFCS f.chan)) :=
  (if_neg (by rw [hon]; decide)).trans (if_pos (by simpa [or_assoc] using hbad))

/-- A node's frame of the segment that is in form goes to admission or to its sender, as its type says. -/
theorem exec_radioFrameReceived_node {f : RadioFrame} (hon : s.radOn f.chan = true) (hok : f.ok = true) (hlow : 8 ≤ f.psdu.length) (hhigh : f.psdu.length ≤ 255)
    (hnode : bitOf (fieldBe f.psdu 0 1) 3 = false) (hver : fieldBe f.psdu 0 1 / 32 = 1) (hres : fieldBe f.psdu 0 1 % 8 = 0)
    (hseg : fieldBe f.psdu 1 2 = s.fld (Reg.RAD_PHY f.chan) F.RAD_PHY_SEGID) (hform : radFormOk (radioCarzon f) = true)
    (hcap : (s.bump (Reg.RAD_RXFRAMES f.chan)).flag (Reg.RAD_CTL f.chan) F.RAD_CTL_CAP_ALL = false) :
    let u := (s.bump (Reg.RAD_RXFRAMES f.chan)).heardFrame f
    exec (.radioFrameReceived f) s = if fieldBe (radioCarzon f) 1 1 = 0x01 then .next (u.radHello f) else .next (u.radNodeFrame f) := by
  change execRadioFrameReceived f s = _
  unfold execRadioFrameReceived
  dsimp only
  rw [if_neg (by rw [hon]; decide), if_neg (by simp [hok, Nat.not_lt.mpr hlow, Nat.not_lt.mpr hhigh]), hnode, hcap, hform]
  simp only [Bool.false_eq_true, if_false]
  exact (if_neg (by simp [hver, hres, hseg])).trans (if_neg (by decide))

/-! ### Admission and supervision -/

theorem exec_radioAdmissionTimeout_due (hstate : (s.radNode n).state = 1) (hat : (s.radNode n).helloAt + secs 5 ≤ s.now) :
    exec (.radioAdmissionTimeout n) s = .next ((s.setRadNode n { s.radNode n with pend := [], unacked := [] }).radNodeState n 0) :=
  congrArg Host.Outcome.next (if_pos (by simp [hstate, hat]))

section

variable {e : RadioEntry} (hentry : s.radEntry n = some e)
include hentry

theorem exec_radioNodeStale_due (hstate : (s.radNode n).state = 2 ∨ (s.radNode n).state = 3) (hat : (s.radNode n).lastHeard + secs (2 * e.heartbeat + 30) ≤ s.now) :
    exec (.radioNodeStale n) s = .next ((s.radNodeState n 4).sweep (s.radInputs n) Q.stale) := by
  change execRadioNodeStale n s = _
  rw [execRadioNodeStale, hentry]
  exact congrArg Host.Outcome.next (if_pos (by simp [hstate, hat]))

theorem exec_radioNodeStale_early (hat : s.now < (s.radNode n).lastHeard + secs (2 * e.heartbeat + 30)) : exec (.radioNodeStale n) s = .next s := by
  change execRadioNodeStale n s = _
  rw [execRadioNodeStale, hentry]
  exact congrArg Host.Outcome.next (if_neg (by simp [Nat.not_le.mpr hat]))

/-- A node that is ABSENT loses what it awaited; a module that leads says so. -/
theorem exec_radioNodeAbsent_due (hlow : 2 ≤ (s.radNode n).state) (hhigh : (s.radNode n).state ≤ 4) (hat : (s.radNode n).lastHeard + secs (6 * e.heartbeat) ≤ s.now) :
    let t := (s.setRadNode n { s.radNode n with pend := [], unacked := [], outputs := [] }).radNodeState n 5
    exec (.radioNodeAbsent n) s = .next (if t.leads then
      ((t.sweep (t.radInputs n) Q.absent).post6 2 (radioCzn n) 0xFF 0 0 0 0 t.stamp 0).event 0x0D12 1 noInst (le 2 (radioCzn n) ++ le 8 (s.radNode n).lastStamp)
      else t) := by
  change execRadioNodeAbsent n s = _
  rw [execRadioNodeAbsent, hentry]
  exact congrArg Host.Outcome.next (if_pos (by simp [hlow, hhigh, hat]))

end

/-! ### Listening windows -/

/-- A node whose window has come, before anything is sent to it: a guard of 1 s makes it listen to calls alone (log entry 26). -/
def State.atWindow (s : State) (n w : Nat) : State :=
  let t := if 1000000 ≤ s.radGuard n then s.radWakeOnly n else s
  t.setRadNode n { t.radNode n with lastWin := w }

section

variable {e : RadioEntry} {w : Nat} (hentry : s.radEntry n = some e) (hwin : s.lastWindow e = some w) (htx : s.radTx (radioChan n) = true)
  (hnew : (s.radNode n).lastWin ≠ w) (hlow : 2 ≤ (s.radNode n).state) (hhigh : (s.radNode n).state ≤ 4)
include hentry hwin htx hnew hlow hhigh

/-- At a new window a node with nothing pending is left, one that listens to calls is called, and any other is served where the window is not over. -/
theorem exec_listenWindow_new :
    let t := if 1000000 ≤ s.radGuard n then s.radWakeOnly n else s
    let u := s.atWindow n w
    let start := max t.now (t.radChan (radioChan n)).busyTo
    exec (.listenWindow n) s = if !u.radWaits n then .next u
      else if (u.radNode n).listen = 2 then .next (u.radCall n 0)
      else if t.monoOfMs w + s.radGuard n * 1000 < start then .next (u.bump (Reg.RAD_DEFERRED (radioChan n)))
      else .next (RadAir.serve { s := u, at_ := start, stop := false } n).s := by
  change execListenWindow n s = _
  rw [execListenWindow, hentry]
  dsimp only
  rw [hwin]
  exact if_neg (by simp [htx, hnew, Nat.not_lt.mpr hlow, Nat.not_lt.mpr hhigh])

end

/-! ### The standby's watch -/

/-- At an instant that a standby has not judged, a BEACON heard in time clears it; a missed one counts, and the third is reported once. -/
theorem exec_standbyBeaconMiss_judges (hon : s.radOn r = true) (hrole : s.role = .standby)
    (hnew : (s.radChan r).beaconMs ≠ (s.wallMs - 100) / max 1 (s.radPeriod r) * max 1 (s.radPeriod r))
    (hat : s.rdn.roleAt + ms 10 ≤ s.monoOfMs ((s.wallMs - 100) / max 1 (s.radPeriod r) * max 1 (s.radPeriod r))) :
    let k := (s.wallMs - 100) / max 1 (s.radPeriod r) * max 1 (s.radPeriod r)
    let t := s.setRadChan r { s.radChan r with beaconMs := k }
    let u := t.bumpSat (Reg.RAD_STATUS r) F.RAD_STATUS_BCNMISS
    let v := (u.setRadChan r { u.radChan r with voted := true }).event 0x0F03 2 r (le 1 r ++ (le 4 (u.rdN (Reg.RAD_BCNSEQ r)) ++ le 4 u.peerClaim))
    exec (.standbyBeaconMiss r) s = if (s.radChan r).heardAt ≠ 0 && s.monoOfMs k ≤ (s.radChan r).heardAt + ms 10 then .next t
      else if u.fld (Reg.RAD_STATUS r) F.RAD_STATUS_BCNMISS < 3 || (s.radChan r).voted then .next u
      else .next ((v.sendWit v.cfg.rdn.witnessSlot v.cfg.rdn.witnessAddr v.cfg.rdn.pairId 6
        (be 1 r ++ [0, 0, 0] ++ be 4 (v.rdN (Reg.RAD_BCNSEQ r)) ++ be 4 v.peerClaim)).event 0x140C 2 noInst (le 1 r)) :=
  if_neg (by simp [hon, hrole, hnew, Nat.not_lt.mpr hat])

/-! ### Calls and the hour -/

/-- The one call that waits, at its end. -/
theorem exec_radWakeTimeout_idle (hwaits : s.waits = []) : exec (.radWakeTimeout n) s = .next s :=
  congrArg Host.Outcome.next (finishAll_of_no_waits _ _ _ _ hwaits)

/-- The calls of a node as an hour of the wall clock begins: those of another hour count no longer (R328). -/
def RadioNode.atHour (h : Nat) (x : RadioNode) : RadioNode := if x.wakeHour = h then x else { x with wakes := 0, wakeHour := h }

theorem RadioNode.atHour_wakeHour (h : Nat) (x : RadioNode) : (x.atHour h).wakeHour = h := by
  unfold RadioNode.atHour
  split
  · assumption
  · rfl

theorem RadioNode.atHour_wakes (h : Nat) (x : RadioNode) : (x.atHour h).wakes = if x.wakeHour = h then x.wakes else 0 := by
  unfold RadioNode.atHour
  split
  · rfl
  · rfl

theorem RadioNode.atHour_atHour (h : Nat) (x : RadioNode) : (x.atHour h).atHour h = x.atHour h := if_pos (x.atHour_wakeHour h)

namespace State

/-- One node as an hour begins. -/
def turnHour (h : Nat) (s : State) (n : Nat) : State := if (s.radNode n).wakeHour = h then s else s.setRadNode n { s.radNode n with wakes := 0, wakeHour := h }

theorem radNode_turnHour (h k : Nat) : (s.turnHour h n).radNode k = if k = n then (s.radNode k).atHour h else s.radNode k := by
  unfold turnHour RadioNode.atHour
  by_cases hk : k = n
  · subst hk
    rw [if_pos rfl]
    split
    · rfl
    · exact mapGet_mapSet_self _ _ _ _
  · rw [if_neg hk]
    split
    · rfl
    · exact mapGet_mapSet_other _ _ _ _ _ hk

theorem turnHour_rest (h : Nat) : (s.turnHour h n).regs = s.regs ∧ (s.turnHour h n).points = s.points := by
  unfold turnHour
  split
  · exact ⟨rfl, rfl⟩
  · exact ⟨rfl, rfl⟩

/-- The nodes as an hour begins. -/
def turnHours (h : Nat) (s : State) (l : List (Nat × RadioNode)) : State := l.foldl (fun t e => t.turnHour h e.1) s

theorem radNode_turnHours (h k : Nat) (l : List (Nat × RadioNode)) :
    (s.turnHours h l).radNode k = if k ∈ l.map Prod.fst then (s.radNode k).atHour h else s.radNode k := by
  induction l generalizing s with
  | nil => rfl
  | cons e l ih =>
    change ((s.turnHour h e.1).turnHours h l).radNode k = _
    rw [ih, radNode_turnHour, List.map_cons]
    by_cases hk : k = e.1
    · rw [if_pos hk, if_pos (List.mem_cons.mpr (.inl hk)), RadioNode.atHour_atHour, ite_self]
    · simp only [List.mem_cons, hk, if_false, false_or]

theorem turnHours_rest (h : Nat) (l : List (Nat × RadioNode)) : (s.turnHours h l).regs = s.regs ∧ (s.turnHours h l).points = s.points := by
  induction l generalizing s with
  | nil => exact ⟨rfl, rfl⟩
  | cons e l ih =>
    obtain ⟨hregs, hpoints⟩ := ih (s := s.turnHour h e.1)
    obtain ⟨hregs', hpoints'⟩ := s.turnHour_rest h (n := e.1)
    exact ⟨hregs.trans hregs', hpoints.trans hpoints'⟩

end State

/-- A new hour: the calls of the last one count no longer, and those held for it are sent. -/
theorem exec_wallClockHour_turns : exec .wallClockHour s = .next (s.turnHours s.wallHour s.radio.nodes).allCalls := rfl

end Sys2Proof.Machine

open Sys2Proof Sys2Proof.Machine

/-- Settles O51: each event by the branch that its conditions choose. A guard of 1 s leaves a node to calls alone (R324, log entry 26); at a new hour every node's count
starts afresh and held calls are tried again (R328, log entry 26). -/
theorem radioEvents : Obligations.RadioEvents := by
  intro s
  refine ⟨fun _ => exec_radioFrameReceived_off, fun _ => exec_radioFrameReceived_broken, fun f hon hok hlow hhigh hnode hver hres hseg hform hcap => ?_,
    fun _ => exec_radioAdmissionTimeout_due, fun n hstate => ?_, fun _ => rfl, fun n e w hentry hwin htx hnew hlow hhigh => ?_, fun n hnone => ?_,
    fun r hon hrole hnew hat => ?_, fun _ _ => exec_radioNodeStale_due, fun _ _ => exec_radioNodeStale_early, fun n e hentry hlow hhigh hat => ?_,
    fun _ _ _ _ _ _ => rfl, fun _ => exec_radWakeTimeout_idle, ?_⟩
  · have hexec := exec_radioFrameReceived_node hon hok hlow hhigh hnode hver hres hseg hform hcap
    exact ⟨fun htyp => hexec.trans (if_pos htyp), fun htyp => hexec.trans (if_neg htyp)⟩
  · exact congrArg Host.Outcome.next (if_neg (by simp [hstate]))
  · have hexec := exec_listenWindow_new hentry hwin htx hnew hlow hhigh
    refine ⟨fun hwaits => hexec.trans (if_pos ?_), fun hwaits hlisten => hexec.trans ((if_neg ?_).trans (if_pos hlisten)),
      fun hwaits hlisten hlate => hexec.trans ((if_neg ?_).trans ((if_neg hlisten).trans (if_pos hlate))),
      fun hwaits hlisten hintime => hexec.trans ((if_neg ?_).trans ((if_neg hlisten).trans (if_neg (Nat.not_lt.mpr hintime))))⟩
    · exact congrArg not hwaits
    · exact ne_true_of_eq_false (congrArg not hwaits)
    · exact ne_true_of_eq_false (congrArg not hwaits)
    · exact ne_true_of_eq_false (congrArg not hwaits)
  · change execListenWindow n s = _
    rw [execListenWindow, hnone]
  · have hexec := exec_standbyBeaconMiss_judges hon hrole hnew hat
    refine ⟨fun hheard => hexec.trans (if_pos ?_), fun hmiss hfew => hexec.trans ((if_neg ?_).trans (if_pos ?_)),
      fun hmiss hmany hvoted => hexec.trans ((if_neg ?_).trans (if_neg ?_))⟩
    · simpa using hheard
    · simpa using hmiss
    · simpa using hfew
    · simpa using hmiss
    · rw [hvoted, Bool.or_false, decide_eq_true_eq]
      exact Nat.not_lt.mpr hmany
  · have hexec := exec_radioNodeAbsent_due hentry hlow hhigh hat
    exact ⟨fun hleads => hexec.trans (congrArg Host.Outcome.next (if_pos hleads)),
      fun hleads => hexec.trans (congrArg Host.Outcome.next (if_neg (ne_true_of_eq_false hleads)))⟩
  · refine ⟨_, exec_wallClockHour_turns, (State.turnHours_rest _ _).1, (State.turnHours_rest _ _).2, fun x hx => ?_⟩
    rw [State.radNode_turnHours, if_pos (List.mem_map_of_mem hx)]
    exact ⟨RadioNode.atHour_wakeHour _ _, RadioNode.atHour_wakes _ _⟩

end

section
/-!
SUPPORT. Metering (R371, R374 to R377, R383 to R388): what the opening, closing and sampling of intervals leaves of the energy engine.
-/
set_option autoImplicit false
namespace Sys2Proof.Machine

/-- What no step of a fold changes, the fold leaves. -/
theorem foldl_view {α β γ : Type} (view : β → γ) {f : β → α → β} (hf : ∀ b x, view (f b x) = view b) (l : List α) (b : β) : view (l.foldl f b) = view b := by
  induction l generalizing b with
  | nil => rfl
  | cons x l ih => exact (ih _).trans (hf b x)

theorem ite_view {β γ : Type} (view : β → γ) {c : Prop} {_ : Decidable c} {a b x : β} (ha : view a = view x) (hb : view b = view x) :
    view (if c then a else b) = view x := by
  split
  exacts [ha, hb]

namespace State

variable {s : State}

/-- What the last sample leaves on record, with the clocks that it was taken by. -/
def sampleView (s : State) : Clock × Calendar × Nat × Bool × Nat := (s.clock, s.cal, s.meter.lastAt, s.meter.stepped, s.meter.lastCal)

/-- The same, with the windows of the voltage channels. -/
def windowView (s : State) : (Clock × Calendar × Nat × Bool × Nat) × List (Nat × MtrVolt) := (s.sampleView, s.meter.volts)

theorem sampleView_of_windowView {t : State} (h : t.windowView = s.windowView) : t.sampleView = s.sampleView := congrArg Prod.fst h

theorem mtrVolt_of_windowView {t : State} (h : t.windowView = s.windowView) (v : Nat) : t.mtrVolt v = s.mtrVolt v := by
  have hvolts : t.meter.volts = s.meter.volts := congrArg Prod.snd h
  rw [mtrVolt, hvolts, mtrVolt]

/-! ### Steps that leave the samples and the windows -/

theorem windowView_event (typ sev inst : Nat) (payload : List Byte) : (s.event typ sev inst payload).windowView = s.windowView := by
  obtain ⟨e, f, h⟩ := s.eventAt_rest s.stamp typ sev inst payload
  rw [event, h]
  rfl

theorem windowView_apply (ops : List PtOp) : (s.apply ops).windowView = s.windowView := by
  obtain ⟨⟨_, _, _, _, _, _, _, _, h⟩, -⟩ := s.applied_apply ops
  rw [h]
  rfl

theorem windowView_finish (w : Wait) (status r0 r1 : Nat) : (s.finish w status r0 r1).windowView = s.windowView := by
  obtain ⟨⟨_, _, _, _, h⟩, -⟩ := Settled.finish s w status r0 r1 []
  rw [h]
  rfl

theorem windowView_setF (a : Nat) (f : Fld) (n : Nat) : (s.setF a f n).windowView = s.windowView := rfl

theorem windowView_wrN (a n : Nat) : (s.wrN a n).windowView = s.windowView := rfl

theorem windowView_bump (a n : Nat) : (s.bump a n).windowView = s.windowView := rfl

theorem windowView_emit (o : Out) : (s.emit o).windowView = s.windowView := rfl

theorem windowView_setMtrChan (k : Nat) (c : MtrChan) : (s.setMtrChan k c).windowView = s.windowView := rfl

theorem windowView_setMtrPulse (j : Nat) (p : MtrPulse) : (s.setMtrPulse j p).windowView = s.windowView := rfl

/-! ### Closing and opening intervals -/

theorem windowView_mtrCloseOne (cause k : Nat) : (s.mtrCloseOne cause k).windowView = s.windowView := by
  unfold mtrCloseOne
  dsimp only
  split
  · rfl
  · rw [apportion, windowView_apply]
    rfl

theorem windowView_mtrOpenOne (onBoundary : Bool) (flags unmeas k : Nat) : (s.mtrOpenOne onBoundary flags unmeas k).windowView = s.windowView := rfl

theorem windowView_mtrShowOpen : s.mtrShowOpen.windowView = s.windowView := by
  rw [mtrShowOpen, windowView_wrN, windowView_wrN]

theorem windowView_mtrSetNext : s.mtrSetNext.windowView = s.windowView := by
  rw [mtrSetNext, windowView_setF]
  rfl

theorem windowView_mtrTurn (cause : Nat) (ks : List Nat) : (s.mtrTurn cause ks).windowView = s.windowView := by
  rw [mtrTurn, windowView_mtrShowOpen]
  refine (foldl_view windowView (fun t k => ite_view windowView (windowView_mtrOpenOne _ _ _ _) rfl) _ _).trans ?_
  rw [windowView_mtrSetNext]
  exact foldl_view windowView (fun t k => windowView_mtrCloseOne _ _) _ _

theorem windowView_presetOne (k r v : Nat) : (s.presetOne k r v).windowView = s.windowView := by
  rw [presetOne, windowView_event, windowView_setMtrChan]

theorem windowView_presetAll : s.presetAll.windowView = s.windowView := by
  refine foldl_view windowView (fun t w => ?_) _ _
  split
  · rw [windowView_finish, windowView_presetOne]
  · rfl

theorem windowView_setMtrVq (q v : Nat) : (s.setMtrVq q v).windowView = s.windowView := by
  unfold setMtrVq
  split
  · rfl
  · rw [windowView_event, windowView_setF]

/-- New calibration takes effect between two windows and reaches neither. -/
theorem windowView_mtrRecal (v : Nat) : (s.mtrRecal v).windowView = s.windowView := by
  unfold mtrRecal
  dsimp only
  refine ite_view windowView rfl ?_
  refine (foldl_view windowView (fun t k => ite_view windowView (windowView_mtrOpenOne _ _ _ _) rfl) _ _).trans ?_
  refine (ite_view windowView (windowView_setF _ _ _) rfl).trans ?_
  refine (foldl_view windowView (fun t k => windowView_setF _ _ _) _ _).trans ?_
  exact foldl_view windowView (fun t k => windowView_mtrCloseOne _ _) _ _

/-! ### One sample -/

/-- A sample of a voltage channel reaches its window alone. -/
theorem sampleView_mtrVSample (v : Nat) (u : Int) : (s.mtrVSample v u).1.sampleView = s.sampleView := by
  unfold mtrVSample
  split
  · rfl
  · rfl

theorem sampleView_mtrISample (k : Nat) (g : MtrCCfg) (c f : Int) (clip : Bool) (v q : Rat) : (s.mtrISample k g c f clip v q).1.sampleView = s.sampleView := by
  refine sampleView_of_windowView ?_
  unfold mtrISample
  dsimp only
  refine (ite_view windowView (windowView_bump _ _) rfl).trans ?_
  refine (ite_view windowView rfl (windowView_bump _ _)).trans ?_
  rw [windowView_setF, windowView_setMtrChan]

theorem windowView_pulseOff (j : Nat) : (s.pulseOff j).windowView = s.windowView := by
  rw [pulseOff, windowView_setF, windowView_setMtrPulse]

theorem windowView_showPulse (g : MtrPulseCfg) : (s.showPulse g).windowView = s.windowView := by
  unfold showPulse
  dsimp only
  rw [windowView_wrN, windowView_setF, windowView_setF]
  exact ite_view windowView rfl (windowView_pulseOff _)

theorem windowView_pulseAdd (e : Nat) (g : MtrPulseCfg) : (s.pulseAdd e g).windowView = s.windowView := by
  unfold pulseAdd
  dsimp only
  rw [windowView_showPulse]
  refine (ite_view windowView (windowView_event _ _ _ _) rfl).trans ?_
  refine (ite_view windowView ?_ rfl).trans ?_
  · rw [windowView_emit, windowView_setF]
  · refine (ite_view windowView (windowView_bump _ _) rfl).trans ?_
    rw [windowView_setMtrPulse]

theorem sampleView_pulseSample (e : Nat) (g : MtrPulseCfg) : (s.pulseSample e g).sampleView = s.sampleView := by
  refine sampleView_of_windowView ?_
  rw [pulseSample, windowView_pulseAdd, windowView_setMtrPulse]

/-- A sample notes its instant and its calendar second, as the clocks stood before what it set off. -/
theorem sampleView_noted {t : State} (h : t.windowView = s.windowView) (stamp : Nat) :
    ({ t with meter := { t.meter with lastStamp := stamp, lastAt := t.now, lastCal := t.cal.sec, stepped := false } } : State).sampleView =
      (s.clock, s.cal, s.now, false, s.cal.sec) := by
  have hview := sampleView_of_windowView h
  have hclock : t.clock = s.clock := congrArg Prod.fst hview
  have hcal : t.cal = s.cal := congrArg (fun v => v.2.1) hview
  change (t.clock, t.cal, t.now, false, t.cal.sec) = _
  rw [now, hclock, hcal, now]

theorem sampleView_fst_foldl {α β : Type} {f : State × β → α → State × β} (hf : ∀ p x, (f p x).1.sampleView = p.1.sampleView) (l : List α) (p : State × β) :
    (l.foldl f p).1.sampleView = p.1.sampleView := foldl_view (fun p => p.1.sampleView) hf l p

theorem sampleView_nextFree : s.nextFree.sampleView = s.sampleView := rfl

theorem noted_of_sampleView {t : State} (h : t.sampleView = (s.clock, s.cal, s.now, false, s.cal.sec)) :
    t.meter.lastAt = s.now ∧ t.meter.stepped = false ∧ t.meter.lastCal = s.cal.sec := by
  simp only [sampleView, Prod.mk.injEq] at h
  exact h.2.2

/-! ### The end of a window and of a pulse -/

theorem mtrVolt_setMtrVolt (v : Nat) (w : MtrVolt) : (s.setMtrVolt v w).mtrVolt v = w := mapGet_mapSet_self _ _ _ _

/-- The window of a voltage channel begins again. -/
theorem mtrVolt_windowAgain (v q k : Nat) : (((({ s.setMtrVolt v {} with free := k } : State).setMtrVq q v).mtrRecal v).mtrVolt v).n = 0 := by
  rw [mtrVolt_of_windowView (windowView_mtrRecal v), mtrVolt_of_windowView (windowView_setMtrVq q v)]
  exact congrArg MtrVolt.n (mtrVolt_setMtrVolt v {})

theorem mtrPulse_pulseOff_self (j : Nat) : ((s.pulseOff j).mtrPulse j).on = none := congrArg MtrPulse.on (mapGet_mapSet_self _ _ _ _)

theorem mtrPulse_pulseOff_other {j k : Nat} (h : k ≠ j) : (s.pulseOff j).mtrPulse k = s.mtrPulse k := mapGet_mapSet_other _ _ _ _ _ h

end State

variable {s : State} {e : CmdEntry}

/-! ### Metering's own work -/

/-- A sample notes its instant, by the clocks that stood when it came; the channels and the pulse outputs that take it leave that. -/
theorem exec_meterSample_notes (c f : List Int) (clip : Nat) (u : List Int) (hopen : s.mtrState = 1) (hrole : s.mtrRole = true) :
    ∃ t, exec (.meterSample c f clip u) s = .next t ∧ t.meter.lastAt = s.now ∧ t.meter.stepped = false ∧ t.meter.lastCal = s.cal.sec := by
  change ∃ t, execMeterSample c f clip u s = _ ∧ _
  delta execMeterSample
  rw [if_neg (by simp [hopen, hrole])]
  extract_lets turned preset shown m noted volts currents last
  have hturned : turned.windowView = s.windowView := ite_view State.windowView (State.windowView_mtrTurn _ _) rfl
  have hpreset : preset.windowView = s.windowView := State.windowView_presetAll.trans hturned
  have hshown : shown.windowView = s.windowView := (ite_view State.windowView State.windowView_mtrShowOpen rfl).trans hpreset
  have hnoted : noted.sampleView = (s.clock, s.cal, s.now, false, s.cal.sec) := State.sampleView_noted hshown _
  clear_value noted
  have hvolts : volts.1.sampleView = noted.sampleView := by
    refine State.sampleView_fst_foldl (fun p v => ?_) _ _
    exact State.sampleView_mtrVSample _ _
  clear_value volts
  have hcurrents : currents.1.sampleView = volts.1.sampleView := by
    refine State.sampleView_fst_foldl (fun p k => ?_) _ _
    split
    · rfl
    · exact State.sampleView_mtrISample _ _ _ _ _ _ _
  clear_value currents
  have hlast : last.sampleView = currents.1.sampleView := foldl_view State.sampleView (fun t g => State.sampleView_pulseSample _ _) _ _
  refine ⟨_, rfl, State.noted_of_sampleView ?_⟩
  rw [State.sampleView_nextFree, hlast, hcurrents, hvolts, hnoted]

theorem exec_pulseEnd_due {j t0 : Nat} (hon : (s.mtrPulse j).on = some t0) (hat : t0 ≤ s.now) : exec (.pulseEnd j) s = .next (s.pulseOff j) := by
  change execPulseEnd j s = _
  rw [execPulseEnd, hon]
  exact congrArg Host.Outcome.next (if_pos hat)

theorem exec_windowEnd_ends {v dur : Nat} (hv : v < 4) (hopen : s.mtrState = 1) (hrole : s.mtrRole = true) (hn : 0 < (s.mtrVolt v).n) (hq : s.mtrVq v ≠ Q.absent)
    (hdur : 0 < dur) : ∃ t, exec (.windowEnd v dur) s = .next t ∧ (t.mtrVolt v).n = 0 :=
  ⟨_, if_neg (by simp [Nat.not_le.mpr hv, hopen, hrole, Nat.ne_of_gt hn, hq, Nat.ne_of_gt hdur]), State.mtrVolt_windowAgain _ _ _⟩

/-- The due interval closes: the wall base counts while it is aligned, the monotonic base while it is not. -/
theorem exec_intervalBoundary_due (hopen : s.mtrState = 1) (hrole : s.mtrRole = true)
    (hdue : s.meter.nextEnd ≤ if s.meter.unaligned then s.now else s.utcNow) : exec .intervalBoundary s = .next (s.mtrTurn 1 s.mtrOn) := by
  refine congrArg Host.Outcome.next (if_pos ?_)
  rw [hopen, hrole]
  split at hdue
  · next hun => simp [hun, hdue]
  · next hun => simp [hun, hdue]

theorem exec_intervalRecord_more {r : MtrRec} {rs : List MtrRec} (hopen : s.mtrState = 1) (hclosed : s.meter.closed = r :: rs)
    (hmore : (s.formRecord r).meter.closed.any (fun r => r.cause == 4) = true) : exec .intervalRecord s = .next (s.formRecord r) := by
  refine (if_neg (not_not.mpr hopen)).trans ?_
  rw [hclosed]
  exact congrArg Host.Outcome.next (if_pos hmore)

theorem exec_intervalRecord_none (hclosed : s.meter.closed = []) : exec .intervalRecord s = .next s := by
  change execIntervalRecord s = _
  rw [execIntervalRecord, hclosed, ite_self]

/-! ### Commands -/

theorem exec_mtrArchive_reads {r : MtrRec} {rs : List MtrRec} (h : s.admits Op.mtrArchive e = true) (hcheck : (s.taken e).mtrCheck true = none)
    (hlow : 1 ≤ e.param 8 4) (hhigh : e.param 8 4 ≤ 512) (hout : e.bufOut = true) (hlen : e.bufLen.toNat = 128 * e.param 8 4)
    (hrec : ((s.taken e).flash.archive.filter fun r => decide (0 ≤ seqDiff r.seq (e.param 0 4)) && bitOf (e.param 4 4) r.chan).take (e.param 8 4) = r :: rs) :
    exec (.mtrArchive e) s = .next (s.completed Op.mtrArchive e St.ok (rs.length + 1) r.seq 0
      [(e.bufAddr.toNat, (r :: rs).flatMap fun r => r.bytes false true)] (s.taken e)) := by
  refine runCmd_completed h ?_
  dsimp only
  rw [hcheck]
  dsimp only
  rw [if_neg (by simp [hout, hlen, Nat.not_lt.mpr hlow, Nat.not_lt.mpr hhigh]), hrec]
  rfl

section

variable (h : s.admits Op.mtrClose e = true) (hcheck : (s.taken e).mtrCheck false = none)
include h hcheck

theorem exec_mtrClose_closes (hopen : (s.taken e).mtrState = 1) (hon : (s.taken e).mtrOn ≠ []) :
    exec (.mtrClose e) s = .next (s.waiting Op.mtrClose e .mtrClose ((s.taken e).mtrTurn 4 (s.taken e).mtrOn)) := by
  refine runCmd_waiting h ?_
  rw [hcheck]
  exact if_neg (by simp [hopen, hon])

theorem exec_mtrClose_nothing (hon : (s.taken e).mtrOn = []) : exec (.mtrClose e) s = .next (s.completed Op.mtrClose e St.ok 0 0 0 [] (s.taken e)) := by
  refine runCmd_completed h ?_
  rw [hcheck]
  exact if_pos (by simp [hon])

end

theorem exec_mtrCaldata_loads {cs : List (Nat × MtrCCfg)} (h : s.admits Op.mtrCaldata e = true) (htxn : e.txn = 0) (hcheck : (s.taken e).mtrCheck false = none)
    (hwhole : e.bufLen.toNat % 36 = 0) (hlow : 1 ≤ e.bufLen.toNat / 36) (hhigh : e.bufLen.toNat / 36 ≤ 32) (hin : e.bufOut = false)
    (hcals : parseCals (e.bufLen.toNat / 36) e.buf = some cs)
    (hfree : (s.taken e).conflicts none (((List.range (e.bufLen.toNat / 36)).map fun i =>
      Change.table .calibration (36 * fieldLe e.buf (36 * i) 4) (slice e.buf (36 * i) 36)).flatMap Change.targets) = false) :
    exec (.mtrCaldata e) s = .next (s.completed Op.mtrCaldata e St.ok (e.bufLen.toNat / 36) 0 0 [] ((s.taken e).loadCals cs)) := by
  refine runCmd_completed h ?_
  dsimp only
  rw [if_pos htxn, hcheck]
  dsimp only
  rw [if_neg (by simp [hwhole, hin, Nat.not_lt.mpr hlow, Nat.not_lt.mpr hhigh]), hcals]
  exact State.stageTable_untagged htxn hfree

theorem exec_mtrPreset_waits (h : s.admits Op.mtrPreset e = true) (hcheck : (s.taken e).mtrCheck false = none) (hmaint : (s.taken e).maint = true)
    (hchan : e.param 0 1 ≤ 31) (hreg : e.param 1 1 ≤ 7) :
    exec (.mtrPreset e) s = .next (s.waiting Op.mtrPreset e (.mtrPreset (e.param 0 1) (e.param 1 1) (e.param 8 8)) (s.taken e)) := by
  refine runCmd_waiting h ?_
  rw [hcheck]
  exact (if_neg (by rw [hmaint]; decide)).trans (if_neg (by simp [Nat.not_lt.mpr hchan, Nat.not_lt.mpr hreg]))

end Sys2Proof.Machine

open Sys2Proof Sys2Proof.Machine

/-- Settles O52: a sample leaves its instant on record and a window begins again, since nothing else that metering does reaches either; each command by what its body answers.
MTR_CLOSE closes at once, and MTR_PRESET waits for the next sample, by the model's choice (log entry 28). -/
theorem metering : Obligations.Metering := by
  refine ⟨fun s => ⟨fun c f clip u hclosed => ?_, exec_meterSample_notes, fun j t0 hon hat => ?_, fun j hoff => ?_, fun v dur hnone => ?_,
      fun _ _ => exec_windowEnd_ends, fun hopen hrole hat => ?_, fun hnot => ?_, fun hopen hrole haligned hdue => ?_, fun hopen hrole hun hdue => ?_,
      fun _ _ => exec_intervalRecord_more, exec_intervalRecord_none⟩,
    fun s e => ⟨fun _ _ => exec_mtrArchive_reads, exec_mtrClose_closes, exec_mtrClose_nothing, fun _ => exec_mtrCaldata_loads, exec_mtrPreset_waits⟩⟩
  · exact if_pos (by simp [hclosed])
  · exact ⟨_, exec_pulseEnd_due hon hat, State.mtrPulse_pulseOff_self _, State.flag_setF_zero _ _ (by decide) rfl, fun _ => State.mtrPulse_pulseOff_other⟩
  · change execPulseEnd j s = _
    rw [execPulseEnd, hoff]
  · exact if_pos (by rcases hnone with h | h | h <;> simp [h])
  · exact ⟨_, _, if_neg (by simp [hopen, hrole, Nat.not_lt.mpr hat]), rfl, rfl⟩
  · exact if_pos (by rcases hnot with h | h <;> simp [h])
  · exact exec_intervalBoundary_due hopen hrole (by rw [haligned]; exact hdue)
  · exact exec_intervalBoundary_due hopen hrole (by rw [hun]; exact hdue)

end

section
/-!
SUPPORT. The events of the time (R350 to R353, R357, R358, R360, R362, R365): what the evaluation of the alarms leaves of the calendar.
-/
set_option autoImplicit false
namespace Sys2Proof.Machine

theorem ofInt_lt (w : Nat) (x : Int) : ofInt w x < 2 ^ w := by
  have hpos : (0 : Int) < (2 ^ w : Nat) := mod_cast Nat.two_pow_pos w
  have hlt := Int.emod_lt_of_pos x hpos
  have hnonneg := Int.emod_nonneg x hpos.ne'
  rw [ofInt]
  omega

namespace State

variable {s : State}

/-! ### The calendar through the alarms -/

/-- The calendar, a commit that waits and the calendar's status register. -/
def calView (s : State) : Calendar × Bool × Word := (s.cal, s.calRun.goReq, s.rd Reg.RTC_STATUS)

theorem calView_wrN {a : Nat} (h : Reg.RTC_STATUS ≠ a) (n : Nat) : (s.wrN a n).calView = s.calView := by
  rw [calView, rd_wrN_other _ _ h]
  rfl

theorem calView_event (typ sev inst : Nat) (payload : List Byte) : (s.event typ sev inst payload).calView = s.calView := by
  obtain ⟨e, f, h⟩ := s.eventAt_rest s.stamp typ sev inst payload
  rw [event, h]
  rfl

theorem calView_apply (ops : List PtOp) : (s.apply ops).calView = s.calView := by
  obtain ⟨⟨_, _, _, _, _, _, _, _, h⟩, hrd⟩ := s.applied_apply ops
  rw [calView, hrd _ (by decide) (by decide), h]
  rfl

theorem calView_finishAll (p : Wait → Bool) (status r0 r1 : Nat) : (s.finishAll p status r0 r1).calView = s.calView := by
  obtain ⟨⟨_, _, _, _, h⟩, hrd⟩ := s.settled_finishAll p status r0 r1
  rw [calView, hrd _ (by decide), h]
  rfl

theorem calView_fireAlarm (a inst skipped : Nat) (late : Bool) : (s.fireAlarm a inst skipped late).calView = s.calView := by
  unfold fireAlarm
  dsimp only
  rw [calView_event, countPoint, calView_apply, calView_wrN (by decide)]

theorem calView_evalAlarm (stepped : Bool) (a : Nat) : (s.evalAlarm stepped a).calView = s.calView := by
  have hnext : Reg.RTC_STATUS ≠ Reg.RTC_ALM_NEXT a := by unfold Reg.RTC_STATUS Reg.RTC_ALM_NEXT; omega
  have hlast : Reg.RTC_STATUS ≠ Reg.RTC_ALM_LAST a := by unfold Reg.RTC_STATUS Reg.RTC_ALM_LAST; omega
  have hskip : Reg.RTC_STATUS ≠ Reg.RTC_ALM_SKIP a := by unfold Reg.RTC_STATUS Reg.RTC_ALM_SKIP; omega
  refine ite_view calView rfl (ite_view calView ?_ (ite_view calView (calView_wrN hnext _) rfl))
  rw [calView_wrN hnext, calView_wrN hlast, calView_fireAlarm, calView_wrN hskip]

theorem calView_evalAlarms (stepped : Bool) : (s.evalAlarms stepped).calView = s.calView :=
  ite_view calView (foldl_view calView (fun _ _ => calView_evalAlarm _ _) _ _) rfl

/-- A calendar step puts the calendar on the new time and clears INVALID. -/
theorem calView_calStep (sec acc cause : Nat) :
    (s.calStep sec acc cause).calView = (⟨sec, acc, false, false⟩, s.calRun.goReq, (s.setF Reg.RTC_STATUS F.RTC_STATUS_INVALID 0).rd Reg.RTC_STATUS) := by
  unfold calStep
  dsimp only
  rw [calView_evalAlarms]
  obtain ⟨e, f, h⟩ := State.eventAt_rest (s := ({ s with cal := ⟨sec, acc, false, false⟩ } : State).setF Reg.RTC_STATUS F.RTC_STATUS_INVALID 0)
    (State.stamp (({ s with cal := ⟨sec, acc, false, false⟩ } : State).setF Reg.RTC_STATUS F.RTC_STATUS_INVALID 0)) 0x1101 0 noInst
    (le 4 s.cal.sec ++ le 4 sec ++ le 1 cause)
  rw [event, h]
  rfl

/-! ### The charger of the backup supply -/

theorem chargeSince_refreshCharger_off (h : s.flag Reg.RTC_CTL F.RTC_CTL_CHG_EN = false) : s.refreshCharger.calRun.chargeSince = none := by
  unfold refreshCharger
  dsimp only
  rw [h]
  rfl

theorem chargeFault_refreshCharger : s.refreshCharger.flag Reg.RTC_STATUS F.RTC_STATUS_CHG_FAULT = s.flag Reg.RTC_STATUS F.RTC_STATUS_CHG_FAULT :=
  s.flag_setF_apart _ _ (by decide) (by decide)

theorem calRun_event (typ sev inst : Nat) (payload : List Byte) : (s.event typ sev inst payload).calRun = s.calRun := by
  obtain ⟨e, f, h⟩ := s.eventAt_rest s.stamp typ sev inst payload
  rw [event, h]

end State

variable {s : State}

/-! ### PTP and holdover -/

theorem exec_ptpMessage_taken {port : Nat} {f : EthFrame} {t : State} {b : List Byte} {m : PtpMsg} (hport : port < 2) (hm : m ≠ .announceTimeout)
    (hin : s.ethIn port ptpEtype f = (t, some b)) : exec (.ptpMessage port ⟨f, m⟩) s = .next (t.ptpTake port m) := by
  change execPtpMessage port ⟨f, m⟩ s = _
  rw [execPtpMessage, if_neg (Nat.not_le.mpr hport), if_neg hm, hin]

theorem exec_ptpMessage_rejected {port : Nat} {f : EthFrame} {t : State} {m : PtpMsg} (hport : port < 2) (hm : m ≠ .announceTimeout)
    (hin : s.ethIn port ptpEtype f = (t, none)) : exec (.ptpMessage port ⟨f, m⟩) s = .next t := by
  change execPtpMessage port ⟨f, m⟩ s = _
  rw [execPtpMessage, if_neg (Nat.not_le.mpr hport), if_neg hm, hin]

theorem ptpTake_delayReq {port rx : Nat} (hmaster : s.masterPort port = true) (hend : bitOf (s.ptpMode port) 2 = false) :
    s.ptpTake port (.delayReq rx) = s.ethOut port (.ptp port 4 (s.ethRx port rx)) :=
  if_pos (by rw [hmaster, hend]; rfl)

/-- A master port without two-step mode sends Sync and Announce. -/
theorem exec_ptpSyncInterval_master {port : Nat} (hport : port < 2) (hstage : 6 ≤ s.stage) (hmaster : s.masterPort port = true) (hone : bitOf (s.ptpMode port) 3 = false) :
    exec (.ptpSyncInterval port) s = .next ((s.ethOut port (.ptp port 2 (s.ethTx port))).ethOut port (.ptp port 0 (s.ethTx port))) := by
  refine (if_neg (by simp [Nat.not_le.mpr hport, Nat.not_lt.mpr hstage])).trans ((if_pos hmaster).trans ?_)
  exact congrArg Host.Outcome.next (if_neg (by rw [hone]; decide))

/-! ### The crystal and the calendar -/

/-- FOLLOW notes when it last compared; a step that it asks for leaves that. -/
theorem exec_calendarFollow_notes (hfollow : s.flag Reg.RTC_CTL F.RTC_CTL_FOLLOW = true) (hlocked : s.locked = true) (harb : s.arb = false)
    (hdue : s.calRun.follow + secs 64 ≤ s.now) : ∃ t, exec .calendarFollow s = .next t ∧ t.calRun.follow = s.now :=
  ⟨_, if_pos (by simp [hfollow, hlocked, harb, hdue]), ite_view (fun t : State => t.calRun.follow) (x := { s with calRun := { s.calRun with follow := s.now } }) rfl rfl⟩

/-- The staged time is loaded: nothing is staged any more, and the calendar stands at it. -/
theorem exec_calendarStep_go (hgo : s.calRun.goReq = true) :
    ∃ t, exec .calendarStep s = .next t ∧ t.calRun.goReq = false ∧ t.flag Reg.RTC_STATUS F.RTC_STATUS_STAGED = false ∧ t.cal.sec = s.rdN Reg.RTC_STG_UTC := by
  refine ⟨_, if_pos hgo, ?_⟩
  generalize ht : State.finishAll _ _ _ _ _ = t
  have hview := congrArg State.calView ht.symm
  rw [State.calView_finishAll, State.calView_calStep] at hview
  simp only [State.calView, Prod.mk.injEq] at hview
  obtain ⟨hcal, hreq, hstatus⟩ := hview
  refine ⟨hreq, ?_, by rw [hcal]⟩
  rw [State.flag_congr hstatus, State.flag_setF_apart _ _ _ (by decide) (by decide)]
  exact State.flag_setF_zero _ _ (by decide) rfl

/-- A generator at its phase counts its point, which leaves the cause register, and shows there. -/
theorem exec_periodicFire_unlogged {k : Nat} (hk : k < 4) (hstage : s.stage = 7) (hen : s.flag (Reg.RTC_PER_CFG k) F.RTC_PER_CFG_EN = true)
    (hlog : s.flag (Reg.RTC_PER_CFG k) F.RTC_PER_CFG_LOG = false)
    (hphase : s.calInstant % max 1 (s.fld (Reg.RTC_PER_CFG k) F.RTC_PER_CFG_PERIOD) = s.fld (Reg.RTC_PER_PHASE k) F.RTC_PER_PHASE_PHASE)
    (hfired : mapFind s.calRun.fired k ≠ some s.calInstant) {t : State}
    (ht : t = (({ s with calRun := { s.calRun with fired := mapPut s.calRun.fired k s.calInstant } } : State).countPoint (0x10 + k))) :
    exec (.periodicFire k) s = .next (t.wrN Reg.RTC_CAUSE (putBits (t.rdN Reg.RTC_CAUSE) k 1 1)) := by
  change execPeriodicFire k s = _
  have hcause (u : State) : (u.countPoint (0x10 + k)).rdN Reg.RTC_CAUSE = u.rdN Reg.RTC_CAUSE :=
    congrArg BitVec.toNat ((u.applied_apply _).rd _ (by decide) (by decide))
  subst ht
  delta execPeriodicFire
  rw [if_pos (by simp [hk, hstage, hen, hphase, hfired]), hcause]
  dsimp only
  rw [hlog, Bool.false_and, if_neg Bool.false_ne_true]

/-- The measurement under NETWORK is added to the trim, within its bounds. -/
theorem exec_trimMeasurementEnd_network (x : Int) (hsrc : s.fld Reg.RTC_CTL F.RTC_CTL_TRIMSRC = 1) (hlocked : s.locked = true) :
    ∃ t, exec (.trimMeasurementEnd x) s = .next t ∧ t.fld Reg.RTC_TRIM F.RTC_TRIM_TRIM = ofInt 16 (clampInt (-8590) 8590
      (sext 16 (s.fld Reg.RTC_TRIM F.RTC_TRIM_TRIM) + roundDiv (x * (2 ^ 25 : Nat)) (4096 * 10 ^ 9))) := by
  refine ⟨_, if_pos (by simp [hsrc, hlocked]), ?_⟩
  rw [State.fld_congr (State.rd_event _ _ _ _ _ _), State.fld_setF_apart _ _ _ (by decide) (by decide), State.fld_setF_self _ _ _ (by decide), if_pos hsrc]
  exact Nat.mod_eq_of_lt (ofInt_lt 16 _)

/-- After a minute of charging a supply that stays low, the charger is off, and the fault shows. -/
theorem exec_chargerFault_due {t0 : Nat} (hsince : s.calRun.chargeSince = some t0) (hdue : t0 + secs 60 ≤ s.now) (hlow : s.fld Reg.GLB_SUPPLY2 F.GLB_SUPPLY2_VBAK < 1000) :
    ∃ t, exec .chargerFault s = .next t ∧ t.flag Reg.RTC_CTL F.RTC_CTL_CHG_EN = false ∧ t.flag Reg.RTC_STATUS F.RTC_STATUS_CHG_FAULT = true ∧
      t.calRun.chargeSince = none := by
  have hoff : ((s.setF Reg.RTC_CTL F.RTC_CTL_CHG_EN 0).setF Reg.RTC_STATUS F.RTC_STATUS_CHG_FAULT 1).flag Reg.RTC_CTL F.RTC_CTL_CHG_EN = false := by
    rw [State.flag_setF_other _ _ (by decide), State.flag_setF_zero _ _ (by decide) rfl]
  change ∃ t, execChargerFault s = _ ∧ _
  rw [execChargerFault, hsince]
  refine ⟨_, if_pos (by simp [hdue, hlow]), ?_, ?_, ?_⟩
  · rw [State.flag_congr (State.rd_event _ _ _ _ _ _), State.flag_congr (State.rd_refreshCharger _ (by decide)), hoff]
  · rw [State.flag_congr (State.rd_event _ _ _ _ _ _), State.chargeFault_refreshCharger, State.flag_setF_one _ _ (by decide) rfl]
  · rw [State.calRun_event, State.chargeSince_refreshCharger_off hoff]

end Sys2Proof.Machine

open Sys2Proof Sys2Proof.Machine

/-- Settles O44: each event by the branch that its hypotheses choose; the evaluation of the alarms leaves the calendar and its status register (R356, R360).
The module status is written at each calendar second (R366) by the model's choice (log entry 46). -/
theorem timeEvents : Obligations.TimeEvents := by
  refine fun s => ⟨fun port f t b rx hport hin hmaster hend => ?_, fun port f t b id off ivl hport hin => exec_ptpMessage_taken hport nofun hin,
    fun _ _ _ _ => exec_ptpMessage_rejected, fun port m hport => if_pos hport, fun _ => exec_ptpSyncInterval_master, fun hlocked hdue => ?_, fun hfree => ?_,
    fun hdue => ⟨_, rfl, congrArg Host.Outcome.next (if_pos hdue)⟩, exec_calendarFollow_notes, fun hleap hday hshown hend => ?_, exec_calendarStep_go,
    fun k hk hstage hen hlog hphase hfired => ?_, exec_trimMeasurementEnd_network, fun _ => exec_chargerFault_due⟩
  · rw [exec_ptpMessage_taken hport (m := .delayReq rx) nofun hin, ptpTake_delayReq hmaster hend]
  · exact congrArg Host.Outcome.next (if_pos (by simp [hlocked, hdue]))
  · exact congrArg Host.Outcome.next (if_neg (by simp [hfree]))
  · exact congrArg Host.Outcome.next (if_pos (by rw [hleap, hday, hshown, decide_eq_true hend]; decide))
  · exact exec_periodicFire_unlogged hk hstage hen hlog hphase hfired rfl

end
